-- ==== Sys2Proof/Word.lean ====
section
/-!
DEFINITION. Word.lean: the words of the part. Registers are 32 bits wide unless their page's list
says 64 (R14); every multi-byte value in memory is little-endian (R11).
-/
namespace Sys2Proof

/-- One byte. -/
abbrev Byte := BitVec 8
/-- A register of 32 bits (R14). -/
abbrev Word := BitVec 32
/-- A register of 64 bits (R14). -/
abbrev DWord := BitVec 64
/-- A run of bytes in ascending address order. -/
abbrev Bytes := List Byte

/-- The little-endian number that a run of bytes holds (R11). -/
def leNat : Bytes → Nat
  | [] => 0
  | b :: bs => b.toNat + 256 * leNat bs

/-- The `n` bytes of a number, least significant first (R11). -/
def natLE : Nat → Nat → Bytes
  | 0, _ => []
  | n + 1, v => BitVec.ofNat 8 v :: natLE n (v / 256)

/-- Bits [hi:lo] of a number (R10). -/
def bits (v hi lo : Nat) : Nat := (v >>> lo) % 2 ^ (hi + 1 - lo)

/-- Bit `i` of a number (R10). -/
def bit (v i : Nat) : Bool := v.testBit i

/-- `v` with bits [hi:lo] replaced by the low bits of `x`. -/
def setBits (v hi lo x : Nat) : Nat :=
  (v >>> (hi + 1)) <<< (hi + 1) + (x % 2 ^ (hi + 1 - lo)) <<< lo + v % 2 ^ lo

/-- 1 for true and 0 for false. -/
def b2n (b : Bool) : Nat := if b then 1 else 0

/-- The two's complement reading of the low `w` bits of a number. -/
def sext (w v : Nat) : Int :=
  if v % 2 ^ w < 2 ^ (w - 1) then (v % 2 ^ w : Nat) else (v % 2 ^ w : Nat) - (2 ^ w : Nat)

/-- The low `w` bits of an integer in two's complement. -/
def unsext (w : Nat) (i : Int) : Nat := (i % (2 ^ w : Nat)).toNat

/-- The least integer not below `a / b`. -/
def ceilDiv (a b : Nat) : Nat := (a + b - 1) / b

/-- `a` rounded up to a multiple of `b`. -/
def roundUp (a b : Nat) : Nat := ceilDiv a b * b

end Sys2Proof
end

