-- ==== Sys2Proof/Syntax.lean ====
section
/-!
DEFINITION. Syntax.lean: the commands of the block, one constructor per row of the table of
operations and events, with the row's operands. A unit is named by its instance number (R20, R21);
what a unit works on stands in the state, and what arrives at a pin, a port or from a partner is an
operand.
-/
namespace Sys2Proof

/-- Training core n (R20). -/
abbrev CoreIx := Fin 256
/-- Ferry 0–3 of a core. -/
abbrev FerryIx := Fin 4
/-- Sundlink port p (R21). -/
abbrev PortIx := Fin 18
/-- Command queue q (R317). -/
abbrev QueueIx := Fin 64
/-- Dock d (R294). -/
abbrev DockIx := Fin 128
/-- T-die t (R21). -/
abbrev DieIx := Fin 4
/-- HBM3E stack s (R21). -/
abbrev StackIx := Fin 20
/-- LPDDR5X controller c (R21). -/
abbrev LpIx := Fin 12
/-- Home slice (R21). -/
abbrev SliceIx := Fin 8
/-- Coherence participant: server clusters 0–31 (class H), die caches 32–35 (class A) (R261). -/
abbrev PartIx := Fin 36
/-- Server core k (R21). -/
abbrev ServerIx := Fin 128
/-- Berth b of a core (R170). -/
abbrev BerthIx := Fin 32

/-- The engines that start an operation of a sailing at its stagger cycle (R54). -/
inductive Engine where
  | me
  | ve0
  | ve1
  deriving DecidableEq, Repr

/-- Block types of the page index (R468, R469). -/
inductive Blk where
  | pgdir | devid | tick | pwr | age | ras | sec | mgmt | pcie | cq | dock | slnk | coll
  | hbmc | pont | lpdc | home | dcache | ctab | tagr
  | core | seq | me | ve | prep | ferry | land | slip | rng | exp | srvc
  deriving DecidableEq, Repr

/-- The requesters that reach the register aperture (R457). -/
inductive Requester where
  | portA
  | mgmt
  | server (k : ServerIx)
  | prep (c : CoreIx)
  | harbour
  deriving DecidableEq, Repr

/-- What a memory read reports beside its data (R218). -/
inductive ReadErr where
  | corrected
  | uncorrectable
  /-- A link error of the LPDDR5X tier, corrected or retried. -/
  | link
  deriving DecidableEq, Repr

/-- PCIe port: 0 port A, 1 port B (R309). -/
abbrev PcieIx := Fin 2

/-- The link losses of R335. -/
inductive LinkLoss where
  | down
  | hotReset
  | perst
  | d3hot
  deriving DecidableEq, Repr

/-- The end of a link (R335): why, and the item of a COPY that was moving bytes to the host, as command, item and bytes
acknowledged. -/
structure LinkEnd where
  why : LinkLoss
  cut : Option (Nat × Nat × Nat)
  deriving DecidableEq, Repr

/-- What is wrong with a request that arrives from the host (R314, R339): nothing, the poisoned (EP) bit, an ECRC error,
or a malformed packet. -/
inductive TlpFault where
  | none
  | poisoned
  | ecrc
  | malformed
  deriving DecidableEq, Repr

/-- The fields of port A's configuration space that the host writes and the block reads (R310–R315, R331): Enable Relaxed
Ordering, MSI-X enable and function mask, ATS enable, the size of BAR2 as a power of two, and the base of BAR0, BAR2 or
BAR4. -/
inductive CfgReg where
  | relaxedOrdering
  | msixEnable
  | msixMask
  | atsEnable
  | bar2Size
  | bar (n : Fin 3)
  deriving DecidableEq, Repr

/-- What a register write brings: its value, and the cycle of the tick in which it arrives, by which a doorbell is stamped
(R44). -/
structure BusWord where
  v : DWord
  cyc : Nat
  deriving DecidableEq, Repr

/-- What a register write addresses: the register aperture, an offset of BAR4, or port A's configuration space (R211,
R311, R315). -/
inductive RegAddr where
  | aperture (off : Nat)
  | bar4 (off : Nat)
  | config (r : CfgReg)
  deriving DecidableEq, Repr

/-- The agents that send requests to a home (R261, R264). -/
inductive CohAgent where
  | part (p : PartIx)
  | ferry (c : CoreIx) (f : FerryIx)
  | pont (k : StackIx)
  | coll (t : DieIx)
  | host
  deriving DecidableEq, Repr

/-- The nine RISC-V AMO operations (R276). -/
inductive AmoOp where
  | swap
  | add
  | and
  | or
  | xor
  | min
  | max
  | minu
  | maxu
  deriving DecidableEq, Repr

/-- An atomic: an AMO, a compare-and-swap with the value it expects, LR or SC (R274, R285). -/
inductive AtomOp where
  | amo (o : AmoOp)
  | cas (expect : BitVec 128)
  | lr
  | sc
  deriving DecidableEq, Repr

/-- The widths of atomics: 8 and 16 bits by Zabha, 128 by Zacas (R285). -/
inductive AtomSize where
  | b8
  | b16
  | b32
  | b64
  | b128
  deriving DecidableEq, Repr

/-- The form of an atomic: its width, and its acquire and release annotations (R276, R285). -/
structure AtomForm where
  size : AtomSize
  aq : Bool
  rl : Bool
  deriving DecidableEq, Repr

/-- A core that performs atomics. -/
inductive AtomCore where
  | server (k : ServerIx)
  | prep (c : CoreIx)
  deriving DecidableEq, Repr

/-- A server-core cache error: corrected, or uncorrectable in a clean or a dirty line (R290). -/
inductive CacheErr where
  | corrected
  | clean
  | dirty
  deriving DecidableEq, Repr

/-- A management channel: the Sundlink ports' VC5, I3C or SMBus (18), PCIe VDM (19), DOE (20) (R446, R450). -/
abbrev MgmtChan := Fin 21

/-- A PLDM base or platform request (R434, R450). -/
inductive PldmReq where
  | types
  | sensor (id : Nat)
  | other
  deriving DecidableEq, Repr

/-- The steps of a firmware update (R451). -/
inductive FwStep where
  | request
  | page (bytes : Bytes)
  | finish
  deriving DecidableEq, Repr

/-- What stage S3 found of the LPDDR5X tier: rate code, LPDDR5 devices, capacity in 16 GiB units (R216, R409). -/
structure LpTrain where
  rate : Nat
  lp5 : Bool
  cap : Nat
  deriving DecidableEq, Repr

/-- What the harbour controller measures over a tide (R416, R423): energy of dies 0–5 in mJ, regulator efficiency of
dies 0–5 in 0.1 %, eye height in mV and pre-FEC errors of the 72 lanes, temperatures of the 20 stacks, and the VBUS reading. -/
structure TideMeas where
  energy : List Nat
  eff : List Nat
  eye : List Nat
  ber : List Nat
  hbm : List Int
  mv : Nat
  da : Nat
  deriving DecidableEq, Repr

/-- The commands of the block. -/
inductive Instr where
  /-- TMARK_PULSE (R35). A TMARK pulse sampled on TSYNC edges after lock is classified by width and grid position and TICK_GRID advances. -/
  | tmarkPulse (width : Nat) (onGrid : Bool)
  /-- TMARK_MISSING (R35). A grid position passes without a pulse; TICK_GRID advances on the device's own count and the miss is logged. -/
  | tmarkMissing
  /-- TMARK_MISS_LIMIT (R37). The consecutive missing-mark count reaches TMARK_MISS_LIMIT; TICK_LOCK_LOST is reported and the device becomes device-fatal. -/
  | tmarkMissLimit
  /-- GRID_LOCK (R36). The first 3-wide TMARK pulse after ACLK lock becomes grid position 0; the counters are loaded under R41 and LOCKED is set. -/
  | gridLock
  /-- TICK_LOCK_WAIT_TIMEOUT (R36). No tide mark arrives within the 1,000 ms wait of stage S8; start-up ends with TICK_LOCK_LOST. -/
  | tickLockWaitTimeout
  /-- TLATE_SAMPLE (R38). TLATE is sampled at a TSYNC edge; a low level at the end of reference cycle 1 is the sampled notice. -/
  | tlateSample (cycle : Nat) (low : Bool)
  /-- TICK_COPY_COMPARE (R39). Every reference cycle the two tick-unit copies compare TICK_GRID, TICK_NOW and boundary phase. -/
  | tickCopyCompare (grid : DWord) (now : DWord) (phase : Nat)
  /-- TICK_SOURCE_LOSS (R39). The tick copy in service loses TSYNC or reports a counter parity error; failover is scheduled, or TICK_LOCK_LOST if single. -/
  | tickSourceLoss
  /-- TICK_FAILOVER (R39). At the next tick boundary the H1 copy takes over without phase change; SOURCE and SINGLE are set. -/
  | tickFailover
  /-- TICK_BOUNDARY (R44). The tick timer expires; tick n + 1 begins, late notices are raised and deferred hand-offs become due. -/
  | tickBoundary
  /-- TIDE_BOUNDARY (R40). A data-plane tide begins; tide records are sent, the tide's checks are evaluated and management settings take effect. -/
  | tideBoundary (m : TideMeas)
  /-- TIDE_RECORD_RX (R42). A received TIDE record is checked when both ends are rooted and a disagreement is logged. -/
  | tideRecordRx (p : PortIx)
  /-- JOIN_RECORD_RX (R43). A received JOIN record is loaded, scheduled for adoption, deferred, checked or ignored according to rooted state. -/
  | joinRecordRx (p : PortIx)
  /-- TICK_REJOIN (R43). At the tide mark a deferred rooted JOIN names, an idle unrooted device adopts the record's counters and sets ROOTED. -/
  | tickRejoin
  /-- TICK_CFG_WRITE (R64). A write to TICK_CFG is held for the next tick boundary; zero HORIZON or miss limit is refused. -/
  | tickCfgWrite (v : Word)
  /-- TICK_CFG_APPLY (R64). At the boundary the pending TICK_CFG value takes effect if every SEQ is IDLE, else CFG_WRITE_IGNORED. -/
  | tickCfgApply
  /-- RUN_TIMETABLE (R323). The command names timetables per core and waits until every named SEQ is IDLE before acceptance. -/
  | runTimetable (cmd : Nat)
  /-- TIMETABLE_LOAD_CHECK (R47). The SEQ finishes reading its timetable and the load checks decide whether all named timetables run. -/
  | timetableLoadCheck (c : CoreIx)
  /-- SAILING_ISSUE (R50). In its tick the SEQ issues the next portion of the current sailing record. -/
  | sailingIssue (c : CoreIx)
  /-- ENGINE_START (R54). An engine starts the sailing's operation at its stagger cycle or when freed, once waited flags are set. -/
  | engineStart (c : CoreIx) (e : Engine)
  /-- SAILING_COMPLETE (R45). All ME, VE and signal work of a sailing has retired and its signals are posted. -/
  | sailingComplete (c : CoreIx) (cyc : Nat)
  /-- SIGNAL_ARRIVAL (R51). A signal from another core crosses the deck and sets the target flag in the tick it arrives. -/
  | signalArrival (c : CoreIx)
  /-- ITEM_END (R323). Every operation of every sailing of an item has completed and the item ends with its status. -/
  | itemEnd (cmd : Nat) (item : Nat)
  /-- SEQ_FLAG_SET (R65). A write sets clean flags 32-63 named in its high bits, stamped when it reaches the SEQ. -/
  | seqFlagSet (c : CoreIx) (v : DWord)
  /-- SEQ_FLAG_CLR (R51). A write clears the named tick flags and their poison bits. -/
  | seqFlagClr (c : CoreIx) (v : DWord)
  /-- ME_MMA (R96). Native matrix product accumulating into accumulator sets in the fixed order, draining through the epilogue when DRAIN is set. -/
  | meMma (c : CoreIx)
  /-- ME_MMA_F3 (R106). FP32 product formed from three BF16 split products per k. -/
  | meMmaF3 (c : CoreIx)
  /-- ME_MMA_D (R110). D-mode product of INT8 slice planes combined exactly and rounded once, or written as a D partial. -/
  | meMmaD (c : CoreIx)
  /-- ME_MERGE (R101). Native MERGE adds landed FP32 partials into held sets in FIXED or FIRST-COME order. -/
  | meMerge (c : CoreIx)
  /-- ME_MERGE_PARTIAL (R101). In FIRST-COME order a partial's flag is set and the ME adds that partial. -/
  | meMergePartial (c : CoreIx)
  /-- ME_MERGE_D (R111). D-mode MERGE adds D partials exactly and writes a partial or the rounded result. -/
  | meMergeD (c : CoreIx)
  /-- ME_DRAIN (R102). A held set is emitted through the epilogue to the landing buffer. -/
  | meDrain (c : CoreIx)
  /-- ME_DSCAN (R108). Computes the row exponent vector of an FP64 operand. -/
  | meDscan (c : CoreIx)
  /-- ME_DSLICE (R109). Converts an FP64 operand into INT8 slice planes. -/
  | meDslice (c : CoreIx)
  /-- ME_OP_COMPLETE (R91). An ME operation writes its last result or leaves it in a set and ends. -/
  | meOpComplete (c : CoreIx)
  /-- VE_ADD (R116). Elementwise addition with one rounding. -/
  | veAdd (c : CoreIx)
  /-- VE_SUB (R116). Elementwise subtraction with one rounding. -/
  | veSub (c : CoreIx)
  /-- VE_MUL (R116). Elementwise multiplication with one rounding. -/
  | veMul (c : CoreIx)
  /-- VE_FMA (R116). Elementwise fused multiply-add with one rounding. -/
  | veFma (c : CoreIx)
  /-- VE_MAX2 (R122). Elementwise maximum. -/
  | veMax2 (c : CoreIx)
  /-- VE_MIN2 (R122). Elementwise minimum. -/
  | veMin2 (c : CoreIx)
  /-- VE_SCALE (R118). Multiplies each element by the FP32 immediate. -/
  | veScale (c : CoreIx)
  /-- VE_CONVERT (R116). Converts each element once into FMT_OUT. -/
  | veConvert (c : CoreIx)
  /-- VE_DIV (R122). Correctly rounded elementwise division. -/
  | veDiv (c : CoreIx)
  /-- VE_SQRT (R122). Correctly rounded square root. -/
  | veSqrt (c : CoreIx)
  /-- VE_EXP2 (R122). Approximated 2^x. -/
  | veExp2 (c : CoreIx)
  /-- VE_EXP (R122). Approximated e^x. -/
  | veExp (c : CoreIx)
  /-- VE_LOG2 (R122). Approximated log2 x. -/
  | veLog2 (c : CoreIx)
  /-- VE_RCP (R122). Approximated reciprocal. -/
  | veRcp (c : CoreIx)
  /-- VE_RSQRT (R122). Approximated reciprocal square root. -/
  | veRsqrt (c : CoreIx)
  /-- VE_ACT (R122). Applies an epilogue function of R103 elementwise. -/
  | veAct (c : CoreIx)
  /-- VE_RSUM (R123). Row or column sum in the fixed lane and tree order. -/
  | veRsum (c : CoreIx)
  /-- VE_RMAX (R123). Row or column maximum. -/
  | veRmax (c : CoreIx)
  /-- VE_RMIN (R123). Row or column minimum. -/
  | veRmin (c : CoreIx)
  /-- VE_RARGMAX (R123). Index of the row maximum, lowest on ties, first NaN if any. -/
  | veRargmax (c : CoreIx)
  /-- VE_RSUMSQ (R123). Row or column sum of squares. -/
  | veRsumsq (c : CoreIx)
  /-- VE_RMEANVAR (R124). Welford mean and variance per row or column. -/
  | veRmeanvar (c : CoreIx)
  /-- VE_SOFTMAX (R125). Row softmax with masked-row handling. -/
  | veSoftmax (c : CoreIx)
  /-- VE_LAYERNORM (R126). Layer normalisation of each row, writing row statistics. -/
  | veLayernorm (c : CoreIx)
  /-- VE_RMSNORM (R126). RMS normalisation of each row, optionally from precomputed sums of squares. -/
  | veRmsnorm (c : CoreIx)
  /-- VE_DROPOUT (R131). Keeps and scales elements by Philox draws, optionally writing a keep bitmap. -/
  | veDropout (c : CoreIx)
  /-- VE_UNIFORM (R131). Writes uniform values from Philox draws. -/
  | veUniform (c : CoreIx)
  /-- VE_NORMAL (R131). Writes standard normal values from two draws per element. -/
  | veNormal (c : CoreIx)
  /-- VE_TRANSPOSE (R116). Transposes an operand, converting when formats differ. -/
  | veTranspose (c : CoreIx)
  /-- VE_MX_RELAYOUT (R76). Decodes, transposes and re-quantises an MX tensor. -/
  | veMxRelayout (c : CoreIx)
  /-- VE_HAZARD_CLEAR (R120). A VE operation held by an overlapping unfinished ME operation starts once that operation ends. -/
  | veHazardClear (c : CoreIx)
  /-- VE_OP_COMPLETE (R119). A VE slot operation ends. -/
  | veOpComplete (c : CoreIx)
  /-- VE_WCONV (R149). Depthwise or grouped window convolution over the output box. -/
  | veWconv (c : CoreIx)
  /-- VE_MAXPOOL (R150). Max pooling over in-image taps. -/
  | veMaxpool (c : CoreIx)
  /-- VE_AVGPOOL (R150). Average pooling over counted taps. -/
  | veAvgpool (c : CoreIx)
  /-- VE_WCONV_BWD_DATA (R151). Data gradient of a window convolution over the input box. -/
  | veWconvBwdData (c : CoreIx)
  /-- VE_WCONV_BWD_WEIGHT (R151). Weight gradient of a window convolution, optionally accumulating. -/
  | veWconvBwdWeight (c : CoreIx)
  /-- VE_MAXPOOL_BWD (R151). Routes each dy to the selected tap of its window. -/
  | veMaxpoolBwd (c : CoreIx)
  /-- VE_AVGPOOL_BWD (R151). Spreads dy over each window's counted taps. -/
  | veAvgpoolBwd (c : CoreIx)
  /-- VE_UPSAMPLE_NEAREST (R153). Nearest-neighbour up-sampling. -/
  | veUpsampleNearest (c : CoreIx)
  /-- VE_UPSAMPLE_BILINEAR (R154). Bilinear up-sampling along W, H, D. -/
  | veUpsampleBilinear (c : CoreIx)
  /-- VE_UPSAMPLE_NEAREST_BWD (R155). Backward of nearest resampling. -/
  | veUpsampleNearestBwd (c : CoreIx)
  /-- VE_UPSAMPLE_BILINEAR_BWD (R155). Backward of bilinear resampling over corners. -/
  | veUpsampleBilinearBwd (c : CoreIx)
  /-- VE_PAD_FOLD (R152). Folds a padded-coordinate gradient back onto the image. -/
  | vePadFold (c : CoreIx)
  /-- VE_GMASK (R161). Binds a row or block mask bitmap to the ME operation of the same record. -/
  | veGmask (c : CoreIx)
  /-- VE_SOFTMAX_BWD (R166). Softmax derivative per row. -/
  | veSoftmaxBwd (c : CoreIx)
  /-- VE_LAYERNORM_BWD (R167). Layer-norm backward with dgamma and dbeta accumulation. -/
  | veLayernormBwd (c : CoreIx)
  /-- VE_RMSNORM_BWD (R167). RMS-norm backward with dgamma accumulation. -/
  | veRmsnormBwd (c : CoreIx)
  /-- VE_ACT_BWD (R168). Multiplies dy by the derivative of the activation. -/
  | veActBwd (c : CoreIx)
  /-- RNG_SEED_WRITE (R138). A write sets the job seed while the SEQ is IDLE, else is ignored and logged. -/
  | rngSeedWrite (c : CoreIx) (v : DWord)
  /-- RNG_RESTORE_STEP_WRITE (R132). Triggers recomputation of RNG_POS, logging and overwriting a mismatching value. -/
  | rngRestoreStepWrite (c : CoreIx) (v : DWord)
  /-- PREP_RUN (R133). Setting PREP_CTRL.RUN starts or resumes the prep core at PREP_RESET_VEC. -/
  | prepRun (c : CoreIx)
  /-- PREP_HALT (R133). Clearing PREP_CTRL.RUN halts the prep core at the next instruction boundary. -/
  | prepHalt (c : CoreIx)
  /-- PREP_RESET (R133). PREP_CTRL.RESET resets the prep core's architectural state and caches. -/
  | prepReset (c : CoreIx)
  /-- PTFLAGSET (R136). A CSR write waits for earlier stores to be visible and then posts flags 0-31 clean. -/
  | ptflagset (c : CoreIx) (v : DWord)
  /-- PTICKCMP_IRQ (R135). TICK_NOW reaches PTICKCMP and the machine timer interrupt is raised. -/
  | ptickcmpIrq (c : CoreIx) (cmp : DWord)
  /-- PREP_BUS_ERROR (R134). A prep-core access to an unmapped address traps and is logged. -/
  | prepBusError (c : CoreIx) (cause : DWord) (epc : DWord) (addr : DWord)
  /-- PREP_DOUBLE_TRAP (R137). A trap while mcause holds an unacknowledged trap halts the prep core. -/
  | prepDoubleTrap (c : CoreIx) (cause : DWord) (epc : DWord) (tval : DWord)
  /-- UNIT_ERROR_IRQ (R137). An error of a core's unit raises the prep core's machine external interrupt. -/
  | unitErrorIrq (c : CoreIx) (u : Fin 9)
  /-- FERRY_ENQUEUE (R226). At cycle 0 of tick max(T - LEAD, F) the SEQ enqueues a ferry operation, delayed by a full queue. -/
  | ferryEnqueue (c : CoreIx) (f : FerryIx)
  /-- FERRY_OP_START (R226). A queued ferry operation starts issuing requests once its predecessor and WAITF flag allow. -/
  | ferryOpStart (c : CoreIx) (f : FerryIx)
  /-- FERRY_COPY_IN (R224). Loads rows from memory into the landing buffer. -/
  | ferryCopyIn (c : CoreIx) (f : FerryIx)
  /-- FERRY_GATHER (R144). Builds implicit-GEMM A rows from an input tensor. -/
  | ferryGather (c : CoreIx) (f : FerryIx)
  /-- FERRY_GATHER_T (R145). Builds data-gradient A rows from dy. -/
  | ferryGatherT (c : CoreIx) (f : FerryIx)
  /-- FERRY_HALO (R147). Lands the halo tile an output box reads. -/
  | ferryHalo (c : CoreIx) (f : FerryIx)
  /-- FERRY_INDEX_IN (R224). Loads rows chosen by an index list. -/
  | ferryIndexIn (c : CoreIx) (f : FerryIx)
  /-- FERRY_MXT_IN (R224). Lands an MX tensor transposed and re-quantised. -/
  | ferryMxtIn (c : CoreIx) (f : FerryIx)
  /-- FERRY_QRUN (R229). Runs COUNT descriptors from the ferry's software ring. -/
  | ferryQrun (c : CoreIx) (f : FerryIx)
  /-- FERRY_COPY_OUT (R224). Stores rows from the landing buffer to memory, writing tile tags. -/
  | ferryCopyOut (c : CoreIx) (f : FerryIx)
  /-- FERRY_INDEX_OUT (R224). Stores rows by index list in ascending order. -/
  | ferryIndexOut (c : CoreIx) (f : FerryIx)
  /-- FERRY_PFILL (R487). Checks the range and sends a FILL command to the stack's pontoon. -/
  | ferryPfill (c : CoreIx) (f : FerryIx)
  /-- FERRY_PEER_GET (R230). Reads rows from a peer by routed RREQ. -/
  | ferryPeerGet (c : CoreIx) (f : FerryIx)
  /-- FERRY_PEER_PUT (R230). Writes rows to a peer as BULK with TAGW set. -/
  | ferryPeerPut (c : CoreIx) (f : FerryIx)
  /-- FERRY_OP_COMPLETE (R228). A ferry operation lands or makes visible its last byte and posts its signal. -/
  | ferryOpComplete (c : CoreIx) (f : FerryIx)
  /-- SLIP_PUSH (R172). Pushes tiles as berth entries onto the HBM or spill range. -/
  | slipPush (c : CoreIx) (f : FerryIx)
  /-- SLIP_POP (R173). Pops entries, checking trailers and tags and landing data. -/
  | slipPop (c : CoreIx) (f : FerryIx)
  /-- SLIP_TRAILER_REREAD (R173). A trailer CRC mismatch is re-read once before failing. -/
  | slipTrailerReread (c : CoreIx) (f : FerryIx)
  /-- SLIP_ENABLE (R179). Setting ENABLE checks the segment configuration and resets its tops. -/
  | slipEnable (c : CoreIx) (b : BerthIx)
  /-- SLIP_DISABLE (R179). Clearing ENABLE while the SEQ is IDLE empties the segment. -/
  | slipDisable (c : CoreIx) (b : BerthIx)
  /-- UPDATE_PARAMS_ADAMW (R191). UPDATE_PARAMS with ALGO ADAMW. -/
  | updateParamsAdamw (cmd : Nat)
  /-- UPDATE_PARAMS_LAMB (R192). UPDATE_PARAMS with ALGO LAMB. -/
  | updateParamsLamb (cmd : Nat)
  /-- UPDATE_PARAMS_SGD (R193). UPDATE_PARAMS with ALGO SGD. -/
  | updateParamsSgd (cmd : Nat)
  /-- UPDATE_PARAMS_VERIFY (R207). Compares, and optionally repairs, working copies against masters. -/
  | updateParamsVerify (cmd : Nat)
  /-- UPD_SHARD_ITEM (R199). One shard item reads its commit record and applies, skips or rolls forward step t. -/
  | updShardItem (cmd : Nat) (item : Nat)
  /-- UPD_EXPONENT_MOVE (R206). After every item commits, bucket exponents move once and the update state record is written. -/
  | updExponentMove (cmd : Nat)
  /-- PONT_GEXP (R233). Pontoon applies the exponent move over a GSCALE range. -/
  | pontGexp (k : StackIx)
  /-- PONT_DIG (R233). Pontoon computes per-1 MiB block digests. -/
  | pontDig (k : StackIx)
  /-- PONT_FILL (R487). Pontoon writes a repeated pattern over a stack-local range. -/
  | pontFill (k : StackIx)
  /-- HBMC_SCRUB_PASS (R219). Periodic scrub reads HBM3E, writing back corrections and poisoning uncorrectable lines. -/
  | hbmcScrubPass (k : StackIx) (ce : List Nat) (ue : List Nat)
  /-- LPDC_SCRUB_PASS (R219). Periodic scrub of the LPDDR5X tier. -/
  | lpdcScrubPass (l : LpIx) (ce : List Nat) (ue : List Nat)
  /-- MEMORY_READ_ERROR (R218). A memory read is corrected and counted, or delivered poisoned. -/
  | memoryReadError (a : Nat) (kind : ReadErr)
  /-- HBMC_MAP_WRITE (R217). A write to HBMC_MAP takes effect only while no job runs. -/
  | hbmcMapWrite (v : Word)
  /-- LPDC_TIER_WRITE (R217). A write to LPDC_TIER sets memory mode and interleave while no job runs. -/
  | lpdcTierWrite (v : Word)
  /-- LAND_CLEAR (R237). Zeroes the landing buffer while the SEQ is IDLE. -/
  | landClear (c : CoreIx)
  /-- LAND_CLEAR_DONE (R237). The landing-buffer clear completes after 8,192 cycles. -/
  | landClearDone (c : CoreIx)
  /-- DECK_LB_ACCESS (R221). An uncached deck access of up to 64 bytes to a landing buffer. -/
  | deckLbAccess (c : CoreIx) (off : Nat) (n : Nat) (wr : Bool) (data : Bytes)
  /-- FERRY_QCFG_WRITE (R236). A write to FERRY_QBASE or FERRY_QSIZE while IDLE resets head and tail. -/
  | ferryQcfgWrite (c : CoreIx) (f : FerryIx) (size : Bool) (v : DWord)
  /-- FERRY_QTAIL_WRITE (R236). Publishes ring entries, or logs FERRY_QOVERFLOW. -/
  | ferryQtailWrite (c : CoreIx) (f : FerryIx) (v : Word)
  /-- TAG_REFETCH (R243). A granule failing verification is re-fetched once and fails the item on a second failure. -/
  | tagRefetch (c : CoreIx) (f : FerryIx)
  /-- EXP_BLOCK_EXPAND (R253). The EXP checks and expands one compressed block into the landing buffer. -/
  | expBlockExpand (c : CoreIx) (f : FerryIx)
  /-- EXP_REFETCH (R253). A block failing decode or CRC is re-fetched once. -/
  | expRefetch (c : CoreIx) (f : FerryIx)
  /-- LOAD_DECODE_TABLE (R257). Loads and retires decode-table slots on the named dies. -/
  | loadDecodeTable (cmd : Nat)
  /-- CTAB_LOAD_GO (R257). A CTAB_LOAD_CTRL.GO write loads a table image into a slot. -/
  | ctabLoadGo (d : DieIx) (slot : Fin 8)
  /-- CTAB_RETIRE (R256). A CTAB_RETIRE write retires slots at the next tick boundary. -/
  | ctabRetire (d : DieIx) (v : BitVec 8)
  /-- CTAB_SLOT_LIVE (R256). A successfully loaded slot becomes LIVE at the next tick. -/
  | ctabSlotLive (d : DieIx) (slot : Fin 8)
  /-- CTAB_SLOT_DRAINING (R256). A retired slot becomes DRAINING at the next tick. -/
  | ctabSlotDraining (d : DieIx) (slot : Fin 8)
  /-- CTAB_SLOT_FREE (R256). A draining slot with in-use count 0 becomes FREE and records LAST_GEN. -/
  | ctabSlotFree (d : DieIx) (slot : Fin 8)
  /-- TAGR_REGION_ENABLE (R240). Setting ENABLE on a region descriptor checks it and any coded tensor header. -/
  | tagrRegionEnable (r : Fin 64)
  /-- TAGR_RGEN_WRITE (R240). A region generation write takes effect at the next tick. -/
  | tagrRgenWrite (r : Fin 64) (v : BitVec 16)
  /-- TAGR_RETAG (R258). Starts rebuilding tags of whole tiles, or refuses. -/
  | tagrRetag (r : Fin 64)
  /-- TAGR_RETAG_DONE (R242). A retag completes and raises its interrupt. -/
  | tagrRetagDone
  /-- HOME_RD_SHARED (R264). A read for caching enters its line FIFO at the home. -/
  | homeRdShared (p : PartIx) (core : (Fin 64)) (a : Nat)
  /-- HOME_RD_OWN (R264). A read for ownership enters its line FIFO. -/
  | homeRdOwn (p : PartIx) (core : (Fin 64)) (a : Nat)
  /-- HOME_UPGRADE (R267). An S-to-E upgrade request enters the FIFO. -/
  | homeUpgrade (p : PartIx) (core : (Fin 64)) (a : Nat)
  /-- HOME_RD_ONCE (R264). A non-caching read enters the FIFO. -/
  | homeRdOnce (g : CohAgent) (a : Nat)
  /-- HOME_BULK_RD (R265). A bulk read enters the FIFOs of all its lines in one home cycle. -/
  | homeBulkRd (g : CohAgent) (a : Nat) (n : Nat)
  /-- HOME_WR_LINE (R264). A whole-line non-caching write enters the FIFO. -/
  | homeWrLine (g : CohAgent) (a : Nat) (data : Bytes)
  /-- HOME_BULK_WR (R265). A bulk write enters the FIFOs of all its lines. -/
  | homeBulkWr (g : CohAgent) (a : Nat) (data : Bytes)
  /-- HOME_WR_PART (R264). A byte-masked write enters the FIFO. -/
  | homeWrPart (g : CohAgent) (a : Nat) (mask : DWord) (data : Bytes)
  /-- HOME_WB (R267). A write-back arrives and serves as a pending snoop answer or is queued. -/
  | homeWb (p : PartIx) (a : Nat)
  /-- HOME_EVICT (R267). A clean E line eviction arrives at the home. -/
  | homeEvict (p : PartIx) (a : Nat)
  /-- HOME_AMO_FAR (R276). A far atomic enters the FIFO. -/
  | homeAmoFar (p : PartIx) (core : (Fin 64)) (op : AmoOp) (wide : Bool) (a : Nat) (v : DWord)
  /-- HOME_RECALL (R265). A pontoon RECALL enters the FIFOs of its lines. -/
  | homeRecall (g : CohAgent) (a : Nat) (n : Nat)
  /-- HOME_TRANSACTION_SERVE (R265). The head transaction of a line FIFO is served, snooping and granting. -/
  | homeTransactionServe (a : Nat)
  /-- HOME_SNOOP_ANSWER (R269). A snoop answer RSP_I, RSP_DATA, RSP_DIF or RSP_HOLD arrives at the home. -/
  | homeSnoopAnswer (p : PartIx) (a : Nat)
  /-- SNOOP_RESEND (R270). n deck cycles after a HOLD answer the home re-sends the snoop. -/
  | snoopResend (p : PartIx) (a : Nat)
  /-- COH_SNOOP_TIMEOUT (R268). A snoop unanswered for SNOOP_LIMIT deck cycles is logged device-fatal. -/
  | cohSnoopTimeout (p : PartIx) (a : Nat)
  /-- SNP_INV (R268). A participant receives an invalidating snoop and answers within 8 deck cycles. -/
  | snpInv (p : PartIx) (a : Nat) (left : (Fin 64))
  /-- SNP_SHARE (R264). A participant receives a share snoop and answers. -/
  | snpShare (p : PartIx) (a : Nat) (left : (Fin 64))
  /-- BACK_INV (R271). A participant receives a back-invalidation and answers. -/
  | backInv (p : PartIx) (a : Nat) (left : (Fin 64))
  /-- GNT_RECEIVE (R270). A requester receives GNT_S, GNT_E or GNT_M; E and M start the bollard hold. -/
  | gntReceive (p : PartIx) (a : Nat)
  /-- GNT_UP (R264). A requester receives an upgrade grant without data. -/
  | gntUp (p : PartIx) (a : Nat)
  /-- DATA_ONCE (R264). A requester receives non-caching data. -/
  | dataOnce (g : CohAgent) (a : Nat)
  /-- WR_DONE (R277). A writer learns its write is globally visible. -/
  | wrDone (g : CohAgent) (a : Nat)
  /-- AMO_RSP (R275). A requester receives the old value of a far atomic and updates its predictor. -/
  | amoRsp (p : PartIx) (a : Nat)
  /-- WB_ACK (R264). A participant in WBP receives WB_ACK and drops to I. -/
  | wbAck (p : PartIx) (a : Nat)
  /-- BOLLARD_HOLD_END (R270). The 64 deck-cycle hold on a won line expires. -/
  | bollardHoldEnd (p : PartIx) (a : Nat)
  /-- ATOMIC_OP (R274). An atomic is performed in the lowest cache or sent near or far by the predictor. -/
  | atomicOp (core : AtomCore) (op : AtomOp) (form : AtomForm) (a : Nat) (v : BitVec 128)
  /-- DCACHE_FLUSH (R284). Writes back and invalidates the die cache while every SEQ is IDLE. -/
  | dcacheFlush (t : DieIx)
  /-- DCACHE_PRED_CLR (R284). Clears the die cache's atomic predictor while every SEQ is IDLE. -/
  | dcachePredClr (t : DieIx)
  /-- DC_POISON_CONSUMED (R278). A prep-core load receiving poison takes a load access fault. -/
  | dcPoisonConsumed (c : CoreIx) (epc : DWord) (a : Nat)
  /-- HOME_CFG_WRITE (R283). Sets SNOOP_LIMIT while no job runs. -/
  | homeCfgWrite (h : SliceIx) (v : Word)
  /-- SRVC_RUN (R291). Setting SRVC_CTRL.RUN starts a STOPPED server core at its reset vector. -/
  | srvcRun (k : ServerIx)
  /-- SRVC_STOP (R291). Clearing RUN stops the core at the next instruction boundary. -/
  | srvcStop (k : ServerIx)
  /-- SRVC_RESERVE (R293). Setting RESERVE on a STOPPED core dedicates it to the update routine. -/
  | srvcReserve (k : ServerIx)
  /-- SRVC_RELEASE (R293). Clearing RESERVE returns the core to STOPPED with caches written back. -/
  | srvcRelease (k : ServerIx)
  /-- SRVC_PRED_CLR (R308). Clears the core's L2 atomic predictor. -/
  | srvcPredClr (k : ServerIx)
  /-- SRVC_L2_FLUSH (R308). Writes back and invalidates the core's L1 and L2. -/
  | srvcL2Flush (k : ServerIx)
  /-- SRVC_CLK_WRITE (R288). Requests a cluster clock; the change lands within 20 µs. -/
  | srvcClkWrite (k : ServerIx) (mhz : (BitVec 12))
  /-- SRV_POISON_CONSUMED (R290). A server-core load or fetch of poisoned data takes a precise access fault. -/
  | srvPoisonConsumed (k : ServerIx) (fetch : Bool) (epc : DWord) (a : Nat)
  /-- SRV_CACHE_ERROR (R290). A server-core L1/L2 error is corrected, refetched, or poisons a dirty line. -/
  | srvCacheError (k : ServerIx) (a : Nat) (kind : CacheErr)
  /-- DOCK_ENABLE (R294). Setting DOCK_CTRL.ENABLE checks the rings and zeroes indices. -/
  | dockEnable (d : DockIx)
  /-- DOCK_DISABLE (R298). Clearing ENABLE takes effect when no command is in flight or held. -/
  | dockDisable (d : DockIx)
  /-- DOCK_TAIL_WRITE (R295). A dock doorbell stamped and acted on at the next boundary, or refused as out of range. -/
  | dockTailWrite (d : DockIx) (v : Word) (cyc : Nat)
  /-- DOCK_CPL_HEAD_WRITE (R296). The consumer returns completion slots, releasing held records. -/
  | dockCplHeadWrite (d : DockIx) (v : Word)
  /-- DOCK_ENTRY_READ (R295). The device reads dock entries in ring order and advances DOCK_HEAD. -/
  | dockEntryRead (d : DockIx)
  /-- DOCK_COMPLETION (R296). A dock record is written, the mirror line updated and the MSI sent. -/
  | dockCompletion (d : DockIx) (cmd : Nat)
  /-- COMMAND_ACCEPT (R321). At a tick boundary entries are accepted in the fixed order and checked. -/
  | commandAccept
  /-- CQ_ENTRY_FETCH (R318). The device fetches newly covered command entries. -/
  | cqEntryFetch (q : QueueIx)
  /-- CQ_TAIL_WRITE (R318). A command-queue doorbell, refused if out of range or the queue is not enabled. -/
  | cqTailWrite (q : QueueIx) (v : Word) (cyc : Nat)
  /-- CQ_CPL_HEAD_WRITE (R329). The host returns completion slots of a queue. -/
  | cqCplHeadWrite (q : QueueIx) (v : Word)
  /-- CQ_ENABLE (R338). Setting ENABLE enables a queue or re-attaches a DETACHED queue, writing held records. -/
  | cqEnable (q : QueueIx)
  /-- CQ_DISABLE (R341). Clearing ENABLE when nothing is in flight or held. -/
  | cqDisable (q : QueueIx)
  /-- WRITE_INLINE (R325). Writes inline cargo data to a destination. -/
  | writeInline (cmd : Nat)
  /-- COPY (R324). Copies ranges locally or to a peer on the H0 copy engine. -/
  | copy (cmd : Nat)
  /-- COPY_ITEM (R324). One copy descriptor runs on a free copy channel. -/
  | copyItem (cmd : Nat)
  /-- FENCE (R326). Ends once every earlier command of its queue, or all queues, has completed. -/
  | fence (cmd : Nat)
  /-- NOP (R326). Ends at its first tick boundary after START. -/
  | nop (cmd : Nat)
  /-- QUERY (R304). A surrogate query is accepted and its service descriptor checked. -/
  | query (cmd : Nat)
  /-- QUERY_PLACE (R305). A query is placed in the inbox for its admission tick or waits for room. -/
  | queryPlace
  /-- QUERY_RESULT_COLLECT (R306). In tick T + C results are read and written with each query's record. -/
  | queryResultCollect
  /-- COMPLETION_RECORD_WRITE (R328). Item and closing records are written after the command's writes are visible. -/
  | completionRecordWrite (cmd : Nat)
  /-- PCIE_LINK_TRAIN (R309). A PCIe port trains to the highest common rate and width. -/
  | pcieLinkTrain (p : PcieIx) (gen : Nat) (width : Nat)
  /-- PCIE_RETRAIN (R334). Port A retrains and replays unacknowledged TLPs. -/
  | pcieRetrain (p : PcieIx)
  /-- PCIE_LINK_LOSS (R335). Link down, hot reset, PERST_N or D3hot aborts host transfers and detaches every queue. -/
  | pcieLinkLoss (p : PcieIx) (loss : LinkEnd)
  /-- HOST_DETACH_ABORT (R336). With SURVIVE_HOST_DETACH clear, at the first boundary after a loss, queue commands are failed. -/
  | hostDetachAbort
  /-- BAR2_ACCESS (R314). A host access through BAR2 becomes a coherent read or write, or is refused. -/
  | bar2Access (off : Nat) (n : Nat) (wr : Bool) (data : Bytes) (fault : TlpFault)
  /-- OUTBOUND_ACCESS (R312). A device access to the outbound PCIe window, handled as poison or drop when the link is down. -/
  | outboundAccess (a : Nat) (n : Nat) (wr : Bool) (data : Bytes) (xl : Option (Nat × Nat))
  /-- PCIE_UNEXP_CPL (R339). An unexpected completion is discarded and reported. -/
  | pcieUnexpCpl (p : PcieIx)
  /-- PCIE_CPL_TIMEOUT (R339). A host-read completion timeout fails its item. -/
  | pcieCplTimeout (p : PcieIx) (cmd : Nat) (item : Nat)
  /-- PCIE_POISONED_TLP (R339). A poisoned TLP poisons lines or fails its item. -/
  | pciePoisonedTlp (p : PcieIx) (item : Option (Nat × Nat)) (a : Nat) (n : Nat)
  /-- PCIE_BAR2_BASE_WRITE (R340). Sets BAR2's device base, refusing an unaligned value. -/
  | pcieBar2BaseWrite (v : DWord)
  /-- PCIE_CTRL_WRITE (R336). Sets the detach policy and Relaxed Ordering while no job runs. -/
  | pcieCtrlWrite (p : PcieIx) (v : Word)
  /-- FLIT_GRANT (R347). The port grants the next flit by VC priority, stamping tick and any pending late notice. -/
  | flitGrant (p : PortIx)
  /-- FLIT_CRC_ERROR (R349). A flit with bad CRC, an uncorrectable codeword or a sequence gap is discarded and NAKed. -/
  | flitCrcError (p : PortIx) (b : Bytes) (uncorrectable : Bool)
  /-- FLIT_ACCEPT (R349). The expected sequenced flit with good CRC is accepted and delivered. -/
  | flitAccept (p : PortIx) (b : Bytes)
  /-- ACK_RX (R349). An ACK frees acknowledged flits from the replay buffer. -/
  | ackRx (p : PortIx) (b : Bytes)
  /-- NAK_RX (R349). A NAK triggers replay from the expected sequence. -/
  | nakRx (p : PortIx) (b : Bytes)
  /-- ACK_TIMER (R349). 100 ns with unacknowledged accepted flits sends an ACK. -/
  | ackTimer (p : PortIx)
  /-- REPLAY_TIMEOUT (R349). 2 µs without an advancing ACK replays from the oldest unacknowledged flit. -/
  | replayTimeout (p : PortIx)
  /-- REPLAY_EXHAUSTED (R349). Eight replays without advance retrain the port. -/
  | replayExhausted (p : PortIx)
  /-- CREDIT_SYNC_RX (R364). A CREDIT_SYNC flit resets the sender's credit counts. -/
  | creditSyncRx (p : PortIx) (b : Bytes)
  /-- NULL_FLIT_RX (R350). A NULL flit delivers only its late notice. -/
  | nullFlitRx (p : PortIx) (b : Bytes)
  /-- SDATA_RX (R353). SDATA is matched by port and stream and landed, held or waits for its RECV. -/
  | sdataRx (p : PortIx)
  /-- SL_NO_RECV (R353). SDATA waiting 64 ticks without a RECV is discarded. -/
  | slNoRecv (p : PortIx)
  /-- LINK_SEND (R353). Sends bytes from the landing buffer as SDATA on VC0. -/
  | linkSend (c : CoreIx)
  /-- LINK_RECV (R353). Lands SDATA of its stream and completes when all bytes landed. -/
  | linkRecv (c : CoreIx)
  /-- RREQ_RX (R355). A routed read request is forwarded or served with BULK. -/
  | rreqRx (p : PortIx)
  /-- BULK_RX (R355). A routed bulk flit is forwarded or written, tagging if TAGW is set. -/
  | bulkRx (p : PortIx)
  /-- RACK_RX (R357). A RACK ends its routed operation with the status of its KIND. -/
  | rackRx (p : PortIx)
  /-- SL_MSG_TIMEOUT (R357). No RACK within SLNK_MSG_TIMEOUT ticks fails the routed operation. -/
  | slMsgTimeout (msg : Nat)
  /-- MGMT_FLIT_RX (R450). A VC5 flit delivers an MCTP packet to the harbour controller. -/
  | mgmtFlitRx (p : PortIx)
  /-- SLNK_ROUTE_RELOAD (R356). Reloads the route table. -/
  | slnkRouteReload
  /-- PORT_TRAIN (R358). A port starts training on ENABLE or in stage S7. -/
  | portTrain (p : PortIx)
  /-- TRAIN_RATE_STEP (R358). Lanes not locked within 10 ms step down a rate or the port FAILs. -/
  | trainRateStep (p : PortIx)
  /-- TRAIN_FLIT_TX (R358). A TRAIN flit is sent every 1 µs during exchange. -/
  | trainFlitTx (p : PortIx)
  /-- TRAIN_FLIT_RX (R360). A received capability record is decided on and may bring the port UP. -/
  | trainFlitRx (p : PortIx) (b : Bytes) (acks : Bool)
  /-- TRAIN_TIMEOUT (R358). A port not UP within 50 ms fails training. -/
  | trainTimeout (p : PortIx)
  /-- PORT_RETRAIN (R366). A port retrains at its current rate keeping sequences and replay buffer. -/
  | portRetrain (p : PortIx)
  /-- FEC_LOCK_LOSS (R366). Loss of FEC lock on a lane starts a retrain. -/
  | fecLockLoss (p : PortIx)
  /-- PORT_QUARANTINE (R365). Violations in a tide exceed VIOL_LIMIT and the port is quarantined. -/
  | portQuarantine (p : PortIx)
  /-- PORT_DOWN (R367). A port leaves UP or RETRAIN; one link-fatal error is logged and items with traffic fail. -/
  | portDown (p : PortIx) (lanesLost : Bool)
  /-- SLNK_RETRAIN_WRITE (R366). SLNK_CTRL.RETRAIN requests a retrain. -/
  | slnkRetrainWrite (p : PortIx)
  /-- SLNK_QUAR_CLR (R365). QUAR_CLR ends quarantine and retrains. -/
  | slnkQuarClr (p : PortIx)
  /-- SLNK_NODE_WRITE (R368). Sets the node ID while every port is DOWN. -/
  | slnkNodeWrite (v : BitVec 15)
  /-- ETH_FRAME_RX (R363). An Ethernet frame is accepted in FSEQ order and its flits delivered. -/
  | ethFrameRx (p : PortIx) (b : Bytes)
  /-- ETH_FRAME_RESEND (R363). Unacknowledged frames are resent every 50 µs. -/
  | ethFrameResend (p : PortIx)
  /-- COLL_REDUCE (R373). Reduces G16 contributions up the tree and lands the DOWN result. -/
  | collReduce (c : CoreIx)
  /-- COLL_BCAST (R378). Broadcasts the root's bytes down the tree. -/
  | collBcast (c : CoreIx)
  /-- COLL_BARRIER (R379). Gathers arrivals to the root and releases all members. -/
  | collBarrier (c : CoreIx)
  /-- COLL_SUMMARY (R377). Combines the accumulator table over the tree into the step summary. -/
  | collSummary (c : CoreIx)
  /-- CDATA_RX (R372). A collective CDATA flit is taken by the master COLL. -/
  | cdataRx (p : PortIx)
  /-- COLL_CHILD_TIMEOUT (R375). A child stream incomplete after WAIT ticks is treated as void. -/
  | collChildTimeout (c : CoreIx)
  /-- COLL_TREE_ENABLE (R370). Setting a tree's ENABLE checks ports and epochs. -/
  | collTreeEnable (g : Fin 8) (v : DWord)
  /-- FLOOD_SNAPSHOT_AT (R380). A SNAPSHOT_AT flood is forwarded and records the freeze tick. -/
  | floodSnapshotAt (p : PortIx)
  /-- FLOOD_GLOBAL_RESET (R380). A GLOBAL_RESET flood is forwarded and starts a local reset. -/
  | floodGlobalReset (p : PortIx)
  /-- FLOOD_REQUEST (R401). An upward request is forwarded, or at the root answered or declined. -/
  | floodRequest (p : PortIx)
  /-- DEVICE_FATAL_FAULT (R391). A device-fatal fault logs, asserts FAULT_N and sets LEFT. -/
  | deviceFatalFault (b : Blk) (ix : Nat) (code : Nat) (item : (Option (Nat × Nat))) (addr : (Option Nat))
  /-- LEAVE_STOP (R391). At the next boundary every SEQ stops and every port goes DOWN. -/
  | leaveStop
  /-- LEAVE_RECORDS (R391). By tick n + 100 the harbour controller writes records for every accepted command. -/
  | leaveRecords
  /-- MB_HALT (R390). Under HALT policy, at the boundary after a fault, timetable items abort and the device halts. -/
  | mbHalt
  /-- LOCAL_RESET (R393). Ends every item, empties engine state and returns the device to RUN within 50 µs. -/
  | localReset
  /-- DEVICE_RESET (R392). RAS_CTRL.DEVICE_RESET restarts the device from stage S2. -/
  | deviceReset
  /-- SNAPSHOT (R394). Arms or schedules a snapshot, announcing it if requested. -/
  | snapshot (cmd : Nat)
  /-- SNAPSHOT_FREEZE (R396). At cycle 0 of tick T parameter state is frozen and updates are held. -/
  | snapshotFreeze
  /-- SNAPSHOT_ITEM_DONE (R399). A shard's image and digests are globally visible and the shard is released. -/
  | snapshotItemDone (item : Nat)
  /-- UPD_HOLD_RELEASE (R400). A held UPDATE_PARAMS proceeds once all its shards are released. -/
  | updHoldRelease
  /-- RESTORE_VERIFY_STORED (R403). Restores a shard from an image, verifying digests. -/
  | restoreVerifyStored (cmd : Nat) (item : Nat)
  /-- RESTORE_VERIFY_REPLICA (R403). Restores a shard from a partner's live arrays, polling its digest table. -/
  | restoreVerifyReplica (cmd : Nat) (item : Nat)
  /-- RESTORE_VERIFY_SERVE (R403). Publishes the digest table of a live shard for a requester. -/
  | restoreVerifyServe (cmd : Nat) (item : Nat)
  /-- RAS_LOG_TAIL_WRITE (R405). Consumes log records, refusing a tail beyond the head. -/
  | rasLogTailWrite (v : DWord)
  /-- RAS_LOG_APPEND (R388). A logged event enters the RAS log, dropping or overwriting when full. -/
  | rasLogAppend (b : Blk) (ix : Nat) (code : Nat) (item : (Option (Nat × Nat))) (addr : (Option Nat)) (info : Nat)
  /-- SYS_RESET_DEASSERT (R409). Deassertion samples the straps and starts the start-up stages. -/
  | sysResetDeassert (straps : BitVec 6)
  /-- STARTUP_STAGE_DONE (R409). A start-up stage or group completes and the next begins. -/
  | startupStageDone (lp : Option LpTrain) (ms : Nat)
  /-- START_FAIL (R410). A stage exceeds its limit or fails; start-up stops and FAULT_N is asserted. -/
  | startFail
  /-- SYS_RESET_ASSERT (R481). SYS_RESET_N held low 10 µs ends the device as loss of VBUS. -/
  | sysResetAssert
  /-- VBUS_LOW (R408). VBUS below 10.8 V for 10 µs is logged. -/
  | vbusLow (mv : BitVec 16)
  /-- VBUS_LOSS (R408). VBUS below 10.0 V for 10 µs turns every converter off with no records. -/
  | vbusLoss (mv : BitVec 16)
  /-- VAUX_LOSS (R481). VAUX below 3.0 V for 10 µs is treated as loss of VBUS. -/
  | vauxLoss
  /-- PWR_OVERCURRENT (R418). VBUS current above 345 A for 50 µs is device-fatal. -/
  | pwrOvercurrent (da : BitVec 16)
  /-- GOVERNOR_DECISION (R415). At cycle budget - 64 the governor compares next tick's classes with the balance and may request a stretch. -/
  | governorDecision
  /-- POWER_MODE_CHANGE (R412). The mode in effect changes at a tide boundary with clocks and rails. -/
  | powerModeChange
  /-- TJ_SAMPLE (R419). Every 10 µs junction sensors are sampled; 105 °C trips THERMTRIP_N. -/
  | tjSample (tj : List Int)
  /-- PWR_SHUTDOWN (R421). An orderly shutdown ends items, writes the hull log and powers down. -/
  | pwrShutdown
  /-- PWR_MODE_REQ_WRITE (R422). Requests a power mode; a value of 3 is ignored. -/
  | pwrModeReqWrite (v : BitVec 2)
  /-- PWR_CAP_WRITE (R422). Sets PWR_CAP or PWR_BURST for the next tide boundary. -/
  | pwrCapWrite (burst : Bool) (v : BitVec 16)
  /-- OSC_SAMPLE (R423). Every 1,000 ticks replica oscillators are counted for slowdown. -/
  | oscSample (f : List (Nat × Nat))
  /-- SENTINEL_SAMPLE (R423). Every 64 tides SRAM Vmin sentinels are measured. -/
  | sentinelSample (codes : List (BitVec 7))
  /-- MARGIN_REPLAN (R426). Each tide the rail code of every domain is planned for the next tide. -/
  | marginReplan
  /-- HEALTH_SCORE (R432). At each tide boundary the health-risk score is computed and published. -/
  | healthScore
  /-- HULL_WRITE (R430). A hull record is written periodically, on shutdown or on request. -/
  | hullWrite
  /-- HULL_NOW (R430). AGE_CTRL.HULL_NOW requests a hull record in the next tide. -/
  | hullNow
  /-- SEC_CONFIRM (R442). Confirms the running trial image. -/
  | secConfirm
  /-- SEC_SVN_COMMIT (R442). Blows anti-rollback fuses up to the running SVN. -/
  | secSvnCommit
  /-- SEC_REVOKE (R443). Revokes named root key slots unless refused. -/
  | secRevoke (v : Word)
  /-- SEC_DBG_NONCE_READ (R452). Reading the nonce draws a fresh one. -/
  | secDbgNonceRead
  /-- SEC_DBG_UNLOCK (R452). GO checks the debug token and raises DBG_LEVEL. -/
  | secDbgUnlock
  /-- SEC_DBG_LOCK (R452). LOCK returns DBG_LEVEL to 0. -/
  | secDbgLock
  /-- SPDM_GET_VERSION (R446). SPDM GET_VERSION request. -/
  | spdmGetVersion (c : MgmtChan)
  /-- SPDM_GET_CAPABILITIES (R446). SPDM GET_CAPABILITIES request. -/
  | spdmGetCapabilities (c : MgmtChan)
  /-- SPDM_NEGOTIATE_ALGORITHMS (R446). SPDM NEGOTIATE_ALGORITHMS request. -/
  | spdmNegotiateAlgorithms (c : MgmtChan) (ed : Bool) (sha : Bool)
  /-- SPDM_GET_DIGESTS (R446). SPDM GET_DIGESTS request. -/
  | spdmGetDigests (c : MgmtChan)
  /-- SPDM_GET_CERTIFICATE (R446). SPDM GET_CERTIFICATE request on slot 0 or 1. -/
  | spdmGetCertificate (c : MgmtChan) (slot : Nat) (off : Nat) (len : Nat)
  /-- SPDM_CHALLENGE (R446). SPDM CHALLENGE request. -/
  | spdmChallenge (c : MgmtChan) (slot : Nat) (nonce : Bytes)
  /-- SPDM_GET_MEASUREMENTS (R447). Returns measurements including the signed hybrid evidence record. -/
  | spdmGetMeasurements (c : MgmtChan) (ix : Nat) (nonce : Bytes)
  /-- SPDM_UNSUPPORTED (R446). Any other SPDM request is answered UnsupportedRequest. -/
  | spdmUnsupported (c : MgmtChan)
  /-- PLDM_PLATFORM_REQUEST (R450). A PLDM base or platform monitoring request is answered. -/
  | pldmPlatformRequest (c : MgmtChan) (q : PldmReq)
  /-- PLDM_FIRMWARE_UPDATE (R451). Writes, verifies and activates an image in the non-running slot. -/
  | pldmFirmwareUpdate (c : MgmtChan) (q : FwStep)
  /-- MCTP_APERTURE_ACCESS (R449). A vendor-defined MCTP message reads or writes the aperture, or is refused. -/
  | mctpApertureAccess (c : MgmtChan) (write : Bool) (off : Nat) (wide : Bool) (v : BusWord)
  /-- I3C_BROADCAST_TIMEOUT (R448). No I3C broadcast within 100 ms of READY switches the port to SMBus. -/
  | i3cBroadcastTimeout
  /-- MGMT_CTRL_WRITE (R453). Sets management control, refusing APER_EN = 0 from I3C or SMBus. -/
  | mgmtCtrlWrite (r : Requester) (v : Word)
  /-- APER_BAD_ACCESS (R454). An access of wrong size or alignment is not performed and is logged. -/
  | aperBadAccess (r : Requester) (off : Nat) (size : Nat) (write : Bool)
  /-- APER_ABSENT (R455). A write to an offset holding no page is refused and logged. -/
  | aperAbsent (r : Requester) (off : Nat)
  /-- APER_SPLIT_ACCESS (R457). A 4-byte half access of a 64-bit register uses the requester's split latch. -/
  | aperSplitAccess (r : Requester) (off : Nat) (write : Bool) (v : Word)
  /-- PG_SOFT_RESET (R461). Resets a block's RC registers and chapter-named state, or is refused. -/
  | pgSoftReset (r : Requester) (b : Blk) (ix : Nat)
  /-- PG_FREEZE_WRITE (R462). Holds or releases the page's counter view. -/
  | pgFreezeWrite (r : Requester) (b : Blk) (ix : Nat) (v : Bool)
  /-- PG_LEVEL_WRITE (R460). Selects a register level, refusing unsupported levels. -/
  | pgLevelWrite (r : Requester) (b : Blk) (ix : Nat) (v : BitVec 8)
  /-- PG_IRQ_STAT_CLEAR (R463). A W1C write clears interrupt causes. -/
  | pgIrqStatClear (r : Requester) (b : Blk) (ix : Nat) (v : Word)
  /-- PG_IRQ_FORCE (R463). A W1S write forces interrupt causes. -/
  | pgIrqForce (r : Requester) (b : Blk) (ix : Nat) (v : Word)
  /-- PG_ERR_FIRST_CLEAR (R464). Clearing VALID re-arms first-error capture. -/
  | pgErrFirstClear (r : Requester) (b : Blk) (ix : Nat)
  /-- REGISTER_WRITE (R458). A write to a register without a row of its own sets its field or is ignored and logged. -/
  | registerWrite (r : Requester) (at_ : RegAddr) (wide : Bool) (v : BusWord)
  /-- LANES_LOCKED (R358). Equalisation and FEC lock are reached on all four lanes, moving a training port to the exchange or a retraining port back to UP. -/
  | lanesLocked (p : PortIx)
  /-- CREDIT_RETURN (R348). A received IDLE link flit returns flit credits of a VC in its CREDIT field. -/
  | creditReturn (p : PortIx) (b : Bytes)
  /-- ATS_INVALIDATION (R310). An ATS invalidation request from the host removes entries from port A's translation cache and completes within 10 µs. -/
  | atsInvalidation (a : Nat) (n : Nat)
  /-- PCIE_D3HOT_EXIT (R311). The host returns port A's function from D3hot to D0, and the port accepts memory requests again. -/
  | pcieD3hotExit
  /-- VBUS_RETURN (R408). VBUS returns while VAUX has remained, and start-up begins again at stage S0. -/
  | vbusReturn (mv : BitVec 16)
  /-- HULL_WRITE_DONE (R430). A hull record write finishes within 50 ms; HULL_BUSY clears, or a failed read-back retries in the next slot or logs HULL_WRITE_FAIL. -/
  | hullWriteDone (ok : Bool)
  /-- FUSING_DONE (R442). Anti-rollback fuse programming started by SVN_COMMIT finishes, and SEC_STAT.FUSING clears. -/
  | fusingDone
  /-- DCACHE_FLUSH_DONE (R284). A die-cache flush finishes, and DCACHE_STAT.FLUSHING returns to 0. -/
  | dcacheFlushDone (t : DieIx)
  /-- L2_FLUSH_DONE (R308). A server core's L1 and L2 flush finishes, and SRVC_STAT.FLUSHING clears. -/
  | l2FlushDone (k : ServerIx)
  /-- GLOBAL_RESET_DONE (R393). A local reset completes within 50 µs; RESETTING clears and GLOBAL_RESET_DONE is logged. -/
  | globalResetDone
  /-- OFF_READY (R421). An orderly shutdown completes its power-down, sets PWR_STAT.OFF_READY and raises a PLDM event. -/
  | offReady
  /-- I3C_DYNAMIC_ADDRESS_ASSIGNMENT (R448). The I3C bus controller assigns the management port a dynamic address by broadcast. -/
  | i3cDynamicAddressAssignment (addr : BitVec 7)
  /-- MCTP_SET_ENDPOINT_ID (R453). An MCTP endpoint-ID assignment message sets MGMT_EID. -/
  | mctpSetEndpointId (c : MgmtChan) (eid : BitVec 8)
  /-- CACHE_EVICTION (R262). A participant drops a line, sending WB for a dirty line and entering WBP, or sending EVICT for a clean E line. -/
  | cacheEviction (p : PartIx) (a : Nat)
  deriving DecidableEq, Repr

end Sys2Proof
end

