-- ==== Sys2Proof/Decode.lean ====
section
/-!
DEFINITION. Decode.lean: the command that a word spells. The table of operations and events gives its
rows no bits, so no word spells a command.
-/
namespace Sys2Proof

/-- The table's rows have no encoding: every word is refused. -/
def decodeTableWord (_nbits _w : Nat) : Option Instr := none

end Sys2Proof
end

