-- ==== Sys2Proof/Machine/Formats.lean ====
section
/-!
DEFINITION. Machine/Formats.lean: the number formats: decoding, exact arithmetic on values, rounding to
nearest even, stochastic rounding, conversions, microscaling blocks, G16, M8 and V8 (R66–R81).
-/
namespace Sys2Proof.Machine

/-- A value: NaN, an infinity, or ± m · 2^e exactly. `neg` is also the sign of a zero. -/
inductive FVal where
  | nan
  | inf (neg : Bool)
  | fin (neg : Bool) (m : Nat) (e : Int)
  deriving DecidableEq, Repr

/-- How a floating-point format uses its top codes (R67). -/
inductive TopCodes where
  /-- All-ones exponent: infinity and NaN. -/
  | ieee
  /-- E4M3: only the all-ones pattern is NaN, no infinity. -/
  | e4m3
  /-- Every pattern is finite. -/
  | none
  deriving DecidableEq, Repr

/-- A floating-point format: exponent bits, mantissa bits, bias (R67). -/
structure FFmt where
  w : Nat
  p : Nat
  bias : Nat
  top : TopCodes
  deriving DecidableEq, Repr

def FP64 : FFmt := ⟨11, 52, 1023, .ieee⟩
def FP32 : FFmt := ⟨8, 23, 127, .ieee⟩
def BF16 : FFmt := ⟨8, 7, 127, .ieee⟩
def FP16 : FFmt := ⟨5, 10, 15, .ieee⟩
def E4M3 : FFmt := ⟨4, 3, 7, .e4m3⟩
def E5M2 : FFmt := ⟨5, 2, 15, .ieee⟩
def E3M2 : FFmt := ⟨3, 2, 3, .none⟩
def E2M3 : FFmt := ⟨2, 3, 1, .none⟩
def E2M1 : FFmt := ⟨2, 1, 1, .none⟩

/-- Bits of an element. -/
def FFmt.width (f : FFmt) : Nat := 1 + f.w + f.p

/-- The value of a pattern (R67). -/
def FFmt.decode (f : FFmt) (b : Nat) : FVal :=
  let neg := b.testBit (f.w + f.p)
  let E := (b >>> f.p) % 2 ^ f.w
  let m := b % 2 ^ f.p
  let ones := E = 2 ^ f.w - 1
  if f.top = .ieee ∧ ones then (if m = 0 then .inf neg else .nan)
  else if f.top = .e4m3 ∧ ones ∧ m = 2 ^ f.p - 1 then .nan
  else if E = 0 then .fin neg m (1 - (f.bias : Int) - f.p)
  else .fin neg (2 ^ f.p + m) ((E : Int) - f.bias - f.p)

/-- The canonical NaN pattern (R69); a format without NaN answers 0. -/
def FFmt.nanBits (f : FFmt) : Nat :=
  match f.top with
  | .ieee => (2 ^ f.w - 1) * 2 ^ f.p + 2 ^ (f.p - 1)
  | .e4m3 => 2 ^ (f.w + f.p) - 1
  | .none => 0

/-- The sign bit of a pattern. -/
def FFmt.signBit (f : FFmt) (neg : Bool) : Nat := if neg then 2 ^ (f.w + f.p) else 0

/-- The magnitude pattern of the largest finite value. -/
def FFmt.maxMag (f : FFmt) : Nat :=
  match f.top with
  | .ieee => (2 ^ f.w - 1) * 2 ^ f.p - 1
  | .e4m3 => 2 ^ (f.w + f.p) - 2
  | .none => 2 ^ (f.w + f.p) - 1

/-- floor(log2(num/den)) for positive numbers. -/
def ratLog2 (num den : Nat) : Int :=
  let l : Int := (Nat.log2 num : Int) - (Nat.log2 den : Int)
  -- 2^l ≤ num/den, or one less
  let ge := if 0 ≤ l then den * 2 ^ l.toNat ≤ num else den ≤ num * 2 ^ (-l).toNat
  if ge then l else l - 1

/-- num/den · 2^s as a fraction of natural numbers. -/
def scaleRat (num den : Nat) (s : Int) : Nat × Nat :=
  if 0 ≤ s then (num * 2 ^ s.toNat, den) else (num, den * 2 ^ (-s).toNat)

/-- The integer nearest to a/b, ties to even. -/
def rneDiv (a b : Nat) : Nat :=
  let q := a / b
  let r := a % b
  if 2 * r < b then q else if b < 2 * r then q + 1 else if q % 2 = 0 then q else q + 1

/-- The magnitude pattern, in a format without upper limit, of num/den · 2^e rounded to nearest even: the
pattern counts up through subnormals, normals and beyond. -/
def FFmt.roundMag (f : FFmt) (num den : Nat) (e : Int) : Nat :=
  if num = 0 then 0
  else
    let E := ratLog2 num den + e
    let emin : Int := 1 - f.bias
    let Er := if E < emin then emin else E
    let (a, b) := scaleRat num den (e - (Er - f.p))
    let n := rneDiv a b
    -- n ulps of 2^(Er - p); n counts from 2^p for a normal
    if E < emin then n else (Er - emin).toNat * 2 ^ f.p + n

/-- A magnitude pattern with its sign, under the overflow column of R73: infinity where the format has one,
otherwise the largest finite value. -/
def FFmt.clamp (f : FFmt) (neg : Bool) (mag : Nat) : Nat :=
  f.signBit neg + (if mag ≤ f.maxMag then mag
    else match f.top with
      | .ieee => (2 ^ f.w - 1) * 2 ^ f.p
      | _ => f.maxMag)

/-- rne of a fraction num/den · 2^e with a sign (R70, R73). -/
def FFmt.ofRat (f : FFmt) (neg : Bool) (num den : Nat) (e : Int) : Nat := f.clamp neg (f.roundMag num den e)

/-- rne of a value into a format, with the infinity and NaN columns of R73. -/
def FFmt.round (f : FFmt) : FVal → Nat
  | .nan => f.nanBits
  | .inf neg => match f.top with
    | .ieee => f.signBit neg + (2 ^ f.w - 1) * 2 ^ f.p
    | .e4m3 => f.nanBits
    | .none => f.clamp neg (f.maxMag + 1)
  | .fin neg m e => f.ofRat neg m 1 e

/-! ### Exact arithmetic on values -/

namespace FVal

/-- The signed integer m at exponent `e0`, for `e0 ≤ e`. -/
def intAt (neg : Bool) (m : Nat) (e e0 : Int) : Int :=
  let v : Int := (m * 2 ^ (e - e0).toNat : Nat)
  if neg then -v else v

/-- A finite value from a signed integer at an exponent; an exact zero is +0 (R68). -/
def ofInt (v : Int) (e : Int) : FVal := .fin (decide (v < 0)) v.natAbs e

def neg : FVal → FVal
  | .nan => .nan
  | .inf s => .inf (!s)
  | .fin s m e => .fin (!s) m e

def abs : FVal → FVal
  | .nan => .nan
  | .inf _ => .inf false
  | .fin _ m e => .fin false m e

/-- Exact sum; opposite infinities give NaN, opposite values give +0, equal signed zeros keep their sign. -/
def add : FVal → FVal → FVal
  | .nan, _ => .nan
  | _, .nan => .nan
  | .inf a, .inf b => if a = b then .inf a else .nan
  | .inf a, _ => .inf a
  | _, .inf b => .inf b
  | .fin a m e, .fin b n g =>
    if m = 0 ∧ n = 0 then .fin (a && b) 0 0
    else
      let e0 := if e ≤ g then e else g
      ofInt (intAt a m e e0 + intAt b n g e0) e0

def sub (x y : FVal) : FVal := add x y.neg

/-- Exact product; zero times infinity gives NaN. -/
def mul : FVal → FVal → FVal
  | .nan, _ => .nan
  | _, .nan => .nan
  | .inf a, .inf b => .inf (a != b)
  | .inf a, .fin b n _ => if n = 0 then .nan else .inf (a != b)
  | .fin a m _, .inf b => if m = 0 then .nan else .inf (a != b)
  | .fin a m e, .fin b n g => .fin (a != b) (m * n) (e + g)

/-- The value scaled by 2^k. -/
def scale (k : Int) : FVal → FVal
  | .fin s m e => .fin s m (e + k)
  | v => v

def isNaN : FVal → Bool
  | .nan => true
  | _ => false

def isFin : FVal → Bool
  | .fin _ _ _ => true
  | _ => false

def isZero : FVal → Bool
  | .fin _ 0 _ => true
  | _ => false

def isNeg : FVal → Bool
  | .nan => false
  | .inf s => s
  | .fin s _ _ => s

/-- Strictly less, as real numbers with infinities; zeros of either sign are equal. NaN is not less. -/
def lt : FVal → FVal → Bool
  | .nan, _ => false
  | _, .nan => false
  | .inf a, .inf b => a && !b
  | .inf a, _ => a
  | _, .inf b => !b
  | .fin a m e, .fin b n g =>
    let e0 := if e ≤ g then e else g
    decide (intAt a m e e0 < intAt b n g e0)

/-- Quotient rounded to a format (R122): NaN for 0/0 and ∞/∞. -/
def divRound (f : FFmt) : FVal → FVal → Nat
  | .nan, _ => f.nanBits
  | _, .nan => f.nanBits
  | .inf _, .inf _ => f.nanBits
  | .inf a, .fin b _ _ => f.round (.inf (a != b))
  | .fin a _ _, .inf b => f.signBit (a != b)
  | .fin a m e, .fin b n g =>
    if n = 0 then (if m = 0 then f.nanBits else f.round (.inf (a != b)))
    else f.ofRat (a != b) m n (e - g)

end FVal

/-- Bits of the integer square root, from bit `k` down: the largest r with r² ≤ n. -/
def isqrtFrom (n : Nat) : Nat → Nat → Nat
  | 0, r => r
  | k + 1, r =>
    let t := r + 2 ^ k
    if t * t ≤ n then isqrtFrom n k t else isqrtFrom n k r

/-- The integer square root. -/
def isqrt (n : Nat) : Nat := isqrtFrom n (Nat.log2 n / 2 + 1) 0

/-- Square root rounded to a format: −0 stays, other negatives give NaN (R122). The root is taken to more
bits than the format keeps, with the rest folded into a last sticky bit. -/
def FVal.sqrtRound (f : FFmt) : FVal → Nat
  | .nan => f.nanBits
  | .inf s => if s then f.nanBits else f.round (.inf false)
  | .fin s m e =>
    if m = 0 then f.signBit s
    else if s then f.nanBits
    else
      let k := 2 * (f.p + 4)
      let (m, e) := if e % 2 = 0 then (m, e) else (2 * m, e - 1)
      let n := m * 2 ^ (2 * k)
      let r := isqrt n
      f.ofRat false (2 * r + (if r * r = n then 0 else 1)) 1 (e / 2 - k - 1)

/-! ### FP32 shorthands on patterns -/

def dec32 (b : Nat) : FVal := FP32.decode b
def enc32 (v : FVal) : Nat := FP32.round v
def add32 (a b : Nat) : Nat := enc32 ((dec32 a).add (dec32 b))
def sub32 (a b : Nat) : Nat := enc32 ((dec32 a).sub (dec32 b))
def mul32 (a b : Nat) : Nat := enc32 ((dec32 a).mul (dec32 b))
def fma32 (a b c : Nat) : Nat := enc32 (((dec32 a).mul (dec32 b)).add (dec32 c))
def div32 (a b : Nat) : Nat := FVal.divRound FP32 (dec32 a) (dec32 b)
def sqrt32 (a : Nat) : Nat := FVal.sqrtRound FP32 (dec32 a)
/-- The FP32 pattern of a natural number, rounded once. -/
def nat32 (n : Nat) : Nat := FP32.ofRat false n 1 0
/-- The FP32 pattern of 1. -/
def one32 : Nat := 0x3F800000
def nan32 : Nat := 0x7FC00000

/-! ### Stochastic rounding (R71) -/

/-- Stochastic rounding of a value into a floating-point format with draw `d`. -/
def FFmt.sr (f : FFmt) (v : FVal) (d : Nat) : Nat :=
  match v with
  | .nan => f.nanBits
  | .inf s => f.round (.inf s)
  | .fin s m e =>
    if m = 0 then f.signBit s
    else
      let E : Int := (Nat.log2 m : Int) + e
      let emin : Int := 1 - f.bias
      let Er := if E < emin then emin else E
      let (a, b) := scaleRat m 1 (e - (Er - f.p))
      let n := a / b
      let r := a % b
      -- magnitude rounds up when the draw picks the neighbour farther from zero
      let up := if r = 0 then false
        else if s then decide (2 ^ 32 * (b - r) / b ≤ d)   -- negative: hi is nearer to zero
        else decide (d < 2 ^ 32 * r / b)
      let n := if up then n + 1 else n
      f.clamp s (if E < emin then n else (Er - emin).toNat * 2 ^ f.p + n)

/-- Stochastic rounding of num/den (signed numerator) into the integers [lo, hi] with draw `d`. -/
def srInt (num : Int) (den : Nat) (lo hi : Int) (d : Nat) : Int :=
  let q := num / (den : Int)          -- floor
  let r := (num % (den : Int)).toNat
  let v := if r = 0 then q else if d < 2 ^ 32 * r / den then q + 1 else q
  if num < lo * den then lo else if hi * den < num then hi else v

/-! ### Element formats by code (R66, R73) -/

/-- Codes of the formats that are floating-point elements of their own. -/
def floatOf : Nat → Option FFmt
  | 0x00 => some FP64 | 0x01 => some FP32 | 0x02 => some BF16 | 0x03 => some FP16
  | 0x04 => some E4M3 | 0x05 => some E5M2 | 0x06 => some FP16
  | _ => none

/-- Element format of an MX code, for the floating-point ones (R66). -/
def mxElem : Nat → Option FFmt
  | 0x08 => some E4M3 | 0x09 => some E5M2 | 0x0A => some E3M2 | 0x0B => some E2M3 | 0x0C => some E2M1
  | _ => none

/-- A code names an MX format (R66). -/
def isMX (c : Nat) : Bool := decide (0x08 ≤ c ∧ c ≤ 0x0D)

/-- Bits of an element by code (R66). -/
def elemBits : Nat → Nat
  | 0x00 => 64 | 0x01 => 32 | 0x02 => 16 | 0x03 => 16 | 0x04 => 8 | 0x05 => 8 | 0x06 => 16 | 0x07 => 8
  | 0x08 => 8 | 0x09 => 8 | 0x0A => 6 | 0x0B => 6 | 0x0C => 4 | 0x0D => 8 | 0x0E => 8 | 0x0F => 8
  | 0x10 => 32 | _ => 0

/-- The value of an element, for formats without a block scale; G16 elements are scaled by 2^−e and rounded
to FP32 (R77, R78). DESIGN CHOICE (log entry 69): a CONVERT starts from that FP32 value too, where R116 says the exact
value. -/
def decElem (code : Nat) (g16 : Int) (b : Nat) : FVal :=
  match code with
  | 0x06 => dec32 (enc32 ((FP16.decode b).scale (-g16)))
  | 0x07 => FVal.ofInt (sext 8 b) 0
  | 0x10 => FVal.ofInt (sext 32 b) 0
  | _ => match floatOf code with
    | some f => f.decode b
    | none => .nan

/-- The integer nearest to a finite value, ties to even, with its sign. -/
def rneInt (neg : Bool) (m : Nat) (e : Int) : Int :=
  let (a, b) := scaleRat m 1 e
  let n : Int := (rneDiv a b : Nat)
  if neg then -n else n

/-- A value saturated into an n-bit two's complement integer after rounding; NaN gives 0 (R73). -/
def toIntSat (n : Nat) : FVal → Nat
  | .nan => 0
  | .inf s => unsext n (if s then -(2 ^ (n - 1) : Nat) else (2 ^ (n - 1) - 1 : Nat))
  | .fin s m e =>
    let v := rneInt s m e
    let lo : Int := -(2 ^ (n - 1) : Nat)
    let hi : Int := (2 ^ (n - 1) - 1 : Nat)
    unsext n (if v < lo then lo else if hi < v then hi else v)

/-- A value into an element format without a block scale, rounded once (R73, R78). -/
def encElem (code : Nat) (g16 : Int) (v : FVal) : Nat :=
  match code with
  | 0x06 => FP16.round (v.scale g16)
  | 0x07 => toIntSat 8 v
  | 0x10 => toIntSat 32 v
  | _ => match floatOf code with
    | some f => f.round v
    | none => 0

/-! ### Microscaling blocks (R74, R75) -/

/-- The value of an MX element under scale code X (R74). -/
def decMX (code X b : Nat) : FVal :=
  if X = 0xFF then .nan
  else
    let k : Int := (X : Int) - 127
    if code = 0x0D then (FVal.ofInt (sext 8 b) (-6)).scale k
    else match mxElem code with
      | some f => (f.decode b).scale k
      | none => .nan

/-- emax of an MX element format (R75). -/
def mxEmax : Nat → Int
  | 0x08 => 8 | 0x09 => 15 | 0x0A => 4 | 0x0B => 2 | 0x0C => 2 | _ => 0

/-- The larger of two magnitudes given as finite values. -/
def maxAbs (a b : FVal) : FVal := if a.abs.lt b.abs then b.abs else a.abs

/-- floor(log2 |v|) of a finite non-zero value. -/
def FVal.expo : FVal → Int
  | .fin _ m e => (Nat.log2 m : Int) + e
  | _ => 0

/-- An integer forced into a range. -/
def clampI (lo hi x : Int) : Int := if x < lo then lo else if hi < x then hi else x

/-- An MX element from a value already divided by its scale: rounded, and saturated to the largest finite
(R75). -/
def encMXElem (code : Nat) (v : FVal) : Nat :=
  if code = 0x0D then
    match v with
    | .fin s m e => unsext 8 (clampI (-128) 127 (rneInt s m (e + 6)))
    | _ => 0
  else match mxElem code, v with
    | some f, .fin s m e =>
      let mag := f.roundMag m 1 e
      -- E5M2 elements saturate too
      f.signBit s + min mag f.maxMag
    | _, _ => 0

/-- Quantise a block of values: the scale code and the element patterns (R75). -/
def quantMX (code : Nat) (xs : List FVal) : Nat × List Nat :=
  if xs.any (fun x => !x.isFin) then (0xFF, xs.map (fun _ => 0))
  else
    let amax := xs.foldl maxAbs (.fin false 0 0)
    if amax.isZero then (127, xs.map (encMXElem code))
    else
      let X := clampI 0 254 (amax.expo - mxEmax code + 127)
      (X.toNat, xs.map (fun x => encMXElem code (x.scale (127 - X))))

/-- Bytes of a packed block of elements of `bits` bits each, little-endian within the block (R74). -/
def packBits (bits : Nat) (es : List Nat) (nbytes : Nat) : Bytes :=
  natLE nbytes (es.reverse.foldl (fun acc e => acc * 2 ^ bits + e % 2 ^ bits) 0)

/-- Element `i` of packed elements of `bits` bits each. -/
def unpackBit (bits : Nat) (b : Bytes) (i : Nat) : Nat := (leNat b >>> (bits * i)) % 2 ^ bits

/-! ### M8 and V8 (R80, R81) -/

/-- The decoded first moment (R80). -/
def decM8 (X q : Nat) : FVal := if X = 0xFF then .nan else FVal.ofInt (sext 8 q) ((X : Int) - 127)

/-- The decoded root of the second moment (R80). -/
def decR8 (X u : Nat) : FVal := if X = 0xFF then .nan else .fin false u ((X : Int) - 135)

/-- The decoded second moment, rounded to FP32 (R80). -/
def decV8 (X u : Nat) : FVal :=
  if X = 0xFF then .nan else dec32 (enc32 (.fin false (u * u) (2 * (X : Int) - 270)))

/-- The smallest E with k · 2^E ≥ v, for a positive finite v and k = 127 or 255; −127 − `z` for a zero. -/
def scaleExp (k : Nat) (v : FVal) (z : Int) : Int :=
  match v with
  | .fin _ m e =>
    if m = 0 then z
    else
      -- k · 2^E ≥ m · 2^e
      let g : Int := ratLog2 m k          -- 2^g ≤ m/k < 2^(g+1)
      let (a, b) := scaleRat k 1 g
      if m * b = a then g + e else g + 1 + e
  | _ => z

/-- Quantise a block into M8 codes with the draws given (R81). -/
def quantM8 (xs : List FVal) (ds : List Nat) : Nat × List Nat :=
  if xs.any (fun x => !x.isFin) then (0xFF, xs.map (fun _ => 0))
  else
    let E := scaleExp 127 (xs.foldl maxAbs (.fin false 0 0)) (-127)
    let X := clampI 0 254 (E + 127)
    (X.toNat, (xs.zip ds).map (fun xd => match xd.1 with
      | .fin s m e =>
        let (a, b) := scaleRat m 1 (e - (X - 127))
        unsext 8 (srInt (if s then -(a : Int) else a) b (-127) 127 xd.2)
      | _ => 0))

/-- Quantise a block of roots into V8 codes with the draws given (R81). -/
def quantV8 (xs : List FVal) (ds : List Nat) : Nat × List Nat :=
  if xs.any (fun x => !x.isFin) then (0xFF, xs.map (fun _ => 0))
  else
    let E := scaleExp 255 (xs.foldl maxAbs (.fin false 0 0)) (-135) + 8
    let X := clampI 0 254 (E + 127)
    (X.toNat, (xs.zip ds).map (fun xd => match xd.1 with
      | .fin s m e =>
        let (a, b) := scaleRat m 1 (e - (X - 135))
        (srInt (if s then -(a : Int) else a) b 0 255 xd.2).toNat
      | _ => 0))

end Sys2Proof.Machine
end

