-- ==== Sys2Proof/Config.lean ====
section
/-!
DEFINITION. Config.lean: what the manual leaves open or to a source outside it, as constants without a
body. Nothing can evaluate them, so a statement that mentions one holds whatever its value is
(DESIGN CHOICE, safe: log entries 8 and 9; 14 and 44 for the codes of records).
-/
namespace Sys2Proof

/-- A fresh free value: the manual states no result. The argument is the state's own counter of free
values drawn. -/
opaque Config.freeValue : Nat → DWord

/-- What a counter of stalls, waits, traffic or retired instructions has counted between two ticks: the register's
aperture offset, the tick in which it was last cleared, and the tick up to which it counts (log entry 6). -/
opaque Config.counted : Nat → Nat → Nat → Nat

/-- Where within its bound an approximated function's result lies: the function's number and its two
operands give a step that Machine/Approx.lean folds into the bound (R82, R103, R122, R131, R168). The
tables and polynomials behind it belong to the numerics epoch and are not in the manual. -/
opaque Config.approxStep : Nat → Nat → Nat → Nat

/-- The accumulator value with which an operation of the other kind (INT32 for true) continues a held cell, by the
cell's row, column and held pattern: the manual states none, and R84 makes it a function of the inputs (log entry 19). -/
opaque Config.heldAs : Bool → Nat → Nat → Nat → Nat

/-- A slice of a non-finite element whose row is not marked so: slices, exponent entry, plane and the element (0 NaN, 1
+∞, 2 −∞); the manual states none, and R84 makes it a function of the inputs (R109; log entry 19). -/
opaque Config.sliceOf : Nat → Nat → Nat → Nat → Byte

/-- Code of a SEQ page's log record for a refused timetable, by the status: the manual gives the SEQ page no
error codes (R47). -/
opaque Config.seqCode : Nat → Nat

/-- Source and code of the log record of an update event, by its row in the table of R210: the manual gives the
events neither a page nor a code. -/
opaque Config.updSource : Nat → Nat
opaque Config.updCode : Nat → Nat

/-- The directory set of a line in its slice, of 65,536: the manual does not give the hash (R263). -/
opaque Config.dirSet : Nat → Nat

/-- Fused fresh count of a replica oscillator: domain, oscillator, rail code, junction temperature (R423). -/
opaque Config.freshCount : Nat → Nat → Nat → Int → Nat

/-- Fused ageing estimate from which DELTA starts on a device without a hull record, by domain (R431). -/
opaque Config.fusedDelta : Nat → Nat

/-- The algorithms the manual takes from other standards: SHA-384, HKDF-SHA-384 over the unique device secret with an
info string, Ed25519 and ML-DSA-65 verification (key, message, signature) and signing (seed, message) (R438–R447). -/
opaque Config.sha384 : Bytes → Bytes
opaque Config.deriveKey : Bytes → Bytes
opaque Config.edVerify : Bytes → Bytes → Bytes → Bool
opaque Config.mlVerify : Bytes → Bytes → Bytes → Bool
opaque Config.edSign : Bytes → Bytes → Bytes
opaque Config.mlSign : Bytes → Bytes → Bytes

/-- The measurement M1 of the harbour ROM, whose contents the manual does not give (R445). -/
opaque Config.romMeasurement : Bytes

/-- A certificate chain, by slot, from the certificate store and the two measurements that bind its alias
certificate: the manual gives no certificate format (R444, R446, R447). -/
opaque Config.certChain : Nat → Bytes → Bytes → Bytes → Bytes

/-- What a CHALLENGE answer signs: slot, chain digest, nonce (R446). -/
opaque Config.challengeText : Nat → Bytes → Bytes → Bytes

end Sys2Proof
end

