-- ==== Sys2Proof/Machine/Crc.lean ====
section
/-!
DEFINITION. Machine/Crc.lean: the three checks of the part: CRC-32C and CRC-16 (chapter 10) and the
CRC-64 of a flit and of a snapshot digest (R345, R398).
-/
namespace Sys2Proof.Machine

/-- One reflected step of CRC-32C, polynomial 0x1EDC6F41. -/
def crc32cBit (r : Nat) : Nat := if r % 2 = 1 then (r / 2) ^^^ 0x82F63B78 else r / 2

/-- One byte into the CRC-32C register. -/
def crc32cByte (r : Nat) (b : Byte) : Nat :=
  crc32cBit (crc32cBit (crc32cBit (crc32cBit (crc32cBit (crc32cBit (crc32cBit (crc32cBit (r ^^^ b.toNat))))))))

/-- CRC-32C: reflected, initial value and final XOR 0xFFFF_FFFF. -/
def crc32c (bs : Bytes) : Nat := (bs.foldl crc32cByte 0xFFFFFFFF) ^^^ 0xFFFFFFFF

/-- One unreflected step of a CRC of width `w` with polynomial `p`. -/
def crcStep (w p r : Nat) : Nat :=
  if r.testBit (w - 1) then ((r * 2) % 2 ^ w) ^^^ p else (r * 2) % 2 ^ w

/-- One byte into an unreflected CRC register of width `w`. -/
def crcByte (w p r : Nat) (b : Byte) : Nat :=
  let s := crcStep w p
  s (s (s (s (s (s (s (s (r ^^^ (b.toNat <<< (w - 8))))))))))

/-- CRC-16: polynomial 0x1021, unreflected, initial value 0xFFFF, no final XOR. -/
def crc16 (bs : Bytes) : Nat := bs.foldl (crcByte 16 0x1021) 0xFFFF

/-- CRC-64 with the ECMA-182 polynomial, unreflected, initial value and final XOR 0 (R345). -/
def crc64 (bs : Bytes) : Nat := bs.foldl (crcByte 64 0x42F0E1EBA9EA3693) 0

end Sys2Proof.Machine
end

