-- ==== Sys2Proof/Machine/Sparse.lean ====
section
/-!
DEFINITION. Machine/Sparse.lean: sparse maps from numbers to values, as lists of pairs in one canonical
form: keys strictly rising, and no entry equal to what an unlisted key reads as. Memory, registers and
the units' states are kept so. What an unlisted key reads as is the argument `d`.
-/
namespace Sys2Proof.Machine

/-- The value at key `k`. -/
def smGet {α : Type} (d : Nat → α) : List (Nat × α) → Nat → α
  | [], k => d k
  | (j, v) :: m, k => if k = j then v else smGet d m k

/-- The map without an entry for key `k`. -/
def smErase {α : Type} : List (Nat × α) → Nat → List (Nat × α)
  | [], _ => []
  | (j, v) :: m, k => if k = j then m else (j, v) :: smErase m k

/-- The map with entry `v` at key `k`, in its place. -/
def smPut {α : Type} : List (Nat × α) → Nat → α → List (Nat × α)
  | [], k, x => [(k, x)]
  | (j, v) :: m, k, x =>
    if k < j then (k, x) :: (j, v) :: m
    else if k = j then (k, x) :: m
    else (j, v) :: smPut m k x

/-- The map with value `v` at key `k`, in canonical form. -/
def smSet {α : Type} [DecidableEq α] (d : Nat → α) (m : List (Nat × α)) (k : Nat) (v : α) : List (Nat × α) :=
  if v = d k then smErase m k else smPut m k v

/-- Every key of the map is above `lo`, keys rise, and no entry equals the unlisted value. -/
def smWfFrom {α : Type} [DecidableEq α] (d : Nat → α) : Nat → List (Nat × α) → Bool
  | _, [] => true
  | lo, (j, v) :: m => decide (lo ≤ j) && !decide (v = d j) && smWfFrom d (j + 1) m

/-- The canonical form of a sparse map. -/
def smWf {α : Type} [DecidableEq α] (d : Nat → α) (m : List (Nat × α)) : Bool := smWfFrom d 0 m

/-- The element at index `i` of a list replaced by `x`. -/
def setIx {α : Type} (l : List α) (i : Nat) (x : α) : List α := l.set i x

/-- The `n` numbers from `a` upward. -/
def upTo (a : Nat) : Nat → List Nat
  | 0 => []
  | n + 1 => a :: upTo (a + 1) n

/-- `n` copies of `x` joined. -/
def rep {α : Type} (n : Nat) (x : α) : List α := List.replicate n x

/-- A run of exactly `n` values: an operand of another length is cut, or filled with `x` (log entry 3). -/
def fit {α : Type} (n : Nat) (x : α) (l : List α) : List α := (l ++ rep n x).take n

end Sys2Proof.Machine
end

