-- ==== Sys2Proof/Machine/State.lean ====
section
/-!
DEFINITION. Machine/State.lean: everything the block holds, as plain data. What the manual gives as a
register has its one home in `State.regs`, keyed by aperture offset (R467, R468); the rest stands in the
structures below, one per unit. Sparse maps list only what differs from what an unlisted key reads as.
-/
namespace Sys2Proof.Machine

/-- Why the machine stops. No event of the manual stops this block without a state to go on from, so
there is one reason and no meaning raises it. -/
inductive Fault where
  /-- Never raised: kept so that the outcome type is inhabited by a name. Safe. -/
  | none
  deriving DecidableEq, Repr

/-- Why a command has no meaning. -/
inductive Refusal where
  /-- Raised by the dispatch for a command whose meaning is not written. Safe: nothing follows from it. -/
  | notModelled (mnemonic : String)
  deriving DecidableEq, Repr

/-! ### Ticks -/

/-- What a JOIN record carries (R41, R351). -/
structure JoinRec where
  grid : Nat
  tick : Nat
  phase : Nat
  notices : List Nat
  rooted : Bool
  deriving DecidableEq, Repr

/-- What the tick unit holds beside the TICK page (R35–R43, R56–R61, R64). -/
structure TickSt where
  /-- Consecutive missing marks (R37). -/
  miss : Nat
  /-- A TICK_CFG value awaiting its boundary (R64). -/
  cfgPend : Option Word
  /-- Ticks n whose received notice awaits tick n + H (R60). -/
  notices : List Nat
  /-- Ticks n whose notice this device has applied, the count the device itself uses (R42, R462). -/
  applied : List Nat
  /-- Stretch units applied to the current tick (R40). -/
  stretch : Nat
  /-- A notice raised in the current tick for the tick before, which asserts TLATE (R38, R56). -/
  asserting : Bool
  /-- TLATE_STRAY already logged in this tick (R38). -/
  strayLogged : Bool
  /-- The governor has requested a stretch of the next tick (R415, R56). -/
  govReq : Bool
  /-- A failover is due at the next boundary (R39). -/
  failover : Bool
  /-- Ports of the neighbours whose records were checked in this tide, and of those that disagreed (R42). -/
  checked : List Nat
  disagree : List Nat
  /-- A rooted JOIN record awaiting the tide mark it names (R43). -/
  join : Option JoinRec
  /-- Ports whose partner's last JOIN or TIDE record was rooted (R43). -/
  peerRooted : List Nat
  /-- The lag of the data-plane boundaries behind the grid, in reference cycles: the boundary of tick n lies 100 · n + lag
  reference cycles from where the grid's count is 0 (R40, R41). -/
  lag : Int
  /-- Ports that are still owed a JOIN record held back for its number of notices (R351). -/
  joinOwed : List Nat
  /-- The counters were loaded from a rooted neighbour's JOIN record (R43). -/
  adopted : Bool
  /-- The notice of the current tick was the governor's, whose unit is already credited (R415). -/
  govUnit : Bool
  /-- Tide whose boundary has been evaluated last. -/
  tideSeen : Option Nat
  deriving DecidableEq, Repr

def TickSt.reset : TickSt :=
  { miss := 0, cfgPend := none, notices := [], applied := [], stretch := 0, asserting := false,
    strayLogged := false, govReq := false, failover := false, checked := [], disagree := [], join := none,
    peerRooted := [], lag := 0, joinOwed := [], adopted := false, govUnit := false, tideSeen := some 0 }

/-! ### Commands, items and records -/

/-- An item that has ended: its status, the bytes it delivered, the tick of the decision (R327, R328). -/
structure ItemEnd where
  item : Nat
  status : Nat
  bytes : Nat
  tick : Nat
  deriving DecidableEq, Repr

/-- An accepted command (R319, R320, R328). Queue q is source q, dock d is source 64 + d. -/
structure Cmd where
  id : Nat
  src : Nat
  ringIx : Nat
  opcode : Nat
  msi : Bool
  qaddr : Bool
  items : Nat
  tag : Nat
  table : Nat
  cpl : Nat
  start : Nat
  fenceAll : Bool
  voidNonfin : Bool
  cargo : Bytes
  /-- The service descriptor of a QUERY as read at its acceptance (R304). -/
  desc : Bytes
  accTick : Nat
  /-- The opcode's work has begun. -/
  begun : Bool
  /-- Items begun (R389: running from the first issue or access). -/
  running : List Nat
  /-- Items of which an operation has moved or produced an element, and items of which an operation was
  empty (R143). -/
  made : List Nat
  empties : List Nat
  /-- Items of which a reduce contribution was voided (R190, R374). -/
  voided : List Nat
  /-- Items that have failed, with their status and the tick in which it was decided (R58, R327, R385). -/
  failed : List (Nat × (Nat × Nat))
  /-- Items ended, in the order they ended. -/
  ended : List ItemEnd
  /-- Bytes delivered per item so far. -/
  bytes : List (Nat × Nat)
  /-- PCIe ports through which data was written since the last flush (R332). -/
  wrote : List Nat
  /-- Every item ended with one status before any had begun (R321, R328): the status and its tick. -/
  whole : Option (Nat × Nat)
  /-- Item and closing records written so far. -/
  recsOut : Nat
  /-- The last record is written or held: the command is complete. -/
  closed : Bool
  deriving DecidableEq, Repr

/-- A completion record (R327). -/
structure CplRec where
  tag : Nat
  status : Nat
  flags : Nat
  item : Nat
  doneItems : Nat
  bytes : Nat
  tick : Nat
  /-- Not part of the record: the commands whose last record it is, or that are folded into it. -/
  cmds : List Nat
  deriving DecidableEq, Repr

/-- A doorbell: its stamp (tick and cycle) and the tail it publishes (R44, R295, R318). -/
structure Doorbell where
  tick : Nat
  cycle : Nat
  tail : Nat
  deriving DecidableEq, Repr

/-- What a command queue or dock holds beside its page (R294–R298, R317–R341). -/
structure QueueSt where
  /-- Doorbells not yet used up, oldest first. -/
  bells : List Doorbell
  /-- Entries fetched and not accepted (modulo twice the ring size), as the raw entry with a poison mark. -/
  fetched : List (Bytes × Bool)
  /-- Index after the last entry fetched. -/
  fetchIx : Nat
  /-- Records held because the completion ring is full (R297, R329). -/
  held : List (CplRec × Bool)
  /-- The OVERFLOW record folded beside the held log (R337), with the commands folded. -/
  overflow : Option CplRec
  /-- The accepted QUERY that still stands at the head (R305). -/
  head : Option Nat
  /-- After a re-attachment, the records of the held log that come before any new record, and whether the OVERFLOW
  record does (R338). -/
  owed : Nat
  owedOv : Bool
  deriving DecidableEq, Repr

def QueueSt.reset : QueueSt :=
  { bells := [], fetched := [], fetchIx := 0, held := [], overflow := none, head := none, owed := 0, owedOv := false }

/-! ### Sequencers and engines -/

/-- A sailing issued and not complete: one per record, over all its issues (R45, R49, R50, R91). -/
structure SailingRun where
  cmd : Nat
  item : Nat
  recIx : Nat
  /-- Tick of the first issue, and of the last. -/
  tick : Nat
  last : Nat
  /-- The record's 256 bytes (R49). -/
  bytes : Bytes
  hollow : Bool
  /-- The waited flags have been seen set (R51, R52). -/
  waited : Bool
  /-- Operations not yet ended: ME, VE slot 0, VE slot 1. -/
  me : Bool
  ve0 : Bool
  ve1 : Bool
  /-- Late, and running on into one more tick (R59). -/
  extended : Bool
  deriving DecidableEq, Repr

/-- A timetable a SEQ has read (R46, R47). -/
structure TimetableRun where
  cmd : Nat
  bytes : Bytes
  poisoned : Bool
  /-- Tick that tick offset 0 stands for, and the first tick after the load checks (R48, R226). -/
  start : Nat
  first : Nat
  /-- Index of the next record to issue, or in course when some of its issues are done. -/
  pos : Nat
  issues : Nat
  /-- Ferry and link slots enqueued or dropped, as record and unit 0–4 (R226, R232). -/
  enq : List (Nat × Nat)
  /-- Tick of the last issue; one issue a tick. -/
  lastTick : Option Nat
  /-- This timetable's load checks are finished, and the status they refused it with (R47). -/
  read : Bool
  refused : Option Nat
  /-- Every timetable of the command passed: the records may issue. -/
  checked : Bool
  deriving DecidableEq, Repr

/-- What is fetched once more after a failed check (R173, R243, R253), by its address. -/
inductive Refetch where
  | granule (a : Nat)
  | trailer (a : Nat)
  | block (a : Nat)
  deriving DecidableEq, Repr

/-- Coded blocks that a load has fetched and the EXP has still to expand (R252, R253). -/
structure ExpJob where
  /-- First byte of the next block, and the end of the stored data. -/
  addr : Nat
  lim : Nat
  /-- Raw bytes the blocks still owe; a window read owes one block's. -/
  owed : Nat
  /-- The stream ends with the stored data (a berth entry). -/
  whole : Bool
  /-- Raw bytes to drop before landing, where the next byte lands, and raw bytes still to land. -/
  skip : Nat
  dst : Nat
  land : Nat
  deriving DecidableEq, Repr

/-- A slot operation given to an engine or ferry: its command, item, record, slot bytes, and how far it is. -/
structure SlotOp where
  cmd : Nat
  item : Nat
  recIx : Nat
  /-- The record in which it began: an ME operation that goes on takes the numbers of the records it goes on in. -/
  first : Nat
  /-- Issue tick of its record. -/
  tick : Nat
  /-- VE slot 0 or 1; ferry 0–3, or 4 for the link slot. -/
  unit : Nat
  slot : Bytes
  hollow : Bool
  /-- The unit has begun it. -/
  begun : Bool
  /-- Its results are written; only its completion is outstanding. -/
  done : Bool
  /-- Progress within the operation: rows, tiles or descriptors done. -/
  step : Nat
  /-- Bytes it has moved. -/
  moved : Nat
  /-- What is to be fetched once more, and what was fetched again and passed (R173, R243, R253). -/
  refetch : Option Refetch
  retried : List Refetch
  /-- It has issued its last request, so its ferry may start the next (R226). -/
  issued : Bool
  /-- Region generations other than 0, and the die's LIVE table slots, when it was enqueued (R241, R256). -/
  rgen : List (Nat × Nat)
  live : List Nat
  /-- Blocks still to be expanded, and rows to be transposed once they are (R253). -/
  jobs : List ExpJob
  /-- 0 for a record's own slot; k for the k-th ring entry that the record's QRUN has taken, which stands before the QRUN
  in its queue (R229). -/
  ring : Nat
  /-- A link-slot operation, which shares the link ferry's queue (R222, R353). -/
  link : Bool
  /-- A void or failed peer contribution has reached it: its signal is posted poisoned (R354). -/
  voided : Bool
  /-- It has ended in error and posted its signal already (R232). -/
  signalled : Bool
  deriving DecidableEq, Repr

/-- An accumulator set: the kind of its sums and the sums themselves as 32-bit patterns, row by row
(R90). Its state EMPTY, ACCUM, HELD or DRAINING stands in ME_STAT. -/
structure AccSet where
  int32 : Bool
  rows : Nat
  cols : Nat
  vals : List Nat
  deriving DecidableEq, Repr

/-- The block mask a GMASK has bound to the ME operation of its record (R161–R163). -/
structure MaskBind where
  recIx : Nat
  rows : Bool
  bitmap : Bytes
  deriving DecidableEq, Repr

/-- A signal crossing the deck to another core (R51). -/
structure SignalMsg where
  core : Nat
  flag : Nat
  poison : Bool
  deriving DecidableEq, Repr

/-- The architectural state of a RISC-V hart (R133, R285, R286): the pc, the privilege mode (3 M, 1 S, 0 U) and whether
it is virtualised, the registers that are not 0 by number, and the CSRs that are not 0 by number, the PMP's among
them. A hart's instructions are RISC-V's and no command of this block. -/
structure HartSt where
  pc : Nat
  mode : Nat
  virt : Bool
  x : List (Nat × Nat)
  f : List (Nat × Nat)
  v : List (Nat × Nat)
  csrs : List (Nat × Nat)
  deriving DecidableEq, Repr

def HartSt.reset : HartSt := { pc := 0, mode := 3, virt := false, x := [], f := [], v := [], csrs := [] }

/-- What a prep core holds beside its page (R133–R137): its hart, and the value of its CSR PTICKCMP. -/
structure PrepSt where
  hart : HartSt
  tickCmp : Nat
  deriving DecidableEq, Repr

/-- PTICKCMP has no reset value in the manual: the largest value, which no tick reaches before a program sets the
compare (DESIGN CHOICE, unsafe: log entry 5). -/
def PrepSt.reset : PrepSt := { hart := HartSt.reset, tickCmp := 2 ^ 64 - 1 }

/-- A training core (R89–R91, R116–R119, R133–R137, R222–R232). -/
structure CoreSt where
  tt : Option TimetableRun
  sailings : List SailingRun
  /-- ME and VE operations issued and not ended, in issue order; the first is the one in course. -/
  meOps : List SlotOp
  veOps : List SlotOp
  sets : List AccSet
  /-- The combine store: exact 128-bit sums of D-mode partials (R111). -/
  dstore : List Int
  /-- Bound block masks, each for the ME operation that began in its record. -/
  masks : List MaskBind
  /-- FIRST-COME partials already added by the operation in course (R101). -/
  merged : List Nat
  /-- Ferry queues, oldest first (R226). -/
  ferries : List (List SlotOp)
  /-- Tick flags set at present, in the order they were set (R101). -/
  flagOrder : List Nat
  /-- Flags, as a mask, that a prep core or a register write has posted in the present tick, and FERRY_QTAIL of a ferry as
  it was before the present tick's writes: hand-offs that are acted on from the next boundary (R30). -/
  fresh : Nat
  tailOld : List (Nat × Nat)
  prep : PrepSt
  deriving DecidableEq, Repr

def AccSet.empty : AccSet := { int32 := false, rows := 0, cols := 0, vals := [] }

def CoreSt.reset : CoreSt :=
  { tt := none, sailings := [], meOps := [], veOps := [],
    sets := [AccSet.empty, AccSet.empty, AccSet.empty, AccSet.empty], dstore := [], masks := [], merged := [],
    ferries := [[], [], [], []], flagOrder := [], fresh := 0, tailOld := [], prep := PrepSt.reset }

/-! ### Slipway, tags and pontoons -/

/-- An entry of a berth segment: its bytes, push identifier and owner, and whether it lies in the spill range
(R171, R172, R175). -/
structure BerthEntry where
  size : Nat
  id : Nat
  cmd : Nat
  item : Nat
  spill : Bool
  deriving DecidableEq, Repr

/-- What a pontoon is asked to do (R233). UPD and VER run as their shard items' own rows. -/
inductive PontWork where
  /-- The pattern over a range, for a PFILL of a core's store ferry. -/
  | fill (addr len pattern core recIx ring : Nat)
  /-- The exponent move over a GSCALE range (R206): first bucket byte, buckets, up or down. -/
  | gexp (addr len : Nat) (up : Bool)
  /-- Per-1 MiB digests of a snapshot item's body (R398). -/
  | dig
  /-- A shard item of an update (R209). -/
  | upd
  deriving DecidableEq, Repr

/-- A decode-table image read and checked, to become LIVE in the tick after `tick` (R256); `owner` is the
command item that loads it. -/
structure TabLoad where
  die : Nat
  slot : Nat
  image : Bytes
  tick : Nat
  owner : Option (Nat × Nat)
  deriving DecidableEq, Repr

/-- A slot to retire in the tick after `tick` (R256). -/
structure TabRetire where
  die : Nat
  slot : Nat
  tick : Nat
  owner : Option (Nat × Nat)
  deriving DecidableEq, Repr

/-- A pontoon command in its queue. -/
structure PontCmd where
  cmd : Nat
  item : Nat
  work : PontWork
  deriving DecidableEq, Repr

/-! ### RAS -/

/-- A record of the RAS log (R387); its CRC is computed when it is read. -/
structure LogRec where
  tick : Nat
  seq : Nat
  source : Nat
  code : Nat
  cls : Nat
  flags : Nat
  item : Nat
  tag : Nat
  addr : Nat
  info : Nat
  deriving DecidableEq, Repr

/-- What the harbour controller's fault handling holds beside the RAS page (R387–R393). -/
structure RasSt where
  /-- Retained log records, oldest first. -/
  log : List LogRec
  /-- Correctable records entered in this tide, per page base and code (R388). -/
  tideCnt : List ((Nat × Nat) × Nat)
  /-- FAULT_N is asserted. -/
  faultN : Bool
  /-- A leaving sequence awaits its boundary (R391). -/
  leavePend : Bool
  /-- A local reset awaits its boundary (R393). -/
  resetPend : Option Nat
  /-- A micro-batch-void fault awaits the HALT boundary (R390). -/
  haltPend : Option Nat
  /-- T of a SNAPSHOT_AT sent or received whose tick has not come, and the tide in which this device last sent one
  as root (R395, R401). -/
  snapAt : Option Nat
  snapSent : Option Nat
  deriving DecidableEq, Repr

def RasSt.reset : RasSt :=
  { log := [], tideCnt := [], faultN := false, leavePend := false, resetPend := none, haltPend := none,
    snapAt := Option.none, snapSent := Option.none }

/-! ### Power and start-up -/

/-- Whether the package runs (R408–R410, R419, R421, R481). -/
inductive PowerPhase where
  /-- Every converter off: VBUS lost, or THERMTRIP_N latched. -/
  | off
  /-- SYS_RESET_N asserted. -/
  | held
  /-- Start-up in the stage that PWR_STAT.START_STAGE shows. -/
  | starting
  /-- Start-up stopped by a failure. -/
  | failed
  /-- READY. -/
  | ready
  /-- An orderly shutdown is under way. -/
  | closing
  /-- Shut down, OFF_READY set. -/
  | down
  deriving DecidableEq, Repr

/-- What the harbour controller's power side holds beside the PWR pages (R408–R422, R488). -/
structure PwrSt where
  phase : PowerPhase
  /-- Groups of the present start-up stage that have settled. -/
  groups : Nat
  /-- Thermal step as last evaluated, and consecutive cool tides (R488). -/
  step : Nat
  cool : Nat
  /-- Highest Tj of the tide, in °C (R419). -/
  hot : Int
  /-- Energy cap due at the next tide boundary, and consecutive tides within 95 % (R416). -/
  ecap : Nat
  good : Nat
  /-- The mode that the tide boundary found due, to be taken in the first tick of the tide (R29, R412). -/
  modeDue : Option Nat
  /-- PWR_CAP and PWR_BURST values awaiting the tide boundary (R422). -/
  capPend : Option Nat
  burstPend : Option Nat
  /-- VBUS_LOW logged in this tide (R408). -/
  lowLogged : Bool
  /-- An orderly shutdown awaits its boundary (R421). -/
  shutPend : Bool
  /-- THERMTRIP_N latched (R419). -/
  thermtrip : Bool
  /-- The straps as sampled last: MODE0–MODE3, BOOT0, BOOT1 (R473). -/
  straps : Nat
  /-- Milliseconds since the start of S0 (PWR_START_TIME, R409). -/
  startMs : Nat
  deriving DecidableEq, Repr

def PwrSt.reset : PwrSt :=
  { phase := .ready, groups := 0, step := 0, cool := 0, hot := 0, ecap := 0, good := 0, modeDue := Option.none,
    capPend := Option.none, burstPend := Option.none, lowLogged := false, shutPend := false, thermtrip := false,
    straps := 0, startMs := 0 }

/-! ### Ageing and health -/

/-- The device's own event counts of one tide, behind the health-risk score (R432, R462). -/
structure TideEv where
  ue : Nat
  ce : Nat
  therm95 : Nat
  therm100 : Nat
  portFail : Nat
  retrains : Nat
  notices : Nat
  refetch : Nat
  checkFail : Nat
  /-- Thermal cycles of dies 0–5. -/
  cycles : List Nat
  exhausted : Bool
  /-- A lane of a port in use had an eye below 30 mV. -/
  lowEye : Bool
  deriving DecidableEq, Repr

def TideEv.zero : TideEv :=
  { ue := 0, ce := 0, therm95 := 0, therm100 := 0, portFail := 0, retrains := 0, notices := 0, refetch := 0,
    checkFail := 0, cycles := [0, 0, 0, 0, 0, 0], exhausted := false, lowEye := false }

/-- What the harbour controller's ageing side holds beside the AGE pages (R423–R432). -/
structure AgeSt where
  cur : TideEv
  /-- Tides past, newest first, as many as the longest window. -/
  past : List TideEv
  /-- Slowdown samples of this tide per domain and oscillator, in 0.01 % (R423). -/
  samples : List (Nat × (List Nat × List Nat))
  /-- The last 8 tide medians per domain, newest first (R424). -/
  medians : List (Nat × List Nat)
  /-- Per die: highest Tj of the tide, latest Tj, and whether 85 °C was exceeded since the last cycle. -/
  dieHot : List Int
  dieTj : List Int
  warm : List Bool
  /-- Tides per die per Tj bin (R429). -/
  hist : List (List Nat)
  /-- Fused per-domain trim, listed where it is not 0 (R426). -/
  trim : List (Nat × Int)
  /-- Fused and lowest measured regulator efficiency per die, in 0.1 % (R423, R429, R432). -/
  effFused : List Nat
  effLow : List Nat
  effNow : List Nat
  /-- Lowest eye, highest pre-FEC errors, corrected errors since the previous hull record (R429). -/
  eyeLow : List Nat
  berHigh : List Nat
  memCe : List Nat
  /-- Tides in a row in which the lower mode's plan leaves headroom (R427). -/
  easy : Nat
  /-- Domains whose MARGIN_EXHAUSTED and OSC_FAULT were logged in this tide. -/
  exhLogged : List Nat
  /-- Hull records captured and not yet begun, oldest first, without SEQ and CRC; a write of HULL_NOW in this tide;
  the record being written, with its slot and whether it is the retry (R430). -/
  hullReq : List Bytes
  hullNow : Bool
  hullBusy : Option (Nat × Bytes × Bool)
  /-- Slot the next record goes to, and SEQ of the last record, if there is one (R429). -/
  hullNext : Nat
  hullSeq : Option Nat
  /-- The device's own counts of thermal cycles per die and of tides past stage S2 (R429, R462). -/
  cyc : List Nat
  life : Nat
  /-- What the re-plan works from: highest Tj per die and sentinel codes of samples stamped up to tick 899,999 of
  the tide, and the tide planned last (R426). -/
  planHot : List Int
  planSent : List Nat
  planned : Option Nat
  /-- The tide whose score was computed last (R432). -/
  scored : Option Nat
  deriving DecidableEq, Repr

def AgeSt.reset : AgeSt :=
  { cur := TideEv.zero, past := [], samples := [], medians := [], dieHot := [0, 0, 0, 0, 0, 0],
    dieTj := [0, 0, 0, 0, 0, 0], warm := [false, false, false, false, false, false],
    hist := List.replicate 6 (List.replicate 16 0), trim := [], effFused := [0, 0, 0, 0, 0, 0],
    effLow := [1000, 1000, 1000, 1000, 1000, 1000], effNow := [1000, 1000, 1000, 1000, 1000, 1000],
    eyeLow := List.replicate 72 4095, berHigh := List.replicate 72 0, memCe := List.replicate 32 0, easy := 0,
    exhLogged := [], hullReq := [], hullNow := false, hullBusy := Option.none, hullNext := 0,
    hullSeq := Option.none, cyc := [0, 0, 0, 0, 0, 0], life := 0, planHot := [0, 0, 0, 0, 0, 0],
    planSent := List.replicate 192 0, planned := Option.none, scored := Option.none }

/-! ### Security and management -/

/-- What the harbour controller's security side holds beside the SEC page: the fuses of R439 (masks of four slots, and
the hash in each slot), what stage S1 booted (R440, R445), a commit in progress (R442) and a firmware update in
progress: the slot written and the bytes so far (R451). -/
structure SecSt where
  svnMin : Nat
  edProg : Nat
  edRev : Nat
  mlProg : Nat
  mlRev : Nat
  edRoots : List Bytes
  mlRoots : List Bytes
  runSvn : Nat
  edSlot : Nat
  mlSlot : Nat
  digest : Bytes
  fuseTo : Option Nat
  upd : Option (Nat × Nat)
  deriving DecidableEq, Repr

def SecSt.reset : SecSt :=
  { svnMin := 0, edProg := 1, edRev := 0, mlProg := 1, mlRev := 0, edRoots := List.replicate 4 (List.replicate 48 0),
    mlRoots := List.replicate 4 (List.replicate 48 0), runSvn := 0, edSlot := 0, mlSlot := 0,
    digest := List.replicate 48 0, fuseTo := Option.none, upd := Option.none }

/-- What a management sensor shows, sensors 0x0100 on, and the 100 ms interval of the last Tj (R434). -/
structure MgmtSt where
  sensors : List Int
  tjAt : Nat
  deriving DecidableEq, Repr

def MgmtSt.reset : MgmtSt := { sensors := [0, 0, 0, 0, 0, 0, 0], tjAt := 0 }

/-- PLDM events of the device (R419, R421, R434). -/
inductive PldmEvent where
  | coolRequest
  | offReady
  | secureState
  | secureNow
  | marginExhausted
  deriving DecidableEq, Repr

/-- Answers to SPDM requests (R446, R447). -/
inductive SpdmAns where
  | version (vs : List Nat)
  | capabilities
  /-- The algorithms chosen: Ed25519 and SHA-384, where offered. -/
  | algorithms (ed25519 sha384 : Bool)
  | digests (slots : List (Nat × Bytes))
  | certificate (slot : Nat) (part : Bytes) (remainder : Nat)
  | challenge (slot : Nat) (digest : Bytes) (signature : Option Bytes)
  | measurements (blocks : List (Nat × Bytes))
  | invalid
  | unsupported
  deriving DecidableEq, Repr

/-- Answers to PLDM requests (R434, R450, R451). -/
inductive PldmAns where
  | types (ts : List Nat)
  | reading (v : Int)
  | noSensor
  | noCommand
  | updateStarted
  | alreadyInUpdateMode
  | transferred (n : Nat)
  | verifyFailed
  | activateSystemReset
  deriving DecidableEq, Repr

/-- What the management side sends: an event, or an answer on the channel its request came by (R446–R451). -/
inductive MgmtOut where
  | event (e : PldmEvent)
  | spdm (chan : Nat) (a : SpdmAns)
  | pldm (chan : Nat) (a : PldmAns)
  /-- The value an aperture access read, or none for the vendor error answer. -/
  | aper (chan : Nat) (v : Option DWord)
  deriving DecidableEq, Repr

/-! ### Sundlink ports -/

/-- A flit waiting for its first grant: its type, VC and 240 payload bytes, and the operation it belongs
to, as core, record and item when it is a SEND (R343, R353). -/
structure TxFlit where
  typ : Nat
  vc : Nat
  payload : Bytes
  owner : Option (Nat × Nat)
  deriving DecidableEq, Repr

/-- A sequenced flit sent and not acknowledged: sequence, all 256 bytes, owner (R349). -/
structure ReplayFlit where
  seq : Nat
  bytes : Bytes
  owner : Option (Nat × Nat)
  deriving DecidableEq, Repr

/-- An accepted flit waiting for its consumer: type, VC, payload, the sender's tick, our tick of receipt. -/
structure RxFlit where
  typ : Nat
  vc : Nat
  payload : Bytes
  stamp : Nat
  tick : Nat
  deriving DecidableEq, Repr

/-- An Ethernet frame unacknowledged: destination node, FSEQ, flits without CRC (R363). -/
structure EthFrame where
  dest : Nat
  fseq : Nat
  flits : List Bytes
  deriving DecidableEq, Repr

/-- What a Sundlink port holds beside its page (R347–R350, R358–R366). -/
structure PortSt where
  /-- Flits waiting for a first grant, oldest first. -/
  txq : List TxFlit
  /-- Sequence of the next flit; flits unacknowledged, oldest first. -/
  txSeq : Nat
  replay : List ReplayFlit
  /-- Flits of the replay buffer still to be sent again. -/
  resend : Nat
  /-- Replays without advance (R349). -/
  stuck : Nat
  /-- Credits held, and the partner's advertised totals, VC0–VC5 (R348). -/
  credits : List Nat
  advert : List Nat
  /-- Expected sequence, accepted flits not consumed, accepted flits not acknowledged. -/
  rxSeq : Nat
  rxq : List RxFlit
  unacked : Nat
  /-- Credits freed and not yet returned, VC0–VC5. -/
  owed : List Nat
  /-- Free counts of a CREDIT_SYNC whose NAK has not come (R364). -/
  sync : Option (List Nat)
  /-- Grants of other VCs since VC5 or VC3 was served, and the last of VC0 and VC1 served (R347). -/
  starve : Nat
  rr : Nat
  /-- Late notices to send on this port, oldest first (R60). -/
  late : List Nat
  /-- SL_RSVD logged in this tide (R364). -/
  rsvdLogged : Bool
  /-- SLNK_CTRL.MODE as the present training took it: Ethernet (R368). -/
  eth : Bool
  /-- Training: a valid partner record received, the own record acknowledged, a TRAIN flit sent (R358). -/
  partner : Option Bytes
  acked : Bool
  sentTrain : Bool
  /-- Ethernet: next FSEQ per destination, expected FSEQ per source, frames unacknowledged (R363). -/
  fseqTx : List (Nat × Nat)
  fseqRx : List (Nat × Nat)
  frames : List EthFrame
  deriving DecidableEq, Repr

def PortSt.reset : PortSt :=
  { txq := [], txSeq := 0, replay := [], resend := 0, stuck := 0, credits := [0, 0, 0, 0, 0, 0],
    advert := [0, 0, 0, 0, 0, 0], rxSeq := 0, rxq := [], unacked := 0, owed := [0, 0, 0, 0, 0, 0], sync := Option.none, starve := 0,
    rr := 1, late := [], rsvdLogged := false, eth := false, partner := Option.none, acked := false, sentTrain := false,
    fseqTx := [], fseqRx := [], frames := [] }

/-- What a routed message serves when its answer comes (R230, R324, R355, R403). -/
inductive PeerUse where
  /-- A ferry operation: core, record, and ring number of the peer ferry's operation. -/
  | ferry (core recIx ring : Nat)
  /-- A COPY item's peer write. -/
  | copy
  /-- A restore reading from its partner: into its own buffer, or into the arrays it restores. -/
  | restore (buf : Bool)
  deriving DecidableEq, Repr

/-- A routed message outstanding at its source (R355, R357). -/
structure PeerMsg where
  msg : Nat
  node : Nat
  use : PeerUse
  cmd : Nat
  item : Nat
  /-- Remote address, local address, bytes asked or sent, bytes come back. -/
  remote : Nat
  localAddr : Nat
  len : Nat
  got : Nat
  write : Bool
  sent : Nat
  deriving DecidableEq, Repr

/-- A routed message being received for writing (R355): its source and number, whether its tiles are tagged,
its data by address, and the answer it has earned already. -/
structure InMsg where
  node : Nat
  msg : Nat
  tagw : Bool
  parts : List (Nat × Bytes)
  bad : Option Nat
  deriving DecidableEq, Repr

/-- An MCTP packet received: its channel (Sundlink ports 0–17, 18 I3C or SMBus, 19 PCIe) and bytes (R449). -/
structure MgmtPkt where
  chan : Nat
  bytes : Bytes
  deriving DecidableEq, Repr

/-- A surrogate query placed in its batch (R305–R307): its command, the resident service's command, the
descriptor that names the service, the admission tick and slot, the tick its result is due, and where it lies. -/
structure QueryRun where
  cmd : Nat
  svc : Nat
  table : Nat
  core : Nat
  tick : Nat
  slot : Nat
  due : Nat
  len : Nat
  out : Nat
  /-- Tick in which it was placed. -/
  placed : Nat
  /-- Its slot and the header are written in the inbox (R303, R305). -/
  written : Bool
  deriving DecidableEq, Repr

/-- An entry of port A's address-translation cache: bus addresses and what they translate to (R310). -/
structure AtcEntry where
  addr : Nat
  len : Nat
  dest : Nat
  deriving DecidableEq, Repr

/-- What the host sets in the configuration space of port A's function (R310, R313, R331). -/
structure FnCfg where
  /-- Enable Relaxed Ordering. -/
  relaxed : Bool
  msixOn : Bool
  msixMask : Bool
  atsOn : Bool
  /-- Bases of BAR0, BAR2 and BAR4. -/
  bars : List (Nat × Nat)
  deriving DecidableEq, Repr

/-- The reset values of the configuration space; those the manual does not give are PCI Express's own (PRESUMED, unsafe:
log entry 73). -/
def FnCfg.reset : FnCfg := { relaxed := true, msixOn := false, msixMask := false, atsOn := false, bars := [] }

/-- An entry of the MSI-X table: address, data and mask (R315). -/
structure MsixEntry where
  addr : Nat
  data : Nat
  masked : Bool
  deriving DecidableEq, Repr

/-- PRESUMED (unsafe: log entry 73): a vector is masked at reset. -/
def MsixEntry.reset : MsixEntry := { addr := 0, data := 0, masked := true }

/-- What the PCIe side holds beside its pages (R310–R313, R315, R335, R336). -/
structure PcieSt where
  /-- Port A's function is in D3hot. -/
  d3 : Bool
  /-- log2 of the BAR2 size (Resizable BAR). -/
  bar2 : Nat
  atc : List AtcEntry
  /-- Command-queue items are to be aborted at the next boundary (R336): the tick of the loss. -/
  abort : Option Nat
  cfg : FnCfg
  /-- MSI-X table entries that differ from their reset value, by vector, and the vectors pending in the PBA (R315). -/
  msix : List (Nat × MsixEntry)
  pba : List Nat
  deriving DecidableEq, Repr

def PcieSt.reset : PcieSt := { d3 := false, bar2 := 36, atc := [], abort := none, cfg := FnCfg.reset, msix := [], pba := [] }

/-- A collective stream coming in from a child, or from the parent (R372, R373): its data by offset, and what
its LAST flit carried. `closed` says that nothing more of it is taken (R375). -/
structure CollIn where
  port : Nat
  parts : List (Nat × Bytes)
  last : Bool
  count : Nat
  sumsq : Nat
  nonfin : Bool
  split : Bool
  closed : Bool
  deriving DecidableEq, Repr

/-- A collective operation started and not complete (R371–R379): its core, record, item and link slot, its issue
tick, its own contribution, and the streams of its children. -/
structure CollRun where
  core : Nat
  recIx : Nat
  cmd : Nat
  item : Nat
  slot : Bytes
  hollow : Bool
  tick : Nat
  own : CollIn
  kids : List CollIn
  /-- The stream to the parent is sent. -/
  sent : Bool
  /-- Data bytes of the DOWN stream taken. -/
  got : Nat
  /-- The step number that a SUMMARY read (R377). -/
  step : Nat
  deriving DecidableEq, Repr

/-- An entry of the accumulator table (R376). -/
structure AccEntry where
  tree : Nat
  count : Nat
  nonfin : Bool
  sumsq : Nat
  deriving DecidableEq, Repr

/-! ### Coherence -/

/-- The states of a cached line (R262); I is the absence of a copy. -/
inductive LineState where
  | s
  | e
  | m
  /-- Dirty, write-back sent and not yet acknowledged. -/
  | wbp
  deriving DecidableEq, Repr

/-- A participant's copy of a line: participant, line number, state, whether its bollard hold runs (R270), and the cores
behind the participant whose lowest cache, L1 or prep-core data cache, holds it (R261, R287). -/
structure CacheCopy where
  part : Nat
  line : Nat
  st : LineState
  held : Bool
  cores : List Nat
  /-- Server cores of the cluster whose L2 holds the line; each L2 holds what its core's L1 does (R287). -/
  l2 : List Nat
  deriving DecidableEq, Repr

/-- A line of an LLC slice, and whether it is dirty there (R262, R276, R278). -/
structure LlcLine where
  line : Nat
  dirty : Bool
  deriving DecidableEq, Repr

/-- A directory entry (R263): the line, whether it is in E or M, and the sharer bits set. -/
structure DirEntry where
  line : Nat
  owned : Bool
  sharers : List Nat
  deriving DecidableEq, Repr

/-- The snoops of R264. -/
inductive SnoopKind where
  | inv
  | share
  | back
  deriving DecidableEq, Repr

/-- The snoop answers of R264. -/
inductive SnoopRsp where
  | i
  | data
  | dif
  | hold (n : Nat)
  deriving DecidableEq, Repr

/-- A snoop on its way; `again` marks one re-sent after a HOLD. -/
structure CohSnoop where
  part : Nat
  line : Nat
  kind : SnoopKind
  again : Bool
  deriving DecidableEq, Repr

/-- A snoop answer on its way. -/
structure CohAns where
  part : Nat
  line : Nat
  rsp : SnoopRsp
  deriving DecidableEq, Repr

/-- What a head transaction still waits for from a participant: an answer, the re-sending of a held snoop after
n deck cycles, or the write-back that a DIF announced (R269, R270). -/
structure SnoopWait where
  part : Nat
  kind : SnoopKind
  resend : Option Nat
  dif : Bool
  deriving DecidableEq, Repr

/-- What a transaction of a line FIFO asks (R264, R265, R271). -/
inductive TxKind where
  | rdShared
  | rdOwn
  | upgrade
  | rdOnce
  | bulkRd
  | wrLine
  | bulkWr
  | wrPart (mask : Nat)
  | wb
  | evict
  | amo (op : AmoOp) (wide : Bool) (a v : Nat)
  | recall
  | backInv
  deriving DecidableEq, Repr

/-- A transaction of a line FIFO: its requester and core, its data, and how far it is. -/
structure HomeTx where
  kind : TxKind
  agent : CohAgent
  core : Nat
  data : Bytes
  started : Bool
  waits : List SnoopWait
  contended : Bool
  dirty : Bool
  /-- The bulk request it is a line of, and the request's first line. -/
  bulk : Option (Nat × Nat)
  deriving DecidableEq, Repr

/-- What a home or controller sends back (R264). -/
inductive ReplyKind where
  | gntS
  | gntE
  | gntM
  | gntUp
  | dataOnce
  | wrDone
  | amoRsp (old : Nat) (wide : Bool)
  | wbAck
  deriving DecidableEq, Repr

/-- A grant, answer or acknowledgement on its way (R264). -/
structure CohReply where
  agent : CohAgent
  line : Nat
  kind : ReplyKind
  core : Nat
  contended : Bool
  poison : Bool
  data : Bytes
  deriving DecidableEq, Repr

/-- An atomic that waits for ownership of its line, or for its far result (R274). -/
structure AtomRun where
  core : AtomCore
  op : AtomOp
  size : AtomSize
  /-- Its acquire annotation (R276). -/
  aq : Bool
  a : Nat
  v : Nat
  far : Bool
  deriving DecidableEq, Repr

/-- The coherence machinery: copies, directory, line FIFOs, messages on their way, atomics and predictors
(R259–R284). The data of a coherent line is one image, in `State.mem` and `State.poison`. -/
structure CohSt where
  /-- Oldest first. -/
  copies : List CacheCopy
  /-- Lines that their home's LLC slice holds, oldest first. -/
  llc : List LlcLine
  /-- Entries, least recently allocated first (R271). -/
  dir : List DirEntry
  /-- Line FIFOs by line number, oldest transaction first (R265). -/
  fifos : List (Nat × List HomeTx)
  /-- Requests, write-backs and evictions sent and not arrived: line and transaction. -/
  reqs : List (Nat × HomeTx)
  snoops : List CohSnoop
  answers : List CohAns
  replies : List CohReply
  /-- Evictions not yet acknowledged: participant and line. -/
  evs : List (Nat × Nat)
  /-- Predictor counters that are not 0: cache · 4,096 + index; caches 0–127 L2s, 128–131 die caches (R275). -/
  preds : List (Nat × Nat)
  atoms : List AtomRun
  /-- Reservations of LR: core and line. -/
  resv : List (AtomCore × Nat)
  /-- Number of the next bulk request. -/
  nextBulk : Nat
  deriving DecidableEq, Repr

def CohSt.reset : CohSt :=
  { copies := [], llc := [], dir := [], fifos := [], reqs := [], snoops := [], answers := [], replies := [], evs := [],
    preds := [], atoms := [], resv := [], nextBulk := 0 }

/-! ### RISC-V harts (R133–R137, R285–R291) -/

/-- An interrupt file of an IMSIC: 0 machine, 1 supervisor, 2–8 guest files 1–7; whether it delivers, and its
identities 1–2,047 that are enabled and those that are pending (R289). -/
structure ImsicFile where
  deliver : Bool
  enabled : List Nat
  pending : List Nat
  deriving DecidableEq, Repr

def ImsicFile.reset : ImsicFile := { deliver := false, enabled := [], pending := [] }

/-- What a server core holds beside its page (R285–R291): the hart, its interrupt files, and the clean or dirty lines of
its L1 caches stand in the coherence machinery. -/
structure SrvSt where
  hart : HartSt
  files : List (Nat × ImsicFile)
  deriving DecidableEq, Repr

def SrvSt.reset : SrvSt := { hart := HartSt.reset, files := [] }

/-- A wired source of the APLIC (R289): whether it is delegated to the supervisor domain, enabled, pending, and the hart,
file and identity that its target register names. -/
structure AplicSrc where
  source : Nat
  deleg : Bool
  enabled : Bool
  pending : Bool
  hart : Nat
  file : Nat
  eiid : Nat
  deriving DecidableEq, Repr

/-- The APLIC on H0 (R289): the enables of its machine and supervisor domains, and the sources that are set up. -/
structure AplicSt where
  mOn : Bool
  sOn : Bool
  srcs : List AplicSrc
  deriving DecidableEq, Repr

def AplicSt.reset : AplicSt := { mOn := false, sOn := false, srcs := [] }

/-- A shard item of an update in progress (R199, R203): whether it rolls forward, the factor, contributor count and
step it works with, its next block, and whether that block's moment half is done. -/
structure UpdItem where
  item : Nat
  roll : Bool
  factor : Nat
  block : Nat
  mid : Bool
  deriving DecidableEq, Repr

/-- The update in course (R189, R190): its decision and what its records carry. -/
structure UpdRun where
  cmd : Nat
  algo : Nat
  step : Nat
  /-- The decision: status DONE or a skip, and the factor a. -/
  status : Nat
  factor : Nat
  count : Nat
  sumCrc : Nat
  cargoCrc : Nat
  site : Nat
  /-- The update state record, as read once before the decision (R205). -/
  ustate : Bytes
  /-- LAST_STEP of the update state record, and whether the exponent move is with the pontoons, and over. -/
  last : Nat
  queued : Bool
  moved : Bool
  items : List UpdItem
  deriving DecidableEq, Repr

/-- The snapshot in course (R394–R400): its T once known, and after the freeze its step, the update state record, the
items whose shards are held, and the digests computed. -/
structure SnapRun where
  cmd : Nat
  t : Option Nat
  frozen : Bool
  fstep : Nat
  ustate : Bytes
  held : List Nat
  digs : List (Nat × List Nat)
  deriving DecidableEq, Repr

/-- A restore item that reads from its partner (R403): how far it is, the tick in which it began, what its reads have
brought, the partner's descriptor and digests, and the blocks to fetch. -/
structure RvRun where
  cmd : Nat
  item : Nat
  stage : Nat
  start : Nat
  parts : List (Nat × Bytes)
  desc : Bytes
  digs : Bytes
  bad : List Nat
  deriving DecidableEq, Repr

/-- What a logged event says of its item and address (R387). -/
structure LogInfo where
  item : Option Nat
  tag : Option Nat
  addr : Option Nat
  info : Nat
  deriving DecidableEq, Repr

/-- An event with nothing to name. -/
def LogInfo.none : LogInfo := { item := Option.none, tag := Option.none, addr := Option.none, info := 0 }

/-- The regions of the physical address map (R211, R312). -/
inductive Region where
  | hbm
  | tier
  | land
  | outA
  | outB
  | aper
  deriving DecidableEq, Repr

/-- What leaves the block, in the order it leaves. -/
inductive OutMsg where
  /-- An MSI-X write through port A: vector, address and data; it never carries Relaxed Ordering (R316, R329, R331). -/
  | msix (v addr data : Nat)
  /-- A data write of a command through a PCIe port: port, address, bytes, and Relaxed Ordering (R331). -/
  | hostWrite (p a n : Nat) (relaxed : Bool)
  /-- The flush of a port: a zero-length read (R332). -/
  | flush (p : Nat)
  /-- A flit sent on a Sundlink port (R347). -/
  | flit (p : Nat) (bytes : Bytes)
  /-- An Ethernet frame sent on a port to a MAC address, from its MAC header on, without its check sequence (R363). -/
  | frame (p mac : Nat) (bytes : Bytes)
  /-- An answer or event of the management side (R446–R451). -/
  | mgmt (m : MgmtOut)
  deriving DecidableEq, Repr

/-! ### The block -/

/-- The whole block. -/
structure State where
  /-- Commands waiting, first in first out. -/
  pending : List Instr
  /-- Registers that differ from their reset value, by aperture offset. -/
  regs : List (Nat × DWord)
  /-- What the last register read answered. -/
  busRead : DWord
  /-- What the last memory read through the deck, a BAR or the outbound window answered, and whether it came
  poisoned or as an error. -/
  rdData : Bytes
  rdPoison : Bool
  rdError : Bool
  /-- Split latches: requester, page number, offset, held or latched word, and whether it is a write (R457). -/
  latches : List (Requester × Nat × Nat × Word × Bool)
  /-- Bytes of the 52-bit physical address space that differ from zero (R211). -/
  mem : List Host.Cell
  /-- Poison marks: of 64-byte lines by line number, and of the 8-byte words of landing buffers at 2^52 and above
  (R218, R220). -/
  poison : List (Nat × Bool)
  tick : TickSt
  cores : List (Nat × CoreSt)
  /-- Signals crossing the deck, oldest first (R51). -/
  signals : List SignalMsg
  cmds : List Cmd
  nextCmd : Nat
  queues : List (Nat × QueueSt)
  /-- The held-completion log: source and record, oldest first (R337). -/
  heldLog : List (Nat × CplRec)
  queries : List QueryRun
  pcie : PcieSt
  coh : CohSt
  servers : List (Nat × SrvSt)
  upd : Option UpdRun
  snap : Option SnapRun
  rvs : List RvRun
  ras : RasSt
  pwr : PwrSt
  age : AgeSt
  sec : SecSt
  mgmt : MgmtSt
  /-- Bytes of the boot flash that differ from the erased value 0xFF (R436). -/
  flash : List Host.Cell
  ports : List (Nat × PortSt)
  /-- Routed messages outstanding, and the next message number (R355). -/
  msgs : List PeerMsg
  nextMsg : Nat
  /-- Messages being received, and MCTP packets delivered and not yet answered. -/
  inMsgs : List InMsg
  mctpIn : List MgmtPkt
  /-- Collective operations in course, and the accumulator table by stream (R371–R377). -/
  colls : List CollRun
  acc : List (Nat × AccEntry)
  /-- The bytes of the route table as last loaded; none before the first load (R356). -/
  routes : Bytes
  /-- 4 KiB pages whose corrected error was logged in this tide, by storage address (R218). -/
  ceLogged : List Nat
  /-- Berth segments: entries of core c, berth b at 32 c + b, top first (R172). -/
  berths : List (Nat × List BerthEntry)
  /-- Decode-table images: die d, slot q at 8 d + q (R255). -/
  tables : List (Nat × Bytes)
  /-- Table loads and retirements that await the next tick, and the tick in which the in-use count of a
  draining slot, by 8 d + q, became 0 (R256). -/
  tabLoads : List TabLoad
  tabRetire : List TabRetire
  tabZero : List (Nat × Nat)
  /-- Region generations written and not yet in effect: region and value (R240). -/
  rgenPend : List (Nat × Nat)
  /-- Coded tensors as read at enable: region, element format, raw bytes (R251). -/
  coded : List (Nat × (Nat × Nat))
  /-- The retag in course: region, address, length (R242). -/
  retag : Option (Nat × Nat × Nat)
  /-- Commands of each pontoon, oldest first (R233). -/
  ponts : List (Nat × List PontCmd)
  /-- Soft resets that await the next tick boundary: block and instance (R461). -/
  softReset : List (Blk × Nat)
  /-- What has left the block, newest first. -/
  out : List OutMsg
  /-- The tick in which a counter whose count no rule fixes was last cleared, by aperture offset; tick 0 when not listed (log entry 6). -/
  looseFrom : List (Nat × Nat)
  /-- The APLIC on H0 (R289). -/
  aplic : AplicSt
  /-- Tide in which the last scrub pass of a stack (0–19) or LPDDR controller (20–31) ended (R219). -/
  scrubbed : List (Nat × Nat)
  /-- Cycle of the tick in which the last write through the aperture arrived (R44). -/
  busCycle : Nat
  /-- Child streams given up of which flits may still come, by port and stream (R375). -/
  collRest : List (Nat × Nat)
  /-- Free values drawn so far (the model's own counter). -/
  free : Nat
  deriving DecidableEq, Repr

/-- The machine when its pages first report READY (R16): every register at the value of its reset column,
and what has none at 0 or empty (DESIGN CHOICE, unsafe: log entry 5). -/
def State.reset : State :=
  { pending := [], regs := [], busRead := 0, rdData := [], rdPoison := false, rdError := false, latches := [], mem := [], poison := [], tick := TickSt.reset,
    cores := [], signals := [], cmds := [], nextCmd := 0, queues := [], heldLog := [], queries := [], pcie := PcieSt.reset, coh := CohSt.reset, servers := [], upd := Option.none,
    snap := Option.none, rvs := [],
    ras := RasSt.reset, pwr := PwrSt.reset, age := AgeSt.reset, sec := SecSt.reset, mgmt := MgmtSt.reset, flash := [], ports := [], msgs := [], nextMsg := 0, inMsgs := [], mctpIn := [], colls := [], acc := [],
    routes := [], ceLogged := [], berths := [], tables := [], tabLoads := [], tabRetire := [], tabZero := [], rgenPend := [], coded := [],
    retag := Option.none, ponts := [], softReset := [], out := [], looseFrom := [], aplic := AplicSt.reset, scrubbed := [], busCycle := 0, collRest := [], free := 0 }

end Sys2Proof.Machine
end

