-- ==== Sys2Proof/Machine/Hart.lean ====
section
/-!
DEFINITION. Machine/Hart.lean: the RISC-V harts of prep cores and server cores: control and status registers, trap
entry, pending interrupts and interrupt files (R133–R137, R285–R291). The manual gives the harts by their RISC-V
extensions; the CSR numbers and the trap entry are those of the RISC-V privileged architecture (PRESUMED, unsafe: log
entry 65).
-/
namespace Sys2Proof.Machine

/-! ### Control and status registers -/

/-- A CSR by its number; 0 when it is not listed. -/
def HartSt.csr (h : HartSt) (n : Nat) : Nat := smGet (fun _ => 0) h.csrs n

/-- The hart with a CSR set, in 64 bits. -/
def HartSt.setCsr (h : HartSt) (n v : Nat) : HartSt := { h with csrs := smSet (fun _ => 0) h.csrs n (v % 2 ^ 64) }

/-- An integer register; x0 reads 0. -/
def HartSt.xreg (h : HartSt) (n : Nat) : Nat := if n = 0 then 0 else smGet (fun _ => 0) h.x n

/-- The CSRs of a trap into a mode: status, vector, epc, cause and value. -/
structure TrapCsrs where
  status : Nat
  vec : Nat
  epc : Nat
  cause : Nat
  tval : Nat
  deriving DecidableEq, Repr

def mTrap : TrapCsrs := ⟨0x300, 0x305, 0x341, 0x342, 0x343⟩
def sTrap : TrapCsrs := ⟨0x100, 0x105, 0x141, 0x142, 0x143⟩
def vsTrap : TrapCsrs := ⟨0x200, 0x205, 0x241, 0x242, 0x243⟩

/-- Where a trap goes: for a vectored interrupt its own entry, otherwise the base. -/
def trapPc (vec cause : Nat) : Nat :=
  if bit vec 0 && bit cause 63 then vec / 4 * 4 + 4 * (cause % 2 ^ 63) else vec / 4 * 4

/-- A trap into machine mode: MPIE := MIE, MIE := 0, MPP := the mode left. -/
def HartSt.trapM (h : HartSt) (cause epc tval : Nat) : HartSt :=
  let st := h.csr mTrap.status
  let st := setBits (setBits (setBits st 7 7 (bits st 3 3)) 3 3 0) 12 11 h.mode
  { ((((h.setCsr mTrap.status st).setCsr mTrap.epc epc).setCsr mTrap.cause cause).setCsr mTrap.tval tval) with
    mode := 3, virt := false, pc := trapPc (h.csr mTrap.vec) cause }

/-- A trap into a supervisor mode, plain or virtual: SPIE := SIE, SIE := 0, SPP := the mode left. -/
def HartSt.trapS (h : HartSt) (c : TrapCsrs) (virt : Bool) (cause epc tval : Nat) : HartSt :=
  let st := h.csr c.status
  let st := setBits (setBits (setBits st 5 5 (bits st 1 1)) 1 1 0) 8 8 (min h.mode 1)
  { ((((h.setCsr c.status st).setCsr c.epc epc).setCsr c.cause cause).setCsr c.tval tval) with
    mode := 1, virt := virt, pc := trapPc (h.csr c.vec) cause }

/-- An exception is taken in the mode that the delegation registers medeleg and hedeleg give it (R286, R290). -/
def HartSt.trap (h : HartSt) (cause epc tval : Nat) : HartSt :=
  if h.mode = 3 ∨ !bit (h.csr 0x302) cause then h.trapM cause epc tval
  else if h.virt && bit (h.csr 0x602) cause then h.trapS vsTrap true cause epc tval
  else h.trapS sTrap false cause epc tval

/-- A machine interrupt that is pending and enabled is taken, external before software before timer. -/
def HartSt.interrupt (h : HartSt) (pending : Nat) : HartSt :=
  let on := pending &&& h.csr 0x304
  if !(decide (h.mode < 3) || bit (h.csr 0x300) 3) then h
  else if bit on 11 then h.trapM (2 ^ 63 + 11) h.pc 0
  else if bit on 3 then h.trapM (2 ^ 63 + 3) h.pc 0
  else if bit on 7 then h.trapM (2 ^ 63 + 7) h.pc 0
  else h

/-! ### Server cores and their interrupt files (R289) -/

def State.server (s : State) (k : Nat) : SrvSt := smGet (fun _ => SrvSt.reset) s.servers k
def State.setServer (s : State) (k : Nat) (x : SrvSt) : State :=
  { s with servers := smSet (fun _ => SrvSt.reset) s.servers k x }

/-- An interrupt file of a server core. -/
def SrvSt.file (x : SrvSt) (n : Nat) : ImsicFile := smGet (fun _ => ImsicFile.reset) x.files n

/-- An MSI reaches a file of a hart: its identity, 1–2,047, becomes pending; another value is dropped (R289). -/
def State.imsic (s : State) (hart file id : Nat) : State :=
  if 128 ≤ hart ∨ 9 ≤ file ∨ id = 0 ∨ 2048 ≤ id then s
  else
    let x := s.server hart
    let f := x.file file
    let f' := { f with pending := if f.pending.contains id then f.pending else id :: f.pending }
    s.setServer hart { x with files := smSet (fun _ => ImsicFile.reset) x.files file f' }

/-- A source of the APLIC is asserted: once it and its domain are enabled it goes to its target as an MSI; until then it
stays pending. A source that is not set up goes nowhere (R289). -/
def State.aplicSource (s : State) (n : Nat) : State :=
  match s.aplic.srcs.find? (·.source == n) with
  | none => s
  | some x =>
    let go := x.enabled && (if x.deleg then s.aplic.sOn else s.aplic.mOn)
    let t := { s with aplic := { s.aplic with
      srcs := s.aplic.srcs.map (fun y => if y.source == n then { y with pending := !go } else y) } }
    if go then t.imsic x.hart x.file x.eiid else t

end Sys2Proof.Machine
end

