-- ==== Sys2Proof/Machine/Regs.lean ====
section
/-!
DEFINITION. Machine/Regs.lean: the register aperture: where each page lies (R468), which registers each
page holds, with their offsets, widths, access, writable bits and reset values, written from the page
tables of the chapters. A register without a reset value of its own in the tables has the value that
the assumption log names.
-/
namespace Sys2Proof

/-- How a register answers an access (R15). -/
inductive Acc where
  | ro | rw | rw0 | rc | wo | w1c | w1s
  deriving DecidableEq, Repr

/-- One line of a page register list: `cnt` registers of one name, `stride` bytes apart. -/
structure RegRow where
  off : Nat
  cnt : Nat
  stride : Nat
  w64 : Bool
  acc : Acc
  mask : Nat
  reset : Nat
  deriving DecidableEq, Repr

namespace Off
/-! Offsets of the TICK page registers. -/
abbrev TICK_NOW : Nat := 0x080
abbrev TICK_GRID : Nat := 0x088
abbrev TIDE_NOW : Nat := 0x090
abbrev TICK_CFG : Nat := 0x094
abbrev TICK_STAT : Nat := 0x098
abbrev TICK_TIDE_SET : Nat := 0x09C
abbrev TICK_LATE_CNT : Nat := 0x0A0
abbrev TICK_STRETCH_REF : Nat := 0x0A8
abbrev TICK_LAST_LATE : Nat := 0x0B0
abbrev TICK_OVERRUN_CNT : Nat := 0x0B8
abbrev TICK_EVENT_CNT : Nat := 0x0BC
abbrev TICK_HORIZON_MISS : Nat := 0x0C0
/-! Offsets of the SEQ page registers. -/
abbrev SEQ_TT_ADDR : Nat := 0x080
abbrev SEQ_START_TICK : Nat := 0x088
abbrev SEQ_STATE : Nat := 0x090
abbrev SEQ_POS : Nat := 0x094
abbrev SEQ_FLAGS : Nat := 0x098
abbrev SEQ_POISON : Nat := 0x0A0
abbrev SEQ_FLAG_SET : Nat := 0x0A8
abbrev SEQ_FLAG_CLR : Nat := 0x0B0
abbrev SEQ_LAST_OVERRUN : Nat := 0x0B8
abbrev SEQ_OVERRUN_CNT : Nat := 0x0C0
abbrev SEQ_MISS_CYC : Nat := 0x0C4
abbrev SEQ_HOLLOW_CNT : Nat := 0x0C8
abbrev SEQ_COST_MAX : Nat := 0x0CC
/-! Offsets of the ME page registers. -/
abbrev ME_STAT : Nat := 0x080
abbrev ME_ACTIVE_CYC : Nat := 0x088
abbrev ME_DRAIN_CYC : Nat := 0x090
abbrev ME_STALL_CYC : Nat := 0x098
abbrev ME_OP_CNT : Nat := 0x09C
abbrev ME_SAT_CNT : Nat := 0x0A0
abbrev ME_FC_CNT : Nat := 0x0A4
abbrev ME_LAST_ERR : Nat := 0x0A8
/-! Offsets of the VE page registers. -/
abbrev VE_STAT : Nat := 0x080
abbrev VE_ACTIVE_CYC : Nat := 0x088
abbrev VE_STALL_CYC : Nat := 0x090
abbrev VE_OP_CNT : Nat := 0x094
abbrev VE_NAN_CNT : Nat := 0x098
abbrev VE_LAST_ERR : Nat := 0x09C
/-! Offsets of the RNG page registers. -/
abbrev RNG_SEED : Nat := 0x080
abbrev RNG_POS : Nat := 0x088
abbrev RNG_WORD_CNT : Nat := 0x090
abbrev RNG_MISMATCH : Nat := 0x098
abbrev RNG_MISMATCH_CNT : Nat := 0x0A0
abbrev RNG_RESTORE_STEP : Nat := 0x0A8
/-! Offsets of the PREP page registers. -/
abbrev PREP_CTRL : Nat := 0x080
abbrev PREP_STAT : Nat := 0x084
abbrev PREP_RESET_VEC : Nat := 0x088
abbrev PREP_MCAUSE : Nat := 0x090
abbrev PREP_MEPC : Nat := 0x098
abbrev PREP_MTVAL : Nat := 0x0A0
abbrev PREP_IRQ_PEND : Nat := 0x0A8
abbrev PREP_LATE_POST : Nat := 0x0AC
abbrev PREP_INSTRET : Nat := 0x0B0
abbrev PREP_CYCLE : Nat := 0x0B8
/-! Offsets of the SLIP page registers. -/
abbrev SLIP_STAT : Nat := 0x080
abbrev SLIP_LAST_ERR : Nat := 0x088
abbrev SLIP_PUSH_CNT : Nat := 0x090
abbrev SLIP_POP_CNT : Nat := 0x098
abbrev SLIP_SPILL_CNT : Nat := 0x0A0
abbrev SLIP_HWM : Nat := 0x0A8
abbrev SLIP_BASE : Nat := 0x100
abbrev SLIP_LIMIT : Nat := 0x108
abbrev SLIP_SBASE : Nat := 0x110
abbrev SLIP_SLIMIT : Nat := 0x118
abbrev SLIP_HTOP : Nat := 0x120
abbrev SLIP_STOP : Nat := 0x128
abbrev SLIP_BCTRL : Nat := 0x130
abbrev SLIP_BSTAT : Nat := 0x134
abbrev SLIP_TOP_ID : Nat := 0x138
/-! Offsets of the HBMC page registers. -/
abbrev HBMC_MAP : Nat := 0x080
abbrev HBMC_STAT : Nat := 0x084
abbrev HBMC_CE_CNT : Nat := 0x088
abbrev HBMC_UE_CNT : Nat := 0x08C
abbrev HBMC_LAST_ADDR : Nat := 0x090
abbrev HBMC_SCRUB : Nat := 0x098
abbrev HBMC_TEMP : Nat := 0x09C
abbrev HBMC_RD_BYTES : Nat := 0x0A0
abbrev HBMC_WR_BYTES : Nat := 0x0A8
/-! Offsets of the LPDC page registers. -/
abbrev LPDC_TIER : Nat := 0x080
abbrev LPDC_STAT : Nat := 0x084
abbrev LPDC_CE_CNT : Nat := 0x088
abbrev LPDC_UE_CNT : Nat := 0x08C
abbrev LPDC_LINK_CNT : Nat := 0x090
abbrev LPDC_SCRUB : Nat := 0x094
abbrev LPDC_LAST_ADDR : Nat := 0x098
abbrev LPDC_RD_BYTES : Nat := 0x0A0
abbrev LPDC_WR_BYTES : Nat := 0x0A8
/-! Offsets of the PONT page registers. -/
abbrev PONT_STAT : Nat := 0x080
abbrev PONT_CMD_CNT : Nat := 0x088
abbrev PONT_BYTES : Nat := 0x090
abbrev PONT_BUSY_NS : Nat := 0x098
abbrev PONT_LAST_ERR : Nat := 0x0A0
/-! Offsets of the FERRY page registers. -/
abbrev FERRY_STAT : Nat := 0x080
abbrev FERRY_QBASE : Nat := 0x088
abbrev FERRY_QSIZE : Nat := 0x090
abbrev FERRY_QHEAD : Nat := 0x094
abbrev FERRY_QTAIL : Nat := 0x098
abbrev FERRY_BYTES : Nat := 0x0A0
abbrev FERRY_OP_CNT : Nat := 0x0A8
abbrev FERRY_MISS_CYC : Nat := 0x0AC
abbrev FERRY_LAST_ERR : Nat := 0x0B0
abbrev FERRY_ERR_ADDR : Nat := 0x0B8
abbrev FERRY_ERR_NODE : Nat := 0x0C0
/-! Offsets of the LAND page registers. -/
abbrev LAND_STAT : Nat := 0x080
abbrev LAND_CLEAR : Nat := 0x084
abbrev LAND_RD_BYTES : Nat := 0x088
abbrev LAND_WR_BYTES : Nat := 0x090
abbrev LAND_RD_WAIT_CYC : Nat := 0x098
abbrev LAND_WR_WAIT_CYC : Nat := 0x09C
abbrev LAND_CE_CNT : Nat := 0x0A0
abbrev LAND_UE_CNT : Nat := 0x0A4
abbrev LAND_LAST_ERR : Nat := 0x0A8
/-! Offsets of the EXP page registers. -/
abbrev EXP_STAT : Nat := 0x080
abbrev EXP_BLK_RAW : Nat := 0x088
abbrev EXP_BLK_SB : Nat := 0x090
abbrev EXP_BLK_TX : Nat := 0x098
abbrev EXP_DECODE_CYC : Nat := 0x0A0
abbrev EXP_LAG_CYC : Nat := 0x0A8
abbrev EXP_RAW_FALLBACK : Nat := 0x0AC
abbrev EXP_REFETCH_CNT : Nat := 0x0B0
abbrev EXP_LAST_ERR : Nat := 0x0B4
abbrev EXP_ERR_ADDR : Nat := 0x0B8
/-! Offsets of the CTAB page registers. -/
abbrev CTAB_LOAD_ADDR : Nat := 0x080
abbrev CTAB_LOAD_CTRL : Nat := 0x088
abbrev CTAB_RETIRE : Nat := 0x08C
abbrev CTAB_STAT : Nat := 0x090
abbrev CTAB_SLOT : Nat := 0x0A0
abbrev CTAB_INUSE : Nat := 0x0A4
abbrev CTAB_MISSING_CNT : Nat := 0x0E0
/-! Offsets of the TAGR page registers. -/
abbrev TAGR_STAT : Nat := 0x080
abbrev TAGR_RETAG_CTRL : Nat := 0x084
abbrev TAGR_RETAG_ADDR : Nat := 0x088
abbrev TAGR_RETAG_LEN : Nat := 0x090
abbrev TAGR_CHECK_CNT : Nat := 0x098
abbrev TAGR_REFETCH_CNT : Nat := 0x0A0
abbrev TAGR_FAIL_CNT : Nat := 0x0A4
abbrev TAGR_LAST_ADDR : Nat := 0x0A8
abbrev TAGR_LAST_SRC : Nat := 0x0B0
abbrev TAGR_BASE : Nat := 0x100
abbrev TAGR_SIZE : Nat := 0x108
abbrev TAGR_SHADOW : Nat := 0x110
abbrev TAGR_LWIN : Nat := 0x118
abbrev TAGR_RCTRL : Nat := 0x120
abbrev TAGR_RGEN : Nat := 0x124
/-! Offsets of the HOME page registers. -/
abbrev HOME_CFG : Nat := 0x080
abbrev HOME_STAT : Nat := 0x084
abbrev HOME_REQ_CNT : Nat := 0x088
abbrev HOME_SNOOP_CNT : Nat := 0x090
abbrev HOME_HOLD_CNT : Nat := 0x098
abbrev HOME_DIF_CNT : Nat := 0x09C
abbrev HOME_BACKINV_CNT : Nat := 0x0A0
abbrev HOME_FAR_AMO_CNT : Nat := 0x0A8
abbrev HOME_DIR_OCC : Nat := 0x0B0
abbrev HOME_DIR_WAIT_CYC : Nat := 0x0B4
abbrev HOME_FIFO_MAX : Nat := 0x0B8
abbrev HOME_LLC_CE_CNT : Nat := 0x0BC
abbrev HOME_ERR_ADDR : Nat := 0x0C0
abbrev HOME_LLC_UE_CNT : Nat := 0x0C8
/-! Offsets of the DCACHE page registers. -/
abbrev DCACHE_CTRL : Nat := 0x080
abbrev DCACHE_STAT : Nat := 0x084
abbrev DCACHE_HIT_CNT : Nat := 0x088
abbrev DCACHE_MISS_CNT : Nat := 0x090
abbrev DCACHE_ONCE_CNT : Nat := 0x098
abbrev DCACHE_WB_CNT : Nat := 0x0A0
abbrev DCACHE_NEAR_AMO_CNT : Nat := 0x0A8
abbrev DCACHE_FAR_AMO_CNT : Nat := 0x0AC
abbrev DCACHE_HOLD_ANS_CNT : Nat := 0x0B0
abbrev DCACHE_CE_CNT : Nat := 0x0B4
abbrev DCACHE_UE_CNT : Nat := 0x0B8
abbrev DCACHE_ERR_ADDR : Nat := 0x0C0
/-! Offsets of the DOCK page registers. -/
abbrev DOCK_CTRL : Nat := 0x080
abbrev DOCK_STAT : Nat := 0x084
abbrev DOCK_RING_BASE : Nat := 0x088
abbrev DOCK_RING_SIZE : Nat := 0x090
abbrev DOCK_TAIL : Nat := 0x094
abbrev DOCK_HEAD : Nat := 0x098
abbrev DOCK_CPL_BASE : Nat := 0x0A0
abbrev DOCK_CPL_SIZE : Nat := 0x0A8
abbrev DOCK_CPL_HEAD : Nat := 0x0AC
abbrev DOCK_CPL_TAIL : Nat := 0x0B0
abbrev DOCK_MSI : Nat := 0x0B4
abbrev DOCK_MIRROR : Nat := 0x0B8
abbrev DOCK_CMD_CNT : Nat := 0x0C0
abbrev DOCK_HELD_CNT : Nat := 0x0C8
abbrev DOCK_LAST_ERR : Nat := 0x0CC
/-! Offsets of the SRVC page registers. -/
abbrev SRVC_CTRL : Nat := 0x080
abbrev SRVC_STAT : Nat := 0x084
abbrev SRVC_RESET_VEC : Nat := 0x088
abbrev SRVC_CLK : Nat := 0x090
abbrev SRVC_CE_CNT : Nat := 0x094
abbrev SRVC_UE_CNT : Nat := 0x098
abbrev SRVC_POISON_CNT : Nat := 0x09C
abbrev SRVC_ERR_ADDR : Nat := 0x0A0
abbrev SRVC_INSTRET : Nat := 0x0A8
/-! Offsets of the PCIE page registers. -/
abbrev PCIE_CTRL : Nat := 0x080
abbrev PCIE_STAT : Nat := 0x084
abbrev PCIE_BAR2_BASE : Nat := 0x088
abbrev PCIE_RETRAIN_CNT : Nat := 0x090
abbrev PCIE_DOWN_CNT : Nat := 0x094
abbrev PCIE_AER_CNT : Nat := 0x098
abbrev PCIE_UNEXP_CPL_CNT : Nat := 0x09C
abbrev PCIE_HELD_CNT : Nat := 0x0A0
abbrev PCIE_HELD_OVF : Nat := 0x0A4
abbrev PCIE_TX_BYTES : Nat := 0x0A8
abbrev PCIE_RX_BYTES : Nat := 0x0B0
abbrev PCIE_MSIX_SRC : Nat := 0x400
/-! Offsets of the CQ page registers. -/
abbrev CQ_CTRL : Nat := 0x080
abbrev CQ_STAT : Nat := 0x084
abbrev CQ_RING_BASE : Nat := 0x088
abbrev CQ_RING_SIZE : Nat := 0x090
abbrev CQ_TAIL : Nat := 0x094
abbrev CQ_HEAD : Nat := 0x098
abbrev CQ_CPL_BASE : Nat := 0x0A0
abbrev CQ_CPL_SIZE : Nat := 0x0A8
abbrev CQ_CPL_HEAD : Nat := 0x0AC
abbrev CQ_CPL_TAIL : Nat := 0x0B0
abbrev CQ_CMD_CNT : Nat := 0x0B8
abbrev CQ_HELD_CNT : Nat := 0x0C0
abbrev CQ_LAST_ERR : Nat := 0x0C4
/-! Offsets of the SLNK page registers. -/
abbrev SLNK_CTRL : Nat := 0x080
abbrev SLNK_STAT : Nat := 0x084
abbrev SLNK_NODE : Nat := 0x088
abbrev SLNK_PEER : Nat := 0x08C
abbrev SLNK_PEER_EPOCH : Nat := 0x090
abbrev SLNK_PIN : Nat := 0x098
abbrev SLNK_TX_FLITS : Nat := 0x0A0
abbrev SLNK_RX_FLITS : Nat := 0x0A8
abbrev SLNK_CRC_CNT : Nat := 0x0B0
abbrev SLNK_REPLAY_CNT : Nat := 0x0B4
abbrev SLNK_RETRAIN_CNT : Nat := 0x0B8
abbrev SLNK_VIOL_TIDE : Nat := 0x0BC
abbrev SLNK_VIOL_TOTAL : Nat := 0x0C0
abbrev SLNK_LAST_VIOL : Nat := 0x0C4
abbrev SLNK_ROUTE_BASE : Nat := 0x0C8
abbrev SLNK_MSG_TIMEOUT : Nat := 0x0D0
abbrev SLNK_ROUTE_RELOAD : Nat := 0x0D4
abbrev SLNK_ETH_CTRL : Nat := 0x0D8
abbrev SLNK_ETH_MTU : Nat := 0x0DC
abbrev SLNK_ETH_MAC : Nat := 0x0E0
abbrev SLNK_ETH_NBR_BASE : Nat := 0x0E8
abbrev SLNK_LANE : Nat := 0x100
/-! Offsets of the COLL page registers. -/
abbrev COLL_STAT : Nat := 0x080
abbrev COLL_FLOOD_TREE : Nat := 0x084
abbrev COLL_REDUCE_CNT : Nat := 0x088
abbrev COLL_BYTES : Nat := 0x090
abbrev COLL_VOID_CNT : Nat := 0x098
abbrev COLL_TIMEOUT_CNT : Nat := 0x09C
abbrev COLL_NONFIN_CNT : Nat := 0x0A0
abbrev COLL_LAST_ERR : Nat := 0x0A4
abbrev COLL_FLOOD_LAST : Nat := 0x0A8
abbrev COLL_TREE : Nat := 0x100
/-! Offsets of the RAS page registers. -/
abbrev RAS_CTRL : Nat := 0x080
abbrev RAS_STAT : Nat := 0x084
abbrev RAS_LOG_HEAD : Nat := 0x088
abbrev RAS_LOG_TAIL : Nat := 0x090
abbrev RAS_LOG_SEL : Nat := 0x098
abbrev RAS_DROP_CNT : Nat := 0x0A0
abbrev RAS_SNAP_LEAD : Nat := 0x0A4
abbrev RAS_SNAP_GAP : Nat := 0x0A8
abbrev RAS_CPL_LOST_CNT : Nat := 0x0AC
abbrev RAS_FATAL_SRC : Nat := 0x0B0
abbrev RAS_FATAL_CODE : Nat := 0x0B4
abbrev RAS_FATAL_TICK : Nat := 0x0B8
abbrev RAS_SNAP_STAT : Nat := 0x0C0
abbrev RAS_SNAP_T : Nat := 0x0C8
abbrev RAS_SNAP_FSTEP : Nat := 0x0D0
abbrev RAS_LOG_REC : Nat := 0x100
/-! Offsets of the PWR page registers. -/
abbrev PWR_CTRL : Nat := 0x080
abbrev PWR_STAT : Nat := 0x084
abbrev PWR_CAP : Nat := 0x088
abbrev PWR_BURST : Nat := 0x08C
abbrev PWR_DIE_BUDGET : Nat := 0x090
abbrev PWR_VBUS : Nat := 0x0A0
abbrev PWR_TJ : Nat := 0x0A4
abbrev PWR_TIDE_ENERGY : Nat := 0x0A8
abbrev PWR_GOV_STRETCH_CNT : Nat := 0x0B0
abbrev PWR_GOV_FLAG_CNT : Nat := 0x0B4
abbrev PWR_THERM_CNT : Nat := 0x0B8
abbrev PWR_START_TIME : Nat := 0x0BC
abbrev PWR_DIE_ENERGY : Nat := 0x0C0
abbrev PWR_GOV_BAL : Nat := 0x0F0
abbrev PWR_DIE_LIMIT : Nat := 0x100
/-! Offsets of the PWR1 page registers. -/
abbrev PWR_CORE_V : Nat := 0x080
/-! Offsets of the PWR2 page registers. -/
abbrev PWR_CLUS_V : Nat := 0x080
/-! Offsets of the AGE page registers. -/
abbrev AGE_CTRL : Nat := 0x080
abbrev AGE_STAT : Nat := 0x084
abbrev AGE_COMP : Nat := 0x088
abbrev AGE_HEADROOM : Nat := 0x08C
abbrev AGE_LIFE_TIDES : Nat := 0x090
abbrev AGE_LIFE_USED : Nat := 0x098
abbrev AGE_HULL_SEQ : Nat := 0x0A0
abbrev AGE_HULL_TIDE : Nat := 0x0A8
abbrev AGE_EXHAUST_CNT : Nat := 0x0AC
abbrev AGE_CYCLES : Nat := 0x0B0
/-! Offsets of the AGE1 page registers. -/
abbrev AGE_DOMAIN : Nat := 0x080
abbrev AGE_SENT : Nat := 0x600
/-! Offsets of the SEC page registers. -/
abbrev SEC_STAT : Nat := 0x080
abbrev SEC_SVN : Nat := 0x084
abbrev SEC_KEYSTAT : Nat := 0x088
abbrev SEC_CTRL : Nat := 0x08C
abbrev SEC_REVOKE : Nat := 0x090
abbrev SEC_DBG_TOKEN_ADDR : Nat := 0x098
abbrev SEC_DBG_CTRL : Nat := 0x0A0
abbrev SEC_DBG_NONCE : Nat := 0x0C0
abbrev SEC_MEAS : Nat := 0x100
/-! Offsets of the MGMT page registers. -/
abbrev MGMT_CTRL : Nat := 0x080
abbrev MGMT_STAT : Nat := 0x084
abbrev MGMT_EID : Nat := 0x088
abbrev MGMT_SPDM_CNT : Nat := 0x08C
abbrev MGMT_PLDM_CNT : Nat := 0x090
abbrev MGMT_DROP_CNT : Nat := 0x094
/-! Offsets of the Common header page registers. -/
abbrev PG_ID : Nat := 0x000
abbrev PG_VER : Nat := 0x004
abbrev PG_CAP0 : Nat := 0x008
abbrev PG_CAP1 : Nat := 0x00C
abbrev PG_CTRL : Nat := 0x010
abbrev PG_STAT : Nat := 0x014
abbrev PG_IRQ_STAT : Nat := 0x018
abbrev PG_IRQ_EN : Nat := 0x01C
abbrev PG_IRQ_FORCE : Nat := 0x020
abbrev PG_ERR_FIRST : Nat := 0x028
abbrev PG_ERR_TICK : Nat := 0x030
abbrev PG_ERR_CNT : Nat := 0x038
/-! Offsets of the CORE page registers. -/
abbrev CORE_ID : Nat := 0x080
abbrev CORE_IRQ_SUM : Nat := 0x084
/-! Offsets of the PGDIR page registers. -/
abbrev PGDIR_NENT : Nat := 0x080
abbrev PGDIR_BAD_CNT : Nat := 0x084
abbrev PGDIR_LAST_BAD : Nat := 0x088
abbrev PGDIR_ENT : Nat := 0x100
/-! Offsets of the DEVID page registers. -/
abbrev DEVID_VENDOR : Nat := 0x080
abbrev DEVID_DEVICE : Nat := 0x084
abbrev DEVID_REV : Nat := 0x088
abbrev DEVID_SERIAL : Nat := 0x090
abbrev DEVID_EPOCHS : Nat := 0x098
abbrev DEVID_ORDER : Nat := 0x0A0
abbrev DEVID_MVENDORID : Nat := 0x0B0
abbrev DEVID_MARCHID : Nat := 0x0B8
abbrev DEVID_MIMPID : Nat := 0x0C0
abbrev DEVID_STRAPS : Nat := 0x0C8
end Off

/-- The TICK page register list. -/
def tickRows : List RegRow :=
  [
⟨0x080, 1, 0, true, .ro, 0x0, 0⟩,
   ⟨0x088, 1, 0, true, .ro, 0x0, 0⟩,
   ⟨0x090, 1, 0, false, .ro, 0x0, 0⟩,
   ⟨0x094, 1, 0, false, .rw, 0xffff03, 0x400800⟩,
   ⟨0x098, 1, 0, false, .ro, 0x0, 1⟩,
   ⟨0x09C, 1, 0, false, .rw, 0xffffffff, 0⟩,
   ⟨0x0A0, 1, 0, true, .ro, 0x0, 0⟩,
   ⟨0x0A8, 1, 0, true, .ro, 0x0, 0⟩,
   ⟨0x0B0, 1, 0, true, .ro, 0x0, 0⟩,
   ⟨0x0B8, 1, 0, false, .rc, 0x0, 0⟩,
   ⟨0x0BC, 1, 0, false, .rc, 0x0, 0⟩,
   ⟨0x0C0, 1, 0, false, .rc, 0x0, 0⟩]

/-- The SEQ page register list. -/
def seqRows : List RegRow :=
  [
⟨0x080, 1, 0, true, .ro, 0x0, 0⟩,
   ⟨0x088, 1, 0, true, .ro, 0x0, 0⟩,
   ⟨0x090, 1, 0, false, .ro, 0x0, 0⟩,
   ⟨0x094, 1, 0, false, .ro, 0x0, 0⟩,
   ⟨0x098, 1, 0, true, .ro, 0x0, 0⟩,
   ⟨0x0A0, 1, 0, true, .ro, 0x0, 0⟩,
   ⟨0x0A8, 1, 0, true, .wo, 0x0, 0⟩,
   ⟨0x0B0, 1, 0, true, .wo, 0x0, 0⟩,
   ⟨0x0B8, 1, 0, true, .ro, 0x0, 0⟩,
   ⟨0x0C0, 1, 0, false, .rc, 0x0, 0⟩,
   ⟨0x0C4, 1, 0, false, .rc, 0x0, 0⟩,
   ⟨0x0C8, 1, 0, false, .rc, 0x0, 0⟩,
   ⟨0x0CC, 1, 0, false, .rc, 0x0, 0⟩]

/-- The ME page register list. -/
def meRows : List RegRow :=
  [
⟨0x080, 1, 0, false, .ro, 0x0, 0⟩,
   ⟨0x088, 1, 0, true, .rc, 0x0, 0⟩,
   ⟨0x090, 1, 0, true, .rc, 0x0, 0⟩,
   ⟨0x098, 1, 0, false, .rc, 0x0, 0⟩,
   ⟨0x09C, 1, 0, false, .rc, 0x0, 0⟩,
   ⟨0x0A0, 1, 0, false, .rc, 0x0, 0⟩,
   ⟨0x0A4, 1, 0, false, .rc, 0x0, 0⟩,
   ⟨0x0A8, 1, 0, false, .ro, 0x0, 0⟩]

/-- The VE page register list. -/
def veRows : List RegRow :=
  [
⟨0x080, 1, 0, false, .ro, 0x0, 0⟩,
   ⟨0x088, 1, 0, true, .rc, 0x0, 0⟩,
   ⟨0x090, 1, 0, false, .rc, 0x0, 0⟩,
   ⟨0x094, 1, 0, false, .rc, 0x0, 0⟩,
   ⟨0x098, 1, 0, false, .rc, 0x0, 0⟩,
   ⟨0x09C, 1, 0, false, .ro, 0x0, 0⟩]

/-- The RNG page register list. -/
def rngRows : List RegRow :=
  [
⟨0x080, 1, 0, true, .rw, 0xffffffffffffffff, 0⟩,
   ⟨0x088, 1, 0, true, .rw, 0xffffffffffffffff, 0⟩,
   ⟨0x090, 1, 0, true, .rc, 0x0, 0⟩,
   ⟨0x098, 1, 0, true, .ro, 0x0, 0⟩,
   ⟨0x0A0, 1, 0, false, .rc, 0x0, 0⟩,
   ⟨0x0A8, 1, 0, true, .wo, 0x0, 0⟩]

/-- The PREP page register list. -/
def prepRows : List RegRow :=
  [
⟨0x080, 1, 0, false, .rw, 0x1, 0⟩,
   ⟨0x084, 1, 0, false, .ro, 0x0, 0⟩,
   ⟨0x088, 1, 0, true, .rw, 0xffffffffffffffff, 0⟩,
   ⟨0x090, 1, 0, true, .ro, 0x0, 0⟩,
   ⟨0x098, 1, 0, true, .ro, 0x0, 0⟩,
   ⟨0x0A0, 1, 0, true, .ro, 0x0, 0⟩,
   ⟨0x0A8, 1, 0, false, .ro, 0x0, 0⟩,
   ⟨0x0AC, 1, 0, false, .rc, 0x0, 0⟩,
   ⟨0x0B0, 1, 0, true, .rc, 0x0, 0⟩,
   ⟨0x0B8, 1, 0, true, .rc, 0x0, 0⟩]

/-- The SLIP page register list. -/
def slipRows : List RegRow :=
  [
⟨0x080, 1, 0, false, .ro, 0x0, 0⟩,
   ⟨0x088, 1, 0, true, .ro, 0x0, 0⟩,
   ⟨0x090, 1, 0, true, .rc, 0x0, 0⟩,
   ⟨0x098, 1, 0, true, .rc, 0x0, 0⟩,
   ⟨0x0A0, 1, 0, true, .rc, 0x0, 0⟩,
   ⟨0x0A8, 1, 0, true, .rc, 0x0, 0⟩,
   ⟨0x100, 32, 64, true, .rw, 0xffffffffffffffff, 0⟩,
   ⟨0x108, 32, 64, true, .rw, 0xffffffffffffffff, 0⟩,
   ⟨0x110, 32, 64, true, .rw, 0xffffffffffffffff, 0⟩,
   ⟨0x118, 32, 64, true, .rw, 0xffffffffffffffff, 0⟩,
   ⟨0x120, 32, 64, true, .ro, 0x0, 0⟩,
   ⟨0x128, 32, 64, true, .ro, 0x0, 0⟩,
   ⟨0x130, 32, 64, false, .rw, 0x3, 0⟩,
   ⟨0x134, 32, 64, false, .ro, 0x0, 1⟩,
   ⟨0x138, 32, 64, false, .ro, 0x0, 0⟩]

/-- The HBMC page register list. -/
def hbmcRows : List RegRow :=
  [
⟨0x080, 1, 0, false, .rw0, 0x7f, 0x10⟩,
   ⟨0x084, 1, 0, false, .ro, 0x0, 1⟩,
   ⟨0x088, 1, 0, false, .rc, 0x0, 0⟩,
   ⟨0x08C, 1, 0, false, .rc, 0x0, 0⟩,
   ⟨0x090, 1, 0, true, .ro, 0x0, 0⟩,
   ⟨0x098, 1, 0, false, .rw, 0xffffffff, 0x15180⟩,
   ⟨0x09C, 1, 0, false, .ro, 0x0, 0⟩,
   ⟨0x0A0, 1, 0, true, .rc, 0x0, 0⟩,
   ⟨0x0A8, 1, 0, true, .rc, 0x0, 0⟩]

/-- The LPDC page register list. -/
def lpdcRows : List RegRow :=
  [
⟨0x080, 1, 0, false, .rw0, 0x3, 1⟩,
   ⟨0x084, 1, 0, false, .ro, 0x0, 0x805⟩,
   ⟨0x088, 1, 0, false, .rc, 0x0, 0⟩,
   ⟨0x08C, 1, 0, false, .rc, 0x0, 0⟩,
   ⟨0x090, 1, 0, false, .rc, 0x0, 0⟩,
   ⟨0x094, 1, 0, false, .rw, 0xffffffff, 0x15180⟩,
   ⟨0x098, 1, 0, true, .ro, 0x0, 0⟩,
   ⟨0x0A0, 1, 0, true, .rc, 0x0, 0⟩,
   ⟨0x0A8, 1, 0, true, .rc, 0x0, 0⟩]

/-- The PONT page register list. -/
def pontRows : List RegRow :=
  [
⟨0x080, 1, 0, false, .ro, 0x0, 0⟩,
   ⟨0x088, 1, 0, true, .rc, 0x0, 0⟩,
   ⟨0x090, 1, 0, true, .rc, 0x0, 0⟩,
   ⟨0x098, 1, 0, true, .rc, 0x0, 0⟩,
   ⟨0x0A0, 1, 0, false, .ro, 0x0, 0⟩]

/-- The FERRY page register list. -/
def ferryRows : List RegRow :=
  [
⟨0x080, 1, 0, false, .ro, 0x0, 0⟩,
   ⟨0x088, 1, 0, true, .rw, 0x3fffc0, 0⟩,
   ⟨0x090, 1, 0, false, .rw, 0xffffffff, 0x10⟩,
   ⟨0x094, 1, 0, false, .ro, 0x0, 0⟩,
   ⟨0x098, 1, 0, false, .rw, 0xffffffff, 0⟩,
   ⟨0x0A0, 1, 0, true, .rc, 0x0, 0⟩,
   ⟨0x0A8, 1, 0, false, .rc, 0x0, 0⟩,
   ⟨0x0AC, 1, 0, false, .rc, 0x0, 0⟩,
   ⟨0x0B0, 1, 0, false, .ro, 0x0, 0⟩,
   ⟨0x0B8, 1, 0, true, .ro, 0x0, 0⟩,
   ⟨0x0C0, 1, 0, false, .ro, 0x0, 0⟩]

/-- The LAND page register list. -/
def landRows : List RegRow :=
  [
⟨0x080, 1, 0, false, .ro, 0x0, 0⟩,
   ⟨0x084, 1, 0, false, .wo, 0x0, 0⟩,
   ⟨0x088, 1, 0, true, .rc, 0x0, 0⟩,
   ⟨0x090, 1, 0, true, .rc, 0x0, 0⟩,
   ⟨0x098, 1, 0, false, .rc, 0x0, 0⟩,
   ⟨0x09C, 1, 0, false, .rc, 0x0, 0⟩,
   ⟨0x0A0, 1, 0, false, .rc, 0x0, 0⟩,
   ⟨0x0A4, 1, 0, false, .rc, 0x0, 0⟩,
   ⟨0x0A8, 1, 0, false, .ro, 0x0, 0⟩]

/-- The EXP page register list. -/
def expRows : List RegRow :=
  [
⟨0x080, 1, 0, false, .ro, 0x0, 0⟩,
   ⟨0x088, 1, 0, true, .rc, 0x0, 0⟩,
   ⟨0x090, 1, 0, true, .rc, 0x0, 0⟩,
   ⟨0x098, 1, 0, true, .rc, 0x0, 0⟩,
   ⟨0x0A0, 1, 0, true, .rc, 0x0, 0⟩,
   ⟨0x0A8, 1, 0, false, .rc, 0x0, 0⟩,
   ⟨0x0AC, 1, 0, false, .rc, 0x0, 0⟩,
   ⟨0x0B0, 1, 0, false, .rc, 0x0, 0⟩,
   ⟨0x0B4, 1, 0, false, .ro, 0x0, 0⟩,
   ⟨0x0B8, 1, 0, true, .ro, 0x0, 0⟩]

/-- The CTAB page register list. -/
def ctabRows : List RegRow :=
  [
⟨0x080, 1, 0, true, .rw, 0xffffffffffffffff, 0⟩,
   ⟨0x088, 1, 0, false, .rw, 0xe, 0⟩,
   ⟨0x08C, 1, 0, false, .wo, 0x0, 0⟩,
   ⟨0x090, 1, 0, false, .ro, 0x0, 0⟩,
   ⟨0x0A0, 8, 8, false, .ro, 0x0, 0⟩,
   ⟨0x0A4, 8, 8, false, .ro, 0x0, 0⟩,
   ⟨0x0E0, 1, 0, false, .rc, 0x0, 0⟩]

/-- The TAGR page register list. -/
def tagrRows : List RegRow :=
  [
⟨0x080, 1, 0, false, .ro, 0x0, 0⟩,
   ⟨0x084, 1, 0, false, .rw, 0x3f00, 0⟩,
   ⟨0x088, 1, 0, true, .rw, 0xffffffffffffffff, 0⟩,
   ⟨0x090, 1, 0, true, .rw, 0xffffffffffffffff, 0⟩,
   ⟨0x098, 1, 0, true, .rc, 0x0, 0⟩,
   ⟨0x0A0, 1, 0, false, .rc, 0x0, 0⟩,
   ⟨0x0A4, 1, 0, false, .rc, 0x0, 0⟩,
   ⟨0x0A8, 1, 0, true, .ro, 0x0, 0⟩,
   ⟨0x0B0, 1, 0, false, .ro, 0x0, 0⟩,
   ⟨0x100, 64, 48, true, .rw, 0xffffffffffffffff, 0⟩,
   ⟨0x108, 64, 48, true, .rw, 0xffffffffffffffff, 0⟩,
   ⟨0x110, 64, 48, true, .rw, 0xffffffffffffffff, 0⟩,
   ⟨0x118, 64, 48, true, .rw, 0xffffffffffffffff, 0⟩,
   ⟨0x120, 64, 48, false, .rw, 0xfff7, 0⟩,
   ⟨0x124, 64, 48, false, .rw, 0xffff, 0⟩]

/-- The HOME page register list. -/
def homeRows : List RegRow :=
  [
⟨0x080, 1, 0, false, .rw, 0xffff, 0x400⟩,
   ⟨0x084, 1, 0, false, .ro, 0x0, 0⟩,
   ⟨0x088, 1, 0, true, .rc, 0x0, 0⟩,
   ⟨0x090, 1, 0, true, .rc, 0x0, 0⟩,
   ⟨0x098, 1, 0, false, .rc, 0x0, 0⟩,
   ⟨0x09C, 1, 0, false, .rc, 0x0, 0⟩,
   ⟨0x0A0, 1, 0, true, .rc, 0x0, 0⟩,
   ⟨0x0A8, 1, 0, true, .rc, 0x0, 0⟩,
   ⟨0x0B0, 1, 0, false, .ro, 0x0, 0⟩,
   ⟨0x0B4, 1, 0, false, .rc, 0x0, 0⟩,
   ⟨0x0B8, 1, 0, false, .rc, 0x0, 0⟩,
   ⟨0x0BC, 1, 0, false, .rc, 0x0, 0⟩,
   ⟨0x0C0, 1, 0, true, .ro, 0x0, 0⟩,
   ⟨0x0C8, 1, 0, false, .rc, 0x0, 0⟩]

/-- The DCACHE page register list. -/
def dcacheRows : List RegRow :=
  [
⟨0x080, 1, 0, false, .rw, 0x4, 4⟩,
   ⟨0x084, 1, 0, false, .ro, 0x0, 0⟩,
   ⟨0x088, 1, 0, true, .rc, 0x0, 0⟩,
   ⟨0x090, 1, 0, true, .rc, 0x0, 0⟩,
   ⟨0x098, 1, 0, true, .rc, 0x0, 0⟩,
   ⟨0x0A0, 1, 0, true, .rc, 0x0, 0⟩,
   ⟨0x0A8, 1, 0, false, .rc, 0x0, 0⟩,
   ⟨0x0AC, 1, 0, false, .rc, 0x0, 0⟩,
   ⟨0x0B0, 1, 0, false, .rc, 0x0, 0⟩,
   ⟨0x0B4, 1, 0, false, .rc, 0x0, 0⟩,
   ⟨0x0B8, 1, 0, false, .rc, 0x0, 0⟩,
   ⟨0x0C0, 1, 0, true, .ro, 0x0, 0⟩]

/-- The DOCK page register list. -/
def dockRows : List RegRow :=
  [
⟨0x080, 1, 0, false, .rw, 0x7f03, 0⟩,
   ⟨0x084, 1, 0, false, .ro, 0x0, 0⟩,
   ⟨0x088, 1, 0, true, .rw, 0xffffffffffffffff, 0⟩,
   ⟨0x090, 1, 0, false, .rw, 0xffffffff, 0x40⟩,
   ⟨0x094, 1, 0, false, .rw, 0xffffffff, 0⟩,
   ⟨0x098, 1, 0, false, .ro, 0x0, 0⟩,
   ⟨0x0A0, 1, 0, true, .rw, 0xffffffffffffffff, 0⟩,
   ⟨0x0A8, 1, 0, false, .rw, 0xffffffff, 0x40⟩,
   ⟨0x0AC, 1, 0, false, .rw, 0xffffffff, 0⟩,
   ⟨0x0B0, 1, 0, false, .ro, 0x0, 0⟩,
   ⟨0x0B4, 1, 0, false, .rw, 0x737ff, 0⟩,
   ⟨0x0B8, 1, 0, true, .rw, 0xffffffffffffffff, 0⟩,
   ⟨0x0C0, 1, 0, true, .rc, 0x0, 0⟩,
   ⟨0x0C8, 1, 0, false, .ro, 0x0, 0⟩,
   ⟨0x0CC, 1, 0, false, .ro, 0x0, 0⟩]

/-- The SRVC page register list. -/
def srvcRows : List RegRow :=
  [
⟨0x080, 1, 0, false, .rw, 0x7, 4⟩,
   ⟨0x084, 1, 0, false, .ro, 0x0, 0⟩,
   ⟨0x088, 1, 0, true, .rw, 0xffffffffffffffff, 0⟩,
   ⟨0x090, 1, 0, false, .rw, 0xfff, 0⟩,
   ⟨0x094, 1, 0, false, .rc, 0x0, 0⟩,
   ⟨0x098, 1, 0, false, .rc, 0x0, 0⟩,
   ⟨0x09C, 1, 0, false, .rc, 0x0, 0⟩,
   ⟨0x0A0, 1, 0, true, .ro, 0x0, 0⟩,
   ⟨0x0A8, 1, 0, true, .ro, 0x0, 0⟩]

/-- The PCIE page register list. -/
def pcieRows : List RegRow :=
  [
⟨0x080, 1, 0, false, .rw, 0x3, 0⟩,
   ⟨0x084, 1, 0, false, .ro, 0x0, 0⟩,
   ⟨0x088, 1, 0, true, .rw, 0xffffffffffffffff, 0⟩,
   ⟨0x090, 1, 0, false, .rc, 0x0, 0⟩,
   ⟨0x094, 1, 0, false, .rc, 0x0, 0⟩,
   ⟨0x098, 1, 0, false, .rc, 0x0, 0⟩,
   ⟨0x09C, 1, 0, false, .rc, 0x0, 0⟩,
   ⟨0x0A0, 1, 0, false, .ro, 0x0, 0⟩,
   ⟨0x0A4, 1, 0, false, .rc, 0x0, 0⟩,
   ⟨0x0A8, 1, 0, true, .rc, 0x0, 0⟩,
   ⟨0x0B0, 1, 0, true, .rc, 0x0, 0⟩,
   ⟨0x400, 192, 4, false, .rw, 0x3ff, 0⟩]

/-- The CQ page register list. -/
def cqRows : List RegRow :=
  [
⟨0x080, 1, 0, false, .rw, 0xff03, 0⟩,
   ⟨0x084, 1, 0, false, .ro, 0x0, 0⟩,
   ⟨0x088, 1, 0, true, .rw, 0xffffffffffffffff, 0⟩,
   ⟨0x090, 1, 0, false, .rw, 0xffffffff, 0x40⟩,
   ⟨0x094, 1, 0, false, .rw, 0xffffffff, 0⟩,
   ⟨0x098, 1, 0, false, .ro, 0x0, 0⟩,
   ⟨0x0A0, 1, 0, true, .rw, 0xffffffffffffffff, 0⟩,
   ⟨0x0A8, 1, 0, false, .rw, 0xffffffff, 0x40⟩,
   ⟨0x0AC, 1, 0, false, .rw, 0xffffffff, 0⟩,
   ⟨0x0B0, 1, 0, false, .ro, 0x0, 0⟩,
   ⟨0x0B8, 1, 0, true, .rc, 0x0, 0⟩,
   ⟨0x0C0, 1, 0, false, .ro, 0x0, 0⟩,
   ⟨0x0C4, 1, 0, false, .ro, 0x0, 0⟩]

/-- The SLNK page register list. -/
def slnkRows : List RegRow :=
  [
⟨0x080, 1, 0, false, .rw, 0xff0f, 0x4001⟩,
   ⟨0x084, 1, 0, false, .ro, 0x0, 0x18⟩,
   ⟨0x088, 1, 0, false, .rw0, 0x7fff, 0x7fff⟩,
   ⟨0x08C, 1, 0, false, .ro, 0x0, 0⟩,
   ⟨0x090, 1, 0, true, .ro, 0x0, 0⟩,
   ⟨0x098, 1, 0, false, .rw0, 0xffff, 0⟩,
   ⟨0x0A0, 1, 0, true, .rc, 0x0, 0⟩,
   ⟨0x0A8, 1, 0, true, .rc, 0x0, 0⟩,
   ⟨0x0B0, 1, 0, false, .rc, 0x0, 0⟩,
   ⟨0x0B4, 1, 0, false, .rc, 0x0, 0⟩,
   ⟨0x0B8, 1, 0, false, .rc, 0x0, 0⟩,
   ⟨0x0BC, 1, 0, false, .ro, 0x0, 0⟩,
   ⟨0x0C0, 1, 0, false, .rc, 0x0, 0⟩,
   ⟨0x0C4, 1, 0, false, .ro, 0x0, 0⟩,
   ⟨0x0C8, 1, 0, true, .rw0, 0xffffffffffffffff, 0⟩,
   ⟨0x0D0, 1, 0, false, .rw0, 0xffffffff, 0x2710⟩,
   ⟨0x0D4, 1, 0, false, .wo, 0x0, 0⟩,
   ⟨0x0D8, 1, 0, false, .rw, 0x1fffffff, 0x88b5⟩,
   ⟨0x0DC, 1, 0, false, .rw, 0xffffffff, 0x2400⟩,
   ⟨0x0E0, 1, 0, true, .rw, 0xffffffffffff, 0⟩,
   ⟨0x0E8, 1, 0, true, .rw0, 0xffffffffffffffff, 0⟩,
   ⟨0x100, 4, 8, true, .ro, 0x0, 0⟩]

/-- The COLL page register list. -/
def collRows : List RegRow :=
  [
⟨0x080, 1, 0, false, .ro, 0x0, 0⟩,
   ⟨0x084, 1, 0, false, .rw0, 0x7, 0⟩,
   ⟨0x088, 1, 0, true, .rc, 0x0, 0⟩,
   ⟨0x090, 1, 0, true, .rc, 0x0, 0⟩,
   ⟨0x098, 1, 0, false, .rc, 0x0, 0⟩,
   ⟨0x09C, 1, 0, false, .rc, 0x0, 0⟩,
   ⟨0x0A0, 1, 0, false, .rc, 0x0, 0⟩,
   ⟨0x0A4, 1, 0, false, .ro, 0x0, 0⟩,
   ⟨0x0A8, 1, 0, true, .ro, 0x0, 0⟩,
   ⟨0x100, 8, 8, true, .rw0, 0xff3fffff1f, 0x100000001f⟩]

/-- The RAS page register list. -/
def rasRows : List RegRow :=
  [
⟨0x080, 1, 0, false, .rw, 0xf, 4⟩,
   ⟨0x084, 1, 0, false, .ro, 0x0, 0⟩,
   ⟨0x088, 1, 0, true, .ro, 0x0, 0⟩,
   ⟨0x090, 1, 0, true, .rw, 0xffffffffffffffff, 0⟩,
   ⟨0x098, 1, 0, true, .rw, 0xffffffffffffffff, 0⟩,
   ⟨0x0A0, 1, 0, false, .rc, 0x0, 0⟩,
   ⟨0x0A4, 1, 0, false, .rw, 0xffffffff, 0x40⟩,
   ⟨0x0A8, 1, 0, false, .rw, 0xffffffff, 0x258⟩,
   ⟨0x0AC, 1, 0, false, .rc, 0x0, 0⟩,
   ⟨0x0B0, 1, 0, false, .ro, 0x0, 0⟩,
   ⟨0x0B4, 1, 0, false, .ro, 0x0, 0⟩,
   ⟨0x0B8, 1, 0, true, .ro, 0x0, 0⟩,
   ⟨0x0C0, 1, 0, false, .ro, 0x0, 0⟩,
   ⟨0x0C8, 1, 0, true, .ro, 0x0, 0⟩,
   ⟨0x0D0, 1, 0, true, .ro, 0x0, 0⟩,
   ⟨0x100, 8, 8, true, .ro, 0x0, 0⟩]

/-- The PWR page register list. -/
def pwrRows : List RegRow :=
  [
⟨0x080, 1, 0, false, .rw, 0x3, 0⟩,
   ⟨0x084, 1, 0, false, .ro, 0x0, 0x4c00⟩,
   ⟨0x088, 1, 0, false, .rw, 0xffff, 0xe10⟩,
   ⟨0x08C, 1, 0, false, .rw, 0xffff, 0x28⟩,
   ⟨0x090, 4, 4, false, .ro, 0x0, 0x1c2⟩,
   ⟨0x0A0, 1, 0, false, .ro, 0x0, 0⟩,
   ⟨0x0A4, 1, 0, false, .ro, 0x0, 0⟩,
   ⟨0x0A8, 1, 0, true, .ro, 0x0, 0⟩,
   ⟨0x0B0, 1, 0, false, .rc, 0x0, 0⟩,
   ⟨0x0B4, 1, 0, false, .rc, 0x0, 0⟩,
   ⟨0x0B8, 1, 0, false, .rc, 0x0, 0⟩,
   ⟨0x0BC, 1, 0, false, .ro, 0x0, 0⟩,
   ⟨0x0C0, 6, 8, true, .ro, 0x0, 0⟩,
   ⟨0x0F0, 4, 4, false, .ro, 0x0, 0⟩,
   ⟨0x100, 4, 4, false, .ro, 0x0, 0x208⟩]

/-- The PWR1 page register list. -/
def pwr1Rows : List RegRow :=
  [
⟨0x080, 256, 4, false, .ro, 0x0, 0x5050⟩]

/-- The PWR2 page register list. -/
def pwr2Rows : List RegRow :=
  [
⟨0x080, 32, 4, false, .ro, 0x0, 0x5050⟩]

/-- The AGE page register list. -/
def ageRows : List RegRow :=
  [
⟨0x080, 1, 0, false, .rw, 0x3f, 0x3f⟩,
   ⟨0x084, 1, 0, false, .ro, 0x0, 0⟩,
   ⟨0x088, 1, 0, false, .ro, 0x0, 0⟩,
   ⟨0x08C, 1, 0, false, .ro, 0x0, 0⟩,
   ⟨0x090, 1, 0, true, .ro, 0x0, 0⟩,
   ⟨0x098, 1, 0, false, .ro, 0x0, 0⟩,
   ⟨0x0A0, 1, 0, true, .ro, 0x0, 0⟩,
   ⟨0x0A8, 1, 0, false, .ro, 0x0, 0⟩,
   ⟨0x0AC, 1, 0, false, .rc, 0x0, 0⟩,
   ⟨0x0B0, 6, 4, false, .ro, 0x0, 0⟩]

/-- The AGE1 page register list. -/
def age1Rows : List RegRow :=
  [
⟨0x080, 288, 4, false, .ro, 0x0, 0⟩,
   ⟨0x600, 192, 4, false, .ro, 0x0, 0⟩]

/-- The SEC page register list. -/
def secRows : List RegRow :=
  [
⟨0x080, 1, 0, false, .ro, 0x0, 0⟩,
   ⟨0x084, 1, 0, false, .ro, 0x0, 0⟩,
   ⟨0x088, 1, 0, false, .ro, 0x0, 0⟩,
   ⟨0x08C, 1, 0, false, .wo, 0x0, 0⟩,
   ⟨0x090, 1, 0, false, .wo, 0x0, 0⟩,
   ⟨0x098, 1, 0, true, .rw, 0xffffffffffffffff, 0⟩,
   ⟨0x0A0, 1, 0, false, .wo, 0x0, 0⟩,
   ⟨0x0C0, 4, 8, true, .ro, 0x0, 0⟩,
   ⟨0x100, 6, 8, true, .ro, 0x0, 0⟩,
   ⟨0x140, 6, 8, true, .ro, 0x0, 0⟩,
   ⟨0x180, 6, 8, true, .ro, 0x0, 0⟩,
   ⟨0x1C0, 6, 8, true, .ro, 0x0, 0⟩,
   ⟨0x200, 6, 8, true, .ro, 0x0, 0⟩]

/-- The MGMT page register list. -/
def mgmtRows : List RegRow :=
  [
⟨0x080, 1, 0, false, .rw, 0x3, 1⟩,
   ⟨0x084, 1, 0, false, .ro, 0x0, 0⟩,
   ⟨0x088, 1, 0, false, .rw, 0xff, 0⟩,
   ⟨0x08C, 1, 0, false, .rc, 0x0, 0⟩,
   ⟨0x090, 1, 0, false, .rc, 0x0, 0⟩,
   ⟨0x094, 1, 0, false, .rc, 0x0, 0⟩]

/-- The Common header page register list. -/
def hdrRows : List RegRow :=
  [
⟨0x000, 1, 0, false, .ro, 0x0, 0⟩,
   ⟨0x004, 1, 0, false, .rw, 0xff, 0x1010001⟩,
   ⟨0x008, 1, 0, false, .ro, 0x0, 0⟩,
   ⟨0x00C, 1, 0, false, .ro, 0x0, 0⟩,
   ⟨0x010, 1, 0, false, .rw, 0x4, 1⟩,
   ⟨0x014, 1, 0, false, .ro, 0x0, 9⟩,
   ⟨0x018, 1, 0, false, .w1c, 0x0, 0⟩,
   ⟨0x01C, 1, 0, false, .rw, 0x3, 3⟩,
   ⟨0x020, 1, 0, false, .w1s, 0x0, 0⟩,
   ⟨0x028, 1, 0, false, .rw, 0x0, 0⟩,
   ⟨0x030, 1, 0, true, .ro, 0x0, 0⟩,
   ⟨0x038, 1, 0, false, .ro, 0x0, 0⟩]

/-- The CORE page register list. -/
def coreRows : List RegRow :=
  [
⟨0x080, 1, 0, false, .ro, 0x0, 0⟩,
   ⟨0x084, 1, 0, false, .ro, 0x0, 0⟩]

/-- The PGDIR page register list. -/
def pgdirRows : List RegRow :=
  [
⟨0x080, 1, 0, false, .ro, 0x0, 0x1f⟩,
   ⟨0x084, 1, 0, false, .rc, 0x0, 0⟩,
   ⟨0x088, 1, 0, false, .ro, 0x0, 0⟩,
   ⟨0x100, 124, 4, false, .ro, 0x0, 0⟩]

/-- The DEVID page register list. -/
def devidRows : List RegRow :=
  [
⟨0x080, 1, 0, false, .ro, 0x0, 0⟩,
   ⟨0x084, 1, 0, false, .ro, 0x0, 0xc701⟩,
   ⟨0x088, 1, 0, false, .ro, 0x0, 0x101a1⟩,
   ⟨0x090, 1, 0, true, .ro, 0x0, 1⟩,
   ⟨0x098, 1, 0, true, .ro, 0x0, 1⟩,
   ⟨0x0A0, 2, 8, true, .ro, 0x0, 0⟩,
   ⟨0x0B0, 1, 0, false, .ro, 0x0, 0⟩,
   ⟨0x0B8, 1, 0, true, .ro, 0x0, 0x8000000000000c01⟩,
   ⟨0x0C0, 1, 0, true, .ro, 0x0, 0xa1⟩,
   ⟨0x0C8, 1, 0, false, .ro, 0x0, 0⟩]

/-- Type code of a block (R469). -/
def Blk.typeCode : Blk → Nat
  | .pgdir => 0x01 | .devid => 0x02 | .tick => 0x03 | .pwr => 0x04 | .age => 0x05 | .ras => 0x06
  | .sec => 0x07 | .mgmt => 0x08 | .pcie => 0x10 | .cq => 0x11 | .dock => 0x12 | .slnk => 0x20
  | .coll => 0x21 | .hbmc => 0x30 | .pont => 0x31 | .lpdc => 0x32 | .home => 0x33 | .dcache => 0x34
  | .ctab => 0x35 | .tagr => 0x36 | .core => 0x40 | .seq => 0x41 | .me => 0x42 | .ve => 0x43
  | .prep => 0x44 | .ferry => 0x45 | .land => 0x46 | .slip => 0x47 | .rng => 0x48 | .exp => 0x49
  | .srvc => 0x50

/-- Placement of a block: base, outer count, outer stride, inner count, inner stride (strides in 4 KiB
pages), pages per instance, first APLIC source (R468). -/
structure Place where
  base : Nat
  outer : Nat
  ostride : Nat
  inner : Nat
  istride : Nat
  pages : Nat
  source : Nat
  deriving DecidableEq, Repr

/-- The page index (R468). -/
def Blk.place : Blk → Place
  | .pgdir => ⟨0x0000000, 1, 0, 1, 0, 1, 1⟩
  | .devid => ⟨0x0001000, 1, 0, 1, 0, 1, 2⟩
  | .tick => ⟨0x0002000, 1, 0, 1, 0, 1, 3⟩
  | .pwr => ⟨0x0004000, 1, 0, 1, 0, 4, 4⟩
  | .age => ⟨0x0008000, 1, 0, 1, 0, 2, 5⟩
  | .ras => ⟨0x000A000, 1, 0, 1, 0, 2, 6⟩
  | .sec => ⟨0x000C000, 1, 0, 1, 0, 1, 7⟩
  | .mgmt => ⟨0x000D000, 1, 0, 1, 0, 1, 8⟩
  | .pcie => ⟨0x0100000, 2, 1, 1, 0, 1, 9⟩
  | .cq => ⟨0x0110000, 64, 1, 1, 0, 1, 16⟩
  | .dock => ⟨0x0180000, 128, 1, 1, 0, 1, 80⟩
  | .slnk => ⟨0x0200000, 18, 4, 1, 0, 4, 208⟩
  | .coll => ⟨0x0280000, 4, 1, 1, 0, 1, 226⟩
  | .hbmc => ⟨0x0400000, 20, 1, 1, 0, 1, 230⟩
  | .pont => ⟨0x0480000, 20, 1, 1, 0, 1, 250⟩
  | .lpdc => ⟨0x0420000, 12, 1, 1, 0, 1, 270⟩
  | .home => ⟨0x0430000, 8, 1, 1, 0, 1, 282⟩
  | .dcache => ⟨0x0438000, 4, 1, 1, 0, 1, 290⟩
  | .ctab => ⟨0x0440000, 4, 1, 1, 0, 1, 294⟩
  | .tagr => ⟨0x0450000, 1, 0, 1, 0, 1, 298⟩
  | .core => ⟨0x1000000, 256, 16, 1, 0, 1, 320⟩
  | .seq => ⟨0x1001000, 256, 16, 1, 0, 1, 320⟩
  | .me => ⟨0x1002000, 256, 16, 1, 0, 1, 320⟩
  | .ve => ⟨0x1003000, 256, 16, 1, 0, 1, 320⟩
  | .prep => ⟨0x1004000, 256, 16, 1, 0, 1, 320⟩
  | .ferry => ⟨0x1005000, 256, 16, 4, 1, 1, 320⟩
  | .land => ⟨0x1009000, 256, 16, 1, 0, 1, 320⟩
  | .slip => ⟨0x100A000, 256, 16, 1, 0, 1, 320⟩
  | .rng => ⟨0x100B000, 256, 16, 1, 0, 1, 320⟩
  | .exp => ⟨0x100C000, 256, 16, 1, 0, 1, 320⟩
  | .srvc => ⟨0x2000000, 128, 1, 1, 0, 1, 576⟩

/-- The blocks in the order of the index (R468). -/
def Blk.all : List Blk :=
  [.pgdir, .devid, .tick, .pwr, .age, .ras, .sec, .mgmt, .pcie, .cq, .dock, .slnk, .coll, .hbmc, .pont,
   .lpdc, .home, .dcache, .ctab, .tagr, .core, .seq, .me, .ve, .prep, .ferry, .land, .slip, .rng, .exp,
   .srvc]

/-- Instances of a block. -/
def Blk.count (b : Blk) : Nat := b.place.outer * b.place.inner

/-- Aperture offset of page 0 of instance `j` of a block (R467). -/
def pg (b : Blk) (j : Nat) : Nat :=
  b.place.base + 4096 * (j / b.place.inner * b.place.ostride + j % b.place.inner * b.place.istride)

/-- A page of the aperture: its block, the instance, the page within the instance. -/
structure PageRef where
  blk : Blk
  inst : Nat
  page : Nat
  deriving DecidableEq, Repr

/-- The instance and page of block `b` that hold page number `p` of the aperture, if any (R467, R468). -/
def Blk.holds (b : Blk) (p : Nat) : Option PageRef :=
  let pl := b.place
  let b0 := pl.base / 4096
  if p < b0 then none
  else
    let d := p - b0
    let o := if pl.ostride = 0 then 0 else d / pl.ostride
    let r := if pl.ostride = 0 then d else d % pl.ostride
    let i := if pl.istride = 0 then 0 else r / pl.istride
    let q := if pl.istride = 0 then r else r % pl.istride
    if o < pl.outer ∧ i < pl.inner ∧ q < pl.pages then some ⟨b, o * pl.inner + i, q⟩ else none

/-- The page that holds an aperture offset, if a page does (R455, R468). -/
def pageOf (off : Nat) : Option PageRef := Blk.all.findSome? (fun b => b.holds (off / 4096))

/-- The block-specific register list of a page; pages beyond the first of PWR and AGE hold arrays, the
others only the header (R422, R405). -/
def Blk.rows (b : Blk) (page : Nat) : List RegRow :=
  match b, page with
  | .pgdir, _ => pgdirRows
  | .devid, _ => devidRows
  | .tick, _ => tickRows
  | .pwr, 0 => pwrRows
  | .pwr, 1 => pwr1Rows
  | .pwr, 2 => pwr2Rows
  | .age, 0 => ageRows
  | .age, 1 => age1Rows
  | .ras, 0 => rasRows
  | .sec, _ => secRows
  | .mgmt, _ => mgmtRows
  | .pcie, _ => pcieRows
  | .cq, _ => cqRows
  | .dock, _ => dockRows
  | .slnk, 0 => slnkRows
  | .coll, _ => collRows
  | .hbmc, _ => hbmcRows
  | .pont, _ => pontRows
  | .lpdc, _ => lpdcRows
  | .home, _ => homeRows
  | .dcache, _ => dcacheRows
  | .ctab, _ => ctabRows
  | .tagr, _ => tagrRows
  | .core, _ => coreRows
  | .seq, _ => seqRows
  | .me, _ => meRows
  | .ve, _ => veRows
  | .prep, _ => prepRows
  | .ferry, _ => ferryRows
  | .land, _ => landRows
  | .slip, _ => slipRows
  | .rng, _ => rngRows
  | .exp, _ => expRows
  | .srvc, _ => srvcRows
  | _, _ => []

/-- Whether a line of a register list holds the register at in-page offset `o`. -/
def RegRow.at (r : RegRow) (o : Nat) : Bool :=
  if r.cnt ≤ 1 then r.off == o
  else r.off ≤ o && (o - r.off) % r.stride == 0 && (o - r.off) / r.stride < r.cnt

/-- Offsets within its page of the registers of a line. -/
def RegRow.offs (r : RegRow) : List Nat := if r.cnt ≤ 1 then [r.off] else (List.range r.cnt).map (fun k => r.off + k * r.stride)

/-- A register takes writes at an instance: one that other instances show is written on instance 0 only (R15). -/
def RegRow.writable (row : RegRow) (inst : Nat) : Bool :=
  match row.acc with
  | .ro | .rc => false
  | .rw0 => inst == 0
  | _ => true

/-- The APLIC source that a page drives (R466, R468). -/
def PageRef.source (r : PageRef) : Nat := r.blk.place.source + r.inst / r.blk.place.inner

/-- The line of the page's list that holds the register at an aperture offset: the common header below
0x040, the block's list above (R456, R459). -/
def regRow (off : Nat) : Option RegRow :=
  match pageOf off with
  | none => none
  | some r =>
    let o := off % 4096
    if o < 0x40 then hdrRows.find? (·.at o) else (r.blk.rows r.page).find? (·.at o)

/-- The four words of a directory entry (R467). -/
def dirWord (e w : Nat) : Nat :=
  match Blk.all[e]? with
  | none => 0
  | some b =>
    let p := b.place
    match w with
    | 0 => b.typeCode + p.pages * 0x10000
    | 1 => p.base
    | 2 => p.outer + p.inner * 0x10000
    | _ => p.ostride + p.istride * 0x10000

/-- Reset values that depend on the instance: identity, directory, queue vectors, dock owners, the
stacks' and controllers' identical values, and 0 where the tables give none (DESIGN CHOICE, unsafe: log entry 5)
(R459, R467, R20).
DESIGN CHOICE (log entry 66): DEVID_ORDER holds the first character of the ordering code in its lowest byte (R16). -/
def regReset (off : Nat) : DWord :=
  match pageOf off, regRow off with
  | some r, some row =>
    let o := off % 4096
    if o = Off.PG_ID then BitVec.ofNat 64 (r.inst + r.blk.typeCode * 0x10000)
    else match r.blk with
      | .core => if o = Off.CORE_ID then
          BitVec.ofNat 64 (r.inst + r.inst / 64 * 0x100 + r.inst % 64 / 8 * 0x400 + r.inst % 8 * 0x2000)
        else BitVec.ofNat 64 row.reset
      | .me => BitVec.ofNat 64 (if o = Off.PG_CAP0 then 0x3FBF else if o = Off.PG_CAP1 then 0x1F else row.reset)
      | .ve => BitVec.ofNat 64 (if o = Off.PG_CAP0 then 0x13FFE else if o = Off.PG_CAP1 then 7 else row.reset)
      | .slip => BitVec.ofNat 64 (if o = Off.PG_CAP0 then 0x20 else if o = Off.PG_CAP1 then 3 else row.reset)
      | .pgdir => if 0x100 ≤ o then BitVec.ofNat 64 (dirWord ((o - 0x100) / 16) (o % 16 / 4))
        else BitVec.ofNat 64 row.reset
      | .cq => if o = Off.CQ_CTRL then BitVec.ofNat 64 (r.inst * 256) else BitVec.ofNat 64 row.reset
      | .dock => if o = Off.DOCK_CTRL then BitVec.ofNat 64 (r.inst * 256) else BitVec.ofNat 64 row.reset
      | .devid => if o = Off.DEVID_ORDER then 0x3639412D31555443 else
          if o = Off.DEVID_ORDER + 8 then 0x30 else BitVec.ofNat 64 row.reset
      | .srvc => if o = Off.SRVC_CLK then 0x0C800C80 else BitVec.ofNat 64 row.reset
      | _ => BitVec.ofNat 64 row.reset
  | _, _ => 0

end Sys2Proof
end

