-- ==== Sys2Proof/Machine/Ops.lean ====
section
/-!
DEFINITION. Machine/Ops.lean: the named operations over registers, counters, memory, the RAS log, items
and commands. Every meaning reaches the state through these.
-/
namespace Sys2Proof.Machine

/-! ### Registers -/

/-- The stored value of the register at aperture offset `off`. -/
def State.reg (s : State) (off : Nat) : DWord := smGet regReset s.regs off

/-- The stored value as a number. -/
def State.regN (s : State) (off : Nat) : Nat := (s.reg off).toNat

/-- The state with `v` in the register at aperture offset `off`. -/
def State.setReg (s : State) (off : Nat) (v : DWord) : State := { s with regs := smSet regReset s.regs off v }

/-- `setReg` with a number, cut to 64 bits. -/
def State.setRegN (s : State) (off v : Nat) : State := s.setReg off (BitVec.ofNat 64 v)

/-- Bits [hi:lo] of a register. -/
def State.field (s : State) (off hi lo : Nat) : Nat := bits (s.regN off) hi lo

/-- The state with bits [hi:lo] of a register set to `x`. -/
def State.setField (s : State) (off hi lo x : Nat) : State := s.setRegN off (setBits (s.regN off) hi lo x)

/-! ### Counters (R462) -/

/-- The page's counters are held by PG_CTRL.FREEZE. `page` is the offset of page 0 of the block. -/
def State.frozen (s : State) (page : Nat) : Bool := bit (s.regN (page + Off.PG_CTRL)) 2

/-- Add `n` to a counter of width `w`, wrapping; a frozen page's view does not move (R462). -/
def State.bumpW (s : State) (w page off n : Nat) : State :=
  if s.frozen page then s else s.setRegN (page + off) ((s.regN (page + off) + n) % 2 ^ w)

/-- Add to a 32-bit counter. -/
def State.bump (s : State) (page off n : Nat) : State := s.bumpW 32 page off n

/-- Add to a 64-bit counter. -/
def State.bump64 (s : State) (page off n : Nat) : State := s.bumpW 64 page off n

/-- Add to a saturating 32-bit counter. -/
def State.bumpSat (s : State) (page off n : Nat) : State :=
  if s.frozen page then s else s.setRegN (page + off) (min (s.regN (page + off) + n) 0xFFFFFFFF)

/-- Raise a register to `v` if it is below, as a high-water mark. -/
def State.raiseTo (s : State) (page off v : Nat) : State :=
  if s.frozen page then s else s.setRegN (page + off) (max (s.regN (page + off)) v)

/-! ### The tick numbers -/

/-- TICK_NOW. -/
def State.now (s : State) : Nat := s.regN (pg .tick 0 + Off.TICK_NOW)

/-- TIDE_NOW. -/
def State.tide (s : State) : Nat := s.regN (pg .tick 0 + Off.TIDE_NOW)

/-! ### Interrupts and the RAS log (R387, R388, R391, R463, R464) -/

/-- A page requests an interrupt (R463). `page` is the offset of page 0 of the block. -/
def State.pageRequests (s : State) (page : Nat) : Bool :=
  (s.regN (page + Off.PG_IRQ_STAT) &&& s.regN (page + Off.PG_IRQ_EN)) != 0

/-- Pages 0 of the instance that drives a source: the 13 pages of a core, one page elsewhere (R466, R468). -/
def sourcePages (page : Nat) : List Nat :=
  if 0x1000000 ≤ page ∧ page < 0x2000000 then (upTo 0 13).map (fun k => page / 65536 * 65536 + 4096 * k) else [page]

/-- The APLIC source of a page is asserted (R466). -/
def State.sourceOn (s : State) (page : Nat) : Bool := (sourcePages page).any s.pageRequests

/-- The APLIC source of a page. -/
def sourceOf (page : Nat) : Nat :=
  match pageOf page with
  | some r => r.source
  | none => 0

/-- Vectors that carry a source through port A (R316). -/
def State.sourceVectors (s : State) (n : Nat) : List Nat :=
  let a := pg .pcie 0 + Off.PCIE_MSIX_SRC
  (s.regs.filter (fun e => decide (a ≤ e.1 ∧ e.1 < a + 768) && decide (bits e.2.toNat 9 0 = n) && decide (n ≠ 0))).map
    (fun e => 64 + (e.1 - a) / 4)

/-- The MSI-X table entry of a vector. -/
def State.msixEntry (s : State) (v : Nat) : MsixEntry := smGet (fun _ => MsixEntry.reset) s.pcie.msix v

/-- Something leaves the block. -/
def State.send (s : State) (m : OutMsg) : State := { s with out := m :: s.out }

/-- A vector is signalled: sent, or pending while it or the function is masked; with MSI-X not enabled nothing is
signalled (R315, R316; PRESUMED from PCI Express: log entry 73). -/
def State.sendMsix (s : State) (v : Nat) : State :=
  let x := s.pcie
  let e := s.msixEntry v
  if !x.cfg.msixOn then s
  else if x.cfg.msixMask || e.masked then
    { s with pcie := { x with pba := if x.pba.contains v then x.pba else v :: x.pba } }
  else s.send (.msix v e.addr e.data)

/-- A change of a page's causes or enables: a source that becomes asserted reaches the APLIC, and is signalled on its
vectors, in ENDPOINT with the link up (R289, R316, R466). -/
def State.irqEdge (s : State) (page : Nat) (f : State → State) : State :=
  let t := f s
  if !s.sourceOn page && t.sourceOn page then
    let t := t.aplicSource (sourceOf page)
    let stat := t.regN (pg .pcie 0 + Off.PCIE_STAT)
    if bit stat 0 && !bit stat 10 then (t.sourceVectors (sourceOf page)).foldl (fun (t : State) v => t.sendMsix v) t else t
  else t

/-- Set cause bits of a page's PG_IRQ_STAT. -/
def State.raiseIrq (s : State) (page causes : Nat) : State :=
  s.irqEdge page (fun s => s.setRegN (page + Off.PG_IRQ_STAT) (s.regN (page + Off.PG_IRQ_STAT) ||| causes))

/-- The EVENT cause of a page (R463). -/
def State.raiseEvent (s : State) (page : Nat) : State := s.raiseIrq page 2

/-- First-error capture and the error count of a page (R464). -/
def State.captureErr (s : State) (page code cls : Nat) : State :=
  let s := s.setRegN (page + Off.PG_ERR_CNT) (min (s.regN (page + Off.PG_ERR_CNT) + 1) 0xFFFFFFFF)
  if bit (s.regN (page + Off.PG_ERR_FIRST)) 31 then s
  else (s.setRegN (page + Off.PG_ERR_FIRST) (code % 256 + cls % 8 * 256 + 0x80000000)).setRegN
    (page + Off.PG_ERR_TICK) s.now

/-- Fault classes of the RAS log (R385, R387). -/
def clsCorr : Nat := 0
def clsItem : Nat := 1
def clsVoid : Nat := 2
def clsFatal : Nat := 3
def clsLink : Nat := 4

/-- Correctable records of a page and code entered in this tide (R388). -/
def RasSt.cnt (r : RasSt) (page code : Nat) : Nat := (r.tideCnt.lookup (page, code)).getD 0

/-- One more correctable record of a page and code in this tide. -/
def RasSt.count (r : RasSt) (page code : Nat) : RasSt :=
  { r with tideCnt := ((page, code), r.cnt page code + 1) :: r.tideCnt.filter (fun e => e.1 ≠ (page, code)) }

/-- The log with its oldest unread correctable record replaced by `x`, if there is one (R388). -/
def replaceOldest (tail : Nat) (x : LogRec) : List LogRec → Option (List LogRec)
  | [] => none
  | r :: rs =>
    if tail ≤ r.seq ∧ r.cls = 0 then some ({ x with seq := r.seq } :: rs)
    else (replaceOldest tail x rs).map (r :: ·)

/-- A record enters the RAS log, or is dropped and counted when 4,096 records are unread (R388). -/
def State.appendLog (s : State) (x : LogRec) : State :=
  let page := pg .ras 0
  let head := s.regN (page + Off.RAS_LOG_HEAD)
  let tail := s.regN (page + Off.RAS_LOG_TAIL)
  if head - tail < 4096 then
    let log := s.ras.log ++ [{ x with seq := head }]
    { s with ras := { s.ras with log := log.drop (log.length - 4096) } }.setRegN (page + Off.RAS_LOG_HEAD) (head + 1)
  else if x.cls = 0 then s.bump page Off.RAS_DROP_CNT 1
  else match replaceOldest tail x s.ras.log with
    | some log => { s with ras := { s.ras with log := log } }
    | none => s.bump page Off.RAS_DROP_CNT 1

/-- The record of an event (R387). -/
def mkLog (s : State) (page code cls : Nat) (li : LogInfo) : LogRec :=
  { tick := s.now, seq := 0, source := s.regN (page + Off.PG_ID), code := code, cls := cls,
    flags := b2n li.item.isSome + 2 * b2n li.tag.isSome + 4 * b2n li.addr.isSome,
    item := li.item.getD 0, tag := li.tag.getD 0, addr := li.addr.getD 0, info := li.info }

/-- The device's state of RAS_STAT: 0 RUN, 1 HALTED, 2 LEFT. -/
def State.rasState (s : State) : Nat := s.field (pg .ras 0 + Off.RAS_STAT) 1 0

/-- The device has left (R391). -/
def State.left (s : State) : Bool := s.rasState == 2

/-- A device-fatal fault, in its tick: source, code and tick recorded, FAULT_N asserted, STATE LEFT; the
rest of the leaving sequence is due at the boundary (R391). -/
def State.goFatal (s : State) (page code : Nat) : State :=
  let p := pg .ras 0
  if s.left then s
  else
    let s := s.setRegN (p + Off.RAS_FATAL_SRC) (s.regN (page + Off.PG_ID))
    let s := s.setRegN (p + Off.RAS_FATAL_CODE) (code % 256)
    let s := s.setRegN (p + Off.RAS_FATAL_TICK) s.now
    let s := s.setRegN (p + Off.RAS_STAT) (setBits (s.regN (p + Off.RAS_STAT)) 1 0 2 ||| 8)
    { s with ras := { s.ras with faultN := true, leavePend := true } }

/-- A page logs an error: it is counted and captured, its ERROR cause is set, the record enters the RAS
log under the limit of R388, and a device-fatal class starts the leaving sequence (R391). -/
def State.logErr (s : State) (page code cls : Nat) (li : LogInfo) : State :=
  let s := (s.captureErr page code cls).raiseIrq page 1
  let s :=
    if cls = clsCorr then
      if s.ras.cnt page code < 16 then
        ({ s with ras := s.ras.count page code }).appendLog (mkLog s page code cls li)
      else s
    else s.appendLog (mkLog s page code cls li)
  if cls = clsFatal then s.goFatal page code else s

/-- A correctable event with nothing to name. -/
def State.logCorr (s : State) (page code : Nat) : State := s.logErr page code clsCorr LogInfo.none

/-- A correctable event at an address. -/
def State.logAddr (s : State) (page code addr : Nat) : State :=
  s.logErr page code clsCorr { LogInfo.none with addr := some addr }

/-! ### Cores -/

/-- The state of core `c`. -/
def State.core (s : State) (c : Nat) : CoreSt := smGet (fun _ => CoreSt.reset) s.cores c

/-- The state with core `c` replaced. -/
def State.setCore (s : State) (c : Nat) (x : CoreSt) : State :=
  { s with cores := smSet (fun _ => CoreSt.reset) s.cores c x }

/-- The state with every core in use changed; `f` gets the core index. A core that is at its reset value
stays so. -/
def State.mapCores (s : State) (f : Nat → CoreSt → CoreSt) : State :=
  { s with cores := (s.cores.map (fun e => (e.1, f e.1 e.2))).filter (fun e => e.2 ≠ CoreSt.reset) }

/-- Fold over the cores in use, in ascending index. -/
def State.foldCores (s : State) (f : State → Nat → CoreSt → State) : State :=
  s.cores.foldl (fun s e => f s e.1 e.2) s

/-- SEQ_STATE.STATE: 0 IDLE, 1 VERIFY, 2 WAIT_START, 3 RUN, 4 HOLLOW, 5 END. -/
def State.seqState (s : State) (c : Nat) : Nat := s.field (pg .seq c + Off.SEQ_STATE) 2 0

/-- The SEQ reports IDLE. -/
def State.seqIdle (s : State) (c : Nat) : Bool := s.seqState c == 0

/-- Every SEQ of the device reports IDLE. Only listed registers can differ from the reset value IDLE. -/
def State.allIdle (s : State) : Bool := (upTo 0 256).all s.seqIdle

/-- A command is executing. -/
def State.anyCmd (s : State) : Bool := s.cmds.any (fun c => !c.closed)

/-- "No job runs": every SEQ is IDLE and no command is executing (R217). -/
def State.noJob (s : State) : Bool := s.allIdle && !s.anyCmd

/-! ### Power mode (R34, R412) -/

/-- PWR_STAT.MODE: 0 P1, 1 P2, 2 P3. -/
def State.pmode (s : State) : Nat := s.field (pg .pwr 0 + Off.PWR_STAT) 1 0

/-- The units of start-up stage `n` have power: the stage has begun, and nothing has been powered down (R409, R421). -/
def State.powered (s : State) (n : Nat) : Bool :=
  match s.pwr.phase with
  | .ready | .closing => true
  | .starting | .failed => decide (n ≤ s.field (pg .pwr 0 + Off.PWR_STAT) 14 11)
  | _ => false

/-- Cycles per tick of a power mode (R34). -/
def cycleBudget (m : Nat) : Nat := if m = 0 then 850 else if m = 1 then 765 else 680

/-- Reference cycles of a stretch unit of a power mode (R34). -/
def stretchRef (m : Nat) : Nat := if m = 1 then 20 else 10

/-! ### The address map (R211–R216, R312) -/

/-- 4 KiB granules of one GiB. -/
def gib : Nat := 0x40000000

/-- Bytes of the LPDDR5X tier: 12 · C (R216). -/
def State.tierBytes (s : State) : Nat := 12 * (16 * gib * s.field (pg .lpdc 0 + Off.LPDC_STAT) 15 8)

/-- The tier is mapped: TIERED mode (R217). -/
def State.tiered (s : State) : Bool := bit (s.regN (pg .lpdc 0 + Off.LPDC_TIER)) 0

/-- The region an address lies in; none for an unmapped address (R211, R212, R312). -/
def State.region (s : State) (a : Nat) : Option Region :=
  if a < 0xF000000000 then some .hbm
  else if a < 0x10000000000 then none
  else if a < 0x28000000000 then
    if s.tiered && decide (a - 0x10000000000 < s.tierBytes) then some .tier else none
  else if a < 0x40000000000 then none
  else if a < 0x40040000000 then some .land
  else if a < 0xE000000000000 then none
  else if a < 0xE800000000000 then some .outA
  else if a < 0xF000000000000 then some .outB
  else if a < 0xFF00000000000 then none
  else if a < 0xFF00004000000 then some .aper
  else none

/-- The region a range of `n` ≥ 1 bytes lies wholly in (R212, R312). -/
def State.rangeRegion (s : State) (a n : Nat) : Option Region :=
  if s.region a = s.region (a + n - 1) then s.region a else none

/-- The range lies wholly in mapped memory outside the register aperture. -/
def State.mappedMem (s : State) (a n : Nat) : Bool :=
  match s.rangeRegion a n with
  | some .aper => false
  | some _ => true
  | none => false

/-- The range lies in HBM3E or the mapped tier. -/
def State.devMem (s : State) (a n : Nat) : Bool :=
  match s.rangeRegion a n with
  | some .hbm => true
  | some .tier => true
  | _ => false

/-- HBMC_MAP.LOCAL_GIB and DIE_IL (R213). -/
def State.localGib (s : State) : Nat := s.field (pg .hbmc 0 + Off.HBMC_MAP) 5 0
def State.dieIl (s : State) : Bool := bit (s.regN (pg .hbmc 0 + Off.HBMC_MAP)) 6

/-- Size of the interleaved region (R213). -/
def interleavedBytes (l : Nat) : Nat := 20 * gib * (48 - l)

/-- Stack and stack address of an HBM3E address (R213, R214). -/
def hbmMap (l : Nat) (il : Bool) (a : Nat) : Nat × Nat :=
  let ri := interleavedBytes l
  if a < ri then
    let td := if il then (a / (ri / 4), a % (ri / 4))
              else (a / 65536 % 4, a / 65536 / 4 * 65536 + a % 65536)
    let g := td.2 / 4096
    (5 * td.1 + g % 5, g / 5 * 4096 + td.2 % 4096)
  else ((a - ri) / (gib * l), gib * (48 - l) + (a - ri) % (gib * l))

/-- Controller and controller address of a tier offset (R216). -/
def tierMap (il : Bool) (total o : Nat) : Nat × Nat :=
  if il then
    let h := o / (total / 2)
    let g := o % (total / 2) / 4096
    (6 * h + g % 6, g / 6 * 4096 + o % 4096)
  else (o / 4096 % 12, o / 4096 / 12 * 4096 + o % 4096)

/-- Where the byte at a physical address is kept: stack s at s · 48 GiB, controller c of the tier at
c · 128 GiB above the tier's base, everything else at its own address. Changing the map moves no data
(R217). -/
def State.loc (s : State) (a : Nat) : Nat :=
  match s.region a with
  | some .hbm => let m := hbmMap s.localGib s.dieIl a; 48 * gib * m.1 + m.2
  | some .tier =>
    let m := tierMap (bit (s.regN (pg .lpdc 0 + Off.LPDC_TIER)) 1) s.tierBytes (a - 0x10000000000)
    0x10000000000 + 128 * gib * m.1 + m.2
  | _ => a

/-! ### Memory -/

/-- The stored byte at a storage address; an unlisted one reads 0 (R238 for landing buffers; elsewhere
DESIGN CHOICE, unsafe: log entry 4). -/
def memGet (m : List Host.Cell) (k : Nat) : Byte := smGet (fun _ => 0) m k

/-- One byte of physical memory. -/
def State.rd8 (s : State) (a : Nat) : Byte := memGet s.mem (s.loc a)

/-- Write one byte of physical memory. -/
def State.wr8 (s : State) (a : Nat) (b : Byte) : State :=
  { s with mem := smSet (fun _ => 0) s.mem (s.loc a) b }

/-- Zero a range of a landing buffer and clear its poison. -/
def State.zeroRange (s : State) (a n : Nat) : State :=
  { s with
    mem := s.mem.filter (fun e => !decide (a ≤ e.1 ∧ e.1 < a + n))
    poison := s.poison.filter (fun e => !decide (2 ^ 52 + a / 8 ≤ e.1 ∧ e.1 < 2 ^ 52 + (a + n) / 8)) }

/-- `n` bytes from address `a`. -/
def State.rdBytes (s : State) (a n : Nat) : Bytes := (upTo a n).map s.rd8

/-- The little-endian number in `n` bytes at `a` (R11). -/
def State.rdNat (s : State) (a n : Nat) : Nat := leNat (s.rdBytes a n)

/-- Write bytes from address `a` upward, leaving poison as it is. -/
def State.wrRaw : State → Nat → Bytes → State
  | s, _, [] => s
  | s, a, b :: bs => State.wrRaw (s.wr8 a b) (a + 1) bs

/-- Bytes under one check code, and one poison mark: 8 in a landing buffer (R220), a 64-byte line elsewhere (R218). -/
def State.unitAt (s : State) (a : Nat) : Nat := if s.region a = some .land then 8 else 64

/-- Where the poison mark of an address is kept. -/
def State.poisonKey (s : State) (a : Nat) : Nat := if s.region a = some .land then 2 ^ 52 + a / 8 else s.loc a / 64

/-- A line or landing-buffer word is poisoned, by the address of any of its bytes (R218, R220). -/
def State.poisoned (s : State) (a : Nat) : Bool := smGet (fun _ => false) s.poison (s.poisonKey a)

/-- Set or clear the poison of the line or word that holds `a`. -/
def State.setPoison (s : State) (a : Nat) (v : Bool) : State :=
  { s with poison := smSet (fun _ => false) s.poison (s.poisonKey a) v }

/-- The first addresses of the `u`-byte units that a range of `n` ≥ 1 bytes touches. -/
def unitsOf (u a n : Nat) : List Nat :=
  if n = 0 then [] else (upTo (a / u) ((a + n - 1) / u - a / u + 1)).map (u * ·)

/-- The first addresses of the lines that a range touches. -/
def linesOf (a n : Nat) : List Nat := unitsOf 64 a n

/-- The lines or words of a range in memory. -/
def State.unitsIn (s : State) (a n : Nat) : List Nat := unitsOf (s.unitAt a) a n

/-- Some line or word of the range is poisoned. -/
def State.anyPoison (s : State) (a n : Nat) : Bool := (s.unitsIn a n).any s.poisoned

/-- Poison the lines or words of a range. -/
def State.poisonRange (s : State) (a n : Nat) : State := (s.unitsIn a n).foldl (fun s l => s.setPoison l true) s

/-- Write bytes to memory. A line or word written whole loses its poison; one written in part keeps it (R218,
R220, R278). -/
def State.wrBytes (s : State) (a : Nat) (bs : Bytes) : State :=
  let u := s.unitAt a
  let s := s.wrRaw a bs
  (unitsOf u a bs.length).foldl
    (fun s l => if a ≤ l ∧ l + u ≤ a + bs.length then s.setPoison l false else s) s

/-- Write a number of `n` bytes, little-endian. -/
def State.wrNat (s : State) (a n v : Nat) : State := s.wrBytes a (natLE n v)

/-- First address of core `c`'s landing buffer (R211). -/
def lbBase (c : Nat) : Nat := 0x40000000000 + 0x400000 * c

/-- Bytes of core `c`'s landing buffer. -/
def State.lbRd (s : State) (c off n : Nat) : Bytes := s.rdBytes (lbBase c + off) n

/-- Write core `c`'s landing buffer. -/
def State.lbWr (s : State) (c off : Nat) (bs : Bytes) : State := s.wrBytes (lbBase c + off) bs

/-! ### Commands and items (R323, R328, R385–R389) -/

namespace Status
def DONE : Nat := 0x0000
def DONE_EMPTY : Nat := 0x0001
def SKIP_NONFINITE : Nat := 0x0002
def SKIP_NORM : Nat := 0x0003
def DONE_VOIDED : Nat := 0x0004
def TILE_CHECK : Nat := 0x0100
def BLOCK_CHECK : Nat := 0x0101
def MEM_UE : Nat := 0x0102
def HOST_LINK_LOST : Nat := 0x0200
def PEER_LINK_LOST : Nat := 0x0201
def PEER_PROTOCOL : Nat := 0x0202
def TICK_OVERRUN : Nat := 0x0300
def VERSION_MISMATCH : Nat := 0x0400
def BAD_COMMAND : Nat := 0x0401
def BUDGET_EXCEEDED : Nat := 0x0402
def ABORTED : Nat := 0x0500
def DEVICE_LEAVING : Nat := 0x0501
def SLIPWAY_FULL : Nat := 0x0600
def TABLE_MISSING : Nat := 0x0601
def SHARD_INCONSISTENT : Nat := 0x0700
end Status

/-- The accepted command with an identifier. -/
def State.cmd? (s : State) (id : Nat) : Option Cmd := s.cmds.find? (·.id == id)

/-- The state with an accepted command changed. -/
def State.updCmd (s : State) (id : Nat) (f : Cmd → Cmd) : State :=
  { s with cmds := s.cmds.map (fun c => if c.id = id then f c else c) }

/-- The command's item has ended. -/
def Cmd.itemEnded (c : Cmd) (i : Nat) : Bool := c.whole.isSome || c.ended.any (·.item == i)

/-- The command's item has failed, ended or not. -/
def Cmd.itemFailed (c : Cmd) (i : Nat) : Bool :=
  c.whole.any (fun w => decide (w.1 ≥ 0x0100)) || c.failed.any (·.1 == i)

/-- The status with which an item would end now, and its tick: its failure's, or `st` now. -/
def Cmd.statusOf (c : Cmd) (i st now : Nat) : Nat × Nat := (c.failed.lookup i).getD (st, now)

/-- Bytes an item has delivered. -/
def Cmd.itemBytes (c : Cmd) (i : Nat) : Nat := (c.bytes.lookup i).getD 0

/-- An item has begun (R389). -/
def Cmd.run (c : Cmd) (i : Nat) : Cmd := if c.running.contains i then c else { c with running := i :: c.running }

/-- An operation of an item has moved or produced an element (R143). -/
def Cmd.make (c : Cmd) (i : Nat) : Cmd := if c.made.contains i then c else { c with made := i :: c.made }

/-- An operation of an item was empty (R143). -/
def Cmd.emptyOp (c : Cmd) (i : Nat) : Cmd := if c.empties.contains i then c else { c with empties := i :: c.empties }

/-- An item fails with a status; the first failure stands, and an item that has ended is unchanged (R389). -/
def Cmd.fail (c : Cmd) (i st now : Nat) : Cmd :=
  if c.itemEnded i || c.failed.any (·.1 == i) then c else { c with failed := c.failed ++ [(i, (st, now))] }

/-- An item ends, with its failure status if it failed and `st` otherwise. -/
def Cmd.endItem (c : Cmd) (i st now : Nat) : Cmd :=
  if c.itemEnded i then c
  else
    let f := c.statusOf i st now
    { c with
      ended := c.ended ++ [{ item := i, status := f.1, bytes := c.itemBytes i, tick := f.2 }],
      failed := if 0x0100 ≤ st ∧ !c.failed.any (·.1 == i) then c.failed ++ [(i, f)] else c.failed }

/-- An item that has ended DONE fails after all: work done for it once every item had ended has failed (R206). -/
def Cmd.refail (c : Cmd) (i st now : Nat) : Cmd :=
  if c.failed.any (·.1 == i) then c
  else { c with
    failed := c.failed ++ [(i, (st, now))]
    ended := c.ended.filter (·.item ≠ i) ++ [{ item := i, status := st, bytes := c.itemBytes i, tick := now }] }

/-- Bytes of an item delivered. -/
def Cmd.addBytes (c : Cmd) (i n : Nat) : Cmd :=
  { c with bytes := (i, c.itemBytes i + n) :: c.bytes.filter (fun e => e.1 ≠ i) }

/-- Every item of the command has ended. -/
def Cmd.allEnded (c : Cmd) : Bool := c.whole.isSome || decide (c.items ≤ c.ended.length)

/-- The item index and tag of a log record for an item of a command. -/
def State.itemInfo (s : State) (cmd item : Nat) : LogInfo :=
  { LogInfo.none with item := some item, tag := (s.cmd? cmd).map (·.tag) }

/-- The REPLICATED flag of a command's timetables was set on some core still holding one (R46, R386). -/
def State.replicated (s : State) (cmd : Nat) : Bool :=
  s.cores.any (fun e => match e.2.tt with
    | some t => t.cmd == cmd && bit (leNat ((t.bytes.drop 6).take 2)) 0
    | none => false)

/-- MB_VOID is logged for a micro-batch-void fault, and under HALT the boundary action becomes due
(R386, R390). -/
def State.mbVoid (s : State) (cmd item : Nat) : State :=
  let p := pg .ras 0
  let s := s.logErr p 0x01 clsVoid (s.itemInfo cmd item)
  if bit (s.regN (p + Off.RAS_CTRL)) 0 then { s with ras := { s.ras with haltPend := some (s.ras.haltPend.getD s.now) } } else s

/-- An item-fatal failure that the item itself met, not one that stops it from outside (R386, R389). -/
def ownFault (st : Nat) : Bool := decide (0x0100 ≤ st ∧ st ≠ Status.ABORTED ∧ st ≠ Status.DEVICE_LEAVING)

/-- A first failure of an item of a command with a status is a micro-batch-void fault as well: its own, in replicated
work (R386). -/
def State.voids (s : State) (c : Cmd) (item st : Nat) : Bool :=
  ownFault st && decide (c.opcode = 1) && !c.itemEnded item && !c.itemFailed item && s.replicated c.id

/-- An item of a command fails with a status; MB_VOID follows the error at once where the failure is a
micro-batch-void fault (R386). -/
def State.failItem (s : State) (cmd item st : Nat) : State :=
  let t := s.updCmd cmd (·.fail item st s.now)
  match s.cmd? cmd with
  | some c => if s.voids c item st then t.mbVoid cmd item else t
  | none => t

/-- An item-fatal error of a page: logged, and the item fails (R385). -/
def State.itemErr (s : State) (page code cmd item st : Nat) : State :=
  (s.logErr page code clsItem (s.itemInfo cmd item)).failItem cmd item st

/-- As `itemErr`, naming an address. -/
def State.itemErrAt (s : State) (page code cmd item st addr : Nat) : State :=
  (s.logErr page code clsItem { s.itemInfo cmd item with addr := some addr }).failItem cmd item st

/-- Count an event of the device's own tide counts (R432). -/
def State.ev (s : State) (f : TideEv → TideEv) : State := { s with age := { s.age with cur := f s.age.cur } }

/-- An item ends. Its own failure in replicated work, where it is met only now, or its end with DONE_VOIDED under
VOID_ON_NONFINITE, is a micro-batch-void fault as well (R386). -/
def State.endItem (s : State) (cmd item st : Nat) : State :=
  match s.cmd? cmd with
  | none => s
  | some c =>
    if c.itemEnded item then s
    else
      let fin := (c.statusOf item st s.now).1
      let void := s.voids c item fin
      let s := s.updCmd cmd (·.endItem item st s.now)
      let s := if fin = Status.TILE_CHECK ∨ fin = Status.BLOCK_CHECK then s.ev (fun e => { e with checkFail := e.checkFail + 1 }) else s
      if void || (decide (fin = Status.DONE_VOIDED) && c.voidNonfin) then s.mbVoid cmd item else s

/-- The items of a command not yet ended all end with a status, as their failure: at once as a whole where none
has begun. -/
def State.failAll (s : State) (cmd st : Nat) : State :=
  match s.cmd? cmd with
  | some k =>
    if k.whole.isSome then s
    else if k.ended.isEmpty && k.failed.isEmpty && !s.replicated cmd then
      s.updCmd cmd (fun k => { k with whole := some (st, s.now) })
    else (upTo 0 k.items).foldl (fun (s : State) i => (s.failItem cmd i st).endItem cmd i st) s
  | none => s

/-- A fresh free value, and the state that has drawn it. -/
def State.draw (s : State) : Nat × State := (s.free, { s with free := s.free + 1 })

/-- The state an effect leads to; one that names nothing leaves the state. -/
def State.after (s : State) : Host.Outcome State Fault Refusal → State
  | .next t => t
  | _ => s

end Sys2Proof.Machine
end

