-- ==== Sys2Proof/Machine/Flags.lean ====
section
/-!
DEFINITION. Machine/Flags.lean: the 64 tick flags of a core and their poison bits: posting, clearing,
waiting and consuming (R51, R52, R57, R58, R65).
-/
namespace Sys2Proof.Machine

/-- SEQ_FLAGS of core `c` as a number. -/
def State.flags (s : State) (c : Nat) : Nat := s.regN (pg .seq c + Off.SEQ_FLAGS)

/-- SEQ_POISON of core `c` as a number. -/
def State.flagPoison (s : State) (c : Nat) : Nat := s.regN (pg .seq c + Off.SEQ_POISON)

/-- The numbers of the bits of a 64-bit number, ascending. -/
def bitsOf (m : Nat) : List Nat := (upTo 0 64).filter (bit m)

/-- `a` without the bits of `b`. -/
def without (a b : Nat) : Nat := a &&& (2 ^ 64 - 1 - b % 2 ^ 64)

/-- Both flag registers of core `c`; flags newly set join the order in which flags were set (R101). -/
def State.setFlags (s : State) (c f p : Nat) : State :=
  let x := s.core c
  let order := x.flagOrder.filter (bit f) ++ bitsOf (without f (s.flags c))
  ((s.setRegN (pg .seq c + Off.SEQ_FLAGS) f).setRegN (pg .seq c + Off.SEQ_POISON) p).setCore c
    { x with flagOrder := order, fresh := x.fresh &&& f }

/-- The flags that sailings and ferries act on: all that are set but those handed over in the present tick (R30). -/
def State.seenFlags (s : State) (c : Nat) : Nat := without (s.flags c) (s.core c).fresh

/-- The wait mask, CONSUME, local signals, target core and flag of a record (R51). -/
def recWait (r : Bytes) : Nat := leNat ((r.drop 0xF0).take 8)
def recSig (r : Bytes) : Nat := leNat ((r.drop 0xF8).take 8)
def recLocal (r : Bytes) : Nat := bits (recSig r) 31 0
def recTarget (r : Bytes) : Nat := bits (recSig r) 47 32
def recTargetFlag (r : Bytes) : Nat := bits (recSig r) 53 48
def recConsume (r : Bytes) : Bool := bit (recSig r) 54

/-- One sailing of core `c` looks at its waited flags. Once all are set it waits no more, consumes them if
CONSUME is set, and issues hollow, failing its item with FAIL_ABORTED, if one of them is poisoned
(R51, R52, R58). -/
def waitOne (c : Nat) (r : SailingRun) (s : State) : State × SailingRun :=
  if r.waited then (s, r)
  else
    let w := recWait r.bytes
    if w &&& s.seenFlags c = w then
      let bad := decide (w &&& s.flagPoison c ≠ 0)
      let s := if recConsume r.bytes then s.setFlags c (without (s.flags c) w) (without (s.flagPoison c) w) else s
      let s := if bad && !r.hollow then
          (s.failItem r.cmd r.item Status.ABORTED).bump (pg .seq c) Off.SEQ_HOLLOW_CNT 1 else s
      (s, { r with waited := true, hollow := r.hollow || bad })
    else (s, r)

/-- Every issued sailing of a core looks at its waited flags, oldest first. -/
def waitAll (c : Nat) : List SailingRun → State → State × List SailingRun
  | [], s => (s, [])
  | r :: rs, s =>
    let (s, r) := waitOne c r s
    let (s, rs) := waitAll c rs s
    (s, r :: rs)

/-- The sailings of core `c` look at their waited flags. -/
def State.checkWaits (s : State) (c : Nat) : State :=
  let (s, l) := waitAll c (s.core c).sailings s
  s.setCore c { s.core c with sailings := l }

/-- Post flags of core `c`: each flag of `mask` that is clear is set, with its poison bit as given; a flag
already set is unchanged (R51). Waiting sailings look again. -/
def State.postFlags (s : State) (c mask : Nat) (poison : Bool) : State :=
  let new := without mask (s.flags c)
  let s := s.setFlags c (s.flags c ||| new)
    (if poison then s.flagPoison c ||| new else without (s.flagPoison c) new)
  let x := s.core c
  (s.setCore c { x with fresh := without x.fresh mask }).checkWaits c

/-- Flags that a free-running producer posts clean: set at once, and acted on from the next boundary (R30, R65, R136). -/
def State.handFlags (s : State) (c mask : Nat) : State :=
  let new := without mask (s.flags c)
  let s := s.setFlags c (s.flags c ||| new) (without (s.flagPoison c) new)
  let x := s.core c
  s.setCore c { x with fresh := x.fresh ||| new }

/-- The hand-offs of the tick that has ended are acted on (R30). -/
def State.handOver (s : State) (c : Nat) : State :=
  let x := s.core c
  (s.setCore c { x with fresh := 0, tailOld := [] }).checkWaits c

/-- Clear flags of core `c` and their poison bits (R51). -/
def State.clearFlags (s : State) (c mask : Nat) : State :=
  s.setFlags c (without (s.flags c) mask) (without (s.flagPoison c) mask)

end Sys2Proof.Machine
end

