-- ==== Sys2Proof/Machine/Homes.lean ====
section
/-!
DEFINITION. Machine/Homes.lean: what every agent's access to coherent memory shares: homes, the directory, line
FIFOs, the copies of participants, and the accesses of agents that hold no lines (R228, R234, R259–R265, R273, R277).
The data of a coherent line is one image: what a message carries is what the line holds when the message is sent, and a
dirty copy's data stands in memory.
-/
namespace Sys2Proof.Machine

def pHOME (h : Nat) : Nat := pg .home h
def pDCACHE (t : Nat) : Nat := pg .dcache t

/-- The slice that is home of an address (R260). -/
def homeOf (a : Nat) : Nat := (upTo 0 14).foldl (fun x g => x ^^^ (a % 2 ^ 52 / 2 ^ (3 * g + 12) % 8)) 0

/-- HOME page of a line. -/
def linePage (line : Nat) : Nat := pHOME (homeOf (64 * line))

/-- Participants 32–35 are the die caches, of class A (R261). -/
def classA (p : Nat) : Bool := decide (32 ≤ p)

/-- Participant, cache number of the predictor, and number within the participant of a core. -/
def atomPart : AtomCore → Nat
  | .server k => k / 4
  | .prep c => 32 + c / 64
def atomCache : AtomCore → Nat
  | .server k => k
  | .prep c => 128 + c / 64
def atomIx : AtomCore → Nat
  | .server k => k % 4
  | .prep c => c % 64

def State.setCoh (s : State) (x : CohSt) : State := { s with coh := x }

/-- A device-fatal error of a home at a line (R268, R267). -/
def State.cohFatal (s : State) (line code : Nat) : State :=
  (s.setRegN (linePage line + Off.HOME_ERR_ADDR) (64 * line)).logErr (linePage line) code clsFatal
    { LogInfo.none with addr := some (64 * line) }

/-- COH_PROTOCOL: a message of a kind not expected (R267). -/
def State.cohProtocol (s : State) (line : Nat) : State := s.cohFatal line 0x02

/-! ### Directory and FIFOs (R263, R265) -/

def CohSt.entry (x : CohSt) (line : Nat) : Option DirEntry := x.dir.find? (·.line == line)

/-- Sharer bits of a line. -/
def CohSt.sharers (x : CohSt) (line : Nat) : List Nat := ((x.entry line).map (·.sharers)).getD []

/-- HOME_DIR_OCC follows the directory. -/
def State.showDir (s : State) (h : Nat) : State :=
  s.setRegN (pHOME h + Off.HOME_DIR_OCC) (s.coh.dir.filter (fun e => homeOf (64 * e.line) == h)).length

/-- The line's entry names these sharers; a new entry is the latest allocated. -/
def State.dirSet (s : State) (line : Nat) (owned : Bool) (sh : List Nat) : State :=
  let e : DirEntry := { line := line, owned := owned, sharers := sh }
  let d := if (s.coh.entry line).isSome then s.coh.dir.map (fun x => if x.line = line then e else x) else s.coh.dir ++ [e]
  (s.setCoh { s.coh with dir := d }).showDir (homeOf (64 * line))

/-- The line's entry is freed. -/
def State.dirFree (s : State) (line : Nat) : State :=
  (s.setCoh { s.coh with dir := s.coh.dir.filter (fun x => x.line ≠ line) }).showDir (homeOf (64 * line))

def State.fifo (s : State) (line : Nat) : List HomeTx := smGet (fun _ => []) s.coh.fifos line

/-- The transaction caches its line, so it needs a directory entry. -/
def needsEntry (t : HomeTx) : Bool :=
  match t.kind with
  | .rdShared => true
  | .rdOwn => true
  | .upgrade => true
  | _ => false

/-- A participant's bit is cleared. An entry that names nobody is freed, unless the transaction at the head will name
its requester in it: then it stands with no state, and keeps its place in the order of allocation (R263, R271). -/
def State.dirDrop (s : State) (line p : Nat) : State :=
  match s.coh.entry line with
  | none => s
  | some e =>
    let sh := e.sharers.filter (· ≠ p)
    if sh.isEmpty && !((s.fifo line).head?.any needsEntry) then s.dirFree line
    else s.dirSet line (e.owned && !sh.isEmpty) sh

/-- The FIFO of a line, with HOME_STAT and HOME_FIFO_MAX. -/
def State.setFifo (s : State) (line : Nat) (f : List HomeTx) : State :=
  let h := homeOf (64 * line)
  let fs := smSet (fun _ => []) s.coh.fifos line f
  let mine := fs.filter (fun e => homeOf (64 * e.1) == h)
  let deep := (mine.map (fun e => e.2.length)).foldl max 0
  ((s.setCoh { s.coh with fifos := fs }).setRegN (pHOME h + Off.HOME_STAT) (mine.length % 65536 + deep % 65536 * 65536)).raiseTo
    (pHOME h) Off.HOME_FIFO_MAX f.length

/-- A transaction with nothing done yet. -/
def mkTx (kind : TxKind) (agent : CohAgent) (core : Nat) (data : Bytes) : HomeTx :=
  { kind := kind, agent := agent, core := core, data := data, started := false, waits := [], contended := false,
    dirty := false, bulk := none }

/-- A transaction enters the FIFO of its line. -/
def State.enter (s : State) (line : Nat) (t : HomeTx) : State := s.setFifo line (s.fifo line ++ [t])

/-- The participant of an agent, if it is one. -/
def agentPart : CohAgent → Option Nat
  | .part p => some p
  | _ => none

/-- Participants to snoop, and the snoop, for a transaction at the head. -/
def CohSt.targets (x : CohSt) (line : Nat) (t : HomeTx) : SnoopKind × List Nat :=
  let e := x.entry line
  let sh := (e.map (·.sharers)).getD []
  let others := sh.filter (fun q => agentPart t.agent ≠ some q)
  let owned := (e.map (·.owned)).getD false
  match t.kind with
  | .rdShared => (.share, if owned then others else [])
  | .rdOnce => (.share, if owned then others else [])
  | .bulkRd => (.share, if owned then others else [])
  | .rdOwn => (.inv, others)
  | .upgrade => (.inv, others)
  | .wb => (.inv, [])
  | .evict => (.inv, [])
  | .backInv => (.back, sh)
  | _ => (.inv, sh)

/-! ### Copies (R261, R262) -/

/-- A participant's copy of a line. -/
def CohSt.copy (x : CohSt) (p line : Nat) : Option CacheCopy := x.copies.find? (fun c => c.part == p && c.line == line)

/-- The participant's copy replaced. -/
def CohSt.setCopy (x : CohSt) (c : CacheCopy) : CohSt :=
  { x with copies := x.copies.filter (fun d => !(d.part == c.part && d.line == c.line)) ++ [c] }

/-- The participant holds the line no more; reservations of its cores on it are lost. -/
def CohSt.dropCopy (x : CohSt) (p line : Nat) : CohSt :=
  { x with
    copies := x.copies.filter (fun d => !(d.part == p && d.line == line))
    resv := x.resv.filter (fun r => !(atomPart r.1 == p && r.2 == line)) }

/-- A participant drops a line: a dirty one is sent back and enters WBP, a clean E line sends EVICT, an S copy goes
silently. -/
def State.evictLine (s : State) (p : PartIx) (line : Nat) : State :=
  match s.coh.copy p line with
  | none => s
  | some c =>
    match c.st with
    | .wbp => s
    | .s => s.setCoh (s.coh.dropCopy p line)
    | .e =>
      let x := s.coh.dropCopy p line
      s.setCoh { x with reqs := x.reqs ++ [(line, mkTx .evict (.part p) 0 [])], evs := x.evs ++ [(p.val, line)] }
    | .m =>
      let x := (s.coh.dropCopy p line).setCopy { c with st := .wbp, held := false, cores := [] }
      let s := s.setCoh { x with reqs := x.reqs ++ [(line, mkTx .wb (.part p) 0 [])] }
      if classA p then s.bump64 (pDCACHE (p - 32)) Off.DCACHE_WB_CNT 1 else s

/-! ### The LLC slices (R262, R276, R278) -/

/-- The slice holds the line no more. -/
def CohSt.llcDrop (x : CohSt) (line : Nat) : CohSt := { x with llc := x.llc.filter (·.line ≠ line) }

/-- A home allocates a line, dirty, in its slice of 32 MiB; a full slice gives up its oldest line to memory (DESIGN
CHOICE: log entry 70). -/
def CohSt.llcPut (x : CohSt) (line : Nat) : CohSt :=
  let x := x.llcDrop line
  let h := homeOf (64 * line)
  let mine := x.llc.filter (fun e => homeOf (64 * e.line) == h)
  let llc := match mine with
    | old :: _ => if 524288 ≤ mine.length then x.llc.erase old else x.llc
    | [] => x.llc
  { x with llc := llc ++ [{ line := line, dirty := true }] }

/-! ### Accesses of agents that hold no lines (R228, R234, R261, R264, R265, R273)

Such an access enters the FIFO of each of its lines when it can be served there, so it waits while anything of the line
is outstanding, and its snoops are answered in the same step (log entry 70). -/

/-- Nothing of the line is outstanding: its FIFO is empty, and no message or write-back of a participant's is on its
way. -/
def CohSt.quiet (x : CohSt) (line : Nat) : Bool :=
  (smGet (fun _ => []) x.fifos line).isEmpty && !x.reqs.any (·.1 == line) && !x.snoops.any (·.line == line)
  && !x.answers.any (·.line == line) && !x.replies.any (fun r => r.line == line && (agentPart r.agent).isSome)
  && !x.copies.any (fun c => c.line == line && c.st == .wbp)

/-- The coherent lines of some ranges, by line number. -/
def State.cohLines (s : State) (rs : List (Nat × Nat)) : List Nat :=
  rs.flatMap (fun r => ((linesOf r.1 r.2).filter (fun a => s.devMem a 64)).map (· / 64))

/-- An access to the ranges can be served. -/
def State.cohReady (s : State) (rs : List (Nat × Nat)) : Bool :=
  (s.coh.fifos.isEmpty && s.coh.copies.isEmpty && s.coh.reqs.isEmpty && s.coh.replies.isEmpty) ||
    (s.cohLines rs).all s.coh.quiet

/-- A snoop of participant `p` and its answer: a bollard hold answers first and is waited out (R270), an S copy that
is gone clears its bit, and the copy goes to I, or under a shared snoop of class H to S. -/
def State.snoopNow (s : State) (k : SnoopKind) (line p : Nat) : State :=
  let page := linePage line
  let s := s.bump64 page Off.HOME_SNOOP_CNT 1
  match s.coh.copy p line with
  | none => s.dirDrop line p
  | some c =>
    let s := if c.held then
        let s := (s.bump64 page Off.HOME_SNOOP_CNT 1).bump page Off.HOME_HOLD_CNT 1
        if classA p then s.bump (pDCACHE (p - 32)) Off.DCACHE_HOLD_ANS_CNT 1 else s
      else s
    if k == .share && !classA p then
      (s.setCoh (s.coh.setCopy { c with st := .s, held := false })).dirSet line false (s.coh.sharers line)
    else (s.setCoh (s.coh.dropCopy p line)).dirDrop line p

/-- One line of a request is served at its home: a read snoops an owner, a write or recall every holder. -/
def State.serveNow (s : State) (k : SnoopKind) (line : Nat) : State :=
  match s.coh.entry line with
  | none => s
  | some e => (if k == .share && !e.owned then [] else e.sharers).foldl (fun (s : State) p => s.snoopNow k line p) s

/-- The requests of an access: one for each 4 KiB page that its lines touch (R273), each served line by line; a line of
which something is outstanding is left to its own transaction. A write leaves the slices without the lines it
writes. -/
def State.viaHomes (s : State) (k : SnoopKind) (write : Bool) (ls : List Nat) : State :=
  let lines := ls.filter s.coh.quiet
  let pages := lines.foldl (fun (l : List Nat) x => if l.contains (x / 64) then l else x / 64 :: l) []
  let s := pages.foldl (fun (s : State) p => s.bump64 (linePage (64 * p)) Off.HOME_REQ_CNT 1) s
  let s := lines.foldl (fun (s : State) l => s.serveNow k l) s
  if write then s.setCoh { s.coh with llc := s.coh.llc.filter (fun e => !lines.contains e.line) } else s

/-- An agent that holds no lines reads some ranges: RD_ONCE or BULK_RD. -/
def State.homeRead (s : State) (rs : List (Nat × Nat)) : State := s.viaHomes .share false (s.cohLines rs)

/-- It writes them: WR_LINE, BULK_WR or WR_PART. -/
def State.homeWrite (s : State) (rs : List (Nat × Nat)) : State := s.viaHomes .inv true (s.cohLines rs)

/-- A pontoon has the copies of some ranges recalled before it reads or writes them (R234). -/
def State.homeRecall (s : State) (rs : List (Nat × Nat)) : State := s.viaHomes .inv false (s.cohLines rs)

/-- A die cache holds the line in E or M. -/
def CohSt.owns (x : CohSt) (t line : Nat) : Bool := (x.copy (32 + t) line).any (fun c => c.st == .e || c.st == .m)

/-- A ferry's write that hits its die cache: the line is M there, and no prep-core data cache holds it (R261, R262). -/
def CohSt.dieWrite (x : CohSt) (t line : Nat) : CohSt :=
  match x.copy (32 + t) line with
  | none => x
  | some c =>
    let x := x.setCopy { c with st := .m, cores := [] }
    { x with resv := x.resv.filter (fun r => !(atomPart r.1 == 32 + t && r.2 == line)) }

/-- A ferry of T-die `t` reads or writes some ranges: a line that the die cache holds in E or M is served there, every
other at its home, and neither allocates it (R228, R261). -/
def State.ferryAccess (s : State) (t : Nat) (write : Bool) (rs : List (Nat × Nat)) : State :=
  let ls := s.cohLines rs
  let hits := ls.filter (s.coh.owns t)
  let miss := ls.filter (fun l => !s.coh.owns t l)
  let s := if hits.isEmpty then s else s.bump64 (pDCACHE t) Off.DCACHE_HIT_CNT hits.length
  let s := if write then s.setCoh (hits.foldl (fun (x : CohSt) l => x.dieWrite t l) s.coh) else s
  s.viaHomes (if write then .inv else .share) write miss

/-- A clean copy of a range held in a die cache is dropped (R243, R262). -/
def State.dropClean (s : State) (t : DieIx) (rs : List (Nat × Nat)) : State :=
  let p : PartIx := ⟨32 + t, by omega⟩
  (s.cohLines rs).foldl (fun (s : State) l => if (s.coh.copy p l).any (·.st == .e) then s.evictLine p l else s) s

end Sys2Proof.Machine
end

