-- ==== Sys2Proof/Machine/Operands.lean ====
section
/-!
DEFINITION. Machine/Operands.lean: the operand forms: the slots of a sailing record, the load checks of
each slot, the landing-buffer ranges a slot reads and writes, and element access in the layout of R94
(R46–R51, R92–R95, R117–R121, R161, R223–R225, R352, R371, R486).
-/
namespace Sys2Proof.Machine

/-- The little-endian number in bytes `off` to `off + n − 1` of a structure. -/
def fld (b : Bytes) (off n : Nat) : Nat := leNat ((b.drop off).take n)

/-! ### Rows and arrays in the landing buffer (R94, R74) -/

/-- Bytes of a row of `n` elements, without its padding. -/
def rowBytes (code n : Nat) : Nat := ceilDiv (n * elemBits code) 8

/-- Row pitch: the row's bytes rounded up to 64. -/
def pitch (code n : Nat) : Nat := roundUp (rowBytes code n) 64

/-- Bytes of a row of MX scales with its padding. -/
def scalePitch (n : Nat) : Nat := roundUp (ceilDiv n 32) 64

/-- Bytes of an array of `rows` rows of `n` elements, its scale array included. -/
def arrBytes (code rows n : Nat) : Nat :=
  rows * pitch code n + if isMX code then rows * scalePitch n else 0

/-- Element pattern `k` of a packed row at address `a`. -/
def State.rdPat (s : State) (a code k : Nat) : Nat :=
  let w := elemBits code
  let bo := k * w
  (s.rdNat (a + bo / 8) (ceilDiv (bo % 8 + w) 8) >>> (bo % 8)) % 2 ^ w

/-- Value of element (i, k) of an array of `rows` rows of `n` elements at address `a`; `g` is the bucket
exponent of a G16 array. -/
def State.rdVal (s : State) (a code rows n : Nat) (g : Int) (i k : Nat) : FVal :=
  let p := s.rdPat (a + i * pitch code n) code k
  if isMX code then
    decMX code (s.rd8 (a + rows * pitch code n + i * scalePitch n + k / 32)).toNat p
  else decElem code g p

/-- The FP32 pattern at an address. -/
def State.rd32 (s : State) (a : Nat) : Nat := s.rdNat a 4

/-- The runs of at most 32 of a list. -/
def chunks32 {α : Type} (l : List α) : Nat → List (List α)
  | 0 => []
  | n + 1 => if l.isEmpty then [] else l.take 32 :: chunks32 (l.drop 32) n

/-- Packed bytes and scale bytes of a run of values in a format (R73, R75, R78). -/
def encRun (code : Nat) (g : Int) (vs : List FVal) : Bytes × Bytes :=
  let pack := fun es => packBits (elemBits code) es (rowBytes code es.length)
  if isMX code then
    let qs := (chunks32 vs vs.length).map (quantMX code)
    (pack (qs.flatMap (·.2)), qs.map (fun q => BitVec.ofNat 8 q.1))
  else (pack (vs.map (encElem code g)), [])

/-- Write a run of values as elements `k0` onward of row `i`; `k0` is a multiple of 32 in an MX format. -/
def State.wrRun (s : State) (a code rows n : Nat) (g : Int) (i k0 : Nat) (vs : List FVal) : State :=
  let e := encRun code g vs
  let s := s.wrBytes (a + i * pitch code n + k0 * elemBits code / 8) e.1
  if isMX code then s.wrBytes (a + rows * pitch code n + i * scalePitch n + k0 / 32) e.2 else s

/-- Write rows, one list of values a row, from row `i` on. -/
def State.wrRows (a code rows n : Nat) (g : Int) : Nat → List (List FVal) → State → State
  | _, [], s => s
  | i, r :: rs, s => State.wrRows a code rows n g (i + 1) rs (s.wrRun a code rows n g i 0 r)

/-- Values as they read back once converted to a format. -/
def asWritten (code : Nat) (g : Int) (vs : List FVal) : List FVal :=
  if isMX code then
    (chunks32 vs vs.length).flatMap (fun b => let q := quantMX code b; q.2.map (decMX code q.1))
  else vs.map (fun v => decElem code g (encElem code g v))

/-- A landing-buffer range: offset and length. -/
abbrev Span := Nat × Nat

/-- Two ranges share a byte. -/
def overlap (x y : Span) : Bool := decide (x.1 < y.1 + y.2 ∧ y.1 < x.1 + x.2 ∧ 0 < x.2 ∧ 0 < y.2)

/-- Some range of one list shares a byte with some range of the other. -/
def overlaps (xs ys : List Span) : Bool := xs.any (fun x => ys.any (overlap x))

/-- A range lies within the 4 MiB landing buffer. -/
def inLB (x : Span) : Bool := decide (x.1 + x.2 ≤ 0x400000)

/-- An address field of R92: 64-byte aligned and within 4 MiB. -/
def addrOk (a : Nat) : Bool := decide (a % 64 = 0 ∧ a < 0x400000)

/-! ### The ME slot (R92, R93, R486) -/

/-- The fields of an ME slot. -/
structure MeSlot where
  op : Nat
  arith : Nat
  first : Bool
  tA : Bool
  tB : Bool
  fa : Nat
  fb : Nat
  set : Nat
  clear : Bool
  drain : Bool
  sumsq : Bool
  scaleEn : Bool
  biasEn : Bool
  order : Bool
  out : Nat
  f : Nat
  top : Nat
  tf : Nat
  m : Nat
  n : Nat
  k : Nat
  a : Nat
  b : Nat
  o : Nat
  sb : Nat
  t : Nat
  ss : Nat
  param : Nat
  parts : Nat
  flag0 : Nat
  deriving DecidableEq, Repr

/-- Decode of the 48 bytes of an ME slot. -/
def meSlot (b : Bytes) : MeSlot :=
  let mode := fld b 1 1
  let acc := fld b 4 1
  let epi := fld b 6 1
  { op := fld b 0 1, arith := bits mode 2 0, first := bit mode 3, tA := bit mode 4, tB := bit mode 5,
    fa := fld b 2 1, fb := fld b 3 1, set := bits acc 1 0, clear := bit acc 2, drain := bit acc 3,
    sumsq := bit acc 4, scaleEn := bit acc 5, biasEn := bit acc 6, order := bit acc 7, out := fld b 5 1,
    f := bits epi 3 0, top := bits epi 5 4, tf := fld b 7 1, m := fld b 8 2, n := fld b 10 2,
    k := fld b 12 4, a := fld b 0x10 4, b := fld b 0x14 4, o := fld b 0x18 4, sb := fld b 0x1C 4,
    t := fld b 0x20 4, ss := fld b 0x24 4, param := fld b 0x28 4, parts := fld b 0x2C 1, flag0 := fld b 0x2D 1 }

namespace MeSlot

/-- The operation is in a D mode. -/
def dmode (x : MeSlot) : Bool := decide (2 ≤ x.arith)
/-- Slices of the D mode (R109). -/
def slices (x : MeSlot) : Nat := 10 - x.arith
/-- Output blocks (R99). -/
def rbs (x : MeSlot) : Nat := ceilDiv x.m 128
def cbs (x : MeSlot) : Nat := ceilDiv x.n 128
def nb (x : MeSlot) : Nat := x.rbs * x.cbs
/-- The operands are an INT8 pair (R95). -/
def int8 (x : MeSlot) : Bool := x.arith == 0 && x.fa == 0x07
/-- Size of one D partial (R111). -/
def zBytes (x : MeSlot) : Nat := x.m * roundUp (16 * x.n) 64
/-- The operation emits through the epilogue. -/
def emits (x : MeSlot) : Bool := x.op == 3 || (x.op == 1 && x.drain)
/-- Bucket exponent of a G16 output (R105). -/
def gexp (x : MeSlot) : Int := sext 8 x.param

/-- Values of k per accumulating cycle (R95); none for a pair that is not allowed. -/
def chunk (x : MeSlot) : Option Nat :=
  let w16 := fun f => f == 2 || f == 3
  let f8 := fun f => f == 4 || f == 5
  if x.dmode then (if x.fa = 7 ∧ x.fb = 7 then some 2 else none)
  else if x.arith = 1 then (if x.fa = 1 ∧ x.fb = 1 then some 1 else none)
  else if w16 x.fa && w16 x.fb then some 1
  else if f8 x.fa && f8 x.fb then some 2
  else if x.fa = 7 ∧ x.fb = 7 then some 2
  else if x.fa = 0x0C ∧ x.fb = 0x0C then some 4
  else if isMX x.fa && isMX x.fb then some 2
  else none

/-- Accumulating cycles per block, kc (R99). -/
def kc (x : MeSlot) : Nat := if x.arith = 1 then 3 * x.k else ceilDiv x.k (x.chunk.getD 1)

/-- Fields of the epilogue and output, all zero when the operation does not emit. -/
def epiFields (x : MeSlot) : List Nat :=
  [b2n x.sumsq, b2n x.scaleEn, b2n x.biasEn, b2n x.order, x.f, x.top, x.tf, x.t, x.ss, x.param]

/-- The fields of which R486 lists none for the opcode: each must be 0. -/
def unlisted (x : MeSlot) : List Nat :=
  let tr := [b2n x.tA, b2n x.tB]
  let fc := [b2n x.first, x.flag0]
  match x.op with
  | 1 => if x.dmode then
      tr ++ fc ++ [x.set, x.parts] ++ x.epiFields ++ (if x.drain then [] else [x.out])
    else fc ++ [x.parts] ++ (if x.drain then [] else x.epiFields ++ [x.out, x.o, x.sb])
  | 2 => if x.dmode then
      tr ++ [x.fa, x.fb, x.set, b2n x.clear, x.k] ++ x.epiFields ++ (if x.drain then [] else [x.out, x.sb]) ++
        (if x.first then [] else [x.flag0])
    else tr ++ [x.fa, x.fb, b2n x.clear, b2n x.drain, x.k, x.b, x.o, x.sb, x.out] ++ x.epiFields ++
        (if x.first then [] else [x.flag0])
  | 3 => tr ++ fc ++ [x.fa, x.fb, b2n x.clear, b2n x.drain, x.k, x.a, x.b, x.parts]
  | _ => tr ++ fc ++ [x.fa, x.fb, x.set, b2n x.clear, b2n x.drain, x.n, x.b, x.out, x.parts] ++ x.epiFields ++
        (if x.op = 4 then [x.sb] else [])

/-- Side and operand addresses and their lengths: reads, then writes (R92–R94, R101–R111). -/
def spans (x : MeSlot) : List Span × List Span :=
  let part := x.nb * 65536
  let out := [(x.o, arrBytes x.out x.m x.n)]
  let side := (if x.scaleEn then [(x.sb, 4 * x.n)] else []) ++
    (if x.biasEn then [(x.sb + roundUp (4 * x.n) 64, 4 * x.n)] else []) ++
    (if x.top ≠ 0 then [(x.t, x.m * pitch x.tf x.n)] else [])
  let emit := out ++ (if x.sumsq then [(x.ss, 4 * x.m)] else [])
  let dexp := [(x.sb, 2 * x.m), (x.sb + roundUp (2 * x.m) 64, 2 * x.n)]
  match x.op with
  | 1 =>
    if x.dmode then
      ([(x.a, x.slices * (x.m * pitch 7 x.k)), (x.b, x.slices * (x.n * pitch 7 x.k))] ++ dexp,
        if x.drain then out else [(x.o, x.zBytes)])
    else
      ([(x.a, if x.tA then arrBytes x.fa x.k x.m else arrBytes x.fa x.m x.k),
        (x.b, if x.tB then arrBytes x.fb x.k x.n else arrBytes x.fb x.n x.k)] ++ (if x.drain then side else []),
        if x.drain then emit else [])
  | 2 =>
    if x.dmode then
      ([(x.a, x.parts * x.zBytes), (x.b, x.zBytes)] ++ (if x.drain then dexp else []),
        if x.drain then out else [(x.o, x.zBytes)])
    else ([(x.a, x.parts * part)], [])
  | 3 => (side, emit)
  | 4 => ([(x.a, x.m * pitch 0 x.k)], [(x.o, 2 * x.m)])
  | 5 => ([(x.a, x.m * pitch 0 x.k), (x.sb, 2 * x.m)], [(x.o, x.slices * (x.m * pitch 7 x.k))])
  | _ => ([], [])

/-- OUT_FMT is allowed by R105. -/
def outOk (x : MeSlot) : Bool :=
  if x.dmode then x.out == 0 || x.out == 1
  else if isMX x.out then decide (x.n % 32 = 0)
  else if x.out = 0x10 then
    !x.scaleEn && !x.biasEn && decide (x.f = 0 ∧ x.top = 0) && (x.op != 1 || x.int8)
  else decide (1 ≤ x.out ∧ x.out ≤ 7)

/-- The load checks of R93 and R486 on an ME slot's bytes. -/
def loadOk (b : Bytes) : Bool :=
  let x := meSlot b
  let used := fun v => decide (v % 64 = 0 ∧ v < 0x400000)
  decide (1 ≤ x.op ∧ x.op ≤ 5 ∧ x.arith ≤ 4) && decide (bits (fld b 1 1) 7 6 = 0) && decide (bits (fld b 6 1) 7 6 = 0)
  && decide (fld b 0x2E 2 = 0) && x.unlisted.all (· == 0)
  && [x.a, x.b, x.o, x.sb, x.t, x.ss].all used
  && (x.spans.1 ++ x.spans.2).all inLB
  && decide (0 < x.m) && (decide (0 < x.n) || x.op == 4 || x.op == 5) && (decide (0 < x.k) || x.op == 2 || x.op == 3)
  && (match x.op with
      | 1 => x.chunk.isSome && !(x.tA && isMX x.fa) && !(x.tB && isMX x.fb) && (x.clear || !x.dmode)
        && (x.dmode || (x.drain && x.clear) || decide (x.nb ≤ 4))
      | 2 => decide (1 ≤ x.parts ∧ x.parts ≤ 32) && (x.dmode || (decide (x.nb ≤ 4) && (x.first || x.parts == 1)))
        && (!x.first || decide (x.flag0 + x.parts ≤ 64))
      | 3 => !x.dmode && decide (x.nb ≤ 4)
      | _ => x.dmode && decide (x.fa = 0))
  && (if x.emits || (x.op == 2 && x.dmode && x.drain) then
        x.outOk && (x.dmode || [1, 2, 3, 4, 5].contains x.tf) && decide (x.top ≤ 2 ∧ x.f ≤ 7)
        && !(x.out == 6 && x.f == 2) && (x.out != 6 || decide (x.param < 256))
      else true)

end MeSlot

/-! ### The VE slot (R117–R121, R148, R161, R165) -/

/-- The fields of a VE slot. -/
structure VeSlot where
  op : Nat
  fi : Nat
  fo : Nat
  axis : Bool
  sample : Bool
  bcast : Bool
  preSs : Bool
  maskOut : Bool
  rows : Nat
  cols : Nat
  a : Nat
  b : Nat
  d : Nat
  aux : Nat
  imm : Nat
  deriving DecidableEq, Repr

/-- Decode of the 32 bytes of a VE slot. -/
def veSlot (b : Bytes) : VeSlot :=
  let c := fld b 3 1
  { op := fld b 0 1, fi := fld b 1 1, fo := fld b 2 1, axis := bit c 0, sample := bit c 1, bcast := bit c 2,
    preSs := bit c 3, maskOut := bit c 4, rows := fld b 4 2, cols := fld b 6 2, a := fld b 8 4, b := fld b 12 4,
    d := fld b 0x10 4, aux := fld b 0x14 4, imm := fld b 0x18 4 }

namespace VeSlot

/-- Bucket exponent of a G16 format named by the slot (R117). -/
def gexp (x : VeSlot) : Int := sext 8 x.imm

/-- A window-path operation (R148). -/
def window (x : VeSlot) : Bool := [0x30, 0x31, 0x32, 0x33, 0x34, 0x35, 0x36, 0x38, 0x39, 0x3A, 0x3B, 0x3D].contains x.op
/-- A reduction (R123). -/
def reduction (x : VeSlot) : Bool := decide (0x11 ≤ x.op ∧ x.op ≤ 0x16)

/-- An assigned opcode. -/
def known (x : VeSlot) : Bool :=
  decide (1 ≤ x.op ∧ x.op ≤ 0x16) || [0x18, 0x19, 0x1A, 0x20, 0x21, 0x22, 0x28, 0x29].contains x.op || x.window
  || decide (0x40 ≤ x.op ∧ x.op ≤ 0x44)

/-- Opcodes that read SRC_B as an operand in FMT_IN. -/
def readsB (x : VeSlot) : Bool :=
  decide (1 ≤ x.op ∧ x.op ≤ 6) || [0x09, 0x30, 0x33, 0x34, 0x35, 0x36, 0x3A, 0x3B, 0x41, 0x42, 0x43, 0x44].contains x.op

/-- Opcodes that read SRC_A. -/
def readsA (x : VeSlot) : Bool := !([0x21, 0x22, 0x36, 0x3A, 0x3B].contains x.op)

/-- Opcodes whose AUX is a landing-buffer address. -/
def auxAddr (x : VeSlot) : Bool :=
  [0x04, 0x19, 0x1A, 0x20, 0x21, 0x22, 0x42, 0x43].contains x.op || x.window

/-- ACT or ACT_BWD, whose AUX[3:0] is a function code. -/
def act (x : VeSlot) : Bool := x.op == 0x10 || x.op == 0x44

/-- Opcodes that read an FP32 value from IMM (R121). -/
def immF32 (x : VeSlot) : Bool :=
  [0x07, 0x19, 0x1A, 0x20].contains x.op || (x.act && x.aux == 2)

/-- Rows and columns of the result. -/
def outRows (x : VeSlot) : Nat := if x.op = 0x28 ∨ x.op = 0x29 then x.cols else x.rows
def outCols (x : VeSlot) : Nat := if x.op = 0x28 ∨ x.op = 0x29 then x.rows else x.cols

/-- Bytes of a reduction's packed result (R123). -/
def redBytes (x : VeSlot) : Nat := (if x.axis then x.cols else x.rows) * (if x.op = 0x16 then 8 else 4)

/-- Reads and writes, apart from what a window or norm descriptor names. -/
def spans (x : VeSlot) : List Span × List Span :=
  let ra := if x.readsA && !x.window then
    [(x.a, if x.op = 0x40 then ceilDiv x.cols 8 else arrBytes x.fi x.rows x.cols)] else []
  let rb := if x.readsB && !x.window then [(x.b, arrBytes x.fi (if x.bcast then 1 else x.rows) x.cols)] else []
  let stat := if x.op = 0x19 then 8 * x.rows else 4 * x.rows
  let raux :=
    if x.op = 4 then [(x.aux, arrBytes x.fi x.rows x.cols)]
    else if x.op = 0x19 then [(x.aux, roundUp (4 * x.cols) 64 + 4 * x.cols)]
    else if x.op = 0x1A then (x.aux, 4 * x.cols) :: (if x.preSs then [(x.b, stat)] else [])
    else if x.op = 0x20 ∨ x.op = 0x21 ∨ x.op = 0x22 then [(x.aux, 16)]
    else if x.op = 0x42 ∨ x.op = 0x43 then [(x.aux, 64)]
    else if x.window then [(x.aux, 128)] else []
  let w := if x.op = 0x40 ∨ x.window then [] else
    if x.reduction then [(x.d, x.redBytes)] else [(x.d, arrBytes x.fo x.outRows x.outCols)]
  let w2 :=
    if x.op = 0x19 ∨ x.op = 0x1A then [(x.b, stat)]
    else if x.op = 0x20 ∧ x.maskOut then [(x.b, x.rows * roundUp (ceilDiv x.cols 8) 64)] else []
  (ra ++ rb ++ raux, w ++ w2)

/-- Slot fields that the opcode does not use; each must be 0 (R117). -/
def unlisted (x : VeSlot) : List Nat :=
  (if x.reduction && x.op != 0x14 then [] else [b2n x.axis]) ++
  (if x.op = 0x16 then [] else [b2n x.sample]) ++
  (if decide (1 ≤ x.op ∧ x.op ≤ 6) || x.op == 0x09 || decide (0x41 ≤ x.op ∧ x.op ≤ 0x44) then [] else [b2n x.bcast]) ++
  (if x.op = 0x1A then [] else [b2n x.preSs]) ++
  (if x.op = 0x20 then [] else [b2n x.maskOut]) ++
  (if x.readsA then [] else [x.a]) ++
  (if x.readsB || x.op == 0x19 || x.op == 0x1A || (x.op == 0x20 && x.maskOut) then [] else [x.b]) ++
  (if x.auxAddr || x.act then [] else [x.aux]) ++
  (if x.op = 0x40 then [x.d] else []) ++
  (if x.op = 0x21 ∨ x.op = 0x22 then [x.fi] else [])

/-- IMM holds only what the opcode and formats give it. -/
def immOk (x : VeSlot) : Bool :=
  if x.immF32 then x.fi != 6 && x.fo != 6
  else if x.op = 0x40 then decide (x.imm ≤ 1)
  else if x.fi = 6 ∨ x.fo = 6 then decide (x.imm < 256)
  else x.imm == 0

/-- The load checks of R121, R161 and R165 on a VE slot's bytes; `ve1` says slot 1, `me` is the record's
ME slot. -/
def loadOk (b : Bytes) (ve1 : Bool) (me : MeSlot) : Bool :=
  let x := veSlot b
  x.known && decide (bits (fld b 3 1) 7 5 = 0) && decide (fld b 0x1C 4 = 0)
  && x.unlisted.all (· == 0) && x.immOk
  && [x.a, x.b, x.d].all addrOk && (if x.auxAddr then addrOk x.aux else if x.act then decide (x.aux ≤ 7) else true)
  && (x.spans.1 ++ x.spans.2).all inLB && decide (0 < x.rows ∧ 0 < x.cols)
  && decide (x.fi ≤ 0x10 ∧ x.fo ≤ 0x10)
  && (x.op == 0x21 || x.op == 0x22 || !([0x00, 0x0E, 0x0F].contains x.fi))
  && !([0x0E, 0x0F].contains x.fo)
  && (!(isMX x.fi || x.fi == 6) || x.op == 0x08 || x.op == 0x29)
  && (!isMX x.fo || x.reduction || decide (x.outCols % 32 = 0))
  && (x.op != 0x29 || decide (x.rows % 32 = 0 ∧ x.cols % 32 = 0) && isMX x.fi && isMX x.fo)
  && (x.op != 0x28 || [8, 16, 32].contains (elemBits x.fi))
  && (!x.reduction || x.fo == (if x.op = 0x14 then 0x10 else 0x01))
  && (!([0x18, 0x19, 0x1A, 0x41, 0x42, 0x43].contains x.op) || decide (x.cols ≤ 16384))
  && (x.op != 0x40 || (!ve1 && x.fi == 7 && x.fo == 7 && x.rows == 1 && !me.dmode && decide (1 ≤ me.op ∧ me.op ≤ 3)
      && x.cols == (if x.imm % 2 = 0 then me.m else me.nb)))

end VeSlot

/-! ### Ferry and link slots (R222–R225, R250, R352, R371) -/

/-- The fields of a ferry slot. -/
structure FSlot where
  op : Nat
  lead : Nat
  signal : Bool
  waitf : Bool
  sig : Nat
  wait : Nat
  lb : Nat
  mem : Nat
  shape : Nat
  arg : Nat
  deriving DecidableEq, Repr

/-- Decode of the 24 bytes of a ferry slot. -/
def fSlot (b : Bytes) : FSlot :=
  let c := fld b 1 1
  { op := fld b 0 1, lead := bits c 4 0, signal := bit c 5, waitf := bit c 6, sig := bits (fld b 2 1) 4 0,
    wait := bits (fld b 3 1) 5 0, lb := fld b 4 4, mem := fld b 8 8, shape := fld b 0x10 4, arg := fld b 0x14 4 }

namespace FSlot

def rows (x : FSlot) : Nat := bits x.shape 15 0
def units (x : FSlot) : Nat := bits x.shape 31 16
/-- Bytes of a row. -/
def rowB (x : FSlot) : Nat := x.units * 64
/-- Memory row pitch of COPY_IN and COPY_OUT. -/
def mpitch (x : FSlot) : Nat := if x.arg = 0 then x.rowB else x.arg
/-- Berth fields of PUSH and POP (R170, R224). -/
def firstId (x : FSlot) : Nat := bits x.mem 31 0
def mb (x : FSlot) : Nat := bits x.mem 47 32
def stage (x : FSlot) : Nat := bits x.mem 55 48
def berth (x : FSlot) : Nat := bits x.mem 60 56
def recompute (x : FSlot) : Bool := bit x.mem 61
def count (x : FSlot) : Nat := bits x.shape 7 0 + 1
def tileBytes (x : FSlot) : Nat := (bits x.shape 17 8 + 1) * 64
def fmt (x : FSlot) : Nat := bits x.arg 7 0
def codec (x : FSlot) : Nat := bits x.arg 9 8
def tslot (x : FSlot) : Nat := bits x.arg 12 10
/-- Node of a peer operation. -/
def node (x : FSlot) : Nat := bits x.arg 14 0

/-- Landing-buffer reads and writes, apart from what a window descriptor names and a QRUN's entries. -/
def spans (x : FSlot) : List Span × List Span :=
  let rs := (x.lb, x.rows * x.rowB)
  let ix := (x.arg, 4 * x.rows)
  match x.op with
  | 0x01 => ([], [rs])
  | 0x02 => ([(x.lb, 128)], [])
  | 0x03 => ([ix], [rs])
  | 0x04 => ([], [(x.lb, x.count * x.tileBytes)])
  | 0x05 => ([], [(x.lb, arrBytes (bits x.arg 15 8) (32 * x.units) x.rows)])
  | 0x08 => ([rs], [])
  | 0x09 => ([ix, rs], [])
  | 0x0A => ([(x.lb, x.count * x.tileBytes)], [])
  | 0x10 => ([], [rs])
  | 0x11 => ([rs], [])
  | _ => ([], [])

/-- The opcode is allowed on the ferry (R222). -/
def onFerry (x : FSlot) (f : Nat) : Bool :=
  match f with
  | 0 => decide (1 ≤ x.op ∧ x.op ≤ 6)
  | 1 => decide (1 ≤ x.op ∧ x.op ≤ 6)
  | 2 => x.op == 6 || decide (0x08 ≤ x.op ∧ x.op ≤ 0x0B)
  | _ => x.op == 6 || x.op == 0x10 || x.op == 0x11

/-- The checks of R224 and R225 but for LEAD. -/
def fieldsOk (b : Bytes) (f : Nat) : Bool :=
  let x := fSlot b
  let addr := decide (x.mem % 64 = 0)
  let lb := addrOk x.lb
  let sh := decide (0 < x.rows ∧ 0 < x.units)
  x.onFerry f && decide (bits (fld b 1 1) 7 7 = 0) && decide (bits (fld b 2 1) 7 5 = 0)
  && decide (bits (fld b 3 1) 7 6 = 0) && (x.spans.1 ++ x.spans.2).all inLB
  && (match x.op with
      | 0x01 => addr && lb && sh && decide (x.arg % 64 = 0)
      | 0x08 => addr && lb && sh && decide (x.arg % 64 = 0)
      | 0x02 => lb && decide (x.mem = 0 ∧ x.shape = 0 ∧ x.arg = 0)
      | 0x03 => addr && lb && sh && addrOk x.arg
      | 0x09 => addr && lb && sh && addrOk x.arg
      | 0x04 => lb && decide (bits x.mem 63 62 = 0 ∧ bits x.shape 31 18 = 0 ∧ bits x.arg 31 8 = 0)
      | 0x0A => lb && decide (bits x.mem 63 62 = 0 ∧ bits x.shape 31 18 = 0 ∧ bits x.arg 31 13 = 0 ∧ x.codec ≤ 2)
        && (x.codec == 0 || decide (1 ≤ x.fmt ∧ x.fmt ≤ 7)) && (x.codec != 2 || [1, 2, 3, 6].contains x.fmt)
      | 0x05 => addr && lb && sh && isMX (bits x.arg 7 0) && isMX (bits x.arg 15 8)
        && decide (bits x.arg 31 16 = 0 ∧ x.rows % 32 = 0)
      | 0x06 => decide (x.lb = 0 ∧ x.mem = 0 ∧ x.arg = 0 ∧ x.units = 0 ∧ 1 ≤ x.rows ∧ x.rows ≤ 4096)
      | 0x0B => decide (x.lb = 0 ∧ x.mem % 4096 = 0)
      | _ => lb && sh && decide (bits x.arg 31 15 = 0 ∧ x.node ≠ 0x7FFF))

/-- The load checks of R225 on a ferry slot's bytes. -/
def loadOk (b : Bytes) (f : Nat) : Bool :=
  let x := fSlot b
  fieldsOk b f && (if f ≤ 1 then decide (1 ≤ x.lead ∧ x.lead ≤ 16) else x.lead == 0)

end FSlot

/-- The fields of a link slot (R352, R371). -/
structure LSlot where
  op : Nat
  lead : Nat
  signal : Bool
  sig : Nat
  port : Nat
  lb : Nat
  bytes : Nat
  stream : Nat
  exp : Nat
  deriving DecidableEq, Repr

/-- Decode of the 16 bytes of a link slot. -/
def lSlot (b : Bytes) : LSlot :=
  let c := fld b 1 1
  { op := fld b 0 1, lead := bits c 4 0, signal := bit c 5, sig := bits (fld b 2 1) 4 0, port := fld b 3 1,
    lb := fld b 4 4, bytes := fld b 8 4, stream := fld b 12 2, exp := fld b 14 1 }

namespace LSlot

/-- Reads and writes of the landing buffer. -/
def spans (x : LSlot) : List Span × List Span :=
  let r := [(x.lb, x.bytes)]
  match x.op with
  | 0x01 => (r, [])
  | 0x02 => ([], r)
  | 0x12 => ([], [])
  | _ => (r, r)

/-- The load checks of R352 and R371 on a link slot's bytes. -/
def loadOk (b : Bytes) : Bool :=
  let x := lSlot b
  let base := decide (bits (fld b 1 1) 7 6 = 0 ∧ bits (fld b 2 1) 7 5 = 0) && addrOk x.lb && inLB (x.lb, x.bytes)
  let size := decide (1 ≤ x.bytes ∧ x.bytes ≤ 0x400000)
  let z := decide (fld b 14 2 = 0)
  base && (match x.op with
    | 0x01 => size && z && decide (x.lead = 0 ∧ x.port ≤ 17)
    | 0x02 => size && z && decide (1 ≤ x.lead ∧ x.lead ≤ 16 ∧ x.port ≤ 17)
    | 0x10 => decide (x.lead = 0 ∧ x.port ≤ 7 ∧ x.bytes % 2 = 0 ∧ 2 ≤ x.bytes ∧ x.bytes ≤ 65536 ∧ x.stream ≤ 1023 ∧
        fld b 15 1 = 0)
    | 0x11 => size && z && decide (x.lead = 0 ∧ x.port ≤ 7)
    | 0x12 => z && decide (x.lead = 0 ∧ x.port ≤ 7 ∧ x.lb = 0 ∧ x.bytes = 0)
    | 0x13 => z && decide (x.lead = 0 ∧ x.port ≤ 7 ∧ x.bytes = 32)
    | _ => false)

end LSlot

/-! ### The sailing record (R49–R51) -/

def recMe (r : Bytes) : Bytes := (r.drop 0x10).take 48
/-- VE slot 0 or 1. -/
def recVe (r : Bytes) (u : Nat) : Bytes := (r.drop (0x40 + 32 * u)).take 32
/-- Ferry slot 0–3. -/
def recFerry (r : Bytes) (f : Nat) : Bytes := (r.drop (0x80 + 24 * f)).take 24
def recLink (r : Bytes) : Bytes := (r.drop 0xE0).take 16
/-- The slot of unit 0–3, or of the link for 4. -/
def recUnit (r : Bytes) (u : Nat) : Bytes := if u = 4 then recLink r else recFerry r u
/-- The slot of a unit is not empty. -/
def unitUsed (r : Bytes) (u : Nat) : Bool := decide (fld (recUnit r u) 0 1 ≠ 0)
/-- LEAD of a unit's slot. -/
def unitLead (r : Bytes) (u : Nat) : Nat := bits (fld (recUnit r u) 1 1) 4 0
/-- SIGNAL and SIG_FLAG of a unit's slot. -/
def slotSignal (b : Bytes) : Option Nat := if bit (fld b 1 1) 5 then some (bits (fld b 2 1) 4 0) else none

def recContIn (r : Bytes) : Bool := bit (fld r 2 2) 0
def recContOut (r : Bytes) : Bool := bit (fld r 2 2) 1
def recItemEnd (r : Bytes) : Bool := bit (fld r 2 2) 2

/-- The cycle budget of a timetable (R46). -/
def ttBudget (b : Bytes) : Nat := leNat ((b.drop 8).take 2)

/-- The item a record names (R49). -/
def recItem (r : Bytes) : Nat := leNat ((r.drop 5).take 3)

/-- Sailing record `i` of a timetable (R49). -/
def ttRec (b : Bytes) (i : Nat) : Bytes := (b.drop (64 + 256 * i)).take 256

/-- Sailing count of a timetable (R46). -/
def ttCount (b : Bytes) : Nat := leNat ((b.drop 12).take 4)

/-- Tick offset, repeat count, energy class of a record (R49). -/
def recOffset (r : Bytes) : Nat := leNat ((r.drop 8).take 4)
def recRepeat (r : Bytes) : Nat := leNat ((r.drop 12).take 2)
def recClass (r : Bytes) : Nat := leNat ((r.drop 4).take 1)

/-- The record rules of R49–R53 and of every slot on one record; `prev` is the record before it, if any, and
`next` the one after. DESIGN CHOICE (log entry 66): a TARGET_CORE that is neither a core nor 0xFFFF (R51), and
ME_CONT_IN or ME_CONT_OUT on a record whose matrix slot is empty (R53), are refused at load. -/
def recOk (budget : Nat) (repl : Bool) (prev next : Option Bytes) (r : Bytes) : Bool :=
  let me := recMe r
  let mx := meSlot me
  let ordered := match prev with
    | some p => decide (recOffset p + recRepeat p ≤ recOffset r)
    | none => true
  let contIn := match prev with
    | some p => recContIn r == recContOut p && (!recContIn r || recMe p == me)
    | none => !recContIn r
  let contOut := !recContOut r || match next with
    | some n => recContIn n
    | none => false
  ordered && contIn && contOut
  && decide (bits (fld r 1 1) 7 4 = 0 ∧ bits (fld r 2 2) 15 3 = 0)
  && decide (1 ≤ recRepeat r) && decide (fld r 14 2 ≤ budget)
  && (mx.op == 0 || MeSlot.loadOk me)
  && (!(recContIn r || recContOut r) || mx.op != 0)
  && (upTo 0 2).all (fun u => fld (recVe r u) 0 1 == 0 || VeSlot.loadOk (recVe r u) (u == 1) mx)
  && (upTo 0 4).all (fun f => fld (recFerry r f) 0 1 == 0 || FSlot.loadOk (recFerry r f) f)
  && (fld (recLink r) 0 1 == 0 || LSlot.loadOk (recLink r))
  && decide (bits (recSig r) 63 55 = 0) && (recTarget r == 0xFFFF || decide (32 ≤ recTargetFlag r ∧ recTarget r < 256))
  && !(repl && mx.op == 2 && mx.first)

end Sys2Proof.Machine
end

