-- ==== Sys2Proof/Machine/Coded.lean ====
section
/-!
DEFINITION. Machine/Coded.lean: compressed blocks and decode tables: canonical codes, coding and expansion
of raw, SB and TX blocks, their headers and costs (R245–R255).
-/
namespace Sys2Proof.Machine

/-! ### Decode tables (R255) -/

/-- Code length of symbol `q` in a table image. -/
def tabLen (t : Bytes) (q : Nat) : Nat := bits (fld t 4 8) (4 * q + 3) (4 * q)
/-- Exponent field of symbol `q` below 15. -/
def tabValue (t : Bytes) (q : Nat) : Nat := fld t (0x0C + q) 1
def tabElem (t : Bytes) : Nat := fld t 1 1
def tabGen (t : Bytes) : Nat := fld t 2 1

/-- Width of the exponent field of an element format. -/
def expWidth (elem : Nat) : Nat := if elem = 1 ∨ elem = 2 then 8 else 5

/-- Bits of the sign and mantissa of an element in a TX block. -/
def manWidth (elem : Nat) : Nat := if elem = 1 then 24 else if elem = 2 then 8 else 11

/-- Symbols with a code. -/
def tabUsed (t : Bytes) : List Nat := (upTo 0 16).filter (fun q => decide (0 < tabLen t q))

/-- No two elements of a list are equal. -/
def allDistinct : List Nat → Bool
  | [] => true
  | x :: xs => !xs.contains x && allDistinct xs

/-- A valid table image (R255); the Kraft sum is taken in units of 2^−15. -/
def tabOk (t : Bytes) : Bool :=
  let used := tabUsed t
  let vals := (used.filter (· < 15)).map (tabValue t)
  decide (fld t 0x3C 4 = crc32c (t.take 0x3C) ∧ fld t 0 1 = 1 ∧ fld t 3 1 = 0 ∧ 1 ≤ tabGen t) &&
  [1, 2, 3, 6].contains (tabElem t) && ((t.drop 0x1B).take 33).all (· == 0) && decide (0 < tabLen t 15) &&
  decide ((used.map (fun q => 2 ^ (15 - tabLen t q))).foldl (· + ·) 0 = 2 ^ 15) && allDistinct vals &&
  vals.all (fun v => decide (v < 2 ^ expWidth (tabElem t))) &&
  (upTo 0 15).all (fun q => decide (0 < tabLen t q) || tabValue t q == 0)

/-- Canonical codes: by ascending length, and by ascending symbol within a length, as symbol, length, code. -/
def assignCodes : Nat → Nat → List (Nat × Nat) → List (Nat × Nat × Nat)
  | _, _, [] => []
  | code, prev, (q, l) :: rest =>
    let c := code * 2 ^ (l - prev)
    (q, l, c) :: assignCodes (c + 1) l rest

/-- The codes of a table. -/
def tabCodes (t : Bytes) : List (Nat × Nat × Nat) :=
  assignCodes 0 0 ((upTo 1 15).flatMap (fun l => ((tabUsed t).filter (fun q => tabLen t q == l)).map (fun q => (q, l))))

/-! ### Headers (R245, R249) -/

/-- Bytes of an element of a coded format; none for a format that is not coded. -/
def codedSize (elem : Nat) : Option Nat :=
  if elem = 1 then some 4 else if elem = 2 ∨ elem = 3 ∨ elem = 6 then some 2
  else if elem = 4 ∨ elem = 5 ∨ elem = 7 then some 1 else none

/-- A block header. -/
structure BlkHdr where
  format : Nat
  elem : Nat
  slot : Nat
  gen : Nat
  length : Nat
  crc : Nat
  cost : Nat
  rsvd : Bool
  deriving DecidableEq, Repr

/-- Decode of a block header. -/
def blkHdr (b : Bytes) : BlkHdr :=
  let h := leNat (b.take 8)
  { format := bits h 3 0, elem := bits h 7 4, slot := bits h 10 8, gen := bits h 19 12, length := bits h 35 20,
    crc := bits h 51 36, cost := bits h 59 52, rsvd := bit h 11 || decide (bits h 63 60 ≠ 0) }

/-- The bytes of a block header. -/
def mkBlkHdr (h : BlkHdr) : Bytes :=
  natLE 8 (h.format + h.elem * 2 ^ 4 + h.slot * 2 ^ 8 + h.gen * 2 ^ 12 + h.length * 2 ^ 20 + h.crc * 2 ^ 36 +
    h.cost * 2 ^ 52)

/-- Decode cost of a block of `m` elements of `b` bytes (R249). -/
def blkCost (format m b expBits esc : Nat) : Nat :=
  let base := ceilDiv (m * b) 512
  if format = 2 then max (max 2 base) (max (ceilDiv expBits 256) (ceilDiv esc 32)) else base

/-- Stored bytes of a block with a payload of `n` bytes. -/
def blkStored (n : Nat) : Nat := roundUp (8 + n) 16

/-- Elements of `b` bytes as numbers. -/
def elemsOf (b : Nat) (bs : Bytes) : List Nat := (upTo 0 (bs.length / b)).map (fun k => fld bs (b * k) b)

/-! ### Coding (R246–R248, R250) -/

/-- The SB payload of some elements. -/
def sbPayload (b : Nat) (es : List Nat) : Bytes :=
  packBits 1 ((es ++ rep (256 - es.length) 0).map (fun e => if e = 0 then 0 else 1)) 32 ++
    (es.filter (· ≠ 0)).flatMap (natLE b)

/-- Exponent field, and sign and mantissa, of an element. -/
def expField (elem e : Nat) : Nat := (e >>> (manWidth elem - 1)) % 2 ^ expWidth elem
def sigField (elem e : Nat) : Nat :=
  let w := manWidth elem
  (e >>> (w - 1 + expWidth elem)) % 2 * 2 ^ (w - 1) + e % 2 ^ (w - 1)

/-- The symbol that codes an exponent field: the one whose value it is, or the escape. -/
def symOf (t : Bytes) (f : Nat) : Nat :=
  ((tabUsed t).find? (fun q => decide (q < 15) && tabValue t q == f)).getD 15

/-- Code of a symbol, most significant bit first. -/
def codeBits (codes : List (Nat × Nat × Nat)) (q : Nat) : List Bool :=
  match codes.find? (·.1 == q) with
  | some (_, l, c) => (upTo 0 l).map (fun i => bit c (l - 1 - i))
  | none => []

/-- Bits packed into bytes, bit 7 of a byte first. -/
def packMsb (l : List Bool) : Bytes :=
  (upTo 0 (ceilDiv l.length 8)).map (fun i => BitVec.ofNat 8
    (((upTo 0 8).map (fun j => b2n (l.getD (8 * i + j) false) * 2 ^ (7 - j))).foldl (· + ·) 0))

/-- The TX payload of some elements, with its exponent bits and its escapes. -/
def txPayload (t : Bytes) (es : List Nat) : Bytes × Nat × Nat :=
  let elem := tabElem t
  let codes := tabCodes t
  let fs := es.map (expField elem)
  let bs := fs.flatMap (fun f => codeBits codes (symOf t f))
  let esc := fs.filter (fun f => symOf t f == 15)
  let w := manWidth elem
  (natLE 2 bs.length ++ natLE 2 esc.length ++ packBits w (es.map (sigField elem)) (ceilDiv (es.length * w) 8) ++
    packMsb bs ++ esc.map (BitVec.ofNat 8), bs.length, esc.length)

/-- One coded block of a push: header, payload and padding (R250). `tab` is the table of CODEC 2, with its
slot, when it may be used. -/
def codeBlock (codec elem b : Nat) (tab : Option (Nat × Bytes)) (raw : Bytes) : Bytes :=
  let es := elemsOf b raw
  let m := es.length
  let crc := crc16 raw
  let wrap := fun f slot gen cost p =>
    mkBlkHdr { format := f, elem := elem, slot := slot, gen := gen, length := p.length, crc := crc, cost := cost, rsvd := false } ++
      p ++ rep (blkStored p.length - 8 - p.length) (0 : Byte)
  let plain := wrap 0 0 0 (blkCost 0 m b 0 0) raw
  if codec = 1 then
    let p := sbPayload b es
    if p.length < m * b then wrap 1 0 0 (blkCost 1 m b 0 0) p else plain
  else match tab with
    | some (slot, t) =>
      let p := txPayload t es
      let cost := blkCost 2 m b p.2.1 p.2.2
      if p.1.length < m * b ∧ cost ≤ 8 then wrap 2 slot (tabGen t) cost p.1 else plain
    | none => plain

/-- The blocks of a pushed tile, one after another. -/
def codeTile (codec elem b : Nat) (tab : Option (Nat × Bytes)) : Nat → Bytes → Bytes
  | 0, _ => []
  | n + 1, raw =>
    if raw.isEmpty then []
    else codeBlock codec elem b tab (raw.take (256 * b)) ++ codeTile codec elem b tab n (raw.drop (256 * b))

/-! ### Expansion (R246–R248, R253) -/

/-- Bits of bytes, bit 7 of a byte first. -/
def msbBits (bs : Bytes) : List Bool := bs.flatMap (fun x => (upTo 0 8).map (fun j => bit x.toNat (7 - j)))

/-- The number some bits spell, the first one most significant. -/
def msbNat (l : List Bool) : Nat := l.foldl (fun t b => 2 * t + b2n b) 0

/-- The next symbol of a stream and the rest. -/
def nextSym (codes : List (Nat × Nat × Nat)) (l : List Bool) : Option (Nat × List Bool) :=
  (codes.find? (fun c => decide (c.2.1 ≤ l.length) && msbNat (l.take c.2.1) == c.2.2)).map
    (fun c => (c.1, l.drop c.2.1))

/-- `m` symbols of a stream and the rest. -/
def symbols (codes : List (Nat × Nat × Nat)) : Nat → List Bool → Option (List Nat × List Bool)
  | 0, l => some ([], l)
  | m + 1, l => match nextSym codes l with
    | none => none
    | some (q, l) => (symbols codes m l).map (fun r => (q :: r.1, r.2))

/-- Exponent fields of symbols, escapes taken in order; none if the escapes do not fit. -/
def expFields (t : Bytes) : List Nat → Bytes → Option (List Nat)
  | [], [] => some []
  | [], _ => none
  | q :: qs, esc =>
    if q = 15 then match esc with
      | [] => none
      | e :: esc => (expFields t qs esc).map (e.toNat :: ·)
    else (expFields t qs esc).map (tabValue t q :: ·)

/-- The element of an exponent field and a sign-mantissa field. -/
def joinElem (elem f sg : Nat) : Nat :=
  let w := manWidth elem
  sg >>> (w - 1) * 2 ^ (w - 1 + expWidth elem) + f % 2 ^ expWidth elem * 2 ^ (w - 1) + sg % 2 ^ (w - 1)

/-- Decode of a TX payload of `m` elements; none if it is inconsistent. -/
def decTX (t : Bytes) (m : Nat) (p : Bytes) : Option Bytes :=
  let elem := tabElem t
  let w := manWidth elem
  let eb := fld p 0 2
  let ec := fld p 2 2
  let sm := ceilDiv (m * w) 8
  if p.length ≠ 4 + sm + ceilDiv eb 8 + ec then none
  else
    match symbols (tabCodes t) m ((msbBits ((p.drop (4 + sm)).take (ceilDiv eb 8))).take eb) with
    | some (qs, []) =>
      (expFields t qs (p.drop (4 + sm + ceilDiv eb 8))).map (fun fs =>
        ((upTo 0 m).flatMap (fun k => natLE ((w + expWidth elem) / 8)
          (joinElem elem (fs.getD k 0) (unpackBit w ((p.drop 4).take sm) k)))))
    | _ => none

/-- Elements of an SB block from its map, one after another. -/
def sbFill (b : Nat) : List Bool → Bytes → Bytes
  | [], _ => []
  | true :: ms, p => p.take b ++ sbFill b ms (p.drop b)
  | false :: ms, p => rep b (0 : Byte) ++ sbFill b ms p

/-- Decode of an SB payload of `m` elements of `b` bytes; none if its map names elements beyond the block or
beyond its payload. -/
def decSB (b m : Nat) (p : Bytes) : Option Bytes :=
  let map := (upTo 0 256).map (fun k => bit ((p.getD (k / 8) 0).toNat) (k % 8))
  let n := (map.filter id).length
  if p.length < 32 + n * b ∨ (map.drop m).any id then none else some (sbFill b (map.take m) (p.drop 32))

/-- What checking and expanding a block comes to (R253). -/
inductive BlkRes where
  | ok (raw : Bytes)
  | format
  | header
  | table
  | decode
  | crc
  deriving DecidableEq, Repr

/-- The checks of R253 in order on a block at the front of `bs`, the stored data that follow; `want` raw
bytes are owed, of which the block takes 256 elements at most; `tab` is the die's table that decodes slot
and generation. -/
def expandBlock (tab : Nat → Nat → Option Bytes) (want : Nat) (bs : Bytes) : BlkRes :=
  let h := blkHdr bs
  if 3 ≤ h.format then .format
  else match codedSize h.elem with
    | none => .header
    | some b =>
      let m := min 256 (want / b)
      let p := (bs.drop 8).take h.length
      if h.rsvd || decide (bs.length < blkStored h.length) || (h.format != 2 && decide (h.slot ≠ 0 ∨ h.gen ≠ 0))
          || decide (h.cost ≠ blkCost h.format m b (fld p 0 2) (fld p 2 2)) then .header
      else
        let out :=
          if h.format = 0 then some (if h.length = m * b then some p else none)
          else if h.format = 1 then some (decSB b m p)
          else match tab h.slot h.gen with
            | some t => if tabElem t = h.elem then some (decTX t m p) else none
            | none => none
        match out with
        | none => .table
        | some none => .decode
        | some (some raw) => if crc16 raw = h.crc then .ok raw else .crc

end Sys2Proof.Machine
end

