-- ==== Sys2Proof/Machine/Tags.lean ====
section
/-!
DEFINITION. Machine/Tags.lean: tile-protected regions and their tags, coded tensors and their windows,
retagging, and the decode-table slots of the dies (R239–R244, R251, R252, R255–R258).
-/
namespace Sys2Proof.Machine

/-! ### Regions (R240) -/

/-- The TAGR page, and the descriptor of region `r` in it. -/
def pTAGR : Nat := pg .tagr 0
def tagrAt (r off : Nat) : Nat := pTAGR + off + 0x30 * r

/-- The registers of a region descriptor. -/
def State.rBase (s : State) (r : Nat) : Nat := s.regN (tagrAt r Off.TAGR_BASE)
def State.rSize (s : State) (r : Nat) : Nat := s.regN (tagrAt r Off.TAGR_SIZE)
def State.rShadow (s : State) (r : Nat) : Nat := s.regN (tagrAt r Off.TAGR_SHADOW)
def State.rLwin (s : State) (r : Nat) : Nat := s.regN (tagrAt r Off.TAGR_LWIN)
def State.rOn (s : State) (r : Nat) : Bool := bit (s.regN (tagrAt r Off.TAGR_RCTRL)) 0
def State.rCoded (s : State) (r : Nat) : Bool := bit (s.regN (tagrAt r Off.TAGR_RCTRL)) 1
def State.rGenCheck (s : State) (r : Nat) : Bool := bit (s.regN (tagrAt r Off.TAGR_RCTRL)) 2
/-- Granules per tile. -/
def State.rTile (s : State) (r : Nat) : Nat := s.field (tagrAt r Off.TAGR_RCTRL) 7 4 + 1
def State.rFmt (s : State) (r : Nat) : Nat := s.field (tagrAt r Off.TAGR_RCTRL) 15 8
/-- RGEN in effect. -/
def State.rGen (s : State) (r : Nat) : Nat := s.field (tagrAt r Off.TAGR_RGEN) 15 0

/-- Enabled regions. -/
def State.regions (s : State) : List Nat := (upTo 0 64).filter s.rOn

/-- The enabled region that holds an address. -/
def State.regionOf (s : State) (a : Nat) : Option Nat :=
  s.regions.find? (fun r => decide (s.rBase r ≤ a ∧ a < s.rBase r + s.rSize r))

/-- Generations other than 0 of the enabled regions, as an operation keeps them from its enqueue (R241, R243). -/
def State.rgenNow (s : State) : List (Nat × Nat) :=
  (s.regions.map (fun r => (r, s.rGen r))).filter (fun e => decide (e.2 ≠ 0))

/-- The generation of region `r` that an operation was enqueued under. -/
def genAt (l : List (Nat × Nat)) (r : Nat) : Nat := (l.lookup r).getD 0

/-! ### Tags (R241–R244) -/

/-- The tag of granule `j` of a region: CRC of its bytes, generation, format, flags. -/
def mkTag (crc gen fmt flags : Nat) : Nat := crc + gen % 65536 * 2 ^ 32 + fmt % 16 * 2 ^ 48 + flags % 4096 * 2 ^ 52

/-- Where the tag of the granule at address `g` of region `r` lies. -/
def State.tagAddr (s : State) (r g : Nat) : Nat := s.rShadow r + (g - s.rBase r) / 4096 * 8

/-- Write the tag of the granule at `g` (R241). -/
def State.writeTag (s : State) (r gen g : Nat) : State :=
  let i := (g - s.rBase r) / 4096 % s.rTile r
  s.wrNat (s.tagAddr r g) 8
    (mkTag (crc32c (s.rdBytes g 4096)) gen (s.rFmt r) (1 + i * 2 + (s.rTile r - 1) * 32))

/-- The granules that a range touches, by their first addresses. -/
def granules (a n : Nat) : List Nat :=
  if n = 0 then [] else (upTo (a / 4096) ((a + n - 1) / 4096 - a / 4096 + 1)).map (4096 * ·)

/-- What verifying a granule comes to. -/
inductive TagRes where
  | ok
  | poisoned
  | mismatch
  deriving DecidableEq, Repr

/-- Verification of the granule at `g` of region `r` for a load enqueued under generation `gen` (R243). -/
def State.checkTag (s : State) (r gen g : Nat) : TagRes :=
  let ta := s.tagAddr r g
  if s.anyPoison g 4096 || s.poisoned ta then .poisoned
  else
    let t := s.rdNat ta 8
    let fl := bits t 63 52
    let i := (g - s.rBase r) / 4096 % s.rTile r
    if bit fl 0 && bits fl 4 1 == i && bits fl 8 5 + 1 == s.rTile r && bits t 51 48 == s.rFmt r % 16
        && (!s.rGenCheck r || bits t 47 32 == gen) && bits t 31 0 == crc32c (s.rdBytes g 4096) then .ok
    else .mismatch

/-- The protected granules of some ranges, with their regions, each once. -/
def State.guarded (s : State) (rs : List (Nat × Nat)) : List (Nat × Nat) :=
  ((rs.flatMap (fun x => granules x.1 x.2)).filterMap (fun g => (s.regionOf g).map (fun r => (r, g)))).eraseDups

/-- Granules verified are counted. -/
def State.tagsChecked (s : State) (n : Nat) : State := s.bump64 pTAGR Off.TAGR_CHECK_CNT n

/-- An item-fatal tag error: granule, source core and item shown (R242, R243, R252). -/
def State.tagErr (s : State) (core code cmd item st addr : Nat) : State :=
  let s := s.setRegN (pTAGR + Off.TAGR_LAST_ADDR) addr
  let s := s.setRegN (pTAGR + Off.TAGR_LAST_SRC) (code + core % 65536 * 256)
  let s := if code = 1 then s.bump pTAGR Off.TAGR_FAIL_CNT 1 else s
  s.itemErrAt pTAGR code cmd item st addr

/-- Ranges joined where they meet or overlap, in ascending order. -/
def joinSpans : List (Nat × Nat) → List (Nat × Nat)
  | [] => []
  | x :: rest =>
    match joinSpans rest with
    | [] => [x]
    | y :: ys => if y.1 ≤ x.1 + x.2 then (x.1, max x.2 (y.1 + y.2 - x.1)) :: ys else x :: y :: ys

/-- The ranges, in ascending order and joined. -/
def mergeSpans (rs : List (Nat × Nat)) : List (Nat × Nat) :=
  joinSpans (rs.mergeSort (fun a b => decide (a.1 ≤ b.1)))

/-- The ranges touch region `r`. -/
def State.touches (s : State) (r : Nat) (x : Nat × Nat) : Bool := overlap x (s.rBase r, s.rSize r)

/-- A write of some ranges is made up of whole tiles in every region it touches (R242); otherwise the address
of a row that is not. -/
def State.partialWrite (s : State) (rs : List (Nat × Nat)) : Option Nat :=
  (s.regions.flatMap (fun r =>
    let mine := rs.filter (s.touches r)
    let t := 4096 * s.rTile r
    (mine.filter (fun x => !decide (s.rBase r ≤ x.1 ∧ x.1 + x.2 ≤ s.rBase r + s.rSize r)) ++
      (mergeSpans mine).filter (fun x => decide ((x.1 - s.rBase r) % t ≠ 0 ∨ x.2 % t ≠ 0))))).head?.map (·.1)

/-- Write the tags of every granule of some written ranges, under the generations of their enqueue (R242). -/
def State.tagRanges (s : State) (gens : List (Nat × Nat)) (rs : List (Nat × Nat)) : State :=
  (s.guarded rs).foldl (fun (s : State) (g : Nat × Nat) => s.writeTag g.1 (genAt gens g.1) g.2) s

/-! ### Coded tensors and windows (R251, R252) -/

/-- Element format and raw bytes of the coded tensor of region `r`, as read at enable. -/
def State.codedOf (s : State) (r : Nat) : Nat × Nat := (s.coded.lookup r).getD (0, 0)

/-- The header of a coded tensor is good. -/
def codedHdrOk (h : Bytes) : Bool :=
  match codedSize (fld h 1 1) with
  | none => false
  | some b =>
    decide (fld h 0x3C 4 = crc32c (h.take 0x3C) ∧ fld h 0 1 = 1 ∧ fld h 2 2 = 0 ∧ fld h 8 8 % b = 0 ∧
      fld h 4 4 = ceilDiv (fld h 8 8) (256 * b)) && ((h.drop 0x10).take 44).all (· == 0)

/-- The window of a region that holds an address. -/
def State.windowOf (s : State) (a : Nat) : Option Nat :=
  s.regions.find? (fun r => s.rCoded r && decide (s.rLwin r ≤ a ∧ a < s.rLwin r + roundUp (s.codedOf r).2 65536))

/-- Ranges of an enabled region: its data, and its shadow tag area. -/
def State.regionRanges (s : State) (r : Nat) : List (Nat × Nat) :=
  [(s.rBase r, s.rSize r), (s.rShadow r, s.rSize r / 512)]

/-- The checks of R240 and R251 when ENABLE is set. -/
def State.regionOk (s : State) (r : Nat) : Bool :=
  let b := s.rBase r
  let n := s.rSize r
  let t := 4096 * s.rTile r
  let own := s.regionRanges r
  let others := (s.regions.filter (· ≠ r)).flatMap s.regionRanges
  let h := s.rdBytes b 64
  let win := (s.rLwin r, roundUp (fld h 8 8) 65536)
  decide (b % t = 0 ∧ n % t = 0 ∧ 0 < n ∧ s.rShadow r % 64 = 0) && s.devMem b n && s.devMem (s.rShadow r) (n / 512)
  && !overlaps own others && !overlaps [(b, n)] [(s.rShadow r, n / 512)]
  && (!s.rCoded r || (codedHdrOk h && decide (win.1 % 65536 = 0 ∧ 0x30000000000 ≤ win.1 ∧ win.1 + win.2 ≤ 0x40000000000)
      && !overlaps [win] ((s.regions.filter (fun q => decide (q ≠ r) && s.rCoded q)).map
        (fun q => (s.rLwin q, roundUp (s.codedOf q).2 65536)))))

/-- A configuration write that is ignored is logged. -/
def State.tagIgnored (s : State) : State := s.logCorr pTAGR 0x06

/-- TAG_CONFIG at an address, shown with no core as its source (R240, R258). -/
def State.tagConfig (s : State) (a : Nat) : State :=
  ((s.setRegN (pTAGR + Off.TAGR_LAST_ADDR) a).setRegN (pTAGR + Off.TAGR_LAST_SRC) (0x04 + 0xFFFF00)).logAddr pTAGR 0x04 a

/-- Put region `r` in service, or refuse (R240, R251). -/
def State.enableRegion (s : State) (r : Nat) : State :=
  if s.regionOk r then
    let h := s.rdBytes (s.rBase r) 64
    let s := if s.rCoded r then { s with coded := (r, (fld h 1 1, fld h 8 8)) :: s.coded.filter (·.1 ≠ r) } else s
    s.setField (tagrAt r Off.TAGR_RCTRL) 0 0 1
  else s.tagConfig (s.rBase r)

/-- TAGR_REGION_ENABLE (R240): ENABLE is set while no job runs; the descriptor and any coded tensor header are
checked. -/
def execTagrRegionEnable (r : Fin 64) (s : State) : Host.Outcome State Fault Refusal :=
  .next (if !s.noJob then s.tagIgnored else if s.rOn r then s else s.enableRegion r)

/-- TAGR_RGEN_WRITE (R240): the generation takes effect in cycle 0 of the next tick. -/
def execTagrRgenWrite (r : Fin 64) (v : BitVec 16) (s : State) : Host.Outcome State Fault Refusal :=
  .next { s with rgenPend := (r.val, v.toNat) :: s.rgenPend.filter (·.1 ≠ r.val) }

/-- The written generations come into effect. -/
def State.applyRgen (s : State) : State :=
  let l := s.rgenPend
  l.foldl (fun (s : State) (e : Nat × Nat) => s.setRegN (tagrAt e.1 Off.TAGR_RGEN) e.2) { s with rgenPend := [] }

/-- TAGR_RETAG (R258): GO starts rebuilding the tags of whole tiles of an enabled region; a bad range, a busy
engine, or a range that takes in a coded tensor's header is refused. -/
def execTagrRetag (r : Fin 64) (s : State) : Host.Outcome State Fault Refusal :=
  let a := s.regN (pTAGR + Off.TAGR_RETAG_ADDR)
  let n := s.regN (pTAGR + Off.TAGR_RETAG_LEN)
  let t := 4096 * s.rTile r
  .next (if s.rOn r && s.retag.isNone && decide (s.rBase r ≤ a ∧ a + n ≤ s.rBase r + s.rSize r ∧ (a - s.rBase r) % t = 0 ∧
        n % t = 0) && !(s.rCoded r && a == s.rBase r && decide (0 < n)) then
      { s with retag := some (r.val, a, n) }.setField (pTAGR + Off.TAGR_STAT) 1 0 1
    else (s.setField (pTAGR + Off.TAGR_STAT) 1 1 1).tagConfig a)

/-- TAGR_RETAG_DONE (R242): the tags of the range are rebuilt under the current RGEN; the engine is idle and
signals. -/
def execTagrRetagDone (s : State) : Host.Outcome State Fault Refusal :=
  .next (match s.retag with
    | none => s
    | some (r, a, n) =>
      let s := (granules a n).foldl (fun (s : State) g => s.writeTag r (s.rGen r) g) s
      ({ s with retag := none }.setField (pTAGR + Off.TAGR_STAT) 0 0 0).raiseEvent pTAGR)

/-! ### Decode-table slots (R256, R257) -/

def pCTAB (d : Nat) : Nat := pg .ctab d
def ctabSlot (d q : Nat) : Nat := pCTAB d + Off.CTAB_SLOT + 8 * q
def ctabInuse (d q : Nat) : Nat := pCTAB d + Off.CTAB_INUSE + 8 * q

/-- State of a slot: 0 FREE, 1 LOADING, 2 LIVE, 3 DRAINING. -/
def State.tabState (s : State) (d q : Nat) : Nat := s.field (ctabSlot d q) 1 0
/-- Image a slot holds. -/
def State.tabImage (s : State) (d q : Nat) : Bytes := smGet (fun _ => []) s.tables (8 * d + q)
/-- Slots of a die that are LIVE. -/
def State.liveSlots (s : State) (d : Nat) : List Nat := (upTo 0 8).filter (fun q => s.tabState d q == 2)

/-- The table of a die that decodes blocks of a slot and generation (R253). -/
def State.decTab (s : State) (d q g : Nat) : Option Bytes :=
  if 2 ≤ s.tabState d q ∧ s.field (ctabSlot d q) 23 16 = g then some (s.tabImage d q) else none

/-- What is wrong with loading an image into a slot: a bad table, a busy slot, a reused generation (R256). -/
def State.loadBad (s : State) (d q : Nat) (img : Bytes) : Option Nat :=
  if s.tabState d q ≠ 0 then some 0x02
  else if !tabOk img then some 0x01
  else if tabGen img = s.field (ctabSlot d q) 31 24 then some 0x03
  else none

/-- Start loading an image: the slot is LOADING until the next tick. -/
def State.startLoad (s : State) (d q : Nat) (img : Bytes) (owner : Option (Nat × Nat)) : State :=
  let s := (s.setField (ctabSlot d q) 1 0 1).setField (pCTAB d + Off.CTAB_STAT) 0 0 1
  { s with tabLoads := s.tabLoads ++ [{ die := d, slot := q, image := img, tick := s.now, owner := owner }] }

/-- Retire the slots of a mask at the next boundary. -/
def State.startRetire (s : State) (d mask : Nat) (owner : Option (Nat × Nat)) : State :=
  { s with tabRetire := s.tabRetire ++
      ((upTo 0 8).filter (bit mask)).map (fun q => { die := d, slot := q, tick := s.now, owner := owner }) }

/-- An item that waits on loads and retirements ends once none is left. -/
def State.tabItem (s : State) : Option (Nat × Nat) → State
  | some (cmd, item) =>
    if s.tabLoads.any (·.owner == some (cmd, item)) || s.tabRetire.any (·.owner == some (cmd, item)) then s
    else s.endItem cmd item Status.DONE
  | none => s

/-- CTAB_LOAD_GO (R256, R257): the image at CTAB_LOAD_ADDR is read, checked and loaded into a slot under the
rules of the command. -/
def execCtabLoadGo (d : DieIx) (slot : Fin 8) (s : State) : Host.Outcome State Fault Refusal :=
  let a := s.regN (pCTAB d + Off.CTAB_LOAD_ADDR)
  let img := s.rdBytes a 64
  let bad := match s.loadBad d slot img with
    | some e => some e
    | none => if !s.mappedMem a 64 || s.anyPoison a 64 then some 0x01 else none
  .next (match bad with
    | some e => (s.setField (pCTAB d + Off.CTAB_STAT) 1 1 1).logCorr (pCTAB d) e
    | none => (s.setField (pCTAB d + Off.CTAB_STAT) 1 1 0).startLoad d slot img none)

/-- A mask of slots names one that is being loaded. -/
def State.namesLoading (s : State) (d mask : Nat) : Bool := s.tabLoads.any (fun l => l.die == d && bit mask l.slot)

/-- CTAB_RETIRE (R256, R257): retires the slots named at the next boundary; naming a slot that is being loaded is an error
and changes nothing. -/
def execCtabRetire (d : DieIx) (v : BitVec 8) (s : State) : Host.Outcome State Fault Refusal :=
  .next (if s.namesLoading d v.toNat then s.logCorr (pCTAB d) 0x02 else s.startRetire d v.toNat none)

/-- CTAB_SLOT_LIVE (R256): in cycle 0 of the tick after its load a slot is LIVE. -/
def execCtabSlotLive (d : DieIx) (slot : Fin 8) (s : State) : Host.Outcome State Fault Refusal :=
  .next (match s.tabLoads.find? (fun l => l.die == d.val && l.slot == slot.val && decide (l.tick < s.now)) with
    | none => s
    | some l =>
      let s := { s with tabLoads := s.tabLoads.erase l, tables := smSet (fun _ => []) s.tables (8 * d.val + slot.val) l.image }
      let r := ctabSlot d slot
      let s := s.setRegN r (setBits (setBits (setBits (s.regN r) 1 0 2) 15 8 (tabElem l.image)) 23 16 (tabGen l.image))
      let s := if s.tabLoads.any (·.die == d.val) then s else s.setField (pCTAB d + Off.CTAB_STAT) 0 0 0
      s.tabItem l.owner)

/-- A draining slot whose count is 0 notes the tick. -/
def State.noteZero (s : State) (d q : Nat) : State :=
  if s.tabState d q = 3 ∧ s.regN (ctabInuse d q) = 0 then
    { s with tabZero := (8 * d + q, s.now) :: s.tabZero.filter (·.1 ≠ 8 * d + q) }
  else s

/-- CTAB_SLOT_DRAINING (R256): in cycle 0 of the tick after its retirement a LIVE slot drains; retiring any
other slot changes nothing. -/
def execCtabSlotDraining (d : DieIx) (slot : Fin 8) (s : State) : Host.Outcome State Fault Refusal :=
  .next (match s.tabRetire.find? (fun l => l.die == d.val && l.slot == slot.val && decide (l.tick < s.now)) with
    | none => s
    | some l =>
      let s := { s with tabRetire := s.tabRetire.erase l }
      let s := if s.tabState d slot = 2 then (s.setField (ctabSlot d slot) 1 0 3).noteZero d slot else s
      s.tabItem l.owner)

/-- CTAB_SLOT_FREE (R256): a draining slot whose count became 0 in an earlier tick is FREE, and keeps its
generation as LAST_GEN. -/
def execCtabSlotFree (d : DieIx) (slot : Fin 8) (s : State) : Host.Outcome State Fault Refusal :=
  let k := 8 * d.val + slot.val
  .next (match s.tabZero.lookup k with
    | none => s
    | some t =>
      if t < s.now ∧ s.tabState d slot = 3 then
        let s := { s with tabZero := s.tabZero.filter (·.1 ≠ k), tables := smSet (fun _ => []) s.tables k [] }
        s.setRegN (ctabSlot d slot) (s.field (ctabSlot d slot) 23 16 * 2 ^ 24)
      else s)

/-- In-use counts of a die's slots rise or fall with an operation (R256). -/
def State.useSlots (s : State) (d : Nat) (l : List Nat) (up : Bool) : State :=
  l.foldl (fun (s : State) q =>
    let s := s.setRegN (ctabInuse d q) (if up then s.regN (ctabInuse d q) + 1 else s.regN (ctabInuse d q) - 1)
    if up then s else s.noteZero d q) s

/-- What stops one die's item of LOAD_DECODE_TABLE: the CTAB error, or none. -/
def State.tabCmdBad (s : State) (cargo : Bytes) (d : Nat) : Option Nat :=
  let q := bits (fld cargo 2 1) 2 0
  if s.namesLoading d (fld cargo 3 1) then some 0x02
  else if bit (fld cargo 2 1) 7 then
    if bit (fld cargo 3 1) q then some 0x02 else s.loadBad d q ((cargo.drop 0x10).take 64)
  else none

/-- One die's item of LOAD_DECODE_TABLE (R257). -/
def State.tabCmdItem (s : State) (cmd item d : Nat) (cargo : Bytes) : State :=
  match s.tabCmdBad cargo d with
  | some e =>
    let s := if bit (fld cargo 2 1) 7 then s.setField (pCTAB d + Off.CTAB_STAT) 1 1 1 else s
    (s.itemErr (pCTAB d) e cmd item Status.BAD_COMMAND).endItem cmd item Status.DONE
  | none =>
    let s := s.updCmd cmd (·.run item)
    let s := if bit (fld cargo 2 1) 7 then (s.setField (pCTAB d + Off.CTAB_STAT) 1 1 0).startLoad d (bits (fld cargo 2 1) 2 0) ((cargo.drop 0x10).take 64) (some (cmd, item)) else s
    let s := s.startRetire d (fld cargo 3 1) (some (cmd, item))
    s.tabItem (some (cmd, item))

/-- An accepted command of an opcode that has not begun and may act: no command acts before its START tick; for
RUN_TIMETABLE and QUERY their own rules place it (R322). -/
def State.fresh (s : State) (cmd opcode : Nat) : Option Cmd :=
  match s.cmd? cmd with
  | some k =>
    if k.opcode = opcode ∧ !k.begun ∧ !k.allEnded ∧ (opcode = 1 ∨ opcode = 8 ∨ k.start ≤ s.now) then some k else none
  | none => none

/-- A command's work begins. -/
def State.beginCmd (s : State) (cmd : Nat) : State := s.updCmd cmd (fun k => { k with begun := true })

/-- LOAD_DECODE_TABLE (R257): one item per die named; a wrong VERSION ends every item. -/
def execLoadDecodeTable (cmd : Nat) (s : State) : Host.Outcome State Fault Refusal :=
  .next (match s.fresh cmd 0x0007 with
    | none => s
    | some k =>
      let s := s.beginCmd cmd
      let dies := (upTo 0 4).filter (bit (fld k.cargo 1 1))
      if fld k.cargo 0 1 ≠ 1 then s.failAll cmd Status.VERSION_MISMATCH
      else (dies.zip (upTo 0 dies.length)).foldl
        (fun (s : State) (e : Nat × Nat) => s.tabCmdItem cmd e.2 e.1 k.cargo) s)

end Sys2Proof.Machine
end

