-- ==== Sys2Proof/Machine/Approx.lean ====
section
/-!
DEFINITION. Machine/Approx.lean: the approximated functions. Each result is a free value inside the bound
the manual states (R82, R103, R122, R131, R168): the exact function is evaluated to several hundred bits
beyond FP32 by integer series, its nearest FP32 value is moved by a free number of steps, and the moved
value stands if it lies within the bound (DESIGN CHOICE, safe: log entries 8 and 23).
-/
namespace Sys2Proof.Machine

/-! ### Fixed-point series: integers scaled by 2^768 -/

/-- Fraction bits of the fixed-point series. -/
def fxP : Nat := 768

/-- One. -/
def fx1 : Int := 2 ^ fxP

def fxMul (a b : Int) : Int := a * b / fx1

/-- Horner evaluation of the exponential series from term `n` down. -/
def fxExpGo (t : Int) : Nat → Int → Int
  | 0, acc => acc
  | n + 1, acc => fxExpGo t n (fx1 + fxMul t acc / (n + 1 : Nat))

/-- e^t for 0 ≤ t < 1. -/
def fxExp (t : Int) : Int := fxExpGo t 160 fx1

/-- Sum of z^(2k+1)/(2k+1), alternating in sign if `alt`, from the running power `p`. -/
def fxOddGo (z2 : Int) (alt : Bool) : Nat → Nat → Int → Int → Int
  | 0, _, _, acc => acc
  | n + 1, k, p, acc =>
    let t := p / (2 * k + 1 : Nat)
    fxOddGo z2 alt n (k + 1) (fxMul p z2) (if alt && k % 2 == 1 then acc - t else acc + t)

/-- atanh z for |z| ≤ 1/3. -/
def fxAtanh (z : Int) : Int := fxOddGo (fxMul z z) false 250 0 z 0

/-- atan of 1/q. -/
def fxAtanInv (q : Nat) : Int := let z := fx1 / (q : Int); fxOddGo (fxMul z z) true 180 0 z 0

def fxLn2 : Int := 2 * fxAtanh (fx1 / 3)
def fxPi : Int := 16 * fxAtanInv 5 - 4 * fxAtanInv 239

/-- Square root of a non-negative fixed-point number. -/
def fxSqrt (x : Int) : Int := (isqrt (x.toNat * 2 ^ fxP) : Nat)

/-- Terms of the cosine series from term `n` down. -/
def fxCosGo (x2 : Int) : Nat → Int → Int
  | 0, acc => acc
  | n + 1, acc => fxCosGo x2 n (fx1 - fxMul x2 acc / ((2 * n + 1) * (2 * n + 2) : Nat))

def fxCos (x : Int) : Int := fxCosGo (fxMul x x) 200 fx1

/-- Sum of (−1)^k x^(2k+1)/(k!(2k+1)) from the running term `p` = x^(2k+1)/k!. -/
def fxErfGo (x2 : Int) : Nat → Nat → Int → Int → Int
  | 0, _, _, acc => acc
  | n + 1, k, p, acc =>
    let t := p / (2 * k + 1 : Nat)
    fxErfGo x2 n (k + 1) (fxMul p x2 / (k + 1 : Nat)) (if k % 2 = 1 then acc - t else acc + t)

/-- erf x for |x| ≤ 15. -/
def fxErf (x : Int) : Int := fxMul (2 * fxErfGo (fxMul x x) 1100 0 x 0) (fxMul fx1 (fx1 * fx1 / fxSqrt fxPi))

/-- A finite value as fixed point. -/
def toFx : FVal → Int
  | .fin s m e =>
    let v : Int := if 0 ≤ e + fxP then (m * 2 ^ (e + fxP).toNat : Nat) else (m / 2 ^ (-(e + fxP)).toNat : Nat)
    if s then -v else v
  | _ => 0

/-- A fixed-point number as a value. -/
def ofFx (x : Int) : FVal := FVal.ofInt x (-(fxP : Int))

/-- e^x of a fixed-point number, as a value with its own exponent. -/
def expV (x : Int) : FVal :=
  let k := x / fxLn2
  .fin false (fxExp (x - k * fxLn2)).toNat (k - fxP)

/-- 2^x of a fixed-point number. -/
def exp2V (x : Int) : FVal :=
  let k := x / fx1
  .fin false (fxExp (fxMul (x - k * fx1) fxLn2)).toNat (k - fxP)

/-- ln of a positive finite value, as fixed point. -/
def lnFx : FVal → Int
  | .fin _ m e =>
    let l := Nat.log2 m
    let y : Int := (m * 2 ^ fxP / 2 ^ l : Nat)          -- in [1, 2)
    2 * fxAtanh ((y - fx1) * fx1 / (y + fx1)) + (e + l) * fxLn2
  | _ => 0

/-- Quotient of finite values to 768 bits. -/
def divV : FVal → FVal → FVal
  | .fin a m e, .fin b n g =>
    let sh := fxP + Nat.log2 n
    .fin (a != b) (m * 2 ^ sh / n) (e - g - sh)
  | _, _ => .nan

def oneV : FVal := .fin false 1 0
def pow2V (k : Int) : FVal := .fin false 1 k

/-! ### Placing a result within its bound -/

/-- ulp of a value in FP32 (R82). -/
def ulp32 (v : FVal) : FVal :=
  match v with
  | .fin _ 0 _ => pow2V (-149)
  | .fin _ m e =>
    let E := (Nat.log2 m : Int) + e
    pow2V ((if E < -126 then -126 else E) - 23)
  | _ => pow2V 0

/-- FP32 patterns in the order of their values. -/
def ord32 (b : Nat) : Int := if b.testBit 31 then -((b % 2 ^ 31 : Nat) : Int) else (b : Int)

/-- The pattern at a place in that order; `s` is the sign of a zero. -/
def unord32 (s : Bool) (i : Int) : Nat :=
  if i < 0 then 2 ^ 31 + i.natAbs else if i = 0 then (if s then 2 ^ 31 else 0) else i.natAbs

/-- The FP32 result of function `fn` at operands `x` and `y` whose exact value is `v`: the nearest value
moved by at most `k` places, if that stays within `tol` of `v`. -/
def nearTol (fn x y k : Nat) (tol v : FVal) : Nat :=
  let base := enc32 v
  let i := ord32 base + ((Config.approxStep fn x y % (2 * k + 1) : Nat) : Int) - k
  if 0x7F800000 ≤ i.natAbs ∨ 0x7F800000 ≤ base % 2 ^ 31 then base
  else
    let c := unord32 v.isNeg i
    if tol.lt ((dec32 c).sub v).abs then base else c

/-- Within `k` ulp. -/
def nearUlp (fn x y k : Nat) (v : FVal) : Nat := nearTol fn x y k ((ulp32 v).mul (.fin false k 0)) v

/-- Within `k` ulp; an absolute 2^−149 where the result is subnormal. -/
def nearUlpAbs (fn x y k : Nat) (v : FVal) : Nat :=
  if (v.abs).lt (pow2V (-126)) then nearTol fn x y k (pow2V (-149)) v else nearUlp fn x y k v

/-- Within a relative 2^−18. -/
def nearRel (fn x y : Nat) (v : FVal) : Nat := nearTol fn x y 64 (v.abs.scale (-18)) v

/-- Within an absolute 2^−149. -/
def nearSub (fn x y : Nat) (v : FVal) : Nat := nearTol fn x y 1 (pow2V (-149)) v

/-! ### The functions of R122 -/

/-- A value is at least a rational number `n/d`. -/
def geRat (v : FVal) (n : Int) (d : Nat) : Bool := !(v.mul (.fin false d 0)).lt (FVal.ofInt n 0)

/-- EXP2 of an FP32 pattern. -/
def fnExp2 (x : Nat) : Nat :=
  match dec32 x with
  | .nan => nan32
  | .inf s => if s then 0 else 0x7F800000
  | v => if geRat v 128 1 then 0x7F800000 else if geRat v.neg 150 1 then 0 else nearUlpAbs 0 x 0 1 (exp2V (toFx v))

/-- EXP of an FP32 pattern; the special values are EXP2's at the same results. -/
def fnExp (x : Nat) : Nat :=
  match dec32 x with
  | .nan => nan32
  | .inf s => if s then 0 else 0x7F800000
  | v =>
    if geRat v 200 1 then 0x7F800000 else if geRat v.neg 200 1 then 0
    else
      let r := expV (toFx v)
      if !r.lt (pow2V 128) then 0x7F800000 else if !(pow2V (-150)).lt r then 0 else nearUlpAbs 1 x 0 2 r

/-- LOG2 of an FP32 pattern: exact at powers of two. -/
def fnLog2 (x : Nat) : Nat :=
  match dec32 x with
  | .nan => nan32
  | .inf s => if s then nan32 else 0x7F800000
  | .fin s m e =>
    if m = 0 then 0xFF800000
    else if s then nan32
    else if m = 2 ^ Nat.log2 m then enc32 (FVal.ofInt ((Nat.log2 m : Int) + e) 0)
    else nearUlp 2 x 0 1 (ofFx (lnFx (.fin s m e) * fx1 / fxLn2))

/-- RCP of an FP32 pattern. -/
def fnRcp (x : Nat) : Nat :=
  match dec32 x with
  | .nan => nan32
  | .inf s => FP32.signBit s
  | .fin s 0 _ => FP32.signBit s + 0x7F800000
  | v => nearUlpAbs 3 x 0 1 (divV oneV v)

/-- RSQRT of an FP32 pattern. -/
def fnRsqrt (x : Nat) : Nat :=
  match dec32 x with
  | .nan => nan32
  | .inf s => if s then nan32 else 0
  | .fin s 0 _ => FP32.signBit s + 0x7F800000
  | .fin s m e =>
    if s then nan32
    else
      let (m, e) := if e % 2 = 0 then (m, e) else (2 * m, e - 1)
      nearUlp 4 x 0 1 (divV oneV (.fin false (isqrt (m * 2 ^ (2 * fxP))) (e / 2 - fxP)))

/-! ### The epilogue functions (R103) -/

/-- A value held within ±300, beyond which the functions and derivatives keep their limits to far below
FP32. -/
def clampV (v : FVal) : FVal :=
  if geRat v 300 1 then FVal.ofInt 300 0 else if geRat v.neg 300 1 then FVal.ofInt (-300) 0 else v

/-- The logistic function. -/
def sigV (v : FVal) : FVal := divV oneV (oneV.add (expV (-(toFx (clampV v)))))

/-- The Gaussian distribution function, for |v| ≤ 21. -/
def phiV (v : FVal) : FVal :=
  let x := toFx v * fx1 / fxSqrt (2 * fx1)
  ofFx ((fx1 + fxErf x) / 2)

/-- The Gaussian density, for |v| ≤ 21. -/
def densV (v : FVal) : FVal :=
  divV (expV (-(toFx (v.mul v)) / 2)) (ofFx (fxSqrt (2 * fxPi)))

/-- tanh of a non-negative value. -/
def tanhPos (v : FVal) : FVal :=
  let q := expV (-2 * toFx (clampV v))
  divV (oneV.sub q) (oneV.add q)

/-- Function `code` of R103 at the FP32 pattern `z`, with the slope pattern `al`. -/
def actFn (code z al : Nat) : Nat :=
  let v := dec32 z
  match v with
  | .nan => nan32
  | .inf s => match code with
    | 0 => z
    | 1 => if s then 0 else z
    | 2 => if s then mul32 al z else z
    | 3 => if s then 0x80000000 else z
    | 4 => if s then 0x80000000 else z
    | 5 => if s then 0xBF800000 else 0x3F800000
    | 6 => if s then 0 else 0x3F800000
    | _ => if s then 0 else z
  | .fin s m e => match code with
    | 0 => z
    | 1 => if s ∨ m = 0 then 0 else z
    | 2 => if s ∧ m ≠ 0 then mul32 al z else z
    | 3 =>
      if geRat v 20 1 then nearUlp 13 z 0 2 v
      else if geRat v (-9) 1 then
        let r := v.mul (phiV v)
        if geRat v (-5) 1 then nearUlp 13 z 0 2 r else nearRel 13 z 0 r
      else 0x80000000
    | 4 =>
      let r := v.mul (sigV v)
      if geRat v (-20) 1 then nearUlp 14 z 0 2 r else if geRat v (-100) 1 then nearRel 14 z 0 r else 0x80000000
    | 5 =>
      if v.abs.lt (pow2V (-12)) then z
      else if geRat v.abs 91 10 then (if s then 0xBF800000 else 0x3F800000)
      else
        let r := tanhPos (.fin false m e)
        nearUlp 15 z 0 2 (if s then r.neg else r)
    | 6 =>
      let r := sigV v
      if geRat v (-87) 1 then nearUlp 16 z 0 2 r else if geRat v (-104) 1 then nearSub 16 z 0 r else 0
    | _ =>
      let q := expV (-(toFx (clampV v.abs)))       -- e^−|z|
      let l := ofFx (lnFx (oneV.add q))
      nearUlpAbs 17 z 0 2 (if s then (if geRat v (-300) 1 then l else pow2V (-400)) else v.add l)

/-! ### Derivatives (R168) -/

/-- f′(z) for codes 3–7 at a finite value. -/
def actDer (code : Nat) (v : FVal) : FVal :=
  let c := clampV v
  match code with
  | 3 =>
    if geRat v (41) 2 then oneV
    else if geRat v.neg 41 2 then (pow2V (-300)).neg
    else (phiV v).add (v.mul (densV v))
  | 4 => let g := sigV v; g.mul (oneV.add (c.mul (oneV.sub g)))
  | 5 =>
    let q := expV (-2 * toFx c.abs)
    divV (q.scale 2) ((oneV.add q).mul (oneV.add q))
  | 6 =>
    let q := expV (-(toFx c.abs))
    divV q ((oneV.add q).mul (oneV.add q))
  | _ => sigV v

/-- The limit of f′ at an infinity. -/
def actDerInf (code : Nat) (neg : Bool) : FVal :=
  if (code = 3 ∨ code = 4 ∨ code = 7) ∧ !neg then oneV else .fin false 0 0

/-- dy · f′(z) as ACT_BWD forms it, as an FP32 pattern. -/
def actBwd (code z dy al : Nat) : Nat :=
  let v := dec32 z
  let d := dec32 dy
  if v.isNaN || d.isNaN then nan32
  else match code with
    | 0 => enc32 d
    | 1 => if (FVal.fin false 0 0).lt v then enc32 d else 0
    | 2 => if v.lt (.fin false 0 0) then mul32 al dy else enc32 d
    | _ =>
      let f := match v with
        | .inf s => actDerInf code s
        | _ => actDer code v
      match d with
      | .fin _ _ _ => nearUlpAbs (20 + code) z dy 4 (d.mul f)
      | _ => enc32 (d.mul f)

/-! ### NORMAL (R131) -/

/-- The standard normal value of two 24-bit draws. -/
def fnNormal (u0 u1 : Nat) : Nat :=
  let l := lnFx (.fin false (u0 + 1) (-24))
  let r := fxSqrt (-2 * l)
  let c := fxCos (2 * fxPi * u1 / 2 ^ 24)
  nearUlp 30 u0 u1 4 (ofFx (fxMul r c))

end Sys2Proof.Machine
end

