-- ==== Sys2Proof/Machine/Engine.lean ====
section
/-!
DEFINITION. Machine/Engine.lean: what the engine operations share: the operation in course, uncorrectable
landing-buffer reads, run-time errors, and the end of an operation (R91, R119, R220, R227).
-/
namespace Sys2Proof.Machine

/-- The ME and VE pages of core `c`. -/
def pME (c : Nat) : Nat := pg .me c
def pVE (c : Nat) : Nat := pg .ve c
def pLAND (c : Nat) : Nat := pg .land c

/-- An uncorrectable read of the landing buffer fails the reading operation's item (R220). -/
def State.landUE (s : State) (c : Nat) (o : SlotOp) (off : Nat) : State :=
  let p := pLAND c
  let s := (s.bump p Off.LAND_UE_CNT 1).setRegN (p + Off.LAND_LAST_ERR) (off / 8 % 2 ^ 19 * 8)
  (s.ev (fun e => { e with ue := e.ue + 1 })).itemErr p 0x02 o.cmd o.item Status.MEM_UE

/-- The first poisoned line of some landing-buffer ranges. -/
def State.poisonIn (s : State) (c : Nat) (rs : List Span) : Option Nat :=
  (rs.flatMap (fun r => unitsOf 8 (lbBase c + r.1) r.2)).find? s.poisoned |>.map (fun a => a - lbBase c)

/-- Core `c` with its first ME operation replaced. -/
def State.setMeOp (s : State) (c : Nat) (o : SlotOp) : State :=
  s.setCore c { s.core c with meOps := o :: (s.core c).meOps.tail }

/-- Core `c` with its first VE operation replaced. -/
def State.setVeOp (s : State) (c : Nat) (o : SlotOp) : State :=
  s.setCore c { s.core c with veOps := o :: (s.core c).veOps.tail }

/-- Run the ME operation in course of core `c`, if it has begun and `want` accepts it: its results are
written and only its end is outstanding. -/
def State.meRow (s : State) (c : Nat) (want : SlotOp → MeSlot → Bool) (f : State → SlotOp → MeSlot → State) : State :=
  match (s.core c).meOps with
  | [] => s
  | o :: _ =>
    let x := meSlot o.slot
    if o.begun && !o.done && !o.hollow && want o x then
      let s := s.setMeOp c { o with done := true }
      match s.poisonIn c x.spans.1 with
      | some a => s.landUE c o a
      | none => f (s.updCmd o.cmd (·.make o.item)) o x
    else s

/-- Run the VE operation in course of core `c` the same way; `rs` gives the ranges it reads. -/
def State.veRow (s : State) (c : Nat) (want : VeSlot → Bool) (rs : VeSlot → List Span)
    (f : State → SlotOp → VeSlot → State) : State :=
  match (s.core c).veOps with
  | [] => s
  | o :: _ =>
    let x := veSlot o.slot
    if o.begun && !o.done && !o.hollow && want x then
      let s := s.setVeOp c { o with done := true }
      match s.poisonIn c (rs x) with
      | some a => s.landUE c o a
      | none => f (if x.window || x.op == 0x40 then s else s.updCmd o.cmd (·.make o.item)) o x
    else s

/-- An error of the ME: logged, shown in ME_LAST_ERR, and the item fails (R114). -/
def State.meErr (s : State) (c code : Nat) (o : SlotOp) (st : Nat) : State :=
  (s.setRegN (pME c + Off.ME_LAST_ERR) (code + o.item % 2 ^ 24 * 256)).itemErr (pME c) code o.cmd o.item st

/-- An error of the VE (R121, R130, R157). -/
def State.veErr (s : State) (c code : Nat) (o : SlotOp) : State :=
  (s.setRegN (pVE c + Off.VE_LAST_ERR) (code + o.item % 2 ^ 24 * 256)).itemErr (pVE c) code o.cmd o.item
    Status.BAD_COMMAND

/-! ### Accumulator sets (R90) -/

/-- SET_STATE of set `q`: 0 EMPTY, 1 ACCUM, 2 HELD, 3 DRAINING. -/
def State.setState (s : State) (c q : Nat) : Nat := s.field (pME c + Off.ME_STAT) (2 * q + 1) (2 * q)
def State.setSetState (s : State) (c q v : Nat) : State := s.setField (pME c + Off.ME_STAT) (2 * q + 1) (2 * q) v

/-- Accumulator set `q` of core `c`. -/
def State.accSet (s : State) (c q : Nat) : AccSet := (s.core c).sets.getD q AccSet.empty

/-- Set `q` filled and given a state. -/
def State.putSet (s : State) (c q v : Nat) (a : AccSet) : State :=
  (s.setCore c { s.core c with sets := (s.core c).sets.set q a }).setSetState c q v

/-- All sets return to EMPTY: at the end of a RUN_TIMETABLE, when an item fails under R57, on a soft reset
(R90). -/
def State.discardSets (s : State) (c : Nat) : State :=
  (s.setCore c { s.core c with sets := CoreSt.reset.sets, dstore := [], merged := [] }).setField (pME c + Off.ME_STAT) 7 0 0

/-! ### The end of an operation (R91, R45) -/

/-- The sailings of core `c` no longer count on an engine operation, in any record that it has gone on in. -/
def State.opEnded (s : State) (c : Nat) (o : SlotOp) (me : Bool) (u : Nat) : State :=
  s.setCore c { s.core c with sailings := (s.core c).sailings.map (fun x =>
    if x.recIx < o.first ∨ o.recIx < x.recIx then x
    else if me then { x with me := false }
    else if u = 0 then { x with ve0 := false } else { x with ve1 := false }) }

/-- A set that no operation accumulates into or drains any more and that was not left HELD is EMPTY. -/
def State.settleSets (s : State) (c : Nat) : State :=
  (upTo 0 4).foldl (fun (s : State) q => if s.setState c q % 2 = 1 then s.putSet c q 0 AccSet.empty else s) s

/-- ME_OP_COMPLETE (R91): the operation in course has written its last result and ends; its block mask
lapses (R162). -/
def execMeOpComplete (c : CoreIx) (s : State) : Host.Outcome State Fault Refusal :=
  .next (match (s.core c).meOps with
    | [] => s
    | o :: _ =>
      if o.done then
        let s := (s.setCore c { s.core c with 
          meOps := (s.core c).meOps.tail, masks := (s.core c).masks.filter (·.recIx ≠ o.first), merged := [], dstore := [] }).settleSets c
        let s := (s.setField (pME c + Off.ME_STAT) 9 8 0).setField (pME c + Off.ME_STAT) 26 16 0
        let s := if o.hollow then s else s.bump (pME c) Off.ME_OP_CNT 1
        s.opEnded c o true 0
      else s)

/-- VE_OP_COMPLETE (R119, R127): the operation in course ends. -/
def execVeOpComplete (c : CoreIx) (s : State) : Host.Outcome State Fault Refusal :=
  .next (match (s.core c).veOps with
    | [] => s
    | o :: _ =>
      if o.done then
        let s := s.setCore c { s.core c with veOps := (s.core c).veOps.tail }
        let s := (s.setField (pVE c + Off.VE_STAT) 1 0 0).setField (pVE c + Off.VE_STAT) 15 8 0
        let s := if o.hollow then s else s.bump (pVE c) Off.VE_OP_CNT 1
        s.opEnded c o false o.unit
      else s)

end Sys2Proof.Machine
end

