-- ==== Sys2Proof/Machine/Philox.lean ====
section
/-!
DEFINITION. Machine/Philox.lean: the Philox4x32-10 generator, its counter and the numbering of draws
(R128–R131). PRESUMED (log entry 10): the multipliers and key increments of the 2011 publication, which the manual names
and does not print.
-/
namespace Sys2Proof.Machine

/-- One round on the four counter words under the two key words. -/
def philoxRound (c : Nat × Nat × Nat × Nat) (k : Nat × Nat) : Nat × Nat × Nat × Nat :=
  let m := 2 ^ 32
  let p0 := 0xD2511F53 * c.1
  let p1 := 0xCD9E8D57 * c.2.2.1
  ((p1 / m) ^^^ c.2.1 ^^^ k.1, p1 % m, (p0 / m) ^^^ c.2.2.2 ^^^ k.2, p0 % m)

/-- `n` rounds, the key raised after each. -/
def philoxGo : Nat → Nat × Nat × Nat × Nat → Nat × Nat → Nat × Nat × Nat × Nat
  | 0, c, _ => c
  | n + 1, c, k =>
    philoxGo n (philoxRound c k) ((k.1 + 0x9E3779B9) % 2 ^ 32, (k.2 + 0xBB67AE85) % 2 ^ 32)

/-- Output word `w` of the evaluation of a 128-bit counter under a 64-bit key. -/
def philox (key ctr w : Nat) : Nat :=
  let m := 2 ^ 32
  let o := philoxGo 10 (ctr % m, ctr / m % m, ctr / 2 ^ 64 % m, ctr / 2 ^ 96 % m) (key % m, key / m % m)
  match w % 4 with
  | 0 => o.1
  | 1 => o.2.1
  | 2 => o.2.2.1
  | _ => o.2.2.2

/-- The counter of an evaluation: draw group, element, step and stream (R128). -/
def rngCounter (stream step elem group : Nat) : Nat :=
  group % 2 ^ 24 + elem % 2 ^ 48 * 2 ^ 24 + step % 2 ^ 40 * 2 ^ 72 + stream % 2 ^ 16 * 2 ^ 112

/-- Draw `j` of an element (R129). -/
def draw32 (key stream step elem j : Nat) : Nat := philox key (rngCounter stream step elem (j / 4)) j

end Sys2Proof.Machine
end

