-- ==== Sys2Proof/Machine/Vector.lean ====
section
/-!
DEFINITION. Machine/Vector.lean: the vector engine: elementwise operations, functions, reductions,
softmax, normalisation, random operations, transposes (R116–R131), and the norm, softmax and activation
derivatives and GMASK (R161, R162, R165–R168).
-/
namespace Sys2Proof.Machine

/-! ### Operands and results (R116–R118) -/

namespace VeSlot

/-- Two 16-bit elements per lane, rounded once into the format (R116). -/
def packed (x : VeSlot) : Bool := decide (1 ≤ x.op ∧ x.op ≤ 6) && x.fi == x.fo && (x.fi == 2 || x.fi == 3)

/-- Exact integer arithmetic (R116). -/
def integer (x : VeSlot) : Bool := decide (1 ≤ x.op ∧ x.op ≤ 6) && x.fi == x.fo && (x.fi == 7 || x.fi == 0x10)

/-- Chunks of a row (R127). -/
def ch (x : VeSlot) : Nat := ceilDiv x.cols (if x.packed then 256 else 128)

end VeSlot

/-- Element (i, k) of SRC_A, exactly. -/
def State.veA (s : State) (c : Nat) (x : VeSlot) (i k : Nat) : FVal :=
  s.rdVal (lbBase c + x.a) x.fi x.rows x.cols x.gexp i k

/-- Element (i, k) of SRC_B; BCAST_B takes its one row for every row (R118). -/
def State.veB (s : State) (c : Nat) (x : VeSlot) (i k : Nat) : FVal :=
  s.rdVal (lbBase c + x.b) x.fi (if x.bcast then 1 else x.rows) x.cols x.gexp (if x.bcast then 0 else i) k

/-- Element (i, k) of the third operand at AUX. -/
def State.veC (s : State) (c : Nat) (x : VeSlot) (i k : Nat) : FVal :=
  s.rdVal (lbBase c + x.aux) x.fi x.rows x.cols x.gexp i k

/-- A row of SRC_A, or of SRC_B, as FP32 patterns (R116). -/
def State.rowA (s : State) (c : Nat) (x : VeSlot) (i : Nat) : List Nat := (upTo 0 x.cols).map (fun k => enc32 (s.veA c x i k))
def State.rowB (s : State) (c : Nat) (x : VeSlot) (i : Nat) : List Nat := (upTo 0 x.cols).map (fun k => enc32 (s.veB c x i k))

/-- `n` FP32 values from a landing-buffer offset. -/
def State.lb32s (s : State) (c off n : Nat) : List Nat := (upTo 0 n).map (fun k => s.rd32 (lbBase c + off + 4 * k))

/-- Write FP32 or INT32 patterns from a landing-buffer offset. -/
def State.lbW32s (s : State) (c off : Nat) (ps : List Nat) : State :=
  s.wrBytes (lbBase c + off) (ps.flatMap (natLE 4))

/-- Cycles in which chunks entered the lanes (R127). -/
def State.veBusy (s : State) (c n : Nat) : State := s.bump64 (pVE c) Off.VE_ACTIVE_CYC n

/-- Count the operation if it wrote a NaN. -/
def State.nanCount (s : State) (c : Nat) (b : Bool) : State := if b then s.bump (pVE c) Off.VE_NAN_CNT 1 else s

/-- Write the rows of a result, each from the values to convert, and count the operation if one of them is
written as a NaN. -/
def State.veOut (s : State) (c : Nat) (x : VeSlot) (row : Nat → List FVal) : State :=
  let rows := (upTo 0 x.outRows).map row
  let t := s.nanCount c (rows.any (fun r => (asWritten x.fo x.gexp r).any FVal.isNaN))
  State.wrRows (lbBase c + x.d) x.fo x.outRows x.outCols x.gexp 0 rows t

/-- Write packed FP32 results of a reduction (R123). -/
def State.redOut (s : State) (c : Nat) (x : VeSlot) (ps : List Nat) : State :=
  (s.nanCount c (x.op != 0x14 && ps.any (fun p => (dec32 p).isNaN))).lbW32s c x.d ps

/-! ### Elementwise (R116, R118, R122) -/

/-- MAX2 and MIN2: NaN if either is NaN, +0 above −0 (R122). -/
def max2 (a b : FVal) : FVal :=
  if a.isNaN || b.isNaN then .nan
  else if a.lt b then b else if b.lt a then a else if a.isNeg then b else a
def min2 (a b : FVal) : FVal :=
  if a.isNaN || b.isNaN then .nan
  else if a.lt b then a else if b.lt a then b else if a.isNeg then a else b

/-- One of the six two- and three-operand operations, exact. -/
def exactOp (op : Nat) (a b c : FVal) : FVal :=
  match op with
  | 1 => a.add b
  | 2 => a.sub b
  | 3 => a.mul b
  | 4 => (a.mul b).add c
  | 5 => max2 a b
  | _ => min2 a b

/-- The same on exact integers, wrapped to the format (R77). -/
def intOp (op w : Nat) (a b c : Int) : FVal :=
  let v := match op with
    | 1 => a + b
    | 2 => a - b
    | 3 => a * b
    | 4 => a * b + c
    | 5 => if a < b then b else a
    | _ => if a < b then a else b
  FVal.ofInt (sext w (unsext w v)) 0

/-- An integer element's value. -/
def intVal : FVal → Int
  | .fin s m e => FVal.intAt s m e 0
  | _ => 0

/-- Element (i, k) of operations 0x01–0x06. -/
def State.ewise (s : State) (c : Nat) (x : VeSlot) (i k : Nat) : FVal :=
  let a := s.veA c x i k
  let b := s.veB c x i k
  let t := if x.op = 4 then s.veC c x i k else .fin false 0 0
  if x.integer then intOp x.op (elemBits x.fi) (intVal a) (intVal b) (intVal t)
  else if x.packed then exactOp x.op a b t
  else dec32 (enc32 (exactOp x.op (dec32 (enc32 a)) (dec32 (enc32 b)) (dec32 (enc32 t))))

/-- Run an elementwise operation given by the value of each element; `n` cycles a chunk. -/
def State.veEach (s : State) (c op n : Nat) (f : State → VeSlot → Nat → Nat → FVal) : State :=
  s.veRow c (fun x => x.op == op) (fun x => x.spans.1) (fun s _ x =>
    (s.veOut c x (fun i => (upTo 0 x.outCols).map (f s x i))).veBusy c (x.rows * n * x.ch))

/-- VE_ADD (R118, R122). -/
def execVeAdd (c : CoreIx) (s : State) : Host.Outcome State Fault Refusal := .next (s.veEach c 0x01 1 (fun s x => s.ewise c x))
/-- VE_SUB (R118, R122). -/
def execVeSub (c : CoreIx) (s : State) : Host.Outcome State Fault Refusal := .next (s.veEach c 0x02 1 (fun s x => s.ewise c x))
/-- VE_MUL (R118, R122). -/
def execVeMul (c : CoreIx) (s : State) : Host.Outcome State Fault Refusal := .next (s.veEach c 0x03 1 (fun s x => s.ewise c x))
/-- VE_FMA (R118, R122). -/
def execVeFma (c : CoreIx) (s : State) : Host.Outcome State Fault Refusal := .next (s.veEach c 0x04 1 (fun s x => s.ewise c x))
/-- VE_MAX2 (R122). -/
def execVeMax2 (c : CoreIx) (s : State) : Host.Outcome State Fault Refusal := .next (s.veEach c 0x05 1 (fun s x => s.ewise c x))
/-- VE_MIN2 (R122). -/
def execVeMin2 (c : CoreIx) (s : State) : Host.Outcome State Fault Refusal := .next (s.veEach c 0x06 1 (fun s x => s.ewise c x))

/-- Element (i, k) of SRC_A as an FP32 pattern. -/
def State.a32 (s : State) (c : Nat) (x : VeSlot) (i k : Nat) : Nat := enc32 (s.veA c x i k)

/-- VE_SCALE (R118): rne(a · IMM). -/
def execVeScale (c : CoreIx) (s : State) : Host.Outcome State Fault Refusal :=
  .next (s.veEach c 0x07 1 (fun s x i k => dec32 (mul32 (s.a32 c x i k) x.imm)))
/-- VE_CONVERT (R116): each element once, from its exact value. -/
def execVeConvert (c : CoreIx) (s : State) : Host.Outcome State Fault Refusal :=
  .next (s.veEach c 0x08 1 (fun s x => s.veA c x))
/-- VE_DIV (R122). -/
def execVeDiv (c : CoreIx) (s : State) : Host.Outcome State Fault Refusal :=
  .next (s.veEach c 0x09 4 (fun s x i k => dec32 (div32 (s.a32 c x i k) (enc32 (s.veB c x i k)))))
/-- VE_SQRT (R122). -/
def execVeSqrt (c : CoreIx) (s : State) : Host.Outcome State Fault Refusal :=
  .next (s.veEach c 0x0A 4 (fun s x i k => dec32 (sqrt32 (s.a32 c x i k))))
/-- VE_EXP2 (R122). -/
def execVeExp2 (c : CoreIx) (s : State) : Host.Outcome State Fault Refusal :=
  .next (s.veEach c 0x0B 2 (fun s x i k => dec32 (fnExp2 (s.a32 c x i k))))
/-- VE_EXP (R122). -/
def execVeExp (c : CoreIx) (s : State) : Host.Outcome State Fault Refusal :=
  .next (s.veEach c 0x0C 2 (fun s x i k => dec32 (fnExp (s.a32 c x i k))))
/-- VE_LOG2 (R122). -/
def execVeLog2 (c : CoreIx) (s : State) : Host.Outcome State Fault Refusal :=
  .next (s.veEach c 0x0D 2 (fun s x i k => dec32 (fnLog2 (s.a32 c x i k))))
/-- VE_RCP (R122). -/
def execVeRcp (c : CoreIx) (s : State) : Host.Outcome State Fault Refusal :=
  .next (s.veEach c 0x0E 2 (fun s x i k => dec32 (fnRcp (s.a32 c x i k))))
/-- VE_RSQRT (R122). -/
def execVeRsqrt (c : CoreIx) (s : State) : Host.Outcome State Fault Refusal :=
  .next (s.veEach c 0x0F 2 (fun s x i k => dec32 (fnRsqrt (s.a32 c x i k))))
/-- VE_ACT (R103, R118): function AUX[3:0], slope IMM. -/
def execVeAct (c : CoreIx) (s : State) : Host.Outcome State Fault Refusal :=
  .next (s.veEach c 0x10 2 (fun s x i k => dec32 (actFn (x.aux % 16) (s.a32 c x i k) x.imm)))

/-! ### Reductions (R123, R124) -/

/-- One level of the lane tree: neighbours merge, one without a partner passes up. -/
def pairUp {α : Type} (merge : α → α → α) : List α → List α
  | a :: b :: l => merge a b :: pairUp merge l
  | l => l

/-- Seven levels of the lane tree. -/
def laneTree {α : Type} (merge : α → α → α) : Nat → List α → List α
  | 0, l => l
  | n + 1, l => laneTree merge n (pairUp merge l)

/-- Elements k, k + 128, … of a row's list. -/
def every128 {α : Type} : Nat → List α → List α
  | 0, _ => []
  | n + 1, l => match l with
    | [] => []
    | x :: _ => x :: every128 n (l.drop 128)

/-- The reduction of a row (R123); the elements carry their index. -/
def reduceRow {α β : Type} (init : β → α) (step : α → β → α) (merge : α → α → α) (xs : List β) : Option α :=
  let lanes := (upTo 0 (min 128 xs.length)).filterMap (fun l =>
    match every128 xs.length (xs.drop l) with
    | [] => none
    | y :: ys => some (ys.foldl step (init y)))
  (laneTree merge 7 lanes).head?

/-- The reduction of a column (R123): step down the rows. -/
def reduceCol {α β : Type} (init : β → α) (step : α → β → α) (xs : List β) : Option α :=
  match xs with
  | [] => none
  | y :: ys => some (ys.foldl step (init y))

/-- A reduction's results over rows or columns (R123), from the columns' and rows' FP32 patterns with their
index. -/
def State.reduceAll {α : Type} (s : State) (c : Nat) (x : VeSlot) (init : Nat × Nat → α) (step : α → Nat × Nat → α)
    (merge : α → α → α) : List α :=
  if x.axis then
    (upTo 0 x.cols).filterMap (fun j => reduceCol init step ((upTo 0 x.rows).map (fun i => (s.a32 c x i j, i))))
  else
    (upTo 0 x.rows).filterMap (fun i => reduceRow init step merge ((upTo 0 x.cols).map (fun k => (s.a32 c x i k, k))))

/-- Cycles of a reduction's chunks (R127). -/
def redCyc (x : VeSlot) (n : Nat) : Nat := if x.axis then n * ceilDiv x.cols 128 * x.rows else x.rows * n * x.ch

/-- A reduction whose value is one FP32 pattern. -/
def State.veReduce (s : State) (c op : Nat) (init : Nat → Nat) (step : Nat → Nat → Nat) (merge : Nat → Nat → Nat) : State :=
  s.veRow c (fun x => x.op == op) (fun x => x.spans.1) (fun s _ x =>
    (s.redOut c x (s.reduceAll c x (fun e => init e.1) (fun v e => step v e.1) merge)).veBusy c (redCyc x 1))

/-- Patterns under MAX2 and MIN2. -/
def max32 (a b : Nat) : Nat := enc32 (max2 (dec32 a) (dec32 b))
def min32 (a b : Nat) : Nat := enc32 (min2 (dec32 a) (dec32 b))

/-- VE_RSUM (R123). -/
def execVeRsum (c : CoreIx) (s : State) : Host.Outcome State Fault Refusal := .next (s.veReduce c 0x11 id add32 add32)
/-- VE_RMAX (R123). -/
def execVeRmax (c : CoreIx) (s : State) : Host.Outcome State Fault Refusal := .next (s.veReduce c 0x12 id max32 max32)
/-- VE_RMIN (R123). -/
def execVeRmin (c : CoreIx) (s : State) : Host.Outcome State Fault Refusal := .next (s.veReduce c 0x13 id min32 min32)
/-- VE_RSUMSQ (R123). -/
def execVeRsumsq (c : CoreIx) (s : State) : Host.Outcome State Fault Refusal :=
  .next (s.veReduce c 0x15 (fun x => mul32 x x) (fun v x => fma32 x x v) add32)

/-- RARGMAX's step and merge (R123). -/
def argStep (v e : Nat × Nat) : Nat × Nat :=
  let a := dec32 v.1
  let b := dec32 e.1
  if a.lt b || (b.isNaN && !a.isNaN) then e else v
def argMerge (v w : Nat × Nat) : Nat × Nat :=
  let a := dec32 v.1
  let b := dec32 w.1
  if a.isNaN && b.isNaN then (if v.2 ≤ w.2 then v else w)
  else if a.isNaN then v else if b.isNaN then w
  else if a.lt b then w else if b.lt a then v else if v.2 ≤ w.2 then v else w

/-- The run of VE_RARGMAX (R123, R156). -/
def State.rargmaxRun (s : State) (c : Nat) (x : VeSlot) : State :=
  (s.redOut c x ((s.reduceAll c x id argStep argMerge).map (·.2))).veBusy c (redCyc x 1)

/-- VE_RARGMAX: its operation runs. -/
def execVeRargmax (c : CoreIx) (s : State) : Host.Outcome State Fault Refusal :=
  .next (s.veRow c (fun x => x.op == 0x14) (fun x => x.spans.1) (fun s _ x => s.rargmaxRun c x))

/-- A lane of RMEANVAR: count, mean and squared deviations (R124). -/
structure Welford where
  n : Nat
  mu : Nat
  m2 : Nat
  deriving DecidableEq, Repr

def wfInit (x : Nat) : Welford := ⟨1, x, 0⟩
def wfStep (w : Welford) (x : Nat) : Welford :=
  let n := w.n + 1
  let d := sub32 x w.mu
  let mu := add32 w.mu (div32 d (nat32 n))
  ⟨n, mu, fma32 d (sub32 x mu) w.m2⟩
def wfMerge (a b : Welford) : Welford :=
  let n := a.n + b.n
  let d := sub32 b.mu a.mu
  let mu := add32 a.mu (mul32 d (FP32.ofRat false b.n n 0))
  ⟨n, mu, fma32 (mul32 d d) (FP32.ofRat false (a.n * b.n) n 0) (add32 a.m2 b.m2)⟩

/-- The variance, of the sample or of the population (R124). -/
def wfVar (sample : Bool) (w : Welford) : Nat :=
  if sample then (if w.n = 1 then nan32 else div32 w.m2 (nat32 (w.n - 1))) else div32 w.m2 (nat32 w.n)

/-- The run of VE_RMEANVAR (R124). -/
def State.rmeanvarRun (s : State) (c : Nat) (x : VeSlot) : State :=
  let ws := s.reduceAll c x (fun e => wfInit e.1) (fun w e => wfStep w e.1) wfMerge
  (s.redOut c x (ws.flatMap (fun w => [w.mu, wfVar x.sample w]))).veBusy c (redCyc x 4)

/-- VE_RMEANVAR: its operation runs. -/
def execVeRmeanvar (c : CoreIx) (s : State) : Host.Outcome State Fault Refusal :=
  .next (s.veRow c (fun x => x.op == 0x16) (fun x => x.spans.1) (fun s _ x => s.rmeanvarRun c x))

/-! ### Softmax and normalisation (R125, R126) -/

/-- RSUM, RMAX of a list of patterns, in the order of R123. -/
def rsum (l : List Nat) : Nat := (reduceRow id add32 add32 l).getD 0
def rmax (l : List Nat) : Nat := (reduceRow id max32 max32 l).getD 0

/-- A row of SOFTMAX (R125). -/
def softmaxRow (xs : List Nat) : List Nat :=
  let m := rmax xs
  match dec32 m with
  | .nan => xs.map (fun _ => nan32)
  | .inf s => xs.map (fun _ => if s then 0 else nan32)
  | _ =>
    let es := xs.map (fun x => fnExp (sub32 x m))
    let r := div32 one32 (rsum es)
    es.map (fun e => mul32 e r)

/-- The run of VE_SOFTMAX (R125). -/
def State.softmaxRun (s : State) (c : Nat) (x : VeSlot) : State :=
  (s.veOut c x (fun i => (softmaxRow (s.rowA c x i)).map dec32)).veBusy c (x.rows * 4 * x.ch)

/-- VE_SOFTMAX: its operation runs. -/
def execVeSoftmax (c : CoreIx) (s : State) : Host.Outcome State Fault Refusal :=
  .next (s.veRow c (fun x => x.op == 0x18) (fun x => x.spans.1) (fun s _ x => s.softmaxRun c x))

/-- Mean and reciprocal deviation of a row (R126). -/
def lnStats (xs : List Nat) (eps : Nat) : Nat × Nat :=
  let w := (reduceRow wfInit wfStep wfMerge xs).getD (wfInit 0)
  (w.mu, fnRsqrt (add32 (wfVar false w) eps))

/-- The normalised value of LAYERNORM. -/
def lnHat (st : Nat × Nat) (x : Nat) : Nat := mul32 (sub32 x st.1) st.2

/-- The run of VE_LAYERNORM (R126). -/
def State.layernormRun (s : State) (c : Nat) (x : VeSlot) : State :=
  let ga := s.lb32s c x.aux x.cols
  let be := s.lb32s c (x.aux + roundUp (4 * x.cols) 64) x.cols
  let st := (upTo 0 x.rows).map (fun i => lnStats (s.rowA c x i) x.imm)
  let t := s.veOut c x (fun i =>
    ((s.rowA c x i).zip (ga.zip be)).map (fun e => dec32 (fma32 (lnHat (st.getD i (0, 0)) e.1) e.2.1 e.2.2)))
  (t.lbW32s c x.b (st.flatMap (fun p => [p.1, p.2]))).veBusy c (x.rows * 5 * x.ch)

/-- VE_LAYERNORM: its operation runs. -/
def execVeLayernorm (c : CoreIx) (s : State) : Host.Outcome State Fault Refusal :=
  .next (s.veRow c (fun x => x.op == 0x19) (fun x => x.spans.1) (fun s _ x => s.layernormRun c x))

/-- The row statistic of RMSNORM from a sum of squares (R126). -/
def rmsStat (ss n eps : Nat) : Nat := fnRsqrt (add32 (div32 ss (nat32 n)) eps)

/-- The run of VE_RMSNORM (R126); with PRE_SS the sums of squares at SRC_B are taken, and overwritten by the row
statistics. -/
def State.rmsnormRun (s : State) (c : Nat) (x : VeSlot) : State :=
  let ga := s.lb32s c x.aux x.cols
  let ss := fun i => if x.preSs then s.rd32 (lbBase c + x.b + 4 * i)
    else (reduceRow (fun v => mul32 v v) (fun t v => fma32 v v t) add32 (s.rowA c x i)).getD 0
  let st := (upTo 0 x.rows).map (fun i => rmsStat (ss i) x.cols x.imm)
  let t := s.veOut c x (fun i =>
    ((s.rowA c x i).zip ga).map (fun e => dec32 (mul32 (mul32 e.1 (st.getD i 0)) e.2)))
  (t.lbW32s c x.b st).veBusy c (x.rows * (if x.preSs then 1 else 2) * x.ch)

/-- VE_RMSNORM: its operation runs. -/
def execVeRmsnorm (c : CoreIx) (s : State) : Host.Outcome State Fault Refusal :=
  .next (s.veRow c (fun x => x.op == 0x1A) (fun x => x.spans.1) (fun s _ x => s.rmsnormRun c x))

/-! ### Random operations (R128–R132) -/

/-- The RNG page of core `c`. -/
def pRNG (c : Nat) : Nat := pg .rng c

/-- The random descriptor at AUX: STREAM, STEP, ELEM_BASE, DRAW_BASE (R130). -/
def State.rngDesc (s : State) (c : Nat) (x : VeSlot) : Nat × Nat × Nat × Nat :=
  let d := s.rdNat (lbBase c + x.aux) 16
  (bits d 15 0, bits d 55 16, bits d 103 56, bits d 127 104)

/-- Draw DRAW_BASE + j of element (i, k) (R129, R130). -/
def State.veDraw (s : State) (c : Nat) (x : VeSlot) (i k j : Nat) : Nat :=
  let d := s.rngDesc c x
  draw32 (s.regN (pRNG c + Off.RNG_SEED)) d.1 d.2.1 ((d.2.2.1 + i * x.cols + k) % 2 ^ 48) (d.2.2.2 + j)

/-- After a random operation RNG_POS records the position and the words are counted (R132). DESIGN CHOICE (log entry 69):
the draws wrap in the 24 bits of their field, which the manual does not say. -/
def State.rngAfter (s : State) (c n cyc : Nat) (d : Nat × Nat × Nat × Nat) (x : VeSlot) : State :=
  let s := s.setRegN (pRNG c + Off.RNG_POS) ((d.2.2.2 + n) % 2 ^ 24 + d.2.1 * 2 ^ 24)
  (s.bump64 (pRNG c) Off.RNG_WORD_CNT (x.rows * x.cols * n)).veBusy c (x.rows * cyc * x.ch)

/-- A random operation: a reserved stream fails the item (R130); otherwise it runs, RNG_POS records the
position after it and the words are counted (R132). `n` is the draws an element takes. -/
def State.veRandom (s : State) (c op n cyc : Nat) (f : State → SlotOp → VeSlot → State) : State :=
  s.veRow c (fun x => x.op == op) (fun x => x.spans.1) (fun s o x =>
    let d := s.rngDesc c x
    if 0xFF00 ≤ d.1 then s.veErr c 0x01 o
    else if op = 0x20 ∧ ((dec32 x.imm).isNaN || (dec32 x.imm).lt (.fin false 0 0) || !(dec32 x.imm).lt oneV) then
      s.veErr c 0x02 o
    else (f s o x).rngAfter c n cyc d x)

/-- floor(p · 2^32) of a probability (R131). -/
def dropT (p : FVal) : Nat :=
  match p with
  | .fin _ m e => (scaleRat m 1 (e + 32)).1 / (scaleRat m 1 (e + 32)).2
  | _ => 0

/-- What VE_DROPOUT writes (R131, R169). -/
def State.dropoutRun (s : State) (c : Nat) (x : VeSlot) : State :=
  let p := dec32 x.imm
  let keep := fun i k => decide (dropT p ≤ s.veDraw c x i k 0)
  let sc := FVal.divRound FP32 oneV (oneV.sub p)
  let t := s.veOut c x (fun i => (upTo 0 x.cols).map (fun k =>
    if keep i k then dec32 (mul32 (s.a32 c x i k) sc) else .fin false 0 0))
  if x.maskOut then
    (upTo 0 x.rows).foldl (fun t i =>
      t.wrBytes (lbBase c + x.b + i * roundUp (ceilDiv x.cols 8) 64)
        (packBits 1 ((upTo 0 x.cols).map (fun k => b2n (keep i k))) (ceilDiv x.cols 8))) t
  else t

/-- VE_DROPOUT: its operation runs. -/
def execVeDropout (c : CoreIx) (s : State) : Host.Outcome State Fault Refusal :=
  .next (s.veRandom c 0x20 1 1 (fun s _ x => s.dropoutRun c x))

/-- What VE_UNIFORM writes (R131). -/
def State.uniformRun (s : State) (c : Nat) (x : VeSlot) : State :=
  s.veOut c x (fun i => (upTo 0 x.cols).map (fun k => .fin false (s.veDraw c x i k 0 / 256) (-24)))

/-- VE_UNIFORM: its operation runs. -/
def execVeUniform (c : CoreIx) (s : State) : Host.Outcome State Fault Refusal :=
  .next (s.veRandom c 0x21 1 1 (fun s _ x => s.uniformRun c x))

/-- What VE_NORMAL writes (R131). -/
def State.normalRun (s : State) (c : Nat) (x : VeSlot) : State :=
  s.veOut c x (fun i => (upTo 0 x.cols).map (fun k =>
    dec32 (fnNormal (s.veDraw c x i k 0 / 256) (s.veDraw c x i k 1 / 256))))

/-- VE_NORMAL: its operation runs. -/
def execVeNormal (c : CoreIx) (s : State) : Host.Outcome State Fault Refusal :=
  .next (s.veRandom c 0x22 2 2 (fun s _ x => s.normalRun c x))

/-! ### Transposes (R116, R121) -/

/-- The run of VE_TRANSPOSE (R116): moved unchanged between equal formats, converted once otherwise. DEDUCED (log entry 67):
a NaN so moved keeps its bits, by R116, although R69 has every NaN that the VE writes canonical. -/
def State.transposeRun (s : State) (c : Nat) (x : VeSlot) : State :=
  let t :=
    if x.fi = x.fo then
      (upTo 0 x.cols).foldl (fun t j =>
        t.wrBytes (lbBase c + x.d + j * pitch x.fo x.rows)
          ((upTo 0 x.rows).flatMap (fun i => s.rdBytes (lbBase c + x.a + i * pitch x.fi x.cols + j * (elemBits x.fi / 8))
            (elemBits x.fi / 8)))) s
    else s.veOut c x (fun j => (upTo 0 x.rows).map (fun i => s.veA c x i j))
  (t.nanCount c (x.fi == x.fo && (upTo 0 x.rows).any (fun i => (upTo 0 x.cols).any (fun j => (s.veA c x i j).isNaN)))).veBusy c
    (x.rows * x.ch)

/-- VE_TRANSPOSE: its operation runs. -/
def execVeTranspose (c : CoreIx) (s : State) : Host.Outcome State Fault Refusal :=
  .next (s.veRow c (fun x => x.op == 0x28) (fun x => x.spans.1) (fun s _ x => s.transposeRun c x))

/-- The run of VE_MX_RELAYOUT (R76, R121): decoded, transposed and quantised again along the new rows. -/
def State.mxRelayoutRun (s : State) (c : Nat) (x : VeSlot) : State :=
  (s.veOut c x (fun j => (upTo 0 x.rows).map (fun i => s.veA c x i j))).veBusy c (2 * x.rows * ceilDiv x.cols 128)

/-- VE_MX_RELAYOUT: its operation runs. -/
def execVeMxRelayout (c : CoreIx) (s : State) : Host.Outcome State Fault Refusal :=
  .next (s.veRow c (fun x => x.op == 0x29) (fun x => x.spans.1) (fun s _ x => s.mxRelayoutRun c x))

/-! ### The backward operations (R161, R165–R168) -/

/-- The run of VE_GMASK (R161, R162): the bitmap binds to the ME operation of the same record. -/
def State.gmaskRun (s : State) (c : Nat) (o : SlotOp) (x : VeSlot) : State :=
  let m : MaskBind := { recIx := o.recIx, rows := x.imm % 2 == 0, bitmap := s.lbRd c x.a (ceilDiv x.cols 8) }
  (s.setCore c { s.core c with masks := m :: (s.core c).masks.filter (·.recIx ≠ o.recIx) }).veBusy c (ceilDiv x.cols 8192)

/-- VE_GMASK: its operation runs. -/
def execVeGmask (c : CoreIx) (s : State) : Host.Outcome State Fault Refusal :=
  .next (s.veRow c (fun x => x.op == 0x40) (fun x => x.spans.1) (fun s o x => s.gmaskRun c o x))

/-- Reduction of the products of two rows, one rounding a step (R166, R167). -/
def dotRow (xs ys : List Nat) : Nat :=
  (reduceRow (fun e : Nat × Nat => mul32 e.1 e.2) (fun v e => fma32 e.1 e.2 v) add32 (xs.zip ys)).getD 0

/-- The run of VE_SOFTMAX_BWD (R166). -/
def State.softmaxBwdRun (s : State) (c : Nat) (x : VeSlot) : State :=
  (s.veOut c x (fun i =>
    let ys := s.rowA c x i
    let ds := s.rowB c x i
    let t := dotRow ds ys
    (ys.zip ds).map (fun e => dec32 (mul32 e.1 (sub32 e.2 t))))).veBusy c (x.rows * 3 * x.ch)

/-- VE_SOFTMAX_BWD: its operation runs. -/
def execVeSoftmaxBwd (c : CoreIx) (s : State) : Host.Outcome State Fault Refusal :=
  .next (s.veRow c (fun x => x.op == 0x41) (fun x => x.spans.1) (fun s _ x => s.softmaxBwdRun c x))

/-- The norm backward descriptor (R167). -/
structure NormDesc where
  gamma : Nat
  stats : Nat
  dgamma : Nat
  dbeta : Nat
  accum : Bool
  ok : Bool
  deriving DecidableEq, Repr

def normDesc (b : Bytes) (ln : Bool) : NormDesc :=
  { gamma := fld b 0 4, stats := fld b 4 4, dgamma := fld b 8 4, dbeta := fld b 12 4, accum := bit (fld b 16 1) 0,
    ok := [fld b 0 4, fld b 4 4, fld b 8 4, fld b 12 4].all addrOk && decide (fld b 16 48 ≤ 1) && (ln || fld b 12 4 == 0) }

/-- A row of the norm backward pass: dx and the normalised values (R167). -/
def normBwdRow (ln : Bool) (st : Nat × Nat) (xs ds gs : List Nat) : List Nat × List Nat :=
  let xh := xs.map (fun x => if ln then lnHat st x else mul32 x st.2)
  let g := (ds.zip gs).map (fun e => mul32 e.1 e.2)
  let n := nat32 xs.length
  let a := div32 (rsum g) n
  let bc := div32 (dotRow g xh) n
  ((g.zip xh).map (fun e => mul32 st.2 (sub32 (if ln then sub32 e.1 a else e.1) (mul32 e.2 bc))), xh)

/-- What a norm backward operation writes under its descriptor (R167). -/
def State.normBwdRun (s : State) (c : Nat) (x : VeSlot) (d : NormDesc) (ln : Bool) : State :=
  let gs := s.lb32s c d.gamma x.cols
  let st := fun i => if ln then (s.rd32 (lbBase c + d.stats + 8 * i), s.rd32 (lbBase c + d.stats + 8 * i + 4))
    else (0, s.rd32 (lbBase c + d.stats + 4 * i))
  let row := fun i => normBwdRow ln (st i) (s.rowA c x i) (s.rowB c x i) gs
  let z := rep x.cols 0
  let dg := (upTo 0 x.rows).foldl (fun t i =>
    (t.zip ((s.rowB c x i).zip (row i).2)).map (fun e => fma32 e.2.1 e.2.2 e.1)) (if d.accum then s.lb32s c d.dgamma x.cols else z)
  let db := (upTo 0 x.rows).foldl (fun t i =>
    (t.zip (s.rowB c x i)).map (fun e => add32 e.1 e.2)) (if d.accum then s.lb32s c d.dbeta x.cols else z)
  let t := (s.veOut c x (fun i => ((row i).1).map dec32)).lbW32s c d.dgamma dg
  let t := if ln then t.lbW32s c d.dbeta db else t
  t.veBusy c (x.rows * (if ln then 6 else 5) * x.ch)

/-- LAYERNORM_BWD and RMSNORM_BWD (R167). A descriptor that breaks the table fails the item as a reserved
value in a descriptor. -/
def State.normBwd (s : State) (c op : Nat) (ln : Bool) : State :=
  s.veRow c (fun x => x.op == op) (fun x => x.spans.1) (fun s o x =>
    let d := normDesc (s.lbRd c x.aux 64) ln
    if !d.ok then s.veErr c 0x02 o else s.normBwdRun c x d ln)

/-- VE_LAYERNORM_BWD (R167). -/
def execVeLayernormBwd (c : CoreIx) (s : State) : Host.Outcome State Fault Refusal := .next (s.normBwd c 0x42 true)
/-- VE_RMSNORM_BWD (R167). -/
def execVeRmsnormBwd (c : CoreIx) (s : State) : Host.Outcome State Fault Refusal := .next (s.normBwd c 0x43 false)

/-- VE_ACT_BWD (R168). -/
def execVeActBwd (c : CoreIx) (s : State) : Host.Outcome State Fault Refusal :=
  .next (s.veEach c 0x44 2 (fun s x i k =>
    dec32 (actBwd (x.aux % 16) (s.a32 c x i k) (enc32 (s.veB c x i k)) x.imm)))

/-! ### The start of an operation -/

/-- The VE begins the first of its operations. -/
def State.veBegin (s : State) (c : Nat) (o : SlotOp) : State :=
  let s := s.setVeOp c { o with begun := true }
  let st := s.regN (pVE c + Off.VE_STAT)
  s.setRegN (pVE c + Off.VE_STAT) (setBits (setBits st 2 0 (1 + 2 * o.unit)) 15 8 (fld o.slot 0 1))

end Sys2Proof.Machine
end

