-- ==== Sys2Proof/Machine/Window.lean ====
section
/-!
DEFINITION. Machine/Window.lean: the window descriptor and its geometry, and the window path of the
vector engine: convolution, pooling, their gradients, resampling and the fold of padding gradients
(R139–R157).
-/
namespace Sys2Proof.Machine

/-! ### The descriptor (R140, R141) -/

/-- A window descriptor; triples are in the order D, H, W. -/
structure WinDesc where
  op : Nat
  dims : Nat
  pad : Nat
  countPad : Bool
  corners : Bool
  accum : Bool
  fmt : Nat
  nb : Nat
  ct : Nat
  cBase : Nat
  cCount : Nat
  cg : Nat
  mg : Nat
  mCount : Nat
  mBase : Nat
  dst : Nat
  src : Nat
  i : List Nat
  f : List Nat
  s : List Nat
  dil : List Nat
  pl : List Nat
  ph : List Nat
  fo : List Nat
  fp : List Nat
  ob : List Nat
  oc : List Nat
  ib : List Nat
  ic : List Nat
  step : List Nat
  o : List Nat
  /-- Version 0x01 and every reserved field and bit 0. -/
  clean : Bool
  deriving DecidableEq, Repr

/-- A triple of `n`-byte members at `off`. -/
def triple (b : Bytes) (off n : Nat) : List Nat := [fld b off n, fld b (off + n) n, fld b (off + 2 * n) n]

/-- Decode of the 128 bytes of a window descriptor. -/
def winDesc (b : Bytes) : WinDesc :=
  let mode := fld b 3 1
  { op := fld b 1 1, dims := fld b 2 1, pad := bits mode 1 0, countPad := bit mode 2, corners := bit mode 3,
    accum := bit mode 4, fmt := fld b 4 1, nb := fld b 6 2, ct := fld b 8 2, cBase := fld b 10 2, cCount := fld b 12 2,
    cg := fld b 14 2, mg := fld b 0x10 2, mCount := fld b 0x12 2, mBase := fld b 0x14 4, dst := fld b 0x18 4,
    src := fld b 0x20 8, i := triple b 0x28 2, f := triple b 0x30 1, s := triple b 0x33 1, dil := triple b 0x36 1,
    pl := triple b 0x39 1, ph := triple b 0x3C 1, fo := triple b 0x40 1, fp := triple b 0x43 1, ob := triple b 0x48 2,
    oc := triple b 0x50 2, ib := triple b 0x58 2, ic := triple b 0x60 2, step := triple b 0x68 4, o := triple b 0x74 2,
    clean := fld b 0 1 == 1 && decide (bits mode 7 5 = 0 ∧ bits mode 1 0 ≤ 2 ∧ fld b 5 1 = 0 ∧ fld b 0x1C 4 = 0 ∧
      fld b 0x2E 2 = 0 ∧ fld b 0x3F 1 = 0 ∧ fld b 0x46 2 = 0 ∧ fld b 0x4E 2 = 0 ∧ fld b 0x56 2 = 0 ∧ fld b 0x5E 2 = 0 ∧
      fld b 0x66 2 = 0 ∧ fld b 0x7A 6 = 0) }

namespace WinDesc

/-- Member `t` of a triple. -/
def at3 (l : List Nat) (t : Nat) : Nat := l.getD t 0

/-- Product of a triple. -/
def prod3 (l : List Nat) : Nat := l.foldl (· * ·) 1

/-- Window span, padded extent and output size of dimension `t` (R142). -/
def w (d : WinDesc) (t : Nat) : Nat := at3 d.dil t * (at3 d.f t - 1) + 1
def ext (d : WinDesc) (t : Nat) : Nat := at3 d.i t + at3 d.pl t + at3 d.ph t
def out (d : WinDesc) (t : Nat) : Nat :=
  if d.w t ≤ d.ext t then (d.ext t - d.w t) / at3 d.s t + 1 else 0
def outs (d : WinDesc) : List Nat := [d.out 0, d.out 1, d.out 2]
def exts (d : WinDesc) : List Nat := [d.ext 0, d.ext 1, d.ext 2]

/-- Step between neighbouring outputs in a tile, and the tile's extents (R147). -/
def s' (d : WinDesc) (t : Nat) : Nat := min (at3 d.s t) (d.w t)
def tile (d : WinDesc) (t : Nat) : Nat :=
  if at3 d.s t < d.w t then (at3 d.oc t - 1) * at3 d.s t + d.w t else at3 d.oc t * d.w t
def tiles (d : WinDesc) : List Nat := [d.tile 0, d.tile 1, d.tile 2]

/-- Padded coordinate that tile position `p` of dimension `t` holds (R147). -/
def tileCoord (d : WinDesc) (t p : Nat) : Nat :=
  if at3 d.s t < d.w t then at3 d.ob t * at3 d.s t + p
  else (at3 d.ob t + p / d.w t) * at3 d.s t + p % d.w t

/-- Input coordinate that padded coordinate `p` of dimension `t` takes its value from; none for +0 (R142). -/
def source (d : WinDesc) (t p : Nat) : Option Nat :=
  let n := at3 d.i t
  let q := at3 d.pl t
  if q ≤ p ∧ p < q + n then some (p - q)
  else match d.pad with
    | 0 => none
    | 1 => some (if p < q then 0 else n - 1)
    | _ => some (if p < q then q - p else 2 * (n - 1) - (p - q))

/-- Padded coordinate `p` lies in the image in dimension `t`. -/
def inImage (d : WinDesc) (t p : Nat) : Bool := decide (at3 d.pl t ≤ p ∧ p < at3 d.pl t + at3 d.i t)

/-- Dimensions beyond DIMS hold the values R141 asks. -/
def dimOk (d : WinDesc) (t : Nat) : Bool :=
  if 3 ≤ d.dims + t then true   -- dimension used
  else [d.i, d.f, d.s, d.dil, d.fp, d.oc, d.ic, d.o].all (fun l => at3 l t == 1)
    && [d.pl, d.ph, d.fo, d.ob, d.ib, d.step].all (fun l => at3 l t == 0)

/-- The checks of R141 that every unit makes. -/
def baseOk (d : WinDesc) : Bool :=
  d.clean && decide (1 ≤ d.dims ∧ d.dims ≤ 3) && (upTo 0 3).all d.dimOk
  && (upTo 0 3).all (fun t => decide (1 ≤ at3 d.s t ∧ at3 d.s t ≤ 16 ∧ 1 ≤ at3 d.dil t ∧ at3 d.dil t ≤ 16 ∧
      1 ≤ at3 d.f t ∧ 1 ≤ at3 d.i t ∧ (d.pad = 2 → at3 d.pl t ≤ at3 d.i t - 1 ∧ at3 d.ph t ≤ at3 d.i t - 1)))
  && decide (d.cBase + d.cCount ≤ d.ct) && [1, 2, 3, 4, 5, 7].contains d.fmt

end WinDesc

open WinDesc (at3 prod3)

/-- Coordinates of a box of the given extents, ascending, the last one innermost. -/
def boxOf (e : List Nat) : List (List Nat) :=
  (upTo 0 (at3 e 0)).flatMap (fun a => (upTo 0 (at3 e 1)).flatMap (fun b => (upTo 0 (at3 e 2)).map (fun c => [a, b, c])))

/-- Place of a coordinate in a box of the given extents. -/
def lin (e p : List Nat) : Nat := (at3 p 0 * at3 e 1 + at3 p 1) * at3 e 2 + at3 p 2

/-- Coordinate by coordinate. -/
def zip3 (f : Nat → Nat) : List Nat := [f 0, f 1, f 2]

/-! ### Window operations of the VE (R148–R155) -/

namespace WinDesc

/-- Output channels of a window convolution. -/
def qOut (d : WinDesc) : Nat := d.cCount / d.cg * d.mg

/-- Place in the x tile of tap `k` of box output `j`. -/
def tapAt (d : WinDesc) (j k : List Nat) : Nat :=
  lin d.tiles (zip3 (fun t => at3 j t * d.s' t + at3 k t * at3 d.dil t))

/-- Padded coordinate of tap `k` of box output `j`. -/
def tapCoord (d : WinDesc) (j k : List Nat) : List Nat :=
  zip3 (fun t => (at3 d.ob t + at3 j t) * at3 d.s t + at3 k t * at3 d.dil t)

/-- Every coordinate lies in the image. -/
def allIn (d : WinDesc) (p : List Nat) : Bool := (upTo 0 3).all (fun t => d.inImage t (at3 p t))

/-- Taps counted by AVGPOOL for box output `j`. -/
def counted (d : WinDesc) (j : List Nat) : List (List Nat) :=
  (boxOf d.f).filter (fun k => d.countPad || d.allIn (d.tapCoord j k))

/-- The input box place that padded coordinate `p` has, if it is in the box. -/
def inBox (d : WinDesc) (p : List Nat) : Option Nat :=
  if (upTo 0 3).all (fun t => decide (at3 d.ib t ≤ at3 p t ∧ at3 p t < at3 d.ib t + at3 d.ic t)) then
    some (lin d.ic (zip3 (fun t => at3 p t - at3 d.ib t)))
  else none

/-- Place of filter element (q, tap, j) in the packed filter (R139). -/
def filterIx (d : WinDesc) (q : Nat) (k : List Nat) (j : Nat) : Nat := (q * prod3 d.f + lin d.f k) * d.cg + j

end WinDesc

/-- Kinds of window operation: whether it reads an x tile, convolves, resamples, or works backward. -/
def winConv (op : Nat) : Bool := [0x30, 0x33, 0x34].contains op
def winResample (op : Nat) : Bool := [0x38, 0x39, 0x3A, 0x3B].contains op

/-- Rows and columns of SRC_A, SRC_B and DST that an operation derives from its descriptor; 0 rows where it
has none, and packed arrays as one row. -/
def winShape (op : Nat) (d : WinDesc) : (Nat × Nat) × (Nat × Nat) × (Nat × Nat) :=
  let x := (prod3 d.tiles, d.cCount)
  let y := (prod3 d.oc, if winConv op then d.qOut else d.cCount)
  let b := (prod3 d.ic, d.cCount)
  let w := (1, d.qOut * prod3 d.f * d.cg)
  match op with
  | 0x30 => (x, w, y)
  | 0x31 => (x, (0, 0), y)
  | 0x32 => (x, (0, 0), y)
  | 0x33 => (y, w, b)
  | 0x34 => (x, y, w)
  | 0x35 => (x, y, b)
  | 0x36 => ((0, 0), y, b)
  | 0x38 => (b, (0, 0), y)
  | 0x39 => (b, (0, 0), y)
  | 0x3A => ((0, 0), y, b)
  | 0x3B => ((0, 0), y, b)
  | _ => (b, (0, 0), y)

/-- ROWS and COLS the slot must hold: the positions and channels of the result, or of the outputs for the
weight gradient (R141). -/
def winRC (op : Nat) (d : WinDesc) : Nat × Nat := if op = 0x34 then (winShape op d).2.1 else (winShape op d).2.2

/-- The landing-buffer ranges of a window operation: reads, then writes. -/
def winSpans (x : VeSlot) (d : WinDesc) : List Span × List Span :=
  let sh := winShape x.op d
  let sz := fun c (p : Nat × Nat) => if p.1 = 0 then 0 else arrBytes c p.1 p.2
  ([(x.aux, 128), (x.a, sz x.fi sh.1), (x.b, sz x.fi sh.2.1)] ++ (if d.accum ∧ x.op = 0x34 then [(x.d, sz x.fo sh.2.2)] else []),
    [(x.d, sz x.fo sh.2.2)])

/-- The checks of R141 for a VE window operation. DESIGN CHOICE (log entry 69): a breach of the operation's own conditions
(CG, MG, C_COUNT mod CG, an FP32 filter gradient, STEP, ALIGN_CORNERS), to which R149 and R152 give no error, breaks the
descriptor. -/
def winOk (x : VeSlot) (d : WinDesc) : Bool :=
  d.baseOk && d.op == 0 && (upTo 0 3).all (fun t => decide (at3 d.f t ≤ 9))
  && (!winConv x.op || decide (1 ≤ d.cg ∧ d.cg ≤ 64 ∧ 1 ≤ d.mg ∧ d.cCount % d.cg = 0))
  && (!winResample x.op || (upTo 0 3).all (fun t => decide (at3 d.step t ≤ 0x100000) &&
      (d.dims + t < 3 || at3 d.step t != 0 || (at3 d.o t == at3 d.i t * at3 d.s t && !d.corners))))
  && (x.op != 0x34 || x.fo == 1)
  && ((winSpans x d).1 ++ (winSpans x d).2).all inLB && decide ((x.rows, x.cols) = winRC x.op d)

/-- The size that bounds the output box (R143): the descriptor's O for resampling, the image for PAD_FOLD. -/
def winBound (op : Nat) (d : WinDesc) : List Nat := if winResample op then d.o else if op = 0x3D then d.i else d.outs

/-- The output box lies within its bound. -/
def boxOk (bound : List Nat) (d : WinDesc) : Bool :=
  (upTo 0 3).all (fun t => decide (at3 d.ob t + at3 d.oc t ≤ at3 bound t))

/-- FP32 pattern of element (r, ch) of an array of `sh` at a landing-buffer offset. -/
def State.win32 (s : State) (c off code : Nat) (sh : Nat × Nat) (r ch : Nat) : Nat :=
  enc32 (s.rdVal (lbBase c + off) code sh.1 sh.2 0 r ch)

/-- The rows of a window operation's result are written and counted. -/
def State.winWrite (s : State) (c op : Nat) (o : SlotOp) (x : VeSlot) (d : WinDesc) (row : Nat → List FVal) (cyc : Nat) : State :=
  let sh := (winShape op d).2.2
  let rows := (upTo 0 sh.1).map row
  let t := (s.updCmd o.cmd (·.make o.item)).nanCount c (rows.any (fun r => (asWritten x.fo x.gexp r).any FVal.isNaN))
  (State.wrRows (lbBase c + x.d) x.fo sh.1 sh.2 x.gexp 0 rows t).veBusy c cyc

/-- Run a window operation: the descriptor is checked, an empty operation ends, an output box beyond its
bound or a failing `range` fails the item; then the operands are read and each result row is written (R141, R143, R157). -/
def State.veWin (s : State) (c op : Nat) (range : WinDesc → Bool) (row : State → VeSlot → WinDesc → Nat → List FVal)
    (cyc : WinDesc → Nat) : State :=
  s.veRow c (fun x => x.op == op) (fun x => [(x.aux, 128)]) (fun s o x =>
    let d := winDesc (s.lbRd c x.aux 128)
    if !winOk x d then s.veErr c 0x03 o
    else if (winBound op d).contains 0 then s.updCmd o.cmd (·.emptyOp o.item)
    else if !boxOk (winBound op d) d || !range d then s.veErr c 0x04 o
    else match s.poisonIn c (winSpans x d).1 with
      | some a => s.landUE c o a
      | none => s.winWrite c op o x d (row s x d) (cyc d))

/-- P, Q, T and L of the cycle column of R148. -/
def winP (d : WinDesc) : Nat := prod3 d.oc
def winQ (d : WinDesc) : Nat := prod3 d.ic
def winT (d : WinDesc) : Nat := prod3 d.f
def winL (n : Nat) : Nat := ceilDiv n 128

/-- Filter element as an FP32 pattern. -/
def State.wt32 (s : State) (c : Nat) (x : VeSlot) (d : WinDesc) (q : Nat) (k : List Nat) (j : Nat) : Nat :=
  s.win32 c x.b x.fi (1, d.qOut * prod3 d.f * d.cg) 0 (d.filterIx q k j)

/-- Element of the x tile at a place. -/
def State.xt32 (s : State) (c : Nat) (x : VeSlot) (d : WinDesc) (p ch : Nat) : Nat :=
  s.win32 c x.a x.fi (prod3 d.tiles, d.cCount) p ch

/-- The coordinate at a place of a box. -/
def unlin (e : List Nat) (n : Nat) : List Nat := [n / at3 e 2 / at3 e 1, n / at3 e 2 % at3 e 1, n % at3 e 2]

/-- An output row of VE_WCONV (R149). -/
def State.wconvRow (c : Nat) (s : State) (x : VeSlot) (d : WinDesc) (r : Nat) : List FVal :=
  let jo := unlin d.oc r
  (upTo 0 d.qOut).map (fun q => dec32 ((upTo 0 d.cg).foldl (fun acc j =>
    (boxOf d.f).foldl (fun acc k =>
      fma32 (s.xt32 c x d (d.tapAt jo k) (q / d.mg * d.cg + j)) (s.wt32 c x d q k j) acc) acc) 0))

/-- Cycles of VE_WCONV (R148). -/
def wconvCyc (d : WinDesc) : Nat := winP d * winL d.qOut * winT d * d.cg

/-- VE_WCONV (R149). -/
def execVeWconv (c : CoreIx) (s : State) : Host.Outcome State Fault Refusal :=
  .next (s.veWin c 0x30 (fun _ => true) (State.wconvRow c) wconvCyc)

/-- An output row of VE_MAXPOOL (R150). -/
def State.maxpoolRow (c : Nat) (s : State) (x : VeSlot) (d : WinDesc) (r : Nat) : List FVal :=
  let jo := unlin d.oc r
  (upTo 0 d.cCount).map (fun ch =>
    match (boxOf d.f).filter (fun k => d.allIn (d.tapCoord jo k)) with
    | [] => .inf true
    | k :: ks => ks.foldl (fun v k => max2 v (dec32 (s.xt32 c x d (d.tapAt jo k) ch))) (dec32 (s.xt32 c x d (d.tapAt jo k) ch)))

/-- Cycles of VE_MAXPOOL (R148). -/
def maxpoolCyc (d : WinDesc) : Nat := winP d * winL d.cCount * winT d

/-- VE_MAXPOOL (R150). -/
def execVeMaxpool (c : CoreIx) (s : State) : Host.Outcome State Fault Refusal :=
  .next (s.veWin c 0x31 (fun _ => true) (State.maxpoolRow c) maxpoolCyc)

/-- An output row of VE_AVGPOOL (R150). -/
def State.avgpoolRow (c : Nat) (s : State) (x : VeSlot) (d : WinDesc) (r : Nat) : List FVal :=
  let jo := unlin d.oc r
  (upTo 0 d.cCount).map (fun ch =>
    let ks := d.counted jo
    let sum := ks.foldl (fun t k => add32 t (s.xt32 c x d (d.tapAt jo k) ch)) 0
    if ks.isEmpty then .fin false 0 0 else dec32 (div32 sum (nat32 ks.length)))

/-- Cycles of VE_AVGPOOL (R148). -/
def avgpoolCyc (d : WinDesc) : Nat := winP d * winL d.cCount * (winT d + 4)

/-- VE_AVGPOOL (R150). -/
def execVeAvgpool (c : CoreIx) (s : State) : Host.Outcome State Fault Refusal :=
  .next (s.veWin c 0x32 (fun _ => true) (State.avgpoolRow c) avgpoolCyc)

/-- dy at box output place `o`, channel `q`. -/
def State.dyAt (s : State) (c off : Nat) (x : VeSlot) (d : WinDesc) (n o q : Nat) : Nat :=
  s.win32 c off x.fi (prod3 d.oc, n) o q

/-- Outputs of the box, with their place, and the taps of each that reach input-box place `r`. -/
def WinDesc.hits (d : WinDesc) (r : Nat) : List (Nat × List Nat × List Nat) :=
  (boxOf d.oc).flatMap (fun jo => ((boxOf d.f).filter (fun k => d.inBox (d.tapCoord jo k) == some r)).map
    (fun k => (lin d.oc jo, jo, k)))

/-- An output row of VE_WCONV_BWD_DATA (R151). -/
def State.wconvBwdDataRow (c : Nat) (s : State) (x : VeSlot) (d : WinDesc) (r : Nat) : List FVal :=
  (upTo 0 d.cCount).map (fun ch =>
    let g := ch / d.cg
    dec32 ((boxOf d.oc).foldl (fun acc jo =>
      (upTo (g * d.mg) d.mg).foldl (fun acc q =>
        ((boxOf d.f).filter (fun k => d.inBox (d.tapCoord jo k) == some r)).foldl (fun acc k =>
          fma32 (s.wt32 c x d q k (ch - g * d.cg)) (s.dyAt c x.a x d d.qOut (lin d.oc jo) q) acc) acc) acc) 0))

/-- Cycles of VE_WCONV_BWD_DATA (R148). -/
def wconvBwdDataCyc (d : WinDesc) : Nat := winQ d * winL d.cCount * winT d * d.mg

/-- VE_WCONV_BWD_DATA (R151). -/
def execVeWconvBwdData (c : CoreIx) (s : State) : Host.Outcome State Fault Refusal :=
  .next (s.veWin c 0x33 (fun _ => true) (State.wconvBwdDataRow c) wconvBwdDataCyc)

/-- An output row of VE_WCONV_BWD_WEIGHT (R151): the filter gradient, packed as the filter is; ACCUM starts from DST. -/
def State.wconvBwdWeightRow (c : Nat) (s : State) (x : VeSlot) (d : WinDesc) (_ : Nat) : List FVal :=
  (upTo 0 d.qOut).flatMap (fun q => (boxOf d.f).flatMap (fun k => (upTo 0 d.cg).map (fun j =>
    let start := if d.accum then s.rd32 (lbBase c + x.d + 4 * d.filterIx q k j) else 0
    dec32 ((boxOf d.oc).foldl (fun acc jo =>
      fma32 (s.xt32 c x d (d.tapAt jo k) (q / d.mg * d.cg + j)) (s.dyAt c x.b x d d.qOut (lin d.oc jo) q) acc) start))))

/-- Cycles of VE_WCONV_BWD_WEIGHT (R148). -/
def wconvBwdWeightCyc (d : WinDesc) : Nat := winP d * winL d.qOut * winT d * d.cg

/-- VE_WCONV_BWD_WEIGHT (R151): the filter gradient, packed as the filter is; ACCUM starts from DST. -/
def execVeWconvBwdWeight (c : CoreIx) (s : State) : Host.Outcome State Fault Refusal :=
  .next (s.veWin c 0x34 (fun _ => true) (State.wconvBwdWeightRow c) wconvBwdWeightCyc)

/-- The tap MAXPOOL_BWD selects: the first in-image tap that holds the forward result, bit for bit, or the
first NaN (R151). -/
def State.poolTap (s : State) (c : Nat) (x : VeSlot) (d : WinDesc) (jo : List Nat) (ch : Nat) : Option (List Nat) :=
  let ks := (boxOf d.f).filter (fun k => d.allIn (d.tapCoord jo k))
  let v := fun k => s.xt32 c x d (d.tapAt jo k) ch
  match ks with
  | [] => none
  | k :: rest =>
    let m := rest.foldl (fun m k => max32 m (v k)) (enc32 (dec32 (v k)))
    ks.find? (fun k => v k == m || ((dec32 m).isNaN && (dec32 (v k)).isNaN))

/-- An output row of VE_MAXPOOL_BWD (R151). -/
def State.maxpoolBwdRow (c : Nat) (s : State) (x : VeSlot) (d : WinDesc) (r : Nat) : List FVal :=
  (upTo 0 d.cCount).map (fun ch => dec32 ((boxOf d.oc).foldl (fun acc jo =>
    match s.poolTap c x d jo ch with
    | some k => if d.inBox (d.tapCoord jo k) = some r then add32 acc (s.dyAt c x.b x d d.cCount (lin d.oc jo) ch) else acc
    | none => acc) 0))

/-- Cycles of VE_MAXPOOL_BWD (R148). -/
def maxpoolBwdCyc (d : WinDesc) : Nat := winP d * winL d.cCount * winT d + winQ d * winL d.cCount

/-- VE_MAXPOOL_BWD (R151). -/
def execVeMaxpoolBwd (c : CoreIx) (s : State) : Host.Outcome State Fault Refusal :=
  .next (s.veWin c 0x35 (fun _ => true) (State.maxpoolBwdRow c) maxpoolBwdCyc)

/-- An output row of VE_AVGPOOL_BWD (R151). -/
def State.avgpoolBwdRow (c : Nat) (s : State) (x : VeSlot) (d : WinDesc) (r : Nat) : List FVal :=
  (upTo 0 d.cCount).map (fun ch => dec32 ((d.hits r).foldl (fun acc h =>
    let ks := d.counted h.2.1
    if ks.contains h.2.2 then add32 acc (div32 (s.dyAt c x.b x d d.cCount h.1 ch) (nat32 ks.length)) else acc) 0))

/-- Cycles of VE_AVGPOOL_BWD (R148). -/
def avgpoolBwdCyc (d : WinDesc) : Nat := winP d * winL d.cCount * winT d + winQ d * winL d.cCount

/-- VE_AVGPOOL_BWD (R151). -/
def execVeAvgpoolBwd (c : CoreIx) (s : State) : Host.Outcome State Fault Refusal :=
  .next (s.veWin c 0x36 (fun _ => true) (State.avgpoolBwdRow c) avgpoolBwdCyc)

/-! ### Resampling (R153–R155) -/

/-- The nearest source index of output `o` in dimension `t`. -/
def WinDesc.nearest (d : WinDesc) (t o : Nat) : Nat :=
  let st := at3 d.step t
  if st = 0 then o / at3 d.s t
  else min ((if d.corners then o * st + 32768 else o * st) / 65536) (at3 d.i t - 1)

/-- The bilinear source of output `o` in dimension `t`: both indices and the weight of the second. -/
def WinDesc.linear (d : WinDesc) (t o : Nat) : Nat × Nat × Nat :=
  let st := at3 d.step t
  let r := at3 d.s t
  let n := at3 d.i t
  -- x = X / D
  let X : Int := if st = 0 then (2 * o + 1 : Nat) - (r : Int)
    else if d.corners then (o * st : Nat) else (((2 * o + 1) * st : Nat) - (65536 : Int)) / 2
  let D := if st = 0 then 2 * r else 65536
  if X ≤ 0 then (0, 0, 0)
  else
    let i0 := X.toNat / D
    if n - 1 ≤ i0 then (n - 1, n - 1, 0)
    else (i0, min (i0 + 1) (n - 1), FP32.ofRat false (X.toNat % D) D 0)

/-- Place in the input box of an index triple. -/
def WinDesc.boxIx (d : WinDesc) (p : List Nat) : Nat := (d.inBox p).getD 0

/-- The 2^DIMS corners of an output: index triple and per-dimension choices, in ascending corner index. -/
def WinDesc.corner (d : WinDesc) (o : List Nat) (n : Nat) : List Nat :=
  zip3 (fun t => let l := d.linear t (at3 o t); if bit n (2 - t) then l.2.1 else l.1)

/-- Every source index an operation uses lies in the input box (R153). -/
def WinDesc.sourcesIn (d : WinDesc) (bilinear : Bool) : Bool :=
  (boxOf d.oc).all (fun j =>
    let o := zip3 (fun t => at3 d.ob t + at3 j t)
    if bilinear then (upTo 0 (2 ^ d.dims)).all (fun n => (d.inBox (d.corner o n)).isSome)
    else (d.inBox (zip3 (fun t => d.nearest t (at3 o t)))).isSome)

/-- lerp of R154. -/
def lerp32 (a b l : Nat) : Nat := fma32 l (sub32 b a) a

/-- Interpolation over the dimensions, W first: corner values in ascending corner index (R154). -/
def lerpDims (d : WinDesc) (o : List Nat) : Nat → List Nat → List Nat
  | 0, vs => vs
  | n + 1, vs =>
    let t := 2 - (d.dims - (n + 1))
    let l := (d.linear t (at3 o t)).2.2
    lerpDims d o n (pairUp (fun a b => lerp32 a b l) vs)

/-- Element of the input-box operand. -/
def State.xb32 (s : State) (c : Nat) (x : VeSlot) (d : WinDesc) (p ch : Nat) : FVal :=
  s.rdVal (lbBase c + x.a) x.fi (prod3 d.ic) d.cCount 0 p ch

/-- An output row of VE_UPSAMPLE_NEAREST (R153, R154). -/
def State.upsampleNearestRow (c : Nat) (s : State) (x : VeSlot) (d : WinDesc) (r : Nat) : List FVal :=
  let o := zip3 (fun t => at3 d.ob t + at3 (unlin d.oc r) t)
  (upTo 0 d.cCount).map (s.xb32 c x d (d.boxIx (zip3 (fun t => d.nearest t (at3 o t)))))

/-- Cycles of VE_UPSAMPLE_NEAREST (R148). -/
def upsampleNearestCyc (d : WinDesc) : Nat := winP d * winL d.cCount

/-- VE_UPSAMPLE_NEAREST (R153, R154). -/
def execVeUpsampleNearest (c : CoreIx) (s : State) : Host.Outcome State Fault Refusal :=
  .next (s.veWin c 0x38 (fun d => d.sourcesIn false) (State.upsampleNearestRow c) upsampleNearestCyc)

/-- An output row of VE_UPSAMPLE_BILINEAR (R153, R154). -/
def State.upsampleBilinearRow (c : Nat) (s : State) (x : VeSlot) (d : WinDesc) (r : Nat) : List FVal :=
  let o := zip3 (fun t => at3 d.ob t + at3 (unlin d.oc r) t)
  (upTo 0 d.cCount).map (fun ch =>
    let vs := (upTo 0 (2 ^ d.dims)).map (fun n => enc32 (s.xb32 c x d (d.boxIx (d.corner o n)) ch))
    dec32 ((lerpDims d o d.dims vs).headD 0))

/-- Cycles of VE_UPSAMPLE_BILINEAR (R148). -/
def upsampleBilinearCyc (d : WinDesc) : Nat := winP d * winL d.cCount * 2 ^ d.dims

/-- VE_UPSAMPLE_BILINEAR (R153, R154). -/
def execVeUpsampleBilinear (c : CoreIx) (s : State) : Host.Outcome State Fault Refusal :=
  .next (s.veWin c 0x39 (fun d => d.sourcesIn true) (State.upsampleBilinearRow c) upsampleBilinearCyc)

/-- An output row of VE_UPSAMPLE_NEAREST_BWD (R155). -/
def State.upsampleNearestBwdRow (c : Nat) (s : State) (x : VeSlot) (d : WinDesc) (r : Nat) : List FVal :=
  (upTo 0 d.cCount).map (fun ch => dec32 ((boxOf d.oc).foldl (fun g j =>
    if d.inBox (zip3 (fun t => d.nearest t (at3 d.ob t + at3 j t))) = some r then
      add32 g (s.dyAt c x.b x d d.cCount (lin d.oc j) ch) else g) 0))

/-- Cycles of VE_UPSAMPLE_NEAREST_BWD (R148). -/
def upsampleNearestBwdCyc (d : WinDesc) : Nat := winP d * winL d.cCount + winQ d * winL d.cCount

/-- VE_UPSAMPLE_NEAREST_BWD (R155). -/
def execVeUpsampleNearestBwd (c : CoreIx) (s : State) : Host.Outcome State Fault Refusal :=
  .next (s.veWin c 0x3A (fun d => d.sourcesIn false) (State.upsampleNearestBwdRow c) upsampleNearestBwdCyc)

/-- A corner's weight: the per-dimension weights multiplied in the order W, H, D (R155). -/
def WinDesc.weight (d : WinDesc) (o : List Nat) (n : Nat) : Nat :=
  let w := fun t => let l := (d.linear t (at3 o t)).2.2; if bit n (2 - t) then l else sub32 one32 l
  (upTo 1 (d.dims - 1)).foldl (fun p b => mul32 p (w (2 - b))) (w 2)

/-- An output row of VE_UPSAMPLE_BILINEAR_BWD (R155). -/
def State.upsampleBilinearBwdRow (c : Nat) (s : State) (x : VeSlot) (d : WinDesc) (r : Nat) : List FVal :=
  (upTo 0 d.cCount).map (fun ch => dec32 ((boxOf d.oc).foldl (fun g j =>
    let o := zip3 (fun t => at3 d.ob t + at3 j t)
    (upTo 0 (2 ^ d.dims)).foldl (fun g n =>
      if d.inBox (d.corner o n) = some r then
        fma32 (d.weight o n) (s.dyAt c x.b x d d.cCount (lin d.oc j) ch) g else g) g) 0))

/-- Cycles of VE_UPSAMPLE_BILINEAR_BWD (R148). -/
def upsampleBilinearBwdCyc (d : WinDesc) : Nat := winP d * winL d.cCount * 2 ^ d.dims + winQ d * winL d.cCount

/-- VE_UPSAMPLE_BILINEAR_BWD (R155). -/
def execVeUpsampleBilinearBwd (c : CoreIx) (s : State) : Host.Outcome State Fault Refusal :=
  .next (s.veWin c 0x3B (fun d => d.sourcesIn true) (State.upsampleBilinearBwdRow c) upsampleBilinearBwdCyc)

/-! ### PAD_FOLD (R152) -/

/-- The image position that a padded coordinate takes its value from. -/
def WinDesc.source3 (d : WinDesc) (p : List Nat) : Option (List Nat) :=
  match d.source 0 (at3 p 0), d.source 1 (at3 p 1), d.source 2 (at3 p 2) with
  | some a, some b, some c => some [a, b, c]
  | _, _, _ => none

/-- An image position lies in the output box. -/
def WinDesc.inOut (d : WinDesc) (i : List Nat) : Bool :=
  (upTo 0 3).all (fun t => decide (at3 d.ob t ≤ at3 i t ∧ at3 i t < at3 d.ob t + at3 d.oc t))

/-- The tile holds every padded position whose source lies in the output box. -/
def WinDesc.foldOk (d : WinDesc) : Bool :=
  (boxOf d.exts).all (fun p => match d.source3 p with
    | some i => !d.inOut i || (d.inBox p).isSome
    | none => true)

/-- An output row of VE_PAD_FOLD (R152). -/
def State.padFoldRow (c : Nat) (s : State) (x : VeSlot) (d : WinDesc) (r : Nat) : List FVal :=
  let i := zip3 (fun t => at3 d.ob t + at3 (unlin d.oc r) t)
  let tilePos := (boxOf d.ic).map (fun j => (lin d.ic j, zip3 (fun t => at3 d.ib t + at3 j t)))
  let adds := tilePos.filter (fun e => !d.allIn e.2 && d.source3 e.2 == some i)
  (upTo 0 d.cCount).map (fun ch =>
    dec32 (adds.foldl (fun g e => add32 g (enc32 (s.xb32 c x d e.1 ch)))
      (enc32 (s.xb32 c x d (d.boxIx (zip3 (fun t => at3 i t + at3 d.pl t))) ch))))

/-- Cycles of VE_PAD_FOLD (R148). -/
def padFoldCyc (d : WinDesc) : Nat := winQ d * winL d.cCount

/-- VE_PAD_FOLD (R152). -/
def execVePadFold (c : CoreIx) (s : State) : Host.Outcome State Fault Refusal :=
  .next (s.veWin c 0x3D WinDesc.foldOk (State.padFoldRow c) padFoldCyc)

end Sys2Proof.Machine
end

