-- ==== Sys2Proof/Machine/Hazard.lean ====
section
/-!
DEFINITION. Machine/Hazard.lean: ferry queues, the ends and errors of ferry operations, the landing-buffer
ranges of every slot, and the hazards between engines and ferries (R174, R226–R228, R232).
-/
namespace Sys2Proof.Machine

/-- The FERRY, SLIP, EXP and SEQ pages of core `c`. -/
def pFERRY (c f : Nat) : Nat := pg .ferry (4 * c + f)
def pSLIP (c : Nat) : Nat := pg .slip c
def pEXP (c : Nat) : Nat := pg .exp c
def pSEQ (c : Nat) : Nat := pg .seq c

/-- T-die of a core (R20). -/
def coreDie (c : Nat) : Nat := c / 64

/-! ### Queues -/

/-- Queue of ferry `f` of core `c`. -/
def State.fq (s : State) (c f : Nat) : List SlotOp := (s.core c).ferries.getD f []

/-- The queue replaced. -/
def State.setFq (s : State) (c f : Nat) (l : List SlotOp) : State :=
  s.setCore c { s.core c with ferries := (s.core c).ferries.set f l }

/-- Two operations are one: same record, unit and ring entry. -/
def SlotOp.same (o x : SlotOp) : Bool := o.recIx == x.recIx && o.unit == x.unit && o.ring == x.ring

/-- The queue's operation replaced by its new state. -/
def State.putOp (s : State) (c f : Nat) (o : SlotOp) : State :=
  s.setFq c f ((s.fq c f).map (fun x => if x.same o then o else x))

/-- The operation that the ferry is running: begun, with requests still to issue. -/
def State.curOp (s : State) (c f : Nat) : Option SlotOp := (s.fq c f).find? (fun o => o.begun && !o.issued)

/-- The operation's item has failed. -/
def State.opFailed (s : State) (o : SlotOp) : Bool :=
  match s.cmd? o.cmd with
  | some k => k.itemFailed o.item
  | none => true

/-- Post the signal of a slot on its own core (R228, R232). -/
def State.postSlot (s : State) (c : Nat) (slot : Bytes) (poison : Bool) : State :=
  match slotSignal slot with
  | some g => s.postFlags c (2 ^ g) poison
  | none => s

/-- The operation has moved its last byte. -/
def State.opDone (s : State) (c f : Nat) (o : SlotOp) : State := s.putOp c f { o with issued := true, done := true }

/-- The operation is over: nothing of it is outstanding but its completion, and its signal has been posted. -/
def SlotOp.stopped (o : SlotOp) : SlotOp :=
  { o with issued := true, done := true, signalled := true, jobs := [], refetch := none }

/-- A run-time error ends the operation at once and posts its signal poisoned; with a ring entry its QRUN ends too (R229,
R232). -/
def State.opFail (s : State) (c f : Nat) (o : SlotOp) : State :=
  let s := (s.putOp c f o.stopped).postSlot c o.slot true
  match (s.fq c f).find? (fun q => q.recIx == o.recIx && q.unit == o.unit && q.ring == 0 && !q.signalled) with
  | some q => (s.putOp c f q.stopped).postSlot c q.slot true
  | none => s

/-- An operation that ends in error, or whose peer has ended it: one that issued void has posted its signal already. -/
def State.opAbort (s : State) (c f : Nat) (o : SlotOp) : State :=
  if o.signalled then s.putOp c f { o.stopped with voided := true } else s.opFail c f o

/-- An error of a ferry page, with its address: logged, shown, the item fails and the operation ends (R232). -/
def State.ferryErr (s : State) (c f : Nat) (o : SlotOp) (code st addr : Nat) : State :=
  let p := pFERRY c f
  let s := (s.setRegN (p + Off.FERRY_LAST_ERR) (code + o.item % 2 ^ 24 * 256)).setRegN (p + Off.FERRY_ERR_ADDR) (addr % 2 ^ 52)
  let s := s.setRegN (p + Off.FERRY_ERR_NODE)
    (if code = 6 ∨ code = 7 then 0x80000000 + (fSlot o.slot).node else 0)
  (s.itemErrAt p code o.cmd o.item st addr).opFail c f o

/-- A load that meets poison: from a landing buffer its owner's LAND page reports, else the ferry's (R218, R220). -/
def State.poisonErr (s : State) (c f : Nat) (o : SlotOp) (addr : Nat) : State :=
  match s.region addr with
  | some .land =>
    ((s.landUE ((addr - lbBase 0) / 0x400000) o ((addr - lbBase 0) % 0x400000)).opFail c f o)
  | _ => s.ferryErr c f o 0x02 Status.MEM_UE addr

/-- A tag error of a ferry (R242, R243, R252). -/
def State.ferryTagErr (s : State) (c f : Nat) (o : SlotOp) (code st addr : Nat) : State :=
  (s.tagErr c code o.cmd o.item st addr).opFail c f o

/-- An error of the EXP (R253). -/
def State.expErr (s : State) (c f : Nat) (o : SlotOp) (code st addr : Nat) : State :=
  let p := pEXP c
  let s := (s.setRegN (p + Off.EXP_LAST_ERR) (code + o.item % 2 ^ 24 * 256)).setRegN (p + Off.EXP_ERR_ADDR) addr
  let s := if code = 5 then s.bump (pCTAB (coreDie c)) Off.CTAB_MISSING_CNT 1 else s
  (s.itemErrAt p code o.cmd o.item st addr).opFail c f o

/-- Bytes moved by an operation (R387 item bytes, FERRY_BYTES). -/
def State.moved (s : State) (c f : Nat) (o : SlotOp) (n : Nat) : State :=
  let s := s.bump64 (pFERRY c f) Off.FERRY_BYTES n
  let s := s.updCmd o.cmd (·.make o.item)
  if f = 2 ∨ (f = 3 ∧ o.unit = 3 ∧ (fSlot o.slot).op = 0x11) then s.updCmd o.cmd (·.addBytes o.item n) else s

/-! ### Landing-buffer ranges -/

/-- Elements of a row of GATHER or GATHER_T (R144). -/
def WinDesc.rowK (d : WinDesc) : Nat := WinDesc.prod3 d.fp * d.cCount

/-- Rows and columns that a ferry window operation lands (R144, R145, R147). -/
def WinDesc.landed (d : WinDesc) : Nat × Nat :=
  if d.op = 3 then (WinDesc.prod3 d.tiles, d.cCount) else (d.mCount, d.rowK)

/-- Reads and writes of a ferry slot in the landing buffer, a window descriptor's result included. -/
def State.ferrySpans (s : State) (c : Nat) (b : Bytes) : List Span × List Span :=
  let x := fSlot b
  if x.op = 2 then
    let d := winDesc (s.lbRd c x.lb 128)
    (x.spans.1, [(d.dst, arrBytes d.fmt d.landed.1 d.landed.2)])
  else x.spans

/-- Reads and writes of the slot of a unit. -/
def State.unitSpans (s : State) (c u : Nat) (b : Bytes) : List Span × List Span :=
  if u = 4 then (lSlot b).spans else s.ferrySpans c b

/-- What a norm backward descriptor names: reads and writes (R167). -/
def normBwdSpans (d : NormDesc) (x : VeSlot) : List Span × List Span :=
  let w := (d.dgamma, 4 * x.cols) :: (if x.op = 0x42 then [(d.dbeta, 4 * x.cols)] else [])
  ([(d.gamma, 4 * x.cols), (d.stats, (if x.op = 0x42 then 8 else 4) * x.rows)] ++ (if d.accum then w else []), w)

/-- Reads and writes of a VE slot, what its descriptors name included. -/
def State.veSpans (s : State) (c : Nat) (b : Bytes) : List Span × List Span :=
  let x := veSlot b
  if x.window then winSpans x (winDesc (s.lbRd c x.aux 128))
  else if x.op = 0x42 ∨ x.op = 0x43 then
    let n := normBwdSpans (normDesc (s.lbRd c x.aux 64) (x.op == 0x42)) x
    (x.spans.1 ++ n.1, x.spans.2 ++ n.2)
  else x.spans

/-! ### What is outstanding -/

/-- A slot that has still to move its bytes: issue tick, record, unit, number of a ring entry, and slot; `read` says that a
store has read its bytes. -/
structure Todo where
  tick : Nat
  recIx : Nat
  unit : Nat
  ring : Nat
  slot : Bytes
  read : Bool
  deriving DecidableEq, Repr

/-- Earlier in record order, within a record in ascending slot index, and within a QRUN in ring order (R174, R227). -/
def Todo.before (a b : Todo) : Bool :=
  decide (a.recIx < b.recIx ∨ (a.recIx = b.recIx ∧ (a.unit < b.unit ∨ (a.unit = b.unit ∧ a.ring < b.ring))))

/-- The two name one operation. -/
def Todo.same (a b : Todo) : Bool := a.recIx == b.recIx && a.unit == b.unit && a.ring == b.ring

/-- What a queued operation still has to move. -/
def SlotOp.todo (o : SlotOp) : Todo :=
  { tick := o.tick, recIx := o.recIx, unit := o.unit, ring := o.ring, slot := o.slot, read := o.issued }

/-- A unit's slot loads: it writes the landing buffer from memory or a peer. -/
def unitLoads (u : Nat) (b : Bytes) : Bool :=
  u == 0 || u == 1 || (u == 3 && (fld b 0 1 == 0x10 || fld b 0 1 == 0x06)) || (u == 4 && fld b 0 1 != 0x01)

/-- A unit's slot stores: it reads the landing buffer for memory or a peer. -/
def unitStores (u : Nat) (b : Bytes) : Bool :=
  u == 2 || (u == 3 && (fld b 0 1 == 0x11 || fld b 0 1 == 0x06)) || (u == 4 && fld b 0 1 != 0x02)

/-- Records of a timetable not yet issued. -/
def TimetableRun.unissued (t : TimetableRun) : List Nat :=
  let k := if 0 < t.issues then t.pos + 1 else t.pos
  upTo k (ttCount t.bytes - k)

/-- The issue tick of a record. -/
def TimetableRun.tickOf (t : TimetableRun) (i : Nat) : Nat := t.start + recOffset (ttRec t.bytes i)

/-- The record's item has failed. -/
def State.recFailed (s : State) (t : TimetableRun) (i : Nat) : Bool :=
  match s.cmd? t.cmd with
  | some k => k.itemFailed (recItem (ttRec t.bytes i))
  | none => true

/-- Slots of ferry `f` that are not enqueued yet: enqueue tick, record, unit. -/
def TimetableRun.waiting (t : TimetableRun) (f : Nat) : List (Nat × Nat × Nat) :=
  (upTo 0 (ttCount t.bytes)).flatMap (fun i =>
    ((if f = 3 then [3, 4] else [f]).filter (fun u => unitUsed (ttRec t.bytes i) u && !t.enq.contains (i, u))).map
      (fun u => (max (t.tickOf i - unitLead (ttRec t.bytes i) u) t.first, i, u)))

/-- In the order of enqueueing: by tick, then record, then unit. -/
def slotBefore (y x : Nat × Nat × Nat) : Bool :=
  decide (y.1 < x.1 ∨ (y.1 = x.1 ∧ (y.2.1 < x.2.1 ∨ (y.2.1 = x.2.1 ∧ y.2.2 < x.2.2))))

/-- Slots in the order of enqueueing. -/
def sortSlots (l : List (Nat × Nat × Nat)) : List (Nat × Nat × Nat) :=
  l.foldl (fun acc x => acc.takeWhile (fun y => !slotBefore x y) ++ x :: acc.dropWhile (fun y => !slotBefore x y)) []

/-- Ring size, the index published, without what the present tick has published (R30), and the offset of the ring entry
at an index. -/
def State.qSize (s : State) (c f : Nat) : Nat := s.regN (pFERRY c f + Off.FERRY_QSIZE)
def State.qTail (s : State) (c f : Nat) : Nat := ((s.core c).tailOld.lookup f).getD (s.regN (pFERRY c f + Off.FERRY_QTAIL))
def State.qEntry (s : State) (c f i : Nat) : Nat :=
  s.field (pFERRY c f + Off.FERRY_QBASE) 21 6 * 64 + 32 * (i % s.qSize c f)

/-- QRUNs of ferry `f` with entries still to take, in the order in which they take them: the Todo of the QRUN with the
entries taken as its ring number, and its COUNT. -/
def State.qruns (s : State) (c f : Nat) : List (Todo × Nat) :=
  let of := fun (t : Todo) => if fld t.slot 0 1 = 0x06 ∧ t.unit ≤ 3 then some (t, (fSlot t.slot).rows) else none
  ((s.fq c f).filter (fun o => !o.issued && o.ring == 0)).filterMap (fun o => of { o.todo with ring := o.step }) ++
  (match (s.core c).tt with
    | none => []
    | some t => ((sortSlots (t.waiting f)).filter (fun w => !s.recFailed t w.2.1)).filterMap (fun w =>
        of { tick := t.tickOf w.2.1, recIx := w.2.1, unit := w.2.2, ring := 0, slot := recUnit (ttRec t.bytes w.2.1) w.2.2, read := false }))

/-- Published ring entries of ferry `f`, not yet taken, given to the QRUNs that will take them. -/
def State.ringTodo (s : State) (c f : Nat) : List Todo :=
  let h := s.regN (pFERRY c f + Off.FERRY_QHEAD)
  let n := (s.qTail c f + 2 * s.qSize c f - h) % (2 * s.qSize c f)
  let owners := (s.qruns c f).flatMap (fun q => (upTo 1 (q.2 - q.1.ring)).map (fun k => { q.1 with ring := q.1.ring + k }))
  (owners.zip (upTo 0 n)).map (fun e => { e.1 with slot := s.lbRd c (s.qEntry c f (h + e.2)) 24, read := false })

/-- Ferry and link slots of core `c` that have not moved all their bytes, enqueued or not, and the published ring entries
of its QRUNs (log entry 71). -/
def State.ferryTodo (s : State) (c : Nat) : List Todo :=
  let queued := (s.core c).ferries.flatMap (fun l => (l.filter (fun o => !o.done)).map SlotOp.todo) ++
    (upTo 0 4).flatMap (fun f => s.ringTodo c f)
  match (s.core c).tt with
  | none => queued
  | some t => queued ++ (upTo 0 (ttCount t.bytes)).flatMap (fun i =>
      if s.recFailed t i then []
      else ((upTo 0 5).filter (fun u => unitUsed (ttRec t.bytes i) u && !t.enq.contains (i, u))).map
        (fun u => ({ tick := t.tickOf i, recIx := i, unit := u, ring := 0, slot := recUnit (ttRec t.bytes i) u, read := false } : Todo)))

/-- Engine operations of core `c` that have not ended, issued or not: unit 0 for the ME, 1 and 2 for the VE
slots. -/
def State.engineTodo (s : State) (c : Nat) : List Todo :=
  let of := fun (tick i : Nat) (r : Bytes) (me ve0 ve1 : Bool) =>
    (if me then [({ tick := tick, recIx := i, unit := 0, ring := 0, slot := recMe r, read := false } : Todo)] else []) ++
    (if ve0 then [({ tick := tick, recIx := i, unit := 1, ring := 0, slot := recVe r 0, read := false } : Todo)] else []) ++
    (if ve1 then [({ tick := tick, recIx := i, unit := 2, ring := 0, slot := recVe r 1, read := false } : Todo)] else [])
  let run := (s.core c).sailings.flatMap (fun x => if x.hollow then [] else of x.tick x.recIx x.bytes x.me x.ve0 x.ve1)
  match (s.core c).tt with
  | none => run
  | some t => run ++ t.unissued.flatMap (fun i =>
      let r := ttRec t.bytes i
      if s.recFailed t i then []
      else of (t.tickOf i) i r (fld (recMe r) 0 1 != 0) (fld (recVe r 0) 0 1 != 0) (fld (recVe r 1) 0 1 != 0))

/-- Reads and writes of an engine operation. -/
def State.engineSpans (s : State) (c : Nat) (t : Todo) : List Span × List Span :=
  if t.unit = 0 then (meSlot t.slot).spans else s.veSpans c t.slot

/-- A ferry or link operation may move its bytes (R227): loads wait for engine operations of earlier ticks and
for earlier overlapping loads, stores for engine operations and loads that write what they read. -/
def State.ferryClear (s : State) (c : Nat) (x : Todo) : Bool :=
  let sp := s.unitSpans c x.unit x.slot
  let eng := s.engineTodo c
  let fer := (s.ferryTodo c).filter (fun t => !t.same x)
  (!unitLoads x.unit x.slot ||
    (eng.all (fun t => let e := s.engineSpans c t
        !(decide (t.tick < x.tick) && overlaps sp.2 (e.1 ++ e.2))) &&
      fer.all (fun t => !(unitLoads t.unit t.slot && t.before x && overlaps sp.2 (s.unitSpans c t.unit t.slot).2)))) &&
  (!unitStores x.unit x.slot ||
    (eng.all (fun t => !(decide (t.tick ≤ x.tick) && overlaps sp.1 (s.engineSpans c t).2)) &&
      fer.all (fun t => !(unitLoads t.unit t.slot && decide (t.tick ≤ x.tick) &&
        overlaps sp.1 (s.unitSpans c t.unit t.slot).2))))

/-- An engine operation may start (R227): its reads wait for loads up to its tick, its writes for stores of
earlier ticks. -/
def State.engineClear (s : State) (c : Nat) (x : Todo) : Bool :=
  let sp := s.engineSpans c x
  (s.ferryTodo c).all (fun t =>
    let f := s.unitSpans c t.unit t.slot
    !(unitLoads t.unit t.slot && decide (t.tick ≤ x.tick) && overlaps sp.1 f.2) &&
    !(unitStores t.unit t.slot && !t.read && decide (t.tick < x.tick) && overlaps sp.2 f.1))

/-- Berth operations on the same segment that come before this one have taken effect (R174). -/
def State.berthClear (s : State) (c : Nat) (x : Todo) : Bool :=
  let b := (fSlot x.slot).berth
  (s.ferryTodo c).all (fun t => !(decide (t.unit ≤ 2) && (fld t.slot 0 1 == 0x04 || fld t.slot 0 1 == 0x0A)
    && (fSlot t.slot).berth == b && t.before x))

/-! ### Peer operations (R230) -/

/-- The peer ferry's operation that a message serves: record `r`, ring entry `k`. -/
def State.peerOp (s : State) (c r k : Nat) : Option SlotOp :=
  (s.fq c 3).find? (fun o => o.recIx == r && o.unit == 3 && o.ring == k && !o.done)

end Sys2Proof.Machine
end

