-- ==== Sys2Proof/Machine/Slipway.lean ====
section
/-!
DEFINITION. Machine/Slipway.lean: berth segments, pushes and pops, trailers, and the expansion of coded
blocks as they land (R170–R179, R244, R250, R253, R254).
-/
namespace Sys2Proof.Machine

/-! ### Segments (R172, R179) -/

/-- A register of berth `b` in core `c`'s SLIP page. -/
def slipAt (c b off : Nat) : Nat := pSLIP c + off + 0x40 * b

def State.sBase (s : State) (c b : Nat) : Nat := s.regN (slipAt c b Off.SLIP_BASE)
def State.sLimit (s : State) (c b : Nat) : Nat := s.regN (slipAt c b Off.SLIP_LIMIT)
def State.sSbase (s : State) (c b : Nat) : Nat := s.regN (slipAt c b Off.SLIP_SBASE)
def State.sSlimit (s : State) (c b : Nat) : Nat := s.regN (slipAt c b Off.SLIP_SLIMIT)
def State.sHtop (s : State) (c b : Nat) : Nat := s.regN (slipAt c b Off.SLIP_HTOP)
def State.sStop (s : State) (c b : Nat) : Nat := s.regN (slipAt c b Off.SLIP_STOP)
def State.sOn (s : State) (c b : Nat) : Bool := bit (s.regN (slipAt c b Off.SLIP_BCTRL)) 0
def State.sSpill (s : State) (c b : Nat) : Bool := bit (s.regN (slipAt c b Off.SLIP_BCTRL)) 1

/-- Entries of a segment, top first. -/
def State.berth (s : State) (c b : Nat) : List BerthEntry := smGet (fun _ => []) s.berths (32 * c + b)

/-- The entries replaced; BSTAT and TOP_ID follow. -/
def State.setBerth (s : State) (c b : Nat) (l : List BerthEntry) : State :=
  let s := { s with berths := smSet (fun _ => []) s.berths (32 * c + b) l }
  let e := decide (s.sHtop c b = s.sBase c b ∧ s.sStop c b = s.sSbase c b)
  let s := s.setRegN (slipAt c b Off.SLIP_BSTAT)
    (b2n e + b2n (decide (s.sSbase c b < s.sStop c b)) * 2 + min l.length 0xFFFFFF * 256)
  s.setRegN (slipAt c b Off.SLIP_TOP_ID) (match l.head? with
    | some x => x.id
    | none => 0)

/-- Both tops return to their bases. -/
def State.emptySegment (s : State) (c b : Nat) : State :=
  let s := (s.setRegN (slipAt c b Off.SLIP_HTOP) (s.sBase c b)).setRegN (slipAt c b Off.SLIP_STOP) (s.sSbase c b)
  s.setBerth c b []

/-- Ranges of an enabled segment. -/
def State.segRanges (s : State) (c b : Nat) : List (Nat × Nat) :=
  (s.sBase c b, s.sLimit c b - s.sBase c b) ::
    (if s.sSpill c b then [(s.sSbase c b, s.sSlimit c b - s.sSbase c b)] else [])

/-- Enabled segments of a core. -/
def State.segments (s : State) (c : Nat) : List Nat := (upTo 0 32).filter (s.sOn c)

/-- The checks of R179 on setting ENABLE. -/
def State.segmentOk (s : State) (c b : Nat) : Bool :=
  let lo := s.sBase c b
  let hi := s.sLimit c b
  let slo := s.sSbase c b
  let shi := s.sSlimit c b
  [lo, hi, slo, shi].all (· % 64 == 0) && decide (lo + 65536 + 64 ≤ hi) && s.rangeRegion lo (hi - lo) == some .hbm
  && (!s.sSpill c b || (decide (slo + 65536 + 64 ≤ shi) && s.rangeRegion slo (shi - slo) == some .tier && s.tiered))
  && !overlaps (s.segRanges c b) (((s.segments c).filter (· ≠ b)).flatMap (s.segRanges c))

/-- A correctable error of the slipway about a berth, shown in SLIP_LAST_ERR with no item (R179). -/
def State.slipLog (s : State) (c b code : Nat) : State :=
  (s.setRegN (pSLIP c + Off.SLIP_LAST_ERR) (code + b * 256)).logCorr (pSLIP c) code

/-- Set ENABLE of a segment (R179). -/
def State.slipEnable (s : State) (c b : Nat) : State :=
  if s.sOn c b then s
  else if s.segmentOk c b then (s.setField (slipAt c b Off.SLIP_BCTRL) 0 0 1).emptySegment c b
  else s.slipLog c b 0x06

/-- Clear ENABLE of a segment (R179). -/
def State.slipDisable (s : State) (c b : Nat) : State :=
  if !s.sOn c b then s
  else if !s.seqIdle c then s.slipLog c b 0x09
  else
    let held := !(s.berth c b).isEmpty
    let s := (s.setField (slipAt c b Off.SLIP_BCTRL) 0 0 0).emptySegment c b
    if held then s.slipLog c b 0x07 else s

/-- SLIP_ENABLE (R179): the configuration is checked and the tops are reset. -/
def execSlipEnable (c : CoreIx) (b : BerthIx) (s : State) : Host.Outcome State Fault Refusal :=
  .next (s.slipEnable c b)

/-- SLIP_DISABLE (R179): while the SEQ is IDLE the segment is emptied and leaves service. -/
def execSlipDisable (c : CoreIx) (b : BerthIx) (s : State) : Host.Outcome State Fault Refusal :=
  .next (s.slipDisable c b)

/-- A segment's entries are dropped at the end of a command (R176). -/
def State.slipLeftover (s : State) (c : Nat) : State :=
  ((s.segments c).filter (fun b => !(s.berth c b).isEmpty)).foldl
    (fun (s : State) b => (s.emptySegment c b).slipLog c b 0x08) s

/-- Segments that hold entries of a failed item are emptied (R175). -/
def State.slipFailEmpty (s : State) (c : Nat) : State :=
  ((s.segments c).filter (fun b => (s.berth c b).any (fun e =>
      match s.cmd? e.cmd with
      | some k => k.itemFailed e.item
      | none => true))).foldl (fun (s : State) b => s.emptySegment c b) s

/-! ### Entries (R171, R173, R244) -/

/-- An error of the slipway (R172, R173, R179). -/
def State.slipErr (s : State) (c f : Nat) (o : SlotOp) (code st : Nat) : State :=
  let p := pSLIP c
  let s := s.setRegN (p + Off.SLIP_LAST_ERR) (code + (fSlot o.slot).berth * 256 + o.item % 2 ^ 24 * 2 ^ 32)
  (s.itemErr p code o.cmd o.item st).opFail c f o

/-- Tag of a berth entry's data (R244). -/
def berthTag (data : Bytes) (id fmt : Nat) : Nat := mkTag (crc32c data) id fmt 1

/-- Trailer of an entry (R171). -/
def mkTrailer (x : FSlot) (coded : Bool) (id item len tag tick : Nat) : Bytes :=
  let b := natLE 1 1 ++ natLE 1 (b2n x.recompute) ++ natLE 1 x.stage ++ natLE 1 x.fmt ++ natLE 2 x.mb ++
    natLE 1 (b2n coded) ++ natLE 1 0 ++ natLE 4 id ++ natLE 3 item ++ natLE 1 0 ++ natLE 4 len ++ natLE 4 x.tileBytes ++
    natLE 8 tag ++ natLE 8 tick ++ rep 20 0
  b ++ natLE 4 (crc32c b)

/-- A trailer's CRC is good. -/
def trailerCrc (t : Bytes) : Bool := fld t 0x3C 4 == crc32c (t.take 0x3C)

/-- Version, kind and reserved bytes of a trailer (R173). -/
def trailerForm (x : FSlot) (t : Bytes) : Bool :=
  decide (fld t 0 1 = 1 ∧ fld t 1 1 = b2n x.recompute ∧ fld t 7 1 = 0 ∧ fld t 0x0F 1 = 0) && ((t.drop 0x28).take 20).all (· == 0)

/-- The trailer is that of the pop's tile (R173). -/
def trailerIs (x : FSlot) (item id : Nat) (t : Bytes) : Bool :=
  decide (fld t 2 1 = x.stage ∧ fld t 4 2 = x.mb ∧ fld t 8 4 = id ∧ fld t 0x0C 3 = item % 2 ^ 24)

/-! ### Push (R172, R250) -/

/-- Stored bytes of a tile (R246–R250). -/
def State.stored (s : State) (c : Nat) (o : SlotOp) (x : FSlot) (raw : Bytes) : Bytes :=
  match codedSize x.fmt with
  | some b => if x.codec = 0 then raw else
      codeTile x.codec x.fmt b
        (if x.codec = 2 ∧ o.live.contains x.tslot ∧ tabElem (s.tabImage (coreDie c) x.tslot) = x.fmt then
          some (x.tslot, s.tabImage (coreDie c) x.tslot) else none)
        raw.length raw
  | none => raw

/-- Where an entry of `n` bytes goes: its address and whether that is in the spill range; none when the segment is full
(R172). -/
def State.placeAt (s : State) (c b n : Nat) : Option (Nat × Bool) :=
  if s.sStop c b = s.sSbase c b ∧ s.sHtop c b + n ≤ s.sLimit c b then some (s.sHtop c b, false)
  else if s.sSpill c b ∧ s.sStop c b + n ≤ s.sSlimit c b then some (s.sStop c b, true)
  else none

/-- Place an entry at its address (R172, R228). -/
def State.place (s : State) (c b a : Nat) (bytes : Bytes) (e : BerthEntry) : State :=
  let s := ((s.ferryAccess (coreDie c) true [(a, bytes.length)]).wrBytes a bytes).setRegN
    (slipAt c b (if e.spill then Off.SLIP_STOP else Off.SLIP_HTOP)) (a + bytes.length)
  let s := s.setBerth c b (e :: s.berth c b)
  if e.spill then s.bump64 (pSLIP c) Off.SLIP_SPILL_CNT 1 else s

/-- A PFILL of the store ferry that comes before an operation has still to fill some of these bytes: a ferry's writes to
one byte keep their order (R279). -/
def State.fillAhead (s : State) (c : Nat) (o : SlotOp) (rs : List (Nat × Nat)) : Bool :=
  ((s.fq c 2).takeWhile (fun x => !x.same o)).any (fun x =>
    fld x.slot 0 1 == 0x0B && !x.done && overlaps rs [((fSlot x.slot).mem, 4096 * (fSlot x.slot).shape)])

/-- Push tile `i` and the tiles after it, `n` in all; a tile whose lines are not ready stops the operation there. -/
def State.pushTiles (c f : Nat) (x : FSlot) : Nat → Nat → SlotOp → State → State
  | 0, _, o, s => s.opDone c f o
  | n + 1, i, o, s =>
    let off := x.lb + i * x.tileBytes
    match if x.recompute then none else s.poisonIn c [(off, x.tileBytes)] with
    | some a => (s.landUE c o a).opFail c f o
    | none =>
      let d := if x.recompute then [] else s.stored c o x (s.lbRd c off x.tileBytes)
      let data := d ++ rep (roundUp d.length 64 - d.length) (0 : Byte)
      let id := (x.firstId + i) % 2 ^ 32
      let bytes := data ++ mkTrailer x (x.codec != 0 && !x.recompute) id o.item d.length (berthTag data id x.fmt) o.tick
      match s.placeAt c x.berth bytes.length with
      | none => s.slipErr c f o 0x01 Status.SLIPWAY_FULL
      | some (a, spill) =>
        if !s.cohReady [(a, bytes.length)] || s.fillAhead c o [(a, bytes.length)] then s.putOp c f { o with step := i }
        else
          let s := s.place c x.berth a bytes { size := bytes.length, id := id, cmd := o.cmd, item := o.item, spill := spill }
          let held := (s.sHtop c x.berth - s.sBase c x.berth) + (s.sStop c x.berth - s.sSbase c x.berth)
          let s := ((s.bump64 (pSLIP c) Off.SLIP_PUSH_CNT 1).raiseTo (pSLIP c) Off.SLIP_HWM held).moved c f o bytes.length
          State.pushTiles c f x n (i + 1) o s

/-- The operation a ferry is running, when its slot has the opcode wanted. -/
def State.ferryOp (s : State) (c f op : Nat) : Option (SlotOp × FSlot) :=
  match s.curOp c f with
  | some o => if fld o.slot 0 1 = op ∧ o.unit ≤ 3 ∧ o.refetch.isNone then some (o, fSlot o.slot) else none
  | none => none

/-- SLIP_PUSH (R170–R172, R177, R250): the tiles are pushed in ascending order; a disabled segment or a full
one fails the item. -/
def execSlipPush (c : CoreIx) (f : FerryIx) (s : State) : Host.Outcome State Fault Refusal :=
  .next (match s.ferryOp c f 0x0A with
    | none => s
    | some (o, x) =>
      if !s.berthClear c o.todo then s
      else if !s.sOn c x.berth then s.slipErr c f o 0x05 Status.BAD_COMMAND
      else
        let plain := o.step = 0 && x.codec = 2 && !x.recompute &&
          !(o.live.contains x.tslot && tabElem (s.tabImage (coreDie c) x.tslot) == x.fmt)
        let s := if plain then (s.bump (pEXP c) Off.EXP_RAW_FALLBACK 1).logCorr (pEXP c) 0x06 else s
        State.pushTiles c f x (x.count - o.step) o.step o s)

/-! ### Pop (R172, R173) -/

/-- The top of a segment: the entry and the address after it. -/
def State.segTop (s : State) (c b : Nat) : Option Nat :=
  if s.sSbase c b < s.sStop c b then some (s.sStop c b)
  else if s.sBase c b < s.sHtop c b then some (s.sHtop c b) else none

/-- Lower the top by an entry. -/
def State.lowerTop (s : State) (c b top e : Nat) : State :=
  let r := if s.sSbase c b < s.sStop c b then Off.SLIP_STOP else Off.SLIP_HTOP
  (s.setRegN (slipAt c b r) (top - e)).setBerth c b (s.berth c b).tail

/-- The data of the entry under a top, without its trailer. -/
def entryData (top : Nat) (t : Bytes) : Nat × Nat := (top - 64 - roundUp (fld t 0x10 4) 64, roundUp (fld t 0x10 4) 64)

/-- The tile tag of an entry matches its data. -/
def State.entryTagOk (s : State) (top : Nat) (t : Bytes) : Bool :=
  let d := entryData top t
  fld t 0x18 8 == berthTag (s.rdBytes d.1 d.2) (fld t 8 4) (fld t 3 1)

/-- Pop the next tiles of an operation, `n` of them, until it stops for lines that are not ready, a re-fetch or an error. The tile
popped is COUNT − 1 less the tiles popped before. -/
def State.popTiles (c f : Nat) : Nat → SlotOp → FSlot → State → State
  | 0, o, _, s => s.putOp c f { o with issued := true, done := o.jobs.isEmpty }
  | n + 1, o, x, s =>
    let b := x.berth
    match s.segTop c b with
    | none => s.slipErr c f o 0x03 Status.BAD_COMMAND
    | some top =>
      let ta := top - 64
      let t := s.rdBytes ta 64
      let id := (x.firstId + n) % 2 ^ 32
      let d := entryData top t
      if !s.cohReady [(ta, 64)] then s.putOp c f o
      else if s.poisoned ta then s.poisonErr c f o ta
      else if !trailerCrc t then s.putOp c f { o with refetch := some (.trailer ta) }
      else if !trailerForm x t || !trailerIs x o.item id t || decide (d.1 < (if s.sSbase c b < s.sStop c b then s.sSbase c b else s.sBase c b)) then
        s.slipErr c f o 0x02 Status.BAD_COMMAND
      else if !s.cohReady [d] then s.putOp c f o
      else if s.anyPoison d.1 d.2 then s.poisonErr c f o d.1
      else if !s.entryTagOk top t && !o.retried.contains (.granule d.1) then
        s.putOp c f { o with refetch := some (.granule d.1) }
      else
        let len := fld t 0x10 4
        let dst := x.lb + n * x.tileBytes
        let s := s.ferryAccess (coreDie c) false [(d.1, d.2 + 64)]
        let s := ((s.lowerTop c b top (d.2 + 64)).bump64 (pSLIP c) Off.SLIP_POP_CNT 1).moved c f o (d.2 + 64)
        if x.recompute then State.popTiles c f n { o with step := o.step + 1 } x s
        else if fld t 6 1 = 1 then
          State.popTiles c f n { o with
            step := o.step + 1,
            jobs := o.jobs ++ [{ addr := d.1, lim := d.1 + len, owed := x.tileBytes, whole := true, skip := 0, dst := dst, land := x.tileBytes }] } x s
        else if len = x.tileBytes then
          State.popTiles c f n { o with step := o.step + 1 } x (s.lbWr c dst (s.rdBytes d.1 len))
        else s.expErr c f o 0x02 Status.BLOCK_CHECK d.1

/-- SLIP_POP (R170–R173, R177): tiles are popped in descending order; each trailer and tag is checked, and the
data lands or goes to the EXP. -/
def execSlipPop (c : CoreIx) (f : FerryIx) (s : State) : Host.Outcome State Fault Refusal :=
  .next (match s.ferryOp c f 0x04 with
    | none => s
    | some (o, x) =>
      if !s.berthClear c o.todo then s
      else if !s.sOn c x.berth then s.slipErr c f o 0x05 Status.BAD_COMMAND
      else State.popTiles c f (x.count - o.step) o x s)

/-- The operation of a ferry that waits for a re-fetch. -/
def State.refetching (s : State) (c f : Nat) : Option (SlotOp × Refetch) :=
  (s.fq c f).findSome? (fun o => if o.done then none else o.refetch.map (fun r => (o, r)))

/-- The re-fetch passed. -/
def State.refetchOk (s : State) (c f : Nat) (o : SlotOp) (r : Refetch) : State :=
  s.putOp c f { o with refetch := none, retried := r :: o.retried }

/-- SLIP_TRAILER_REREAD (R173): the trailer is read once more; a second mismatch fails the item. -/
def execSlipTrailerReread (c : CoreIx) (f : FerryIx) (s : State) : Host.Outcome State Fault Refusal :=
  .next (match s.refetching c f with
    | some (o, .trailer a) =>
      if trailerCrc (s.rdBytes a 64) then s.refetchOk c f o (.trailer a)
      else s.slipErr c f o 0x04 Status.TILE_CHECK
    | _ => s)

/-- A re-fetch of a granule or berth entry for a source (a core, or 0xFFFF): counted and logged with its address, and the
clean copy that a die cache of its reader holds of it is dropped first (R243, R244). -/
def State.refetchTag (s : State) (dies : List DieIx) (src g n : Nat) : State :=
  let s := (s.bump pTAGR Off.TAGR_REFETCH_CNT 1).setRegN (pTAGR + Off.TAGR_LAST_ADDR) g
  let s := (s.setRegN (pTAGR + Off.TAGR_LAST_SRC) (0x05 + src % 65536 * 256)).logAddr pTAGR 0x05 g
  dies.foldl (fun (s : State) t => s.dropClean t [(g, n)]) (s.ev (fun e => { e with refetch := e.refetch + 1 }))

/-- TAG_REFETCH (R243, R244): the granule or berth entry and its tag are fetched once more; a second failure
fails the item with TAG_MISMATCH. -/
def execTagRefetch (c : CoreIx) (f : FerryIx) (s : State) : Host.Outcome State Fault Refusal :=
  .next (match s.refetching c f with
    | some (o, .granule g) =>
      let pop := fld o.slot 0 1 == 0x04
      let top := s.segTop c (fSlot o.slot).berth
      let n := if pop then (top.getD g) - g else 4096
      let s := s.refetchTag [⟨coreDie c, by have := c.isLt; unfold coreDie; omega⟩] c g n
      let good :=
        if pop then
          match top with
          | some top => s.entryTagOk top (s.rdBytes (top - 64) 64)
          | none => false
        else match s.regionOf g with
          | some r => s.checkTag r (genAt o.rgen r) g == .ok
          | none => true
      if good then s.refetchOk c f o (.granule g)
      else s.ferryTagErr c f o 0x01 Status.TILE_CHECK g
    | _ => s)

/-! ### Expansion (R253) -/

/-- The stored data of a job's next block, at most one block's worth. -/
def State.jobBytes (s : State) (j : ExpJob) : Bytes := s.rdBytes j.addr (min (j.lim - j.addr) 65552)

/-- Expand the next block of a job. -/
def State.expandJob (s : State) (c : Nat) (j : ExpJob) : BlkRes :=
  expandBlock (s.decTab (coreDie c)) j.owed (s.jobBytes j)

/-- A block passed: its bytes land as they are, a NaN among them too (DEDUCED: log entry 67), and the job goes on; false when the expanded bytes are not those expected. -/
def State.landBlock (s : State) (c f : Nat) (o : SlotOp) (j : ExpJob) (js : List ExpJob) (raw : Bytes) : State :=
  let h := blkHdr (s.jobBytes j)
  let j' := { j with
    addr := j.addr + blkStored h.length, owed := j.owed - raw.length, skip := j.skip - raw.length,
    dst := j.dst + min (raw.drop j.skip).length j.land, land := j.land - (raw.drop j.skip).length }
  if raw.isEmpty || decide (j.owed < raw.length) || (j'.owed == 0 && j.whole && decide (j'.addr < j.lim))
      || (decide (0 < j'.owed) && !j.whole) then
    s.expErr c f o 0x02 Status.BLOCK_CHECK j.addr
  else
    let p := pEXP c
    let s := s.bump64 p (if h.format = 0 then Off.EXP_BLK_RAW else if h.format = 1 then Off.EXP_BLK_SB else Off.EXP_BLK_TX) 1
    let s := (s.bump64 p Off.EXP_DECODE_CYC h.cost).lbWr c j.dst ((raw.drop j.skip).take j.land)
    let js := if j'.owed = 0 then js else j' :: js
    s.putOp c f { o with jobs := js, done := js.isEmpty && o.issued }

/-- What a failed check comes to: the error, its status, and whether the block is fetched once more. -/
def blkErr : BlkRes → Option (Nat × Nat × Bool)
  | .ok _ => none
  | .format => some (0x01, Status.VERSION_MISMATCH, false)
  | .header => some (0x02, Status.BLOCK_CHECK, false)
  | .table => some (0x05, Status.TABLE_MISSING, false)
  | .decode => some (0x03, Status.BLOCK_CHECK, true)
  | .crc => some (0x04, Status.BLOCK_CHECK, true)

/-- The first operation of a ferry with blocks to expand. -/
def State.expanding (s : State) (c f : Nat) : Option (SlotOp × ExpJob × List ExpJob) :=
  (s.fq c f).findSome? (fun o => if o.done then none else match o.jobs with
    | j :: js => some (o, j, js)
    | [] => none)

/-- EXP_BLOCK_EXPAND (R253): the next block is checked in order and expanded into the landing buffer. -/
def execExpBlockExpand (c : CoreIx) (f : FerryIx) (s : State) : Host.Outcome State Fault Refusal :=
  .next (match s.expanding c f with
    | none => s
    | some (o, j, js) =>
      if o.refetch.isSome then s
      else match s.expandJob c j with
        | .ok raw => s.landBlock c f o j js raw
        | r => match blkErr r with
          | none => s
          | some (code, st, again) =>
            if again && !o.retried.contains (.block j.addr) then s.putOp c f { o with refetch := some (.block j.addr) }
            else s.expErr c f o code st j.addr)

/-- EXP_REFETCH (R253): a block that failed to decode or its CRC is fetched once more. -/
def execExpRefetch (c : CoreIx) (f : FerryIx) (s : State) : Host.Outcome State Fault Refusal :=
  .next (match s.refetching c f, s.expanding c f with
    | some (o, .block a), some (_, j, _) =>
      let s := (s.bump (pEXP c) Off.EXP_REFETCH_CNT 1).ev (fun e => { e with refetch := e.refetch + 1 })
      match blkErr (s.expandJob c j) with
      | none => s.refetchOk c f o (.block a)
      | some (code, st, _) => s.expErr c f o code st j.addr
    | _, _ => s)

end Sys2Proof.Machine
end

