-- ==== Sys2Proof/Machine/Power.lean ====
section
/-!
DEFINITION. Machine/Power.lean: power modes, the per-tick governor, the tide energy check, the thermal
step and the supply events (R408, R412–R422, R488).
-/
namespace Sys2Proof.Machine

/-- The PWR page. -/
def pPWR : Nat := pg .pwr 0
/-- The TICK page. -/
def pTICK : Nat := pg .tick 0

/-- TICK_CFG.MODE is ELASTIC. -/
def State.elastic (s : State) : Bool := bit (s.regN (pTICK + Off.TICK_CFG)) 0

/-- TICK_CFG.HORIZON. -/
def State.horizon (s : State) : Nat := s.field (pTICK + Off.TICK_CFG) 15 8

/-- A bit of PWR_STAT. -/
def State.setPwrStat (s : State) (hi lo v : Nat) : State := s.setField (pPWR + Off.PWR_STAT) hi lo v

/-! ### Allowances and modes (R412, R414) -/

/-- Default die allowance D_m in µJ, tide limit T_m in J, and package limit L_m in W (R414). -/
def modeD (m : Nat) : Nat := if m = 0 then 450 else if m = 1 then 370 else 290
def modeT (m : Nat) : Nat := if m = 0 then 520 else if m = 1 then 433 else 347
def modeL (m : Nat) : Nat := if m = 0 then 3600 else if m = 1 then 3000 else 2400

/-- floor(x · min(1, cap / L_m)) (R414). -/
def scaled (x cap m : Nat) : Nat := x * min cap (modeL m) / modeL m

/-- The allowance A_t; the reduced one is floor(0.75 · D_m · min(1, cap / L_m)) (R414). -/
def allowance (m cap : Nat) (cut : Bool) : Nat :=
  if cut then 3 * modeD m * min cap (modeL m) / (4 * modeL m) else scaled (modeD m) cap m

/-- The mode the four values of R412 call for. -/
def State.targetMode (s : State) : Nat :=
  max (max (s.field (pPWR + Off.PWR_CTRL) 1 0) (s.field (pPWR + Off.PWR_STAT) 3 2))
    (max (s.field (pPWR + Off.PWR_STAT) 5 4) (s.field (pPWR + Off.PWR_STAT) 7 6))

/-- The harbour controller sets A_t and T_t of every T-die for mode `m` (R414). -/
def State.setAllowances (s : State) (m : Nat) : State :=
  let cap := s.regN (pPWR + Off.PWR_CAP)
  let a := allowance m cap (bit (s.regN (pPWR + Off.PWR_STAT)) 16)
  let t := scaled (modeT m) cap m
  (upTo 0 4).foldl (fun s i =>
    (s.setRegN (pPWR + Off.PWR_DIE_BUDGET + 4 * i) a).setRegN (pPWR + Off.PWR_DIE_LIMIT + 4 * i) t) s

/-- Maximum server-core clock of a mode, in MHz (R27, R288). -/
def serverMax (m : Nat) : Nat := if m = 0 then 3200 else if m = 1 then 2800 else 2400

/-- The clock a cluster runs at: the highest request of its four cores, capped by the mode (R288). -/
def State.clusterMHz (s : State) (j : Nat) : Nat :=
  min (((upTo (4 * j) 4).map (fun k => s.field (pg .srvc k + Off.SRVC_CLK) 11 0)).foldl max 0) (serverMax s.pmode)

/-- Show the cluster's clock in SRVC_CLK.CUR_MHZ of its cores (R288). -/
def State.setCluster (s : State) (j : Nat) : State :=
  let m := s.clusterMHz j
  (upTo (4 * j) 4).foldl (fun s k => s.setField (pg .srvc k + Off.SRVC_CLK) 27 16 m) s

/-- Every item that core `c`'s timetable names and that has not ended fails with a status (R63). -/
def State.failTimetable (s : State) (c st : Nat) : State :=
  match (s.core c).tt with
  | none => s
  | some t => (upTo 0 (ttCount t.bytes)).foldl (fun (s : State) r => s.failItem t.cmd (recItem (ttRec t.bytes r)) st) s

/-- A mode change takes effect: the mode, the server clocks, the allowances; items of timetables compiled
for a larger budget fail (R63, R288, R412, R414). -/
def State.setMode (s : State) (m : Nat) : State :=
  let s := s.setPwrStat 1 0 m
  let s := (upTo 0 32).foldl State.setCluster s
  let s := s.setAllowances m
  s.cores.foldl (fun s e => match e.2.tt with
    | some t => if cycleBudget m < ttBudget t.bytes then
        (s.failTimetable e.1 Status.BUDGET_EXCEEDED).setField (pg .seq e.1 + Off.SEQ_STATE) 2 0
          (if s.seqState e.1 = 3 then 4 else s.seqState e.1)
      else s
    | none => s) s

/-- POWER_MODE_CHANGE (R412, R63): at cycle 0 of the first tick of a tide the mode becomes the highest of
the four values. -/
def execPowerModeChange (s : State) : Host.Outcome State Fault Refusal :=
  .next (match s.pwr.modeDue with
    | none => s
    | some m =>
      let s := { s with pwr := { s.pwr with modeDue := none } }
      if s.now % 1000000 = 0 then s.setMode m else s)

/-! ### The governor (R413–R415) -/

/-- Balance of die `t` in nJ. -/
def State.gov (s : State) (t : Nat) : Nat := s.regN (pPWR + Off.PWR_GOV_BAL + 4 * t)
def State.setGov (s : State) (t v : Nat) : State := s.setRegN (pPWR + Off.PWR_GOV_BAL + 4 * t) v

/-- PWR_BURST in nJ. -/
def State.burst (s : State) : Nat := 1000 * bits (s.regN (pPWR + Off.PWR_BURST)) 15 0

/-- A_t in nJ. -/
def State.allow (s : State) (t : Nat) : Nat := 1000 * s.regN (pPWR + Off.PWR_DIE_BUDGET + 4 * t)

/-- A_t·u/100 in nJ: what one stretch unit adds (R415). -/
def State.unitCredit (s : State) (t : Nat) : Nat := s.allow t * stretchRef s.pmode / 100

/-- One stretch unit credited to every die's balance (R415). -/
def State.govCredit (s : State) : State :=
  (upTo 0 4).foldl (fun s t => s.setGov t (min (s.gov t + s.unitCredit t) s.burst)) s

/-- The energy class of the record of core `c` that issues in tick `n`, 0 if none (R413). -/
def State.classAt (s : State) (c n : Nat) : Nat :=
  match (s.core c).tt with
  | none => 0
  | some t =>
    if !t.checked then 0
    else match (upTo t.pos (ttCount t.bytes - t.pos)).find? (fun i =>
        let r := ttRec t.bytes i
        decide (t.start + recOffset r ≤ n ∧ n < t.start + recOffset r + recRepeat r)) with
      | some i => recClass (ttRec t.bytes i)
      | none => 0

/-- The plan of die `t` for tick `n`, in nJ (R413, R415). -/
def State.plan (s : State) (t n : Nat) : Nat :=
  ((s.cores.filter (fun e => e.1 / 64 == t)).map (fun e => s.classAt e.1 n * 40)).foldl (· + ·) 0

/-- The decision for one die: its new balance and whether it requests a stretch and leaves a shortfall. -/
def govDie (avail plan unit burst : Nat) (elastic : Bool) : Nat × Bool × Bool :=
  if plan ≤ avail then (min (avail - plan) burst, false, false)
  else if elastic then
    if plan ≤ avail + unit then (min (avail + unit - plan) burst, true, false) else (0, true, true)
  else (0, false, true)

/-- GOVERNOR_DECISION (R415): each die's balance for the coming tick; at most one stretch is requested;
an uncovered shortfall is flagged and logged and the balance floors. -/
def execGovernorDecision (s : State) : Host.Outcome State Fault Refusal :=
  let r := (upTo 0 4).map (fun t =>
    govDie (s.gov t + s.allow t) (s.plan t (s.now + 1)) (s.unitCredit t) s.burst s.elastic)
  let req := r.any (fun x => x.2.1)
  -- a unit requested by one die lengthens the tick for every die, and is credited in the decision
  let r := (upTo 0 4).map (fun t =>
    govDie (s.gov t + s.allow t + (if req then s.unitCredit t else 0)) (s.plan t (s.now + 1)) 0 s.burst false)
  let s := (upTo 0 4).foldl (fun s t => s.setGov t ((r[t]?.map (·.1)).getD 0)) s
  let s := if req then
      ({ s with tick := { s.tick with govReq := true } }).bump pPWR Off.PWR_GOV_STRETCH_CNT 1 else s
  .next (r.foldl (fun s x => if x.2.2 then
      (s.bump pPWR Off.PWR_GOV_FLAG_CNT 1).logCorr pPWR 0x01 else s) s)

/-! ### Tide energy, thermal step (R416, R419, R488) -/

/-- The tide energy check: die energies in mJ against T_t; a die more than 5 % over logs PWR_TIDE_OVER and
the cap rises one mode at the next boundary; sixty tides within 95 % lower it by one (R416). -/
def State.tideEnergy (s : State) (e : List Nat) : State :=
  let lim := fun t => 1000 * s.regN (pPWR + Off.PWR_DIE_LIMIT + 4 * t)
  let hotter := (upTo 0 4).any (fun t => decide (105 * lim t < 100 * (e[t]?).getD 0))
  let calm := (upTo 0 4).all (fun t => decide (100 * (e[t]?).getD 0 ≤ 95 * lim t))
  -- the cap decided one tide ago takes effect now
  let s := s.setPwrStat 5 4 s.pwr.ecap
  let s := (upTo 0 6).foldl (fun s i => s.setRegN (pPWR + Off.PWR_DIE_ENERGY + 8 * i) ((e[i]?).getD 0)) s
  let s := s.setRegN (pPWR + Off.PWR_TIDE_ENERGY) (e.foldl (· + ·) 0)
  if hotter then
    let s := s.logCorr pPWR 0x02
    { s with pwr := { s.pwr with ecap := min 2 (s.pwr.ecap + 1), good := 0 } }
  else if calm then
    if s.pwr.good + 1 = 60 then { s with pwr := { s.pwr with ecap := s.pwr.ecap - 1, good := 0 } }
    else { s with pwr := { s.pwr with good := s.pwr.good + 1 } }
  else { s with pwr := { s.pwr with good := 0 } }

/-- The cap and reduced allowance that a thermal step imposes (R488). -/
def State.applyStep (s : State) : State :=
  (s.setPwrStat 3 2 (min s.pwr.step 2)).setPwrStat 16 16 (if s.pwr.step = 3 then 1 else 0)

/-- The thermal evaluation of the tide just ended: the step decided one tide ago takes effect, then the
step for the next boundary is decided from the tide's highest Tj and mode (R419, R488). -/
def State.tideThermal (s : State) : State :=
  let s := s.applyStep
  let h := s.pwr.hot
  let s := if h ≥ 95 then
      ((s.setPwrStat 8 8 1).bump pPWR Off.PWR_THERM_CNT 1).logCorr pPWR 0x05 |>.send (.mgmt (.event .coolRequest))
        |>.ev (fun e => { e with therm95 := e.therm95 + 1 }) else s
  let s := if h ≤ 92 then s.setPwrStat 8 8 0 else s
  let s := if h ≥ 100 then
      let s := ((s.bump pPWR Off.PWR_THERM_CNT 1).logCorr pPWR 0x06).ev (fun e => { e with therm100 := e.therm100 + 1 })
      { s with pwr := { s.pwr with step := max s.pwr.step (min 3 (s.pmode + 1)) } }
    else s
  if h ≤ 92 then
    if s.pwr.cool + 1 = 60 then { s with pwr := { s.pwr with step := s.pwr.step - 1, cool := 0 } }
    else { s with pwr := { s.pwr with cool := s.pwr.cool + 1 } }
  else { s with pwr := { s.pwr with cool := 0 } }

/-- PWR_CAP and PWR_BURST values written in the tide take effect (R422). -/
def State.tideCaps (s : State) : State :=
  let s := match s.pwr.capPend with
    | some v => s.setRegN (pPWR + Off.PWR_CAP) v
    | none => s
  let s := match s.pwr.burstPend with
    | some v => s.setRegN (pPWR + Off.PWR_BURST) v
    | none => s
  { s with pwr := { s.pwr with capPend := none, burstPend := none } }

/-! ### Register writes (R422) -/

/-- PWR_MODE_REQ_WRITE (R422): 0 to 2 set MODE_REQ, 3 is ignored and logged. -/
def execPwrModeReqWrite (v : BitVec 2) (s : State) : Host.Outcome State Fault Refusal :=
  .next (if v.toNat = 3 then s.logCorr pPWR 0x09 else s.setField (pPWR + Off.PWR_CTRL) 1 0 v.toNat)

/-- PWR_CAP_WRITE (R422): PWR_CAP, or PWR_BURST when `burst`, for the next tide boundary; a value out of
range is ignored and logged. -/
def execPwrCapWrite (burst : Bool) (v : BitVec 16) (s : State) : Host.Outcome State Fault Refusal :=
  let n := v.toNat
  .next (if burst then
      if 1 ≤ n ∧ n ≤ 450 then { s with pwr := { s.pwr with burstPend := some n } } else s.logCorr pPWR 0x09
    else if 1000 ≤ n ∧ n ≤ 3600 then { s with pwr := { s.pwr with capPend := some n } }
    else s.logCorr pPWR 0x09)

/-- PWR_SHUTDOWN (R421, R422): an orderly shutdown is due at the next tick boundary. -/
def execPwrShutdown (s : State) : Host.Outcome State Fault Refusal :=
  .next (if s.pwr.phase = .ready then { s with pwr := { s.pwr with shutPend := true } } else s)

/-! ### Losing power (R391, R392, R408, R421, R481) -/

/-- The page belongs to the harbour controller, which VAUX feeds (R406). -/
def harbourPage (off : Nat) : Bool :=
  match pageOf off with
  | some r => [Blk.pgdir, .devid, .pwr, .age, .ras, .sec, .mgmt].contains r.blk
  | none => false

/-- The data plane at the values it has without power: no tick lock, an untrained LPDDR5X tier (R36, R216). -/
def State.unlocked (s : State) : State :=
  (upTo 0 12).foldl (fun s c => (s.setRegN (pg .lpdc c + Off.LPDC_STAT) 0).setRegN (pg .lpdc c + Off.LPDC_TIER) 0)
    (s.setRegN (pTICK + Off.TICK_STAT) 0)

/-- A cell of memory outside the device, behind a PCIe port (R312). -/
def hostCell (e : Host.Cell) : Bool := decide (0xE000000000000 ≤ e.1)

/-- The state with every unit but the harbour controller as at reset. Memory behind the ports is the host's. -/
def State.cleared (s : State) : State :=
  { State.reset with
    mem := s.mem.filter hostCell
    pending := s.pending, regs := s.regs.filter (fun e => harbourPage e.1), rdData := s.rdData, busRead := s.busRead
    ras := { RasSt.reset with log := s.ras.log, faultN := s.ras.faultN, tideCnt := s.ras.tideCnt }
    pwr := s.pwr, age := s.age, sec := s.sec, mgmt := s.mgmt, flash := s.flash, mctpIn := s.mctpIn
    out := s.out, free := s.free }

/-- Every converter goes off while the harbour controller stays up: no content of memories, caches, buffers or units
survives. -/
def State.unpower (s : State) : State := s.cleared.unlocked

/-- The fuses that a power loss leaves of the security side: an unfinished commit has blown some number of them
(R439, R442). -/
def SecSt.fuses (x : SecSt) (k : Nat) : SecSt :=
  { SecSt.reset with
    svnMin := match x.fuseTo with
      | some t => x.svnMin + (Config.freeValue k).toNat % (t - x.svnMin + 1)
      | none => x.svnMin
    edProg := x.edProg, edRev := x.edRev, mlProg := x.mlProg, mlRev := x.mlRev, edRoots := x.edRoots, mlRoots := x.mlRoots }

/-- The whole package without power, or held in reset: only fuses and the boot flash keep their contents (R391,
R408). -/
def State.dark (s : State) (ph : PowerPhase) : State :=
  ({ State.reset with
    mem := s.mem.filter hostCell
    pending := s.pending, rdData := s.rdData, busRead := s.busRead
    pwr := { PwrSt.reset with phase := ph, straps := s.pwr.straps }
    age := { AgeSt.reset with trim := s.age.trim, effFused := s.age.effFused }
    sec := s.sec.fuses s.free, flash := s.flash, out := s.out, free := s.free + 1 }.unlocked).setPwrStat 14 11 0

/-- OFF_READY (R421): the power-down completes; OFF_READY is set and a PLDM event raised. -/
def execOffReady (s : State) : Host.Outcome State Fault Refusal :=
  .next (if s.pwr.phase = .closing ∧ s.age.hullReq = [] ∧ s.age.hullBusy = none then
      ({ s with pwr := { s.pwr with phase := .down } }.unpower.setPwrStat 9 9 1).send (.mgmt (.event .offReady))
    else s)

/-! ### Supply events (R408, R418) -/

/-- The harbour controller runs: it is neither held in reset nor without VBUS (R408). A thermal trip leaves it up. -/
def State.awake (s : State) : Bool := s.pwr.phase != .held && (s.pwr.phase != .off || s.pwr.thermtrip)

/-- The supply reads low: the voltage is shown, and logged once per tide (R408). -/
def State.vbusLow (s : State) (mv : Nat) : State :=
  let s := (s.setField (pPWR + Off.PWR_VBUS) 15 0 mv).setPwrStat 10 10 0
  if s.pwr.lowLogged then s
  else ({ s with pwr := { s.pwr with lowLogged := true } }).logCorr pPWR 0x03

/-- VBUS_LOW (R408): VBUS below 10.8 V for 10 µs; the reading is in mV. -/
def execVbusLow (mv : BitVec 16) (s : State) : Host.Outcome State Fault Refusal :=
  .next (if s.awake && decide (mv.toNat < 10800) then s.vbusLow mv.toNat else s)

/-- PWR_OVERCURRENT (R418): VBUS current above 345 A for 50 µs is device-fatal; the reading is in 0.1 A. -/
def execPwrOvercurrent (da : BitVec 16) (s : State) : Host.Outcome State Fault Refusal :=
  .next (if s.awake && decide (3450 < da.toNat) then
      (s.setField (pPWR + Off.PWR_VBUS) 31 16 da.toNat).logErr pPWR 0x04 clsFatal LogInfo.none
    else s)

end Sys2Proof.Machine
end

