-- ==== Sys2Proof/Machine/Sundlink.lean ====
section
/-!
DEFINITION. Machine/Sundlink.lean: the link layer of a Sundlink port: flits, virtual channels, credits,
acknowledgement and replay, late notices, training, retraining, quarantine and departure, and the
Ethernet mode (R342–R368).
-/
namespace Sys2Proof.Machine

/-- The SLNK page of port `p`. -/
def pSLNK (p : Nat) : Nat := pg .slnk p

/-- What port `p` holds. -/
def State.port (s : State) (p : Nat) : PortSt := smGet (fun _ => PortSt.reset) s.ports p

/-- The state with port `p` replaced. -/
def State.setPort (s : State) (p : Nat) (x : PortSt) : State :=
  { s with ports := smSet (fun _ => PortSt.reset) s.ports p x }

/-- SLNK_STAT.STATE: 0 DOWN, 1 TRAINING, 2 UP, 3 RETRAIN, 4 QUARANTINED, 5 FAILED. -/
def State.pstate (s : State) (p : Nat) : Nat := s.field (pSLNK p + Off.SLNK_STAT) 2 0
def State.setPstate (s : State) (p v : Nat) : State := s.setField (pSLNK p + Off.SLNK_STAT) 2 0 v

/-- The port is UP. -/
def State.pup (s : State) (p : Nat) : Bool := s.pstate p == 2

/-- Up in Ethernet mode. -/
def State.peth (s : State) (p : Nat) : Bool := bit (s.regN (pSLNK p + Off.SLNK_STAT)) 5

/-- A trained Sundlink port in the sense of R41, R42 and R60: UP and not Ethernet (R362). -/
def State.trained (s : State) (p : Nat) : Bool := s.pup p && !s.peth p

/-- Every trained port. -/
def State.trainedPorts (s : State) : List Nat := (upTo 0 18).filter s.trained

/-- The device's node ID. -/
def State.node (s : State) : Nat := s.field (pSLNK 0 + Off.SLNK_NODE) 14 0

/-! ### The flit (R343–R346) -/

def flitHdr (b : Bytes) : Nat := leNat (b.take 8)
def flitType (b : Bytes) : Nat := bits (flitHdr b) 5 0
def flitVC (b : Bytes) : Nat := bits (flitHdr b) 8 6
def flitSeq (b : Bytes) : Nat := bits (flitHdr b) 20 9
def flitCrVC (b : Bytes) : Nat := bits (flitHdr b) 23 21
def flitCrN (b : Bytes) : Nat := bits (flitHdr b) 36 24
def flitLate (b : Bytes) : Bool := bit (flitHdr b) 37
def flitStamp (b : Bytes) : Nat := bits (flitHdr b) 53 38
def flitRsvd (b : Bytes) : Nat := bits (flitHdr b) 63 54
def flitPayload (b : Bytes) : Bytes := (b.drop 8).take 240

/-- The CRC of a flit is good (R345). -/
def flitOk (b : Bytes) : Bool := crc64 (b.take 248) == leNat (b.drop 248)

/-- A flit's 256 bytes from its fields (R343–R345). -/
def mkFlit (typ vc seq crVC crN : Nat) (late : Bool) (stamp : Nat) (payload : Bytes) : Bytes :=
  let h := typ % 64 + vc % 8 * 2 ^ 6 + seq % 4096 * 2 ^ 9 + crVC % 8 * 2 ^ 21 + crN % 8192 * 2 ^ 24 +
    b2n late * 2 ^ 37 + stamp % 65536 * 2 ^ 38
  let body := natLE 8 h ++ (payload ++ rep 240 (0 : Byte)).take 240
  body ++ natLE 8 (crc64 body)

/-- Types that are sequenced, with their VC (R346). -/
def seqVC (typ : Nat) : Option Nat :=
  if typ = 0x08 ∨ typ = 0x09 ∨ typ = 0x0A ∨ typ = 0x0B then some 4
  else if typ = 0x10 then some 0 else if typ = 0x18 then some 1
  else if typ = 0x20 ∨ typ = 0x21 then some 2 else if typ = 0x28 then some 3
  else if typ = 0x30 then some 5 else none

/-- Codes 0x00 to 0x04 are link flits; every other code, reserved ones included, is sequenced (R346). -/
def isLink (typ : Nat) : Bool := decide (typ ≤ 4)

/-- What stepping A1 advertises per VC (R348). -/
def ownCredits : List Nat := [128, 128, 32, 128, 16, 16]

/-! ### Violations and quarantine (R364, R365) -/

/-- A violation that counts toward quarantine is counted and shown (R364). -/
def State.violCount (s : State) (p code vc : Nat) : State :=
  let q := pSLNK p
  let s := s.setRegN (q + Off.SLNK_VIOL_TIDE) (s.regN (q + Off.SLNK_VIOL_TIDE) + 1)
  let s := s.bump q Off.SLNK_VIOL_TOTAL 1
  s.setRegN (q + Off.SLNK_LAST_VIOL) (code + vc % 8 * 256)

/-- A correctable violation: counted, shown and logged (R364). -/
def State.viol (s : State) (p code vc : Nat) : State := (s.violCount p code vc).logCorr (pSLNK p) code

/-- A non-zero reserved field: ignored, logged and counted once per tide and port (R364). -/
def State.rsvd (s : State) (p vc : Nat) : State :=
  if (s.port p).rsvdLogged then s
  else (s.setPort p { s.port p with rsvdLogged := true }).viol p 0x04 vc

/-- A flit joins the port's transmit queue. -/
def State.queueFlit (s : State) (p : Nat) (f : TxFlit) : State :=
  s.setPort p { s.port p with txq := (s.port p).txq ++ [f] }

/-! ### Collective operations and their ports (R369, R375, R379) -/

/-- The COLL page of a T-die. -/
def pCOLL (d : Nat) : Nat := pg .coll d

/-- COLL_TREE[g], its parent port (31 at the root), child ports, and the T-die whose COLL computes (R369). -/
def State.tree (s : State) (g : Nat) : Nat := s.regN (pCOLL 0 + Off.COLL_TREE + 8 * g)
def State.treeParent (s : State) (g : Nat) : Nat := bits (s.tree g) 4 0
def State.treeKids (s : State) (g : Nat) : List Nat := (upTo 0 18).filter (fun p => bit (s.tree g) (8 + p))
def State.treeMaster (s : State) (g : Nat) : Nat := bits (s.tree g) 27 26

/-- Operation, tree and stream of a collective in course. -/
def CollRun.op (r : CollRun) : Nat := (r.slot.getD 0 0).toNat
def CollRun.tree (r : CollRun) : Nat := (r.slot.getD 3 0).toNat % 8
def CollRun.stream (r : CollRun) : Nat := leNat ((r.slot.drop 12).take 2)

/-- A CDATA payload (R372). -/
def mkCdata (stream len flags off count sumsq : Nat) (data : Bytes) : Bytes :=
  natLE 2 stream ++ natLE 1 len ++ natLE 1 flags ++ natLE 4 off ++ natLE 4 count ++ natLE 4 sumsq ++ data

/-- Send a CDATA payload on a port, for an operation of core and record when it owns the flit. -/
def State.sendCdata (s : State) (p : Nat) (b : Bytes) (owner : Option (Nat × Nat)) : State :=
  s.queueFlit p { typ := 0x18, vc := 1, payload := b, owner := owner }

/-- Core `c`'s link operation of record `r`, not over yet. -/
def State.linkOpOf (s : State) (c r : Nat) : Option SlotOp := (s.fq c 3).find? (fun o => o.link && o.recIx == r && !o.done)

/-- A collective operation fails with COLL_ABORT: its children are told, and a REDUCE that has sent its
contribution splits the step (R375, R376, R379). -/
def State.collAbort (s : State) (r : CollRun) : State :=
  let p := pCOLL (s.treeMaster r.tree)
  let s := { s with colls := s.colls.filter (· ≠ r) }
  let s := (s.setRegN (p + Off.COLL_LAST_ERR) (0x06 + r.item % 2 ^ 24 * 256)).itemErr p 0x06 r.cmd r.item Status.PEER_LINK_LOST
  let s := (s.treeKids r.tree).foldl (fun (s : State) q => s.sendCdata q (mkCdata r.stream 0 0x16 0 0 0 []) none) s
  let s := if r.op = 0x10 ∧ r.sent then (s.setField (pCOLL 0 + Off.COLL_STAT) 2 2 1).logCorr p 0x07 else s
  match s.linkOpOf r.core r.recIx with
  | some o => s.opAbort r.core 3 o
  | none => s

/-- A port of trees goes down: what its child owes is void at once; a lost parent, or any lost port of a
BARRIER, fails the operation (R375, R379). -/
def State.collPortLost (s : State) (p : Nat) : State :=
  s.colls.foldl (fun (s : State) r =>
    if s.treeParent r.tree = p ∨ (r.op = 0x12 ∧ r.kids.any (·.port == p)) then s.collAbort r
    else { s with colls := s.colls.map (fun x =>
      if x = r then { r with kids := r.kids.map (fun k => if k.port = p ∧ !k.last then { k with closed := true } else k) } else x) }) s

/-! ### Leaving UP (R365–R367) -/

/-- A SEND or RECV on port `p`. -/
def SlotOp.onPort (o : SlotOp) (p : Nat) : Bool :=
  o.link && decide ((o.slot.getD 0 0).toNat ≤ 2) && (o.slot.getD 3 0).toNat == p

/-- A routed message of this node with a flit unacknowledged on a port, or waiting there (R367). -/
def PortSt.carries (x : PortSt) (own : Nat) (m : PeerMsg) : Bool :=
  let mine := fun (typ : Nat) (b : Bytes) => typ == (if m.write then 0x28 else 0x20) && fld b 0 4 == m.node && fld b 4 4 == own &&
    fld b 16 2 == m.msg && decide (m.remote ≤ fld b 8 8 ∧ fld b 8 8 ≤ m.remote + m.len)
  x.replay.any (fun f => mine (flitType f.bytes) (flitPayload f.bytes)) || x.txq.any (fun f => mine f.typ f.payload)

/-- Every item with a SEND or RECV on port `p` uncompleted, or a routed message unacknowledged on it, fails; the operations
that had started end at once, a peer operation with FERRY_PEER_LOST (R230, R232, R365, R367). -/
def State.failPortItems (s : State) (p st : Nat) : State :=
  let s := s.foldCores (fun s c x => ((x.ferries.getD 3 []).filter (·.onPort p)).foldl (fun (s : State) o =>
    let s := s.failItem o.cmd o.item st
    if o.begun && !o.done then s.opFail c 3 o else s) s)
  let lost := s.msgs.filter ((s.port p).carries s.node)
  let s := { s with msgs := s.msgs.filter (fun m => !lost.contains m) }
  lost.foldl (fun (s : State) m =>
    match m.use with
    | .ferry c r k => match s.peerOp c r k with
      | some o => s.ferryErr c 3 o 0x07 st m.remote
      | none => s.failItem m.cmd m.item st
    | .copy => (s.failItem m.cmd m.item st).endItem m.cmd m.item st
    | .restore _ => s.failItem m.cmd m.item st) s

/-- A SEND, or a BCAST at its root, is done once no flit of it waits or is unacknowledged on any port; it is found by the
owners of the flits that have just left (R353, R378). -/
def State.sendsAcked (s : State) (gone : List (Option (Nat × Nat))) : State :=
  gone.foldl (fun s o => match o with
    | none => s
    | some (c, r) =>
      if s.ports.any (fun e => e.2.replay.any (·.owner == some (c, r)) || e.2.txq.any (·.owner == some (c, r))) then s
      else
        let x := s.core c
        s.setCore c { x with ferries := x.ferries.set 3 ((x.ferries.getD 3 []).map (fun o =>
          if o.link && o.recIx == r && o.issued && (o.slot.getD 0 0 == 0x01 || o.slot.getD 0 0 == 0x11)
          then { o with done := true } else o)) }) s

/-- The port is in state `v`, without a link: no rate, no lanes locked, no Ethernet, no protocol level (R368). -/
def State.portIdle (s : State) (p v : Nat) : State :=
  let a := pSLNK p + Off.SLNK_STAT
  s.setRegN a (bits (s.regN a) 14 14 * 0x4000 + 0x18 + v)

/-- The port leaves UP or RETRAIN for state `v`: one link-fatal error with the state entered as INFO, and
the items with traffic on it fail; what waited on it is lost (R367). -/
def State.portLeave (s : State) (p v code st : Nat) : State :=
  let was := s.pstate p
  let s := s.portIdle p v
  if was = 2 ∨ was = 3 then
    let s := s.logErr (pSLNK p) code clsLink { LogInfo.none with info := v }
    let s := if v = 4 ∨ v = 5 then s.ev (fun e => { e with portFail := e.portFail + 1 }) else s
    let s := (s.failPortItems p st).collPortLost p
    let x := s.port p
    (({ s with collRest := s.collRest.filter (·.1 ≠ p) } : State).setPort p { x with txq := [], replay := [], resend := 0 }).sendsAcked
      (x.replay.map (·.owner) ++ x.txq.map (·.owner))
  else s

/-- PORT_QUARANTINE (R365): more violations in a tide than VIOL_LIMIT take the port down as QUARANTINED. -/
def execPortQuarantine (p : PortIx) (s : State) : Host.Outcome State Fault Refusal :=
  let q := pSLNK p
  .next (if s.field (q + Off.SLNK_CTRL) 15 8 < s.regN (q + Off.SLNK_VIOL_TIDE) ∧ (s.pstate p = 2 ∨ s.pstate p = 3) then
      s.portLeave p 4 0x10 Status.PEER_PROTOCOL
    else s)

/-- PORT_DOWN (R366, R367): the port leaves UP or RETRAIN. A retrain that cannot lock all four lanes ends
FAILED with SL_LANE_LOST; every other departure ends DOWN with SL_LINK_DOWN. A port still training goes
DOWN without an error. -/
def execPortDown (p : PortIx) (lanesLost : Bool) (s : State) : Host.Outcome State Fault Refusal :=
  .next (if s.pstate p = 3 ∧ lanesLost then s.portLeave p 5 0x11 Status.PEER_LINK_LOST
    else if s.pstate p = 2 ∨ s.pstate p = 3 then s.portLeave p 0 0x13 Status.PEER_LINK_LOST
    else if s.pstate p = 1 then s.portIdle p 0 else s)

/-! ### Sending (R347–R350) -/

/-- The port holds a credit for a VC. -/
def PortSt.hasCredit (x : PortSt) (vc : Nat) : Bool := decide (0 < x.credits.getD vc 0)

/-- A VC holds a flit that could be granted. -/
def PortSt.ready (x : PortSt) (vc : Nat) : Bool := x.hasCredit vc && x.txq.any (·.vc == vc)

/-- The VC the port grants next (R347). VC5 or VC3 is served after 15 grants of other VCs. -/
def PortSt.pick (x : PortSt) : Option Nat :=
  let first := if x.rr = 0 then 1 else 0
  let order := if 15 ≤ x.starve then [5, 3, 4, 2, first, 1 - first] else [4, 2, first, 1 - first, 5, 3]
  order.find? x.ready

/-- The first queued flit of a VC, and the queue without it. -/
def takeVC (vc : Nat) : List TxFlit → Option (TxFlit × List TxFlit)
  | [] => none
  | f :: fs => if f.vc = vc then some (f, fs) else (takeVC vc fs).map (fun r => (r.1, f :: r.2))

/-- The VC whose freed credits the next flit returns, and how many. -/
def PortSt.owedNext (x : PortSt) : Nat × Nat :=
  match (upTo 0 6).find? (fun v => decide (0 < x.owed.getD v 0)) with
  | some v => (v, min (x.owed.getD v 0) 8191)
  | none => (0, 0)

/-- A link flit leaves at once; an IDLE or ACK flit carries freed credits (R348). -/
def State.sendLink (s : State) (p typ seq : Nat) (payload : Bytes) : State :=
  let x := s.port p
  let c := if typ ≤ 1 then x.owedNext else (0, 0)
  (s.setPort p { x with owed := x.owed.set c.1 (x.owed.getD c.1 0 - c.2) }).send (.flit p (mkFlit typ 0 seq c.1 c.2 false 0 payload))

/-- Send a sequenced flit for the first time: header, replay buffer, counters (R344, R349, R350). A pending
late notice rides on it; otherwise STAMP is TICK_NOW. -/
def State.grant (s : State) (p typ vc : Nat) (payload : Bytes) (owner : Option (Nat × Nat)) : State :=
  let x := s.port p
  let (late, stamp, rest) := match x.late with
    | n :: l => (true, n, l)
    | [] => (false, s.now, [])
  let (cv, cn) := x.owedNext
  let b := mkFlit typ vc x.txSeq cv cn late stamp payload
  let x := { x with
    late := rest, txSeq := (x.txSeq + 1) % 4096, replay := x.replay ++ [{ seq := x.txSeq, bytes := b, owner := owner }],
    owed := x.owed.set cv (x.owed.getD cv 0 - cn) }
  ((s.setPort p x).send (.flit p b)).bump64 (pSLNK p) Off.SLNK_TX_FLITS 1

/-- The next flit of a Sundlink port: first the replay in course, then the next flit by VC priority, or a
NULL flit for a pending late notice; nothing new while the replay buffer is full (R347, R349, R350). -/
def State.grantNext (s : State) (p : Nat) : State :=
  let x := s.port p
  if 0 < x.resend then
      match x.replay[x.replay.length - x.resend]? with
      | some f => (s.setPort p { x with resend := x.resend - 1 }).send (.flit p f.bytes)
      | none => s.setPort p { x with resend := 0 }
    else if 512 ≤ x.replay.length then s
    else match x.pick with
      | some vc => match takeVC vc x.txq with
        | some (f, rest) =>
          let x := { x with
            txq := rest, credits := x.credits.set vc (x.credits.getD vc 0 - 1),
            starve := if vc = 5 ∨ vc = 3 then 0
              else if rest.any (fun g => g.vc == 5 || g.vc == 3) then x.starve + 1 else 0,
            rr := if vc ≤ 1 then vc else x.rr }
          (s.setPort p x).grant p f.typ vc f.payload f.owner
        | none => s
      | none => if x.late.isEmpty then s else s.grant p 0x08 4 [] none

/-! ### Receiving (R349, R350, R364) -/

/-- How far sequence `a` lies beyond `b`, modulo 4,096. -/
def seqDist (a b : Nat) : Nat := (a + 4096 - b % 4096) % 4096

/-- The tick nearest to `now` whose low 16 bits are `st`; the lower of two equally near (R60, R350). -/
def fullTick (now st : Nat) : Nat :=
  let up := (st + 65536 - now % 65536) % 65536   -- distance upward
  let dn := 65536 - up                           -- distance downward
  if up = 0 then now else if up < dn then now + up else if dn ≤ now then now - dn else now + up

/-- Late notice for tick `n` received on a link: beyond the horizon, counted and logged; in STRICT only
counted; in ELASTIC applied to tick n + H, forwarded and counted unless already applied (R60, R61). -/
def State.lateRx (s : State) (p n : Nat) : State :=
  if s.elastic then
    if n + s.horizon ≤ s.now then
      ((s.bump pTICK Off.TICK_HORIZON_MISS 1).logCorr pTICK 0x09).logCorr (pSLNK p) 0x07
    else if s.tick.applied.contains n || s.tick.notices.contains n then s
    else
      let s := { s with tick := { s.tick with notices := s.tick.notices ++ [n], applied := n :: s.tick.applied } }
      let s := s.bump64 pTICK Off.TICK_LATE_CNT 1
      let s := s.setField (pTICK + Off.TICK_STAT) 3 3 1
      s.trainedPorts.foldl (fun s q => s.setPort q { s.port q with late := (s.port q).late ++ [n] }) s
  else s.bump pTICK Off.TICK_EVENT_CNT 1

/-- Credits a flit's CREDIT field returns; more than the advertised total is a violation and clamped
(R348, R364). -/
def State.takeCredits (s : State) (p : Nat) (b : Bytes) : State :=
  let x := s.port p
  let v := flitCrVC b
  let n := flitCrN b
  if n = 0 then s
  else if 6 ≤ v then s.viol p 0x02 v
  else
    let t := x.credits.getD v 0 + n
    let s := s.setPort p { x with credits := x.credits.set v (min t (x.advert.getD v 0)) }
    if x.advert.getD v 0 < t then s.viol p 0x02 v else s

/-- Free buffers of a VC at the receiver (R348): advertised, less flits held, less credits not returned. -/
def PortSt.rxFree (x : PortSt) (v : Nat) : Nat :=
  ownCredits.getD v 0 - (x.rxq.filter (fun f => f.vc == v && f.typ != 0x08)).length - x.owed.getD v 0

/-- The expected flit is accepted: sequence advances, an ACK goes out every 64, reserved bits are checked. -/
def State.acceptSeq (s : State) (p : Nat) (b : Bytes) : State :=
  let x := s.port p
  let x := { x with rxSeq := (x.rxSeq + 1) % 4096, unacked := x.unacked + 1 }
  let s := (s.setPort p x).bump64 (pSLNK p) Off.SLNK_RX_FLITS 1
  let s := s.takeCredits p b
  let s := if flitRsvd b ≠ 0 then s.rsvd p (flitVC b) else s
  if 64 ≤ (s.port p).unacked then
    (s.setPort p { s.port p with unacked := 0 }).sendLink p 0x01 ((s.port p).rxSeq + 4095) []
  else s

/-- The stamp of a scheduled flit lies outside [TICK_NOW − H, TICK_NOW + 1] (R364). -/
def State.stampOut (s : State) (t : Nat) : Bool := decide (t + s.horizon < s.now ∨ s.now + 1 < t)

/-- A receive buffer of a VC is freed, so that its credit is owed to the sender (R348). -/
def State.freed (s : State) (p vc : Nat) : State :=
  let x := s.port p
  if vc < 6 then s.setPort p { x with owed := x.owed.set vc (x.owed.getD vc 0 + 1) } else s

/-- FLIT_ACCEPT (R349, R60, R364): the expected sequenced flit with a good CRC is accepted, its late notice
taken, and it is delivered to its consumer's queue; an unknown type or a wrong VC is accepted, discarded
and counted, its buffer freed; a flit without credit is dropped with CREDIT_SYNC and NAK. NULL flits have their own row. A port
in Ethernet mode takes no flit of this kind, here and below (R362). -/
def execFlitAccept (p : PortIx) (b : Bytes) (s : State) : Host.Outcome State Fault Refusal :=
  let b := fit 256 0 b
  let x := s.port p
  let typ := flitType b
  let vc := flitVC b
  .next (if !s.trained p || !flitOk b || isLink typ || typ == 0x08 || flitSeq b != x.rxSeq then s
      else if decide (vc < 6) && x.rxFree vc == 0 then
        let s := s.viol p 0x02 vc
        let s := s.sendLink p 0x03 0 ((upTo 0 6).flatMap (fun v => natLE 2 (x.rxFree v)))
        s.sendLink p 0x02 x.rxSeq []
      else
        let s := s.acceptSeq p b
        let s := if flitLate b then s.lateRx p (fullTick s.now (flitStamp b)) else s
        if seqVC typ = some vc then
          let st := if flitLate b then s.now else fullTick s.now (flitStamp b)
          let s := if (typ = 0x10 ∨ typ = 0x18) && s.stampOut st then s.logCorr (pSLNK p) 0x07 else s
          s.setPort p { s.port p with
            rxq := (s.port p).rxq ++ [{ typ := typ, vc := vc, payload := flitPayload b, stamp := st, tick := s.now }] }
        else (s.freed p vc).viol p 0x03 vc)

/-- NULL_FLIT_RX (R350): an expected NULL flit is accepted and delivers only its late notice. -/
def execNullFlitRx (p : PortIx) (b : Bytes) (s : State) : Host.Outcome State Fault Refusal :=
  let b := fit 256 0 b
  .next (if !s.trained p || !flitOk b || flitType b != 0x08 || flitSeq b != (s.port p).rxSeq then s
    else
      let s := s.acceptSeq p b
      if flitVC b ≠ 4 then s.viol p 0x03 (flitVC b)
      else if flitLate b then s.lateRx p (fullTick s.now (flitStamp b)) else s)

/-- FLIT_CRC_ERROR (R349, R364): a bad CRC or an uncorrectable codeword, and a sequence gap, are discarded
with a NAK; an earlier sequence within 512 is discarded without any record. -/
def execFlitCrcError (p : PortIx) (b : Bytes) (uncorrectable : Bool) (s : State) : Host.Outcome State Fault Refusal :=
  let b := fit 256 0 b
  let x := s.port p
  .next (if !s.trained p then s
      else if uncorrectable || !flitOk b then
        (s.bump (pSLNK p) Off.SLNK_CRC_CNT 1).sendLink p 0x02 x.rxSeq []
      else if isLink (flitType b) then s
      else if flitSeq b = x.rxSeq then s
      else if seqDist x.rxSeq (flitSeq b) ≤ 512 then s
      else (s.bump (pSLNK p) Off.SLNK_REPLAY_CNT 1).sendLink p 0x02 x.rxSeq [])

/-- The header of a link flit: a late notice on it is ignored and counted, reserved bits are checked (R350,
R364). -/
def State.linkHdr (s : State) (p : Nat) (b : Bytes) : State :=
  let s := if flitLate b then s.viol p 0x05 0 else s
  if flitRsvd b ≠ 0 then s.rsvd p 0 else s

/-- A link flit of type `typ` that has come to a port that is UP, with a good CRC: one on a VC other than 0 is discarded and
counted, another acts as `f` says once its header is checked (R346, R364, R366). -/
def State.linkFlit (s : State) (p typ : Nat) (b : Bytes) (f : State → State) : State :=
  if !s.trained p || !flitOk b || flitType b != typ then s
  else if flitVC b ≠ 0 then s.viol p 0x03 (flitVC b)
  else f (s.linkHdr p b)

/-- Flits up to and including sequence `q` are freed; an advance clears the count of replays. -/
def PortSt.ackUpTo (x : PortSt) (q : Nat) : PortSt :=
  match x.replay with
  | [] => x
  | f :: _ =>
    let n := seqDist q f.seq + 1
    let left := x.replay.drop n
    { x with replay := left, stuck := 0, resend := min x.resend left.length }

/-- A sequence number is outstanding in the replay buffer. -/
def PortSt.outstanding (x : PortSt) (q : Nat) : Bool := x.replay.any (·.seq == q)

/-- ACK_RX (R349, R364): an ACK frees the flits it covers; one naming a sequence not outstanding is ignored
and counted. An ACK of the flit before the oldest outstanding acknowledges nothing new. -/
def execAckRx (p : PortIx) (b : Bytes) (s : State) : Host.Outcome State Fault Refusal :=
  let b := fit 256 0 b
  .next (s.linkFlit p 0x01 b (fun s =>
      let s := s.takeCredits p b
      let x := s.port p
      let q := flitSeq b
      if x.outstanding q then
        let y := x.ackUpTo q
        let s := s.setPort p y
        s.sendsAcked ((x.replay.take (x.replay.length - y.replay.length)).map (·.owner))
      else if (q + 1) % 4096 = ((x.replay.head?.map (·.seq)).getD x.txSeq) then s
      else s.viol p 0x01 0))

/-- Replay from the oldest unacknowledged flit (R349). -/
def State.startReplay (s : State) (p : Nat) : State :=
  let x := s.port p
  if x.replay.isEmpty then s
  else (s.setPort p { x with resend := x.replay.length, stuck := x.stuck + 1 }).bump (pSLNK p) Off.SLNK_REPLAY_CNT 1

/-- Credits under the counts of a CREDIT_SYNC: those less the flits sent and not accepted (R364). -/
def PortSt.syncCredits (x : PortSt) : PortSt :=
  match x.sync with
  | none => x
  | some l =>
    let sent := fun v => (x.replay.filter (fun f => flitVC f.bytes == v && flitType f.bytes != 0x08)).length
    { x with sync := none, credits := (upTo 0 6).map (fun v => min (l.getD v 0) (x.advert.getD v 0) - sent v) }

/-- NAK_RX (R349, R364): everything before the expected sequence is acknowledged, and the sender replays from
the oldest flit left. A NAK whose expected flit has meanwhile been acknowledged asks for nothing. -/
def execNakRx (p : PortIx) (b : Bytes) (s : State) : Host.Outcome State Fault Refusal :=
  let b := fit 256 0 b
  .next (s.linkFlit p 0x02 b (fun s =>
      let s := s.takeCredits p b
      let x := s.port p
      let q := flitSeq b
      if x.outstanding q then
        let y := if x.outstanding ((q + 4095) % 4096) then x.ackUpTo ((q + 4095) % 4096) else x
        let y := y.syncCredits
        let s := (s.setPort p y).sendsAcked ((x.replay.take (x.replay.length - y.replay.length)).map (·.owner))
        s.startReplay p
      else if q = x.txSeq then
        if x.outstanding ((q + 4095) % 4096) then
          let y := x.ackUpTo ((q + 4095) % 4096)
          (s.setPort p y).sendsAcked (x.replay.map (·.owner))
        else s
      else s.viol p 0x01 0))

/-- ACK_TIMER (R348, R349): accepted flits have stood unacknowledged for 100 ns and an ACK goes out; freed credits that no
flit has carried go out with it, or in an IDLE flit. -/
def execAckTimer (p : PortIx) (s : State) : Host.Outcome State Fault Refusal :=
  let x := s.port p
  .next (if !s.trained p then s
    else if 0 < x.unacked then (s.setPort p { x with unacked := 0 }).sendLink p 0x01 (x.rxSeq + 4095) []
    else if x.owed.any (fun n => decide (0 < n)) then s.sendLink p 0x00 0 []
    else s)

/-- REPLAY_TIMEOUT (R349): 2 µs without an advancing ACK replay from the oldest unacknowledged flit. -/
def execReplayTimeout (p : PortIx) (s : State) : Host.Outcome State Fault Refusal :=
  .next (if s.trained p then s.startReplay p else s)

/-- CREDIT_SYNC_RX (R364): the counts received, which the NAK that follows turns into the sender's credits. -/
def execCreditSyncRx (p : PortIx) (b : Bytes) (s : State) : Host.Outcome State Fault Refusal :=
  let b := fit 256 0 b
  .next (s.linkFlit p 0x03 b (fun s =>
      s.setPort p { s.port p with sync := some ((upTo 0 6).map (fun v => fld b (8 + 2 * v) 2)) }))

/-- CREDIT_RETURN (R348): an IDLE flit returns credits of a VC. -/
def execCreditReturn (p : PortIx) (b : Bytes) (s : State) : Host.Outcome State Fault Refusal :=
  let b := fit 256 0 b
  .next (s.linkFlit p 0x00 b (fun s => s.takeCredits p b))

/-- The first received flit of a type that waits on a port for its consumer. -/
def State.firstRx (s : State) (p typ : Nat) : Option RxFlit := (s.port p).rxq.find? (·.typ == typ)

/-- A received flit is taken by its consumer, and its buffer freed (R348). -/
def State.dropRx (s : State) (p : Nat) (f : RxFlit) : State :=
  (s.setPort p { s.port p with rxq := (s.port p).rxq.erase f }).freed p f.vc

/-- A consumer takes the first received flit of a type on a port. -/
def State.takeRx (s : State) (p typ : Nat) : Option (RxFlit × State) := (s.firstRx p typ).map (fun f => (f, s.dropRx p f))

/-! ### Training (R358–R360, R366) -/

/-- The capability record of this device for port `p` (R359). -/
def State.capRecord (s : State) (p : Nat) : Bytes :=
  natLE 1 1 ++ natLE 1 1 ++ natLE 1 1 ++ natLE 1 1 ++ natLE 4 s.node ++ natLE 1 p ++ natLE 1 7 ++ natLE 1 1 ++
    natLE 1 0 ++ natLE 8 (s.regN (pg .devid 0 + Off.DEVID_EPOCHS)) ++
    natLE 2 (s.regN (pSLNK 0 + Off.SLNK_PIN)) ++ natLE 2 0 ++ ownCredits.flatMap (natLE 2)

/-- The port may train: ENABLE set and a node ID written (R358). -/
def State.mayTrain (s : State) (p : Nat) : Bool :=
  bit (s.regN (pSLNK p + Off.SLNK_CTRL)) 0 && s.node != 0x7FFF && !s.left

/-- Training begins at the highest rate MAX_RATE allows (R358). -/
def State.beginTrain (s : State) (p : Nat) : State :=
  let q := pSLNK p
  let s := s.setRegN (q + Off.SLNK_STAT)
    (bits (s.regN (q + Off.SLNK_STAT)) 14 14 * 0x4000 + 1 + s.field (q + Off.SLNK_CTRL) 3 2 * 8)
  let x := s.port p
  s.setPort p { PortSt.reset with
    txq := x.txq, fseqTx := x.fseqTx, fseqRx := x.fseqRx, frames := x.frames, rsvdLogged := x.rsvdLogged
    eth := bit (s.regN (q + Off.SLNK_CTRL)) 1 }

/-- PORT_TRAIN (R358): a port starts training when ENABLE is set or in stage S7. -/
def execPortTrain (p : PortIx) (s : State) : Host.Outcome State Fault Refusal :=
  .next (if s.powered 7 && s.mayTrain p && (s.pstate p == 0 || s.pstate p == 5) then s.beginTrain p else s)

/-- TRAIN_RATE_STEP (R358): lanes not locked within 10 ms step to the next lower rate; at 56 Gb/s the port
is FAILED. -/
def execTrainRateStep (p : PortIx) (s : State) : Host.Outcome State Fault Refusal :=
  let q := pSLNK p
  let r := s.field (q + Off.SLNK_STAT) 4 3
  .next (if s.pstate p = 1 ∧ s.field (q + Off.SLNK_STAT) 9 6 ≠ 15 then
      if r < 2 then s.setField (q + Off.SLNK_STAT) 4 3 (r + 1)
      else s.portIdle p 5
    else s)

/-- Reference cycles from a grid mark to the next data-plane boundary (R41). -/
def State.phase (s : State) : Nat := (s.tick.lag % 100).toNat

/-- The data-plane tick in effect at grid mark `g` (R41). -/
def State.tickAt (s : State) (g : Nat) : Nat := ((100 * (g : Int) - s.tick.lag) / 100).toNat

/-- The JOIN payload of R351, and none with more than 24 pending notices. -/
def State.joinPayload (s : State) : Option Bytes :=
  let ns := s.tick.notices
  if 24 < ns.length then none
  else
    let grid := s.regN (pTICK + Off.TICK_GRID)
    let mark := (grid / 1000000 + 1) * 1000000
    some (natLE 1 1 ++ natLE 1 ns.length ++ natLE 1 (s.field (pTICK + Off.TICK_STAT) 4 4) ++ natLE 1 0 ++
      natLE 4 s.phase ++ natLE 8 mark ++ natLE 8 (s.tickAt mark) ++
      (ns.mergeSort (fun a b => decide (a ≤ b))).flatMap (natLE 8))

/-- A locked device sends its JOIN record on a port (R43); one held back for its notices is owed in the next tide (R351). -/
def State.sendJoin (s : State) (p : Nat) : State :=
  if bit (s.regN (pTICK + Off.TICK_STAT)) 0 then
    match s.joinPayload with
    | some b => s.queueFlit p { typ := 0x09, vc := 4, payload := b, owner := none }
    | none => { s with tick := { s.tick with joinOwed := s.tick.joinOwed.filter (· ≠ p) ++ [p] } }
  else s

/-- The port comes UP: sequences from 0, credits from the partner's record, and the JOIN record goes out
(R358 step 4). -/
def State.portUp (s : State) (p : Nat) (adv : List Nat) : State :=
  let s := (s.setPstate p 2).setField (pSLNK p + Off.SLNK_STAT) 13 10 1
  let s := s.setPort p { s.port p with
    credits := adv, advert := adv, txSeq := 0, rxSeq := 0, replay := [], resend := 0, stuck := 0, rxq := [],
    unacked := 0, owed := [0, 0, 0, 0, 0, 0], sync := none, partner := none, acked := false, sentTrain := false }
  s.sendJoin p

/-- LANES_LOCKED (R358, R366): all four lanes lock: a training Sundlink port moves to the exchange, a training
Ethernet port comes up under its clause, a retraining port is UP again and replays. -/
def execLanesLocked (p : PortIx) (s : State) : Host.Outcome State Fault Refusal :=
  let q := pSLNK p
  .next (if s.pstate p = 1 then
      let s := s.setField (q + Off.SLNK_STAT) 9 6 15
      if (s.port p).eth then (s.setPstate p 2).setField (q + Off.SLNK_STAT) 5 5 1 else s
    else if s.pstate p = 3 then
      let s := ((s.setField (q + Off.SLNK_STAT) 9 6 15).setField (q + Off.SLNK_STAT) 13 10 1).setPstate p 2
      s.setPort p { s.port p with resend := (s.port p).replay.length, stuck := 0 }
    else s)

/-- TRAIN_FLIT_TX (R358, R359): a TRAIN flit with the capability record goes out during the exchange. -/
def execTrainFlitTx (p : PortIx) (s : State) : Host.Outcome State Fault Refusal :=
  .next (if s.pstate p = 1 ∧ s.field (pSLNK p + Off.SLNK_STAT) 9 6 = 15 ∧ !(s.port p).eth then
      (s.setPort p { s.port p with sentTrain := true }).sendLink p 0x04 0 (s.capRecord p)
    else s)

/-- Training fails with an error (R358, R360). -/
def State.trainFail (s : State) (p code : Nat) : State := (s.portIdle p 5).logCorr (pSLNK p) code

/-- The decision of R360 on the partner's record, taken once the own record is acknowledged; the exchange is then
complete, and its partner shown (R368). -/
def State.trainDecide (s : State) (p : Nat) (r : Bytes) : State :=
  let f := fun o n => leNat ((r.drop o).take n)
  let q := pSLNK p
  let pin := s.field (pSLNK 0 + Off.SLNK_PIN) 15 0
  let own := s.regN (pg .devid 0 + Off.DEVID_EPOCHS)
  let eps := fun v => ((upTo 0 4).map (fun i => bits v (16 * i + 15) (16 * i))).filter (· ≠ 0)
  let diff := (pin ≠ 0 ∧ f 0x14 2 ≠ 0 ∧ pin ≠ f 0x14 2) ∨ !((eps own).any ((eps (f 0x0C 8)).contains ·))
  let s := s.setRegN (q + Off.SLNK_PEER) (bits (f 4 4) 14 0 + bits (f 8 1) 4 0 * 0x10000 + min 1 (f 3 1) * 0x1000000)
  let s := s.setRegN (q + Off.SLNK_PEER_EPOCH) (f 0x0C 8)
  let s := s.setField (q + Off.SLNK_STAT) 14 14 (b2n (decide diff))
  if f 0 1 ≠ 1 ∨ bits (f 4 4) 31 20 ≠ 0 ∨ f 0x0B 1 ≠ 0 ∨ f 0x16 2 ≠ 0 then s.trainFail p 0x0E
  else if bits (f 4 4) 14 0 = s.node ∨ bits (f 4 4) 14 0 = 0x7FFF ∨ bits (f 4 4) 19 15 ≠ 0 then s.trainFail p 0x0F
  else if 1 < f 2 1 ∨ f 3 1 < 1 then s.trainFail p 0x0E
  else s.portUp p ((upTo 0 6).map (fun v => f (0x18 + 2 * v) 2))

/-- TRAIN_FLIT_RX (R358, R360, R364): a partner's record is kept; `acks` says that the partner's flit
acknowledges the own record. With both, the decision is taken. While UP a TRAIN flit is a violation. -/
def execTrainFlitRx (p : PortIx) (b : Bytes) (acks : Bool) (s : State) : Host.Outcome State Fault Refusal :=
  let b := fit 256 0 b
  .next (if !flitOk b || flitType b != 0x04 then s
    else if s.trained p then s.viol p 0x03 (flitVC b)
    else if s.pstate p = 1 ∧ flitVC b ≠ 0 then s.viol p 0x03 (flitVC b)
    else if s.pstate p = 1 ∧ s.field (pSLNK p + Off.SLNK_STAT) 9 6 = 15 then
      let x := { s.port p with partner := some (flitPayload b), acked := (s.port p).acked || (acks && (s.port p).sentTrain) }
      let s := s.setPort p x
      if x.acked then s.trainDecide p (flitPayload b) else s
    else s)

/-- TRAIN_TIMEOUT (R358): a port not UP within 50 ms fails training. -/
def execTrainTimeout (p : PortIx) (s : State) : Host.Outcome State Fault Refusal :=
  .next (if s.pstate p = 1 then s.portIdle p 5 else s)

/-- A retrain begins: step 1 of R358 at the present rate, sequences, credits and replay kept (R366). -/
def State.beginRetrain (s : State) (p : Nat) : State :=
  let q := pSLNK p
  let s := ((s.setPstate p 3).setField (q + Off.SLNK_STAT) 9 6 0).setField (q + Off.SLNK_STAT) 13 10 0
  (s.bump q Off.SLNK_RETRAIN_CNT 1).ev (fun e => { e with retrains := e.retrains + 1 })

/-- REPLAY_EXHAUSTED (R349, R366): eight replays without advance retrain the port. -/
def execReplayExhausted (p : PortIx) (s : State) : Host.Outcome State Fault Refusal :=
  .next (if s.pup p && decide (8 ≤ (s.port p).stuck) then s.beginRetrain p else s)

/-- FEC_LOCK_LOSS (R366): loss of FEC lock on a lane starts a retrain. -/
def execFecLockLoss (p : PortIx) (s : State) : Host.Outcome State Fault Refusal :=
  .next (if s.pup p then s.beginRetrain p else s)

/-- SLNK_RETRAIN_WRITE (R366): SLNK_CTRL.RETRAIN requests a retrain. -/
def execSlnkRetrainWrite (p : PortIx) (s : State) : Host.Outcome State Fault Refusal :=
  .next (if s.pup p then s.beginRetrain p else s)

/-- PORT_RETRAIN (R366): a port that is UP retrains at its current rate, keeping sequences, credits and the
replay buffer. -/
def execPortRetrain (p : PortIx) (s : State) : Host.Outcome State Fault Refusal :=
  .next (if s.pup p then s.beginRetrain p else s)

/-- SLNK_QUAR_CLR (R365): QUAR_CLR ends quarantine and retrains the port from the start. -/
def execSlnkQuarClr (p : PortIx) (s : State) : Host.Outcome State Fault Refusal :=
  .next (if s.pstate p = 4 then if s.mayTrain p then s.beginTrain p else s.portIdle p 0 else s)

/-- SLNK_NODE_WRITE (R368): the node ID is written only while every port is DOWN. -/
def execSlnkNodeWrite (v : BitVec 15) (s : State) : Host.Outcome State Fault Refusal :=
  .next (if (upTo 0 18).all (fun p => s.pstate p == 0) then s.setRegN (pSLNK 0 + Off.SLNK_NODE) v.toNat
    else s.logCorr (pSLNK 0) 0x12)

/-- SLNK_ROUTE_RELOAD (R356): the route table is read from SLNK_ROUTE_BASE. -/
def execSlnkRouteReload (s : State) : Host.Outcome State Fault Refusal :=
  .next { s with routes := s.rdBytes (s.regN (pSLNK 0 + Off.SLNK_ROUTE_BASE)) 65536 }

end Sys2Proof.Machine
end

