-- ==== Sys2Proof/Machine/Tick.lean ====
section
/-!
DEFINITION. Machine/Tick.lean: the tick unit: marks, lock, the two copies, late notices on the wire, JOIN
and TIDE records, and TICK_CFG (R34–R43, R56–R61, R64, R351).
-/
namespace Sys2Proof.Machine

/-- TICK_STAT.LOCKED. -/
def State.locked (s : State) : Bool := bit (s.regN (pTICK + Off.TICK_STAT)) 0

/-- The device is rooted (R43). -/
def State.rooted (s : State) : Bool := bit (s.regN (pTICK + Off.TICK_STAT)) 4

def State.setTickStat (s : State) (i : Nat) (v : Bool) : State :=
  s.setField (pTICK + Off.TICK_STAT) i i (b2n v)

/-- TICK_GRID. -/
def State.grid (s : State) : Nat := s.regN (pTICK + Off.TICK_GRID)

/-- At a tide mark a rooted device sends its JOIN record on each port whose partner was not rooted (R43), and any device
on the ports that are owed one from the tide before (R351). -/
def State.tideMark (s : State) : State :=
  let due := s.trainedPorts.filter (fun p => s.tick.joinOwed.contains p || (s.rooted && !s.tick.peerRooted.contains p))
  due.foldl State.sendJoin { s with tick := { s.tick with joinOwed := [] } }

/-- One stretch unit lengthens the tick in course: every later boundary lies that much further behind the grid (R40,
R59). -/
def State.addStretch (s : State) : State :=
  let u := stretchRef s.pmode
  { s with tick := { s.tick with stretch := s.tick.stretch + 1, lag := s.tick.lag + (u : Int) } }.bump64 pTICK Off.TICK_STRETCH_REF u

/-- TICK_GRID advances. -/
def State.gridUp (s : State) : State :=
  let t := s.setRegN (pTICK + Off.TICK_GRID) ((s.grid + 1) % 2 ^ 64)
  if t.grid % 1000000 = 0 then t.tideMark else t

/-- A logged TMARK or TLATE event counts in TICK_EVENT_CNT. -/
def State.tickEvent (s : State) (code : Nat) : State := (s.bump pTICK Off.TICK_EVENT_CNT 1).logCorr pTICK code

/-- Load the data-plane counters: TICK_NOW, and TIDE_NOW with it. -/
def State.setNow (s : State) (n : Nat) : State :=
  (s.setRegN (pTICK + Off.TICK_NOW) (n % 2 ^ 64)).setRegN (pTICK + Off.TIDE_NOW) (n % 2 ^ 64 / 1000000 % 2 ^ 32)

/-- TMARK_PULSE (R35): a pulse after lock is classified by its width in reference cycles and by whether it
starts on the grid. -/
def execTmarkPulse (width : Nat) (onGrid : Bool) (s : State) : Host.Outcome State Fault Refusal :=
  .next (
    if width = 0 || !s.locked then s
    else if !onGrid then s.tickEvent 0x02
    else
      let s := { s with tick := { s.tick with miss := 0 } }
      let tideDue := (s.grid + 1) % 2 ^ 64 % 1000000 = 0
      if width = 3 then
        if tideDue then s.gridUp else s.logErr pTICK 0x04 clsFatal LogInfo.none
      else if width = 1 then
        if tideDue then s.gridUp.tickEvent 0x03 else s.gridUp
      else s.gridUp.tickEvent 0x03)

/-- TMARK_MISSING (R35): a grid position passes without a pulse. -/
def execTmarkMissing (s : State) : Host.Outcome State Fault Refusal :=
  .next (if s.locked then
      ({ s with tick := { s.tick with miss := s.tick.miss + 1 } }).gridUp.tickEvent 0x01
    else s)

/-- TMARK_MISS_LIMIT (R37): the consecutive count has reached TMARK_MISS_LIMIT: TICK_LOCK_LOST, device-fatal. -/
def execTmarkMissLimit (s : State) : Host.Outcome State Fault Refusal :=
  .next (if s.locked ∧ s.field (pTICK + Off.TICK_CFG) 23 16 ≤ s.tick.miss then
      s.logErr pTICK 0x06 clsFatal LogInfo.none
    else s)

/-- The lag that a JOIN record states: with no phase the boundary of its tick lies on the mark, and otherwise that of the
next tick lies the phase behind it (R41). -/
def JoinRec.lag (j : JoinRec) : Int :=
  if j.phase = 0 then 100 * ((j.grid : Int) - j.tick) else 100 * ((j.grid : Int) - j.tick - 1) + j.phase

/-- Load the counters from a JOIN record: grid, tick number, phase and pending notices, which the device applies as its
own (R41, R43, R60). -/
def State.loadJoin (s : State) (j : JoinRec) : State :=
  let s := (s.setRegN (pTICK + Off.TICK_GRID) (j.grid % 2 ^ 64)).setNow j.tick
  let new := j.notices.filter (fun n => !s.tick.applied.contains n)
  let s := { s with tick := { s.tick with
    tideSeen := some (j.tick / 1000000 % 2 ^ 32), lag := j.lag, notices := j.notices, applied := new ++ s.tick.applied, adopted := j.rooted, join := none } }
  let s := s.bump64 pTICK Off.TICK_LATE_CNT new.length
  s.setTickStat 3 (!j.notices.isEmpty)

/-- GRID_LOCK (R36, R41): the first 3-wide pulse after ACLK lock is grid position 0. A root device, or one
with no trained port, loads 1,000,000 × TICK_TIDE_SET; any other loads a locked neighbour's JOIN record and
is rooted exactly when that neighbour is. -/
def execGridLock (s : State) : Host.Outcome State Fault Refusal :=
  let root := bit (s.regN (pTICK + Off.TICK_CFG)) 1
  .next (if s.locked || !s.powered 3 then s
    else if root || s.trainedPorts.isEmpty then
      let n := 1000000 * s.regN (pTICK + Off.TICK_TIDE_SET)
      let s := (s.setRegN (pTICK + Off.TICK_GRID) n).setNow n
      let s := { s with tick := { s.tick with lag := 0, miss := 0, tideSeen := some s.tide, join := none } }
      ((s.setTickStat 0 true).setTickStat 4 root).tideMark
    else match s.tick.join with
      | none => s
      | some j =>
        (((s.loadJoin j).setTickStat 0 true).setTickStat 4 j.rooted).tideMark)

/-- TLATE_SAMPLE (R38, R57, R59): TLATE at the edge that ends reference cycle `cycle` of the tick. A low level
at the end of cycle 1 is the sampled notice for the tick before; at the end of cycle 0 it is expected; at
any other edge it is a stray, logged once per tick. -/
def execTlateSample (cycle : Nat) (low : Bool) (s : State) : Host.Outcome State Fault Refusal :=
  .next (if !low || cycle == 0 then s
    else if cycle = 1 then
      if s.elastic then
        let n := s.now - 1
        if s.tick.applied.contains n then s
        else
          let s := { s with tick := { s.tick with applied := n :: s.tick.applied } }.addStretch
          let s := s.bump64 pTICK Off.TICK_LATE_CNT 1
          let s := if s.tick.govUnit then s else s.govCredit
          s.trainedPorts.foldl (fun s q => if (s.port q).late.contains n then s
            else s.setPort q { s.port q with late := (s.port q).late ++ [n] }) s
      else s.bump pTICK Off.TICK_EVENT_CNT 1
    else if s.tick.strayLogged then s
    else ({ s with tick := { s.tick with strayLogged := true } }).tickEvent 0x08)

/-- TICK_COPY_COMPARE (R39): what the copy on H1 shows beside the primary's TICK_GRID, TICK_NOW and boundary
phase. While both copies are in service a difference is device-fatal. -/
def execTickCopyCompare (grid now : DWord) (phase : Nat) (s : State) : Host.Outcome State Fault Refusal :=
  .next (if bit (s.regN (pTICK + Off.TICK_STAT)) 2 || s.tick.failover then s
    else if grid = s.reg (pTICK + Off.TICK_GRID) ∧ now = s.reg (pTICK + Off.TICK_NOW) ∧ phase = s.phase then s
    else s.logErr pTICK 0x05 clsFatal LogInfo.none)

/-- TICK_SOURCE_LOSS (R39): the copy in service loses TSYNC or reports a counter parity error: a failover is
due at the next boundary, or, with one copy in service, TICK_LOCK_LOST is device-fatal. -/
def execTickSourceLoss (s : State) : Host.Outcome State Fault Refusal :=
  .next (if bit (s.regN (pTICK + Off.TICK_STAT)) 2 then s.logErr pTICK 0x06 clsFatal LogInfo.none
    else { s with tick := { s.tick with failover := true } })

/-- TICK_FAILOVER (R39): at the boundary the copy on H1 takes over without a change of phase. -/
def execTickFailover (s : State) : Host.Outcome State Fault Refusal :=
  .next (if s.tick.failover then
      (({ s with tick := { s.tick with failover := false } }.setTickStat 1 true).setTickStat 2 true).logCorr pTICK 0x07
    else s)

/-- TICK_LOCK_WAIT_TIMEOUT (R36, R409): no tide mark within the wait of stage S8: start-up ends with
TICK_LOCK_LOST. -/
def execTickLockWaitTimeout (s : State) : Host.Outcome State Fault Refusal :=
  .next (if s.locked then s
    else
      let s := s.logErr pTICK 0x06 clsFatal LogInfo.none
      if s.pwr.phase = .starting then
        { s with pwr := { s.pwr with phase := .failed } }.setPwrStat 15 15 1
      else s)

/-! ### JOIN and TIDE records (R42, R43, R351) -/

/-- The count of late notices applied for ticks below `n − 2·H` (R42). -/
def State.settled (s : State) (n : Nat) : Nat :=
  (s.tick.applied.filter (fun t => decide (t + 2 * s.horizon < n))).length

/-- A record that arrived in tick `t` disagrees (R42): t lies outside [n, n + H], or its count differs from our own. -/
def State.tideDisagrees (s : State) (t n cnt : Nat) : Bool :=
  decide (t < n ∨ n + s.horizon < t) || s.settled n != cnt

/-- A neighbour, by its port, added to those counted in this tide. -/
def addPort (l : List Nat) (p : Nat) : List Nat := if l.contains p then l else p :: l

/-- A record of port `p` is checked: its neighbour counts, and a disagreement is logged (R42). -/
def State.checked (s : State) (p : Nat) (bad : Bool) : State :=
  let s := { s with tick := { s.tick with
    checked := addPort s.tick.checked p, disagree := if bad then addPort s.tick.disagree p else s.tick.disagree } }
  if bad then s.logCorr pTICK 0x05 else s

/-- The partner of a port is rooted, as its last record says (R43). -/
def State.notePeer (s : State) (p : Nat) (rooted : Bool) : State :=
  { s with tick := { s.tick with
    peerRooted := if rooted then (if s.tick.peerRooted.contains p then s.tick.peerRooted else p :: s.tick.peerRooted)
      else s.tick.peerRooted.filter (· ≠ p) } }

/-- All bytes of a run are zero. -/
def allZero (b : Bytes) : Bool := b.all (· == 0)

/-- TIDE_RECORD_RX (R42, R364): a received TIDE record; a malformed one is discarded and counted; one between
two rooted devices is checked. -/
def execTideRecordRx (p : PortIx) (s : State) : Host.Outcome State Fault Refusal :=
  .next (match s.takeRx p 0x0A with
    | none => s
    | some (f, s) =>
      let b := f.payload
      let w := fun o n => leNat ((b.drop o).take n)
      if w 0 1 ≠ 1 ∨ w 1 1 ≠ 0 ∨ 1 < w 2 1 ∨ w 3 5 ≠ 0 ∨ !allZero (b.drop 0x18) then s.viol p 0x09 4
      else
        let rooted := w 2 1 = 1
        let s := s.notePeer p rooted
        if rooted ∧ s.rooted then s.checked p (s.tideDisagrees f.tick (w 8 8) (w 0x10 8)) else s)

/-- A JOIN payload as a record, unless malformed (R351, R364). -/
def parseJoin (b : Bytes) : Option JoinRec :=
  let w := fun o n => leNat ((b.drop o).take n)
  let np := w 1 1
  if w 0 1 ≠ 1 ∨ 24 < np ∨ 1 < w 2 1 ∨ w 3 1 ≠ 0 ∨ !allZero (b.drop (0x18 + 8 * np)) then none
  else some { grid := w 8 8, tick := w 0x10 8, phase := w 4 4, notices := (upTo 0 np).map (fun i => w (0x18 + 8 * i) 8),
              rooted := w 2 1 = 1 }

/-- A rooted neighbour's JOIN disagrees (R42, R43): the device's own tick at the mark that the record names lies outside
[n, n + H]. The record carries no count of notices (DEDUCED: log entry 16). -/
def State.joinDisagrees (s : State) (j : JoinRec) : Bool :=
  decide (s.tickAt j.grid < j.tick ∨ j.tick + s.horizon < s.tickAt j.grid)

/-- JOIN_RECORD_RX (R41–R43): before lock the record is kept for the tide mark. A rooted device checks a rooted
neighbour's JOIN as a TIDE record, at the mark it names; an unrooted device with every SEQ IDLE keeps a rooted one
for adoption; with a SEQ busy, or from an unrooted sender, nothing changes. -/
def execJoinRecordRx (p : PortIx) (s : State) : Host.Outcome State Fault Refusal :=
  .next (match s.takeRx p 0x09 with
    | none => s
    | some (f, s) =>
      match parseJoin f.payload with
      | none => s.viol p 0x09 4
      | some j =>
        let s := s.notePeer p j.rooted
        if !s.locked then { s with tick := { s.tick with join := some j } }
        else if !j.rooted then s
        else if s.rooted then s.checked p (s.joinDisagrees j)
        else if s.allIdle && s.tick.join.isNone then { s with tick := { s.tick with join := some j } }
        else s)

/-- TICK_REJOIN (R43): at the tide mark that the kept record names, an unrooted device loads it, sets
ROOTED and logs; TICK_STRETCH_REF and TICK_LATE_CNT go on from their own values. -/
def execTickRejoin (s : State) : Host.Outcome State Fault Refusal :=
  .next (match s.tick.join with
    | none => s
    | some j =>
      if s.locked && !s.rooted && j.rooted then ((s.loadJoin j).setTickStat 4 true).logCorr pTICK 0x0B
      else s)

/-! ### TICK_CFG (R64) -/

/-- TICK_CFG_WRITE (R64): the value is held for the next boundary; a zero HORIZON or TMARK_MISS_LIMIT leaves
that field of the register as it is and is logged. -/
def execTickCfgWrite (v : Word) (s : State) : Host.Outcome State Fault Refusal :=
  let old := s.regN (pTICK + Off.TICK_CFG)
  let n := v.toNat
  let h := if bits n 15 8 = 0 then bits old 15 8 else bits n 15 8
  let m := if bits n 23 16 = 0 then bits old 23 16 else bits n 23 16
  let s := { s with tick := { s.tick with cfgPend := some (BitVec.ofNat 32 (bits n 1 0 + h * 0x100 + m * 0x10000)) } }
  .next (if bits n 15 8 = 0 ∨ bits n 23 16 = 0 then s.logCorr pTICK 0x0A else s)

/-- TICK_CFG_APPLY (R64, R43): at the boundary the pending value takes effect if every SEQ is IDLE, and is
otherwise ignored and logged. ROOTED follows ROOT. -/
def execTickCfgApply (s : State) : Host.Outcome State Fault Refusal :=
  .next (match s.tick.cfgPend with
    | none => s
    | some v =>
      let s := { s with tick := { s.tick with cfgPend := none } }
      if s.allIdle then
        (s.setRegN (pTICK + Off.TICK_CFG) v.toNat).setTickStat 4 (bit v.toNat 1 || s.tick.adopted)
      else s.logCorr pTICK 0x0A)

end Sys2Proof.Machine
end

