-- ==== Sys2Proof/Machine/Routing.lean ====
section
/-!
DEFINITION. Machine/Routing.lean: grants, scheduled data, routed messages and their acknowledgements, and
the Ethernet mode of a port (R230, R347, R352–R357, R362–R364).
-/
namespace Sys2Proof.Machine

/-! ### Routed flits (R355, R356) -/

/-- A route header and its data as a flit payload. -/
def mkRoute (dest src addr msg len ttl kind flags : Nat) (data : Bytes) : Bytes :=
  natLE 4 dest ++ natLE 4 src ++ natLE 8 addr ++ natLE 2 msg ++ natLE 1 len ++ natLE 1 ttl ++ natLE 1 kind ++
    natLE 1 flags ++ natLE 2 0 ++ data

/-- Fields of a route header. -/
def rtDest (b : Bytes) : Nat := fld b 0 4
def rtSrc (b : Bytes) : Nat := fld b 4 4
def rtAddr (b : Bytes) : Nat := fld b 8 8
def rtMsg (b : Bytes) : Nat := fld b 0x10 2
def rtLen (b : Bytes) : Nat := fld b 0x12 1
def rtTtl (b : Bytes) : Nat := fld b 0x13 1
def rtKind (b : Bytes) : Nat := fld b 0x14 1
def rtTagw (b : Bytes) : Bool := bit (fld b 0x15 1) 0
def rtData (b : Bytes) : Bytes := b.drop 24

/-- A reserved field of a route header is not 0. -/
def rtRsvd (b : Bytes) : Bool :=
  decide (bits (rtDest b) 31 20 ≠ 0 ∨ bits (rtSrc b) 31 20 ≠ 0 ∨ bits (fld b 0x15 1) 7 1 ≠ 0 ∨ fld b 0x16 2 ≠ 0)

/-- DEST is the broadcast, or uses the reserved bits of the 20-bit node ID (R364). -/
def rtBadDest (b : Bytes) : Bool := decide (bits (rtDest b) 14 0 = 0x7FFF ∨ bits (rtDest b) 19 15 ≠ 0)

/-- The neighbour-table entry of a node, if valid (R363). -/
def State.neighbour (s : State) (node : Nat) : Option Nat :=
  let e := s.rdNat (s.regN (pSLNK 0 + Off.SLNK_ETH_NBR_BASE) + 8 * node) 8
  if bit e 63 then some (bits e 47 0) else none

/-- Port `q` can carry a routed flit for a node. -/
def State.carriesTo (s : State) (q node : Nat) : Bool :=
  decide (q < 18) && s.pup q && (!s.peth q || (s.neighbour node).isSome)

/-- The port a routed flit for a node leaves on: the primary, or the alternate while the primary is not UP. A port in Ethernet
mode without a neighbour entry for the node makes it unreachable (R356, R363). -/
def State.routePort (s : State) (node : Nat) : Option Nat :=
  let e := fld s.routes (2 * node) 2
  let a := bits e 4 0
  let q := if decide (a < 18) && s.pup a then a else bits e 9 5
  if s.carriesTo q node then some q else none

/-- VC of a routed type: VC3 for BULK, VC2 for the others (R346). -/
def routedVC (typ : Nat) : Nat := if typ = 0x28 then 3 else 2

/-- Put a routed flit on the port of its node; false without a usable one. -/
def State.routeFlit (s : State) (typ : Nat) (payload : Bytes) (owner : Option (Nat × Nat)) : State × Bool :=
  match s.routePort (bits (rtDest payload) 14 0) with
  | some q => (s.queueFlit q { typ := typ, vc := routedVC typ, payload := payload, owner := owner }, true)
  | none => (s, false)

/-! ### The end of a routed operation (R230, R357) -/

/-- A message ends well. -/
def State.msgDone (s : State) (m : PeerMsg) : State :=
  let s := { s with msgs := s.msgs.filter (· ≠ m) }
  match m.use with
  | .ferry c r k => match s.peerOp c r k with
    | some o => (s.moved c 3 o m.len).opDone c 3 o
    | none => s
  | .copy => (s.updCmd m.cmd (·.addBytes m.item m.len)).endItem m.cmd m.item Status.DONE
  | .restore buf => if buf then s else s.updCmd m.cmd (·.addBytes m.item m.len)

/-- A message ends with a RACK kind other than 0 (R357). -/
def State.msgFail (s : State) (m : PeerMsg) (kind : Nat) : State :=
  let s := { s with msgs := s.msgs.filter (· ≠ m) }
  let st := if kind = 1 then Status.BAD_COMMAND else if kind = 2 then Status.PEER_LINK_LOST else Status.PEER_PROTOCOL
  match m.use with
  | .ferry c r k => match s.peerOp c r k with
    | some o =>
      if kind = 1 then s.ferryErr c 3 o 0x06 st m.remote
      else if kind = 2 then s.ferryErr c 3 o 0x07 st m.remote
      else (s.failItem m.cmd m.item st).opFail c 3 o
    | none => s.failItem m.cmd m.item st
  | .copy => (s.failItem m.cmd m.item st).endItem m.cmd m.item st
  | .restore _ => s.failItem m.cmd m.item st

/-- A RACK reaches its source (R357); one for no outstanding message is discarded. One of KIND 2 or 3 may come from a node on
the way (R356, R364). -/
def State.takeRack (s : State) (node msg kind : Nat) : State :=
  match s.msgs.find? (fun m => m.msg == msg && (m.node == node || decide (2 ≤ kind))) with
  | some m => if kind = 0 then s.msgDone m else s.msgFail m kind
  | none => s

/-- Answer a routed flit with a RACK. -/
def State.sendRack (s : State) (node msg addr kind : Nat) : State :=
  if node = s.node then s.takeRack node msg kind
  else (s.routeFlit 0x21 (mkRoute node s.node addr msg 0 32 kind 0 []) none).1

/-- Send a routed flit from this device; without a usable port it is dropped and answered as R356 says. -/
def State.sendRouted (s : State) (typ : Nat) (payload : Bytes) (owner : Option (Nat × Nat)) : State :=
  let r := s.routeFlit typ payload owner
  if r.2 then r.1
  else
    let s := s.logCorr (pSLNK 0) 0x0A
    if typ = 0x21 then s else s.takeRack (bits (rtDest payload) 14 0) (rtMsg payload) 2

/-- Forward a routed flit that arrived on port `p` for another node (R356). -/
def State.forward (s : State) (p typ : Nat) (b : Bytes) : State :=
  let b' := b.take 0x13 ++ natLE 1 (rtTtl b - 1) ++ b.drop 0x14
  let r := if rtTtl b = 0 then (s, false) else s.routeFlit typ b' none
  if r.2 then r.1
  else if typ = 0x21 then s
  else (s.logCorr (pSLNK p) 0x0A).sendRack (bits (rtSrc b) 14 0) (rtMsg b) (rtAddr b) 2

/-- A new message, numbered; the number is 16 bits (R355). -/
def State.newMsg (s : State) (node : Nat) (use : PeerUse) (cmd item remote localAddr len : Nat) (write : Bool) : State × PeerMsg :=
  let m : PeerMsg := {
    msg := s.nextMsg, node := node, use := use, cmd := cmd, item := item, remote := remote,
    localAddr := localAddr, len := len, got := 0, write := write, sent := s.now }
  ({ s with msgs := s.msgs ++ [m], nextMsg := (s.nextMsg + 1) % 65536 }, m)

/-- Ask a peer for `len` bytes (R355). -/
def State.sendRead (s : State) (m : PeerMsg) : State :=
  s.sendRouted 0x20 (mkRoute m.node s.node m.remote m.msg 8 32 0 0 (natLE 8 m.len)) none

/-- The BULK flits of some data, 216 bytes each, from an address. `close` says that the message ends with a
flit of fewer than 216 bytes, which may be empty (the model's choice: the manual gives no end mark). -/
def bulkFlits (dest src msg flags : Nat) (close : Bool) : Nat → Nat → Bytes → List Bytes
  | 0, _, _ => []
  | n + 1, addr, data =>
    if data.length < 216 then
      if data.isEmpty && !close then [] else [mkRoute dest src addr msg data.length 32 0 flags data]
    else mkRoute dest src addr msg 216 32 0 flags (data.take 216) :: bulkFlits dest src msg flags close n (addr + 216) (data.drop 216)

/-- Write data to a peer (R355). -/
def State.sendWrite (s : State) (m : PeerMsg) (tagw : Bool) (data : Bytes) : State :=
  (bulkFlits m.node s.node m.msg (b2n tagw) true (data.length / 216 + 1) m.remote data).foldl
    (fun (s : State) b => s.sendRouted 0x28 b none) s

/-! ### Serving (R230, R243, R355) -/

/-- A remote address range that this device serves: HBM3E, the tier or landing buffers, whole (R230). -/
def State.served (s : State) (a n : Nat) : Bool :=
  match s.rangeRegion a (max n 1) with
  | some .hbm => true
  | some .tier => true
  | some .land => true
  | _ => false

/-- Serve a read for a peer, at the homes (R355): 1 refused address, 3 for poison or a failed tile check (the model's
choice: no kind is named for them), or the data. -/
def State.serveRead (s : State) (a n : Nat) : State × Except Nat Bytes :=
  if !s.served a n then (s, .error 1)
  else
    let s := s.homeRead [(a, n)]
    let gs := s.guarded [(a, n)]
    let s := s.tagsChecked gs.length
    let bad := gs.filter (fun g => s.checkTag g.1 (s.rGen g.1) g.2 == .mismatch)
    if s.anyPoison a n || gs.any (fun g => s.checkTag g.1 (s.rGen g.1) g.2 == .poisoned) then (s, .error 3)
    else match bad with
      | [] => (s, .ok (s.rdBytes a n))
      | g :: _ =>
        let s := s.refetchTag [0, 1, 2, 3] 0xFFFF g.2 4096
        let s := ((s.bump pTAGR Off.TAGR_FAIL_CNT 1).setRegN (pTAGR + Off.TAGR_LAST_ADDR) g.2).setRegN
          (pTAGR + Off.TAGR_LAST_SRC) (1 + 0xFFFF00)
        (s.logErr pTAGR 0x01 clsItem { LogInfo.none with addr := some g.2 }, .error 3)

/-- Consume a routed flit's header on port `p`: reserved fields and DEST are checked; none when it was discarded
or forwarded (R356, R364). -/
def State.routedHere (s : State) (p typ : Nat) (b : Bytes) : State × Bool :=
  let s := if rtRsvd b then s.rsvd p (routedVC typ) else s
  if rtBadDest b then ((s.viol p 0x08 (routedVC typ)).sendRack (bits (rtSrc b) 14 0) (rtMsg b) (rtAddr b) 3, false)
  else if bits (rtDest b) 14 0 = s.node then (s, true)
  else (s.forward p typ b, false)

/-- A read request for this node must wait for lines that are not ready. -/
def State.rreqWaits (s : State) (b : Bytes) : Bool :=
  bits (rtDest b) 14 0 == s.node && !s.cohReady [(rtAddr b, fld (rtData b) 0 8)]

/-- RREQ_RX (R355, R356): a read request is forwarded, or served with BULK, or refused. -/
def execRreqRx (p : PortIx) (s : State) : Host.Outcome State Fault Refusal :=
  .next (match s.takeRx p 0x20 with
    | none => s
    | some (fl, t) =>
      let b := fl.payload
      if s.rreqWaits b then s
      else
        let r := t.routedHere p 0x20 b
        if !r.2 then r.1
        else
          let src := bits (rtSrc b) 14 0
          let n := fld (rtData b) 0 8
          let (s, res) := r.1.serveRead (rtAddr b) n
          match res with
          | .error k => s.sendRack src (rtMsg b) (rtAddr b) k
          | .ok d => (bulkFlits src s.node (rtMsg b) 0 false (d.length / 216 + 1) (rtAddr b) d).foldl
              (fun (s : State) x => s.sendRouted 0x28 x none) s)

/-- The outstanding read that a BULK flit answers. -/
def State.answers (s : State) (b : Bytes) : Option PeerMsg :=
  s.msgs.find? (fun m => !m.write && m.msg == rtMsg b && m.node == bits (rtSrc b) 14 0 &&
    decide (m.remote ≤ rtAddr b ∧ rtAddr b < m.remote + m.len))

/-- Data of an answer land; the read ends with its last byte. -/
def State.takeAnswer (s : State) (m : PeerMsg) (addr : Nat) (data : Bytes) : State :=
  let off := addr - m.remote
  let d := data.take (m.len - off)
  let m' := { m with got := m.got + d.length }
  let s := match m.use with
    | .restore true => { s with rvs := s.rvs.map (fun (r : RvRun) =>
        if r.cmd = m.cmd ∧ r.item = m.item then { r with parts := r.parts ++ [(off, d)] } else r) }
    | _ => (s.homeWrite [(m.localAddr + off, d.length)]).wrBytes (m.localAddr + off) d
  let s := { s with msgs := s.msgs.map (fun x => if x = m then m' else x) }
  if m.len ≤ m'.got then s.msgDone m' else s

/-- A received message is complete: its addresses and tiles are checked, and its data become visible with
their tags; the answer is a RACK (R242, R355). -/
def State.finishIn (s : State) (m : InMsg) (addr : Nat) : State :=
  let rs := m.parts.map (fun e => (e.1, e.2.length))
  let rs := rs.filter (fun e => decide (0 < e.2))
  match m.bad with
  | some k => s.sendRack m.node m.msg addr k
  | none =>
    if !rs.all (fun e => s.served e.1 e.2) then s.sendRack m.node m.msg addr 1
    else match if m.tagw then s.partialWrite rs else none with
      | some a =>
        let s := (s.setRegN (pTAGR + Off.TAGR_LAST_ADDR) a).setRegN (pTAGR + Off.TAGR_LAST_SRC) (2 + 0xFFFF00)
        (s.logErr pTAGR 0x02 clsItem { LogInfo.none with addr := some a }).sendRack m.node m.msg addr 1
      | none =>
        let s := m.parts.foldl (fun (s : State) e => s.wrBytes e.1 e.2) (s.homeWrite rs)
        let s := if m.tagw then s.tagRanges s.rgenNow rs else s
        s.sendRack m.node m.msg addr 0

/-- The data bytes of a BULK flit. -/
def rtBulk (b : Bytes) : Bytes := (rtData b).take (min (rtLen b) 216)

/-- What a BULK flit has this device write must wait for lines that are not ready: an answer's data, or a message whole. -/
def State.bulkWaits (s : State) (b : Bytes) : Bool :=
  let d := rtBulk b
  bits (rtDest b) 14 0 == s.node &&
  (match s.answers b with
    | some m => !s.cohReady [(m.localAddr + (rtAddr b - m.remote), d.length)]
    | none => decide (d.length < 216) && (match s.inMsgs.find? (fun m => m.node == bits (rtSrc b) 14 0 && m.msg == rtMsg b) with
      | some m => !s.cohReady ((rtAddr b, d.length) :: m.parts.map (fun e => (e.1, e.2.length)))
      | none => !s.cohReady [(rtAddr b, d.length)]))

/-- The port's first bulk flit, unless it waits. -/
def State.takeBulk (s : State) (p : Nat) : Option (RxFlit × State) :=
  (s.takeRx p 0x28).filter (fun t => !s.bulkWaits t.1.payload)

/-- BULK_RX (R355, R364): a bulk flit is forwarded; or it answers an outstanding read; or it joins the message
its source is writing. -/
def execBulkRx (p : PortIx) (s : State) : Host.Outcome State Fault Refusal :=
  .next (match s.takeBulk p with
    | none => s
    | some (fl, s) =>
      let b := fl.payload
      let long := decide (216 < rtLen b)
      let s := if long then (s.violCount p 0x06 3).logErr (pSLNK p) 0x06 clsItem LogInfo.none else s
      let r := s.routedHere p 0x28 b
      if !r.2 then r.1
      else
        let s := r.1
        let d := rtBulk b
        match s.answers b with
        | some m => if long then s.msgFail m 3 else s.takeAnswer m (rtAddr b) d
        | none =>
          let src := bits (rtSrc b) 14 0
          let old := s.inMsgs.find? (fun m => m.node == src && m.msg == rtMsg b)
          let base : InMsg := old.getD { node := src, msg := rtMsg b, tagw := rtTagw b, parts := [], bad := none }
          let m := { base with parts := base.parts ++ [(rtAddr b, d)], bad := if long then some 3 else base.bad }
          let rest := s.inMsgs.filter (fun m => !(m.node == src && m.msg == rtMsg b))
          if d.length < 216 then { s with inMsgs := rest }.finishIn m (rtAddr b)
          else { s with inMsgs := rest ++ [m] })

/-- RACK_RX (R357): an acknowledgement is forwarded, or ends its operation. -/
def execRackRx (p : PortIx) (s : State) : Host.Outcome State Fault Refusal :=
  .next (match s.takeRx p 0x21 with
    | none => s
    | some (fl, s) =>
      let r := s.routedHere p 0x21 fl.payload
      if r.2 then r.1.takeRack (bits (rtSrc fl.payload) 14 0) (rtMsg fl.payload) (rtKind fl.payload) else r.1)

/-- SL_MSG_TIMEOUT (R357): a routed operation without a RACK within SLNK_MSG_TIMEOUT ticks fails. -/
def execSlMsgTimeout (msg : Nat) (s : State) : Host.Outcome State Fault Refusal :=
  .next (match s.msgs.find? (·.msg == msg) with
    | none => s
    | some m =>
      if m.sent + s.regN (pSLNK 0 + Off.SLNK_MSG_TIMEOUT) ≤ s.now then
        let s := s.itemErrAt (pSLNK 0) 0x0B m.cmd m.item Status.PEER_LINK_LOST m.remote
        let s := { s with msgs := s.msgs.filter (· ≠ m) }
        match m.use with
        | .ferry c r k => match s.peerOp c r k with
          | some o => s.opFail c 3 o
          | none => s
        | .copy => s.endItem m.cmd m.item Status.PEER_LINK_LOST
        | .restore _ => s
      else s)

/-! ### Scheduled data (R353, R354) -/

/-- An SDATA payload (R353). -/
def mkSdata (stream len : Nat) (void last : Bool) (off : Nat) (data : Bytes) : Bytes :=
  natLE 2 stream ++ natLE 1 len ++ natLE 1 (b2n void + 2 * b2n last) ++ natLE 4 off ++ data

/-- The port carries scheduled traffic now or will after its retrain. -/
def State.schedPort (s : State) (p : Nat) : Bool := (s.pstate p == 2 || s.pstate p == 3) && !s.peth p

/-- A hollow SEND's one flit, where its port runs (R354). -/
def State.sendVoid (s : State) (x : LSlot) : State :=
  if !s.schedPort x.port then s
  else s.queueFlit x.port { typ := 0x10, vc := 0, payload := mkSdata x.stream 0 true true 0 [], owner := none }

/-- The link operation that the link ferry is running, when its slot has the opcode wanted. -/
def State.linkOp (s : State) (c op : Nat) : Option (SlotOp × LSlot) :=
  match s.curOp c 3 with
  | some o => if o.unit = 4 ∧ fld o.slot 0 1 = op then some (o, lSlot o.slot) else none
  | none => none

/-- The link operation of a port that does not run fails its item. -/
def State.linkLost (s : State) (c : Nat) (o : SlotOp) : State :=
  (s.failItem o.cmd o.item Status.PEER_LINK_LOST).opFail c 3 o

/-- LINK_SEND (R353): the link ferry prepares the next flit of a SEND, reading its bytes from the landing
buffer; it has read them all with the last. -/
def execLinkSend (c : CoreIx) (s : State) : Host.Outcome State Fault Refusal :=
  .next (match s.linkOp c 0x01 with
    | none => s
    | some (o, x) =>
      if !s.schedPort x.port then s.linkLost c o
      else
        let off := 232 * o.step
        let n := min 232 (x.bytes - off)
        let last := decide (x.bytes ≤ off + n)
        match s.poisonIn c [(x.lb + off, n)] with
        | some a => (s.landUE c o a).opFail c 3 o
        | none =>
          let s := s.queueFlit x.port {
            typ := 0x10, vc := 0, owner := some (c.val, o.recIx),
            payload := mkSdata x.stream n false last off (s.lbRd c (x.lb + off) n) }
          let s := (s.moved c 3 o n)
          s.putOp c 3 { o with step := o.step + 1, moved := o.moved + n, issued := last })

/-- Every flit of a SEND is acknowledged. -/
def State.sendAcked (s : State) (c : Nat) (o : SlotOp) : Bool :=
  let x := s.port (lSlot o.slot).port
  !(x.txq.any (·.owner == some (c, o.recIx)) || x.replay.any (·.owner == some (c, o.recIx)))

/-- Data of an SDATA flit land for a RECV; a flit beyond its limits is cut and fails the item; a void flit ends
the RECV (R353, R354, R364). -/
def State.landSdata (s : State) (c : Nat) (o : SlotOp) (b : Bytes) : State × SlotOp :=
  let x := lSlot o.slot
  let len := fld b 2 1
  let off := fld b 4 4
  let s := if bits (fld b 3 1) 7 2 ≠ 0 then s.rsvd x.port 0 else s
  if bit (fld b 3 1) 0 then
    let o := { o with issued := true, done := true, voided := true }
    (s.putOp c 3 o, o)
  else
    let long := decide (232 < len ∨ x.bytes < off + len)
    let n := min (min len 232) (x.bytes - off)
    let s := if long then
        (s.violCount x.port 0x06 0).itemErr (pSLNK x.port) 0x06 o.cmd o.item Status.PEER_PROTOCOL
      else s
    let s := (s.lbWr c (x.lb + off) ((b.drop 8).take n)).moved c 3 o n
    let o := { o with moved := o.moved + n, done := decide (x.bytes ≤ o.moved + n), issued := true }
    if long then (s.opFail c 3 o, o.stopped) else (s.putOp c 3 o, o)

/-- A RECV waiting for a port's stream that may write its bytes: core and operation. -/
def State.recvFor (s : State) (p stream : Nat) : Option (Nat × SlotOp) :=
  s.cores.findSome? (fun e => ((e.2.ferries.getD 3 []).find? (fun o =>
    o.begun && !o.done && o.unit == 4 && fld o.slot 0 1 == 0x02 && (lSlot o.slot).port == p && (lSlot o.slot).stream == stream)).map
      (fun o => (e.1, o)))

/-- SDATA_RX (R353): the first received SDATA whose RECV may land it is landed; other SDATA stay in the VC0
buffer with their credits held. -/
def execSdataRx (p : PortIx) (s : State) : Host.Outcome State Fault Refusal :=
  .next (match (s.port p).rxq.find? (fun f => f.typ == 0x10 && (s.recvFor p (fld f.payload 0 2)).isSome) with
    | none => s
    | some fl => match s.recvFor p (fld fl.payload 0 2) with
      | none => s
      | some (c, o) =>
        ((s.dropRx p fl).landSdata c o fl.payload).1)

/-- Land the held SDATA of a RECV, oldest first. -/
def State.landHeld (c : Nat) : List RxFlit → State → SlotOp → State
  | [], s, _ => s
  | fl :: fs, s, o =>
    let x := lSlot o.slot
    if o.done then s
    else if fl.typ = 0x10 ∧ fld fl.payload 0 2 = x.stream then
      let r := (s.dropRx x.port fl).landSdata c o fl.payload
      State.landHeld c fs r.1 r.2
    else State.landHeld c fs s o

/-- LINK_RECV (R353): the RECV in course lands what its stream holds and then waits for the rest. -/
def execLinkRecv (c : CoreIx) (s : State) : Host.Outcome State Fault Refusal :=
  .next (match s.linkOp c 0x02 with
    | none => s
    | some (o, x) =>
      if !s.schedPort x.port then s.linkLost c o
      else
        let o := { o with issued := true }
        State.landHeld c (s.port x.port).rxq (s.putOp c 3 o) o)

/-- A RECV of some core names a port and stream and is not complete. -/
def State.recvNamed (s : State) (p stream : Nat) : Bool :=
  s.cores.any (fun e => (e.2.ferries.getD 3 []).any (fun o =>
    !o.done && o.unit == 4 && fld o.slot 0 1 == 0x02 && (lSlot o.slot).port == p && (lSlot o.slot).stream == stream))

/-- A collective operation of some core, not complete, takes CDATA of a stream on a port (R372). -/
def State.collNamed (s : State) (p stream : Nat) : Bool :=
  s.cores.any (fun e => (e.2.ferries.getD 3 []).any (fun o =>
    !o.done && o.unit == 4 && decide (0x10 ≤ fld o.slot 0 1) && (lSlot o.slot).stream == stream &&
      (s.treeParent (lSlot o.slot).port == p || (s.treeKids (lSlot o.slot).port).contains p)))

/-- A received flit has waited 64 ticks and no operation takes it. -/
def State.unclaimed (s : State) (p : Nat) (f : RxFlit) : Bool :=
  decide (f.tick + 64 ≤ s.now) && ((f.typ == 0x10 && !s.recvNamed p (fld f.payload 0 2)) ||
    (f.typ == 0x18 && !s.collNamed p (fld f.payload 0 2)))

/-- SL_NO_RECV (R353, R372): SDATA that has waited 64 ticks without a RECV, or CDATA without its operation, is
discarded and its credit returned. -/
def execSlNoRecv (p : PortIx) (s : State) : Host.Outcome State Fault Refusal :=
  .next (match (s.port p).rxq.find? (s.unclaimed p) with
    | none => s
    | some fl => (s.dropRx p fl).logCorr (pSLNK p) 0x0D)

/-- A MGMT payload has VERSION 0x01 and a LEN from 1 to 238 (R450). -/
def mgmtFlitOk (b : Bytes) : Bool := fld b 0 1 == 1 && decide (1 ≤ fld b 1 1 ∧ fld b 1 1 ≤ 238)

/-- MGMT_FLIT_RX (R364, R450): a VC5 flit delivers its MCTP packet to the harbour controller. Without MGMT_CTRL.VC5_EN it is
not accepted; one with a bad VERSION or LEN is discarded as SL_RECORD. -/
def execMgmtFlitRx (p : PortIx) (s : State) : Host.Outcome State Fault Refusal :=
  .next (match s.takeRx p 0x30 with
    | none => s
    | some (fl, s) =>
      if !bit (s.regN (pg .mgmt 0 + Off.MGMT_CTRL)) 1 then s
      else if !mgmtFlitOk fl.payload then s.viol p 0x09 5
      else { s with mctpIn := s.mctpIn ++ [{ chan := p.val, bytes := fl.payload }] })

/-! ### Ethernet mode (R362, R363) -/

/-- The node an Ethernet frame of a flit goes to: DEST of a routed flit, the neighbour for a MGMT flit. -/
def State.frameNode (s : State) (p typ : Nat) (payload : Bytes) : Nat :=
  if typ = 0x30 then s.field (pSLNK p + Off.SLNK_PEER) 14 0 else bits (rtDest payload) 14 0

/-- An Ethernet frame's bytes from its encapsulation header on (R363). -/
def mkFrame (ackOnly : Bool) (src dest fseq fack : Nat) (flits : List Bytes) : Bytes :=
  natLE 1 1 ++ natLE 1 (b2n ackOnly) ++ natLE 1 flits.length ++ natLE 1 0 ++ natLE 4 src ++ natLE 4 dest ++ natLE 4 fseq ++
    natLE 4 fack ++ flits.flatten

/-- Frames expected next from a node on a port, the FACK sent to it. -/
def PortSt.fack (x : PortSt) (node : Nat) : Nat := (x.fseqRx.lookup node).getD 0
def PortSt.fseq (x : PortSt) (node : Nat) : Nat := (x.fseqTx.lookup node).getD 0

/-- The MAC header of a frame (R362, R363): the destination and the port's own address, an 802.1Q tag if VLAN_EN is set, and the
EtherType, in the octet order of IEEE 802.3 (PRESUMED: log entry 31). -/
def State.macHeader (s : State) (p mac : Nat) : Bytes :=
  let c := s.regN (pSLNK p + Off.SLNK_ETH_CTRL)
  (natLE 6 mac).reverse ++ (natLE 6 (s.regN (pSLNK p + Off.SLNK_ETH_MAC))).reverse
    ++ (if bit c 16 then [0x81, 0x00] ++ (natLE 2 (bits c 28 17)).reverse else []) ++ (natLE 2 (bits c 15 0)).reverse

/-- Send a frame on a port. -/
def State.sendFrame (s : State) (p : Nat) (ackOnly : Bool) (f : EthFrame) : State :=
  let m := (s.neighbour f.dest).getD 0
  s.send (.frame p m (s.macHeader p m ++ mkFrame ackOnly s.node f.dest f.fseq ((s.port p).fack f.dest) f.flits))

/-- The next frame of an Ethernet port: its oldest flit, which carries a routed or management flit only. -/
def State.grantFrame (s : State) (p : Nat) : State :=
  let x := s.port p
  match x.txq with
  | [] => s
  | t :: rest =>
    let s := s.setPort p { x with txq := rest }
    if !([0x20, 0x21, 0x28, 0x30].contains t.typ) then s
    else
      let node := s.frameNode p t.typ t.payload
      let fl := (mkFlit t.typ t.vc 0 0 0 false s.now t.payload).take 248
      let f : EthFrame := { dest := node, fseq := x.fseq node, flits := [fl] }
      let s := s.setPort p { s.port p with
        frames := x.frames ++ [f], fseqTx := (node, (x.fseq node + 1) % 2 ^ 32) :: x.fseqTx.filter (·.1 ≠ node) }
      (s.sendFrame p false f).bump64 (pSLNK p) Off.SLNK_TX_FLITS 1

/-- FLIT_GRANT (R347, R350, R363): the port sends its next flit, or its next frame in Ethernet mode. -/
def execFlitGrant (p : PortIx) (s : State) : Host.Outcome State Fault Refusal :=
  .next (if !s.pup p then s else if s.peth p then s.grantFrame p else s.grantNext p)

/-- The flits of a frame, delivered. -/
def State.takeFlits (s : State) (p : Nat) : List Bytes → State
  | [] => s
  | b :: bs =>
    let typ := flitType b
    let s := if [0x20, 0x21, 0x28, 0x30].contains typ then
        (s.setPort p { s.port p with
          rxq := (s.port p).rxq ++ [{ typ := typ, vc := flitVC b, payload := flitPayload b, stamp := s.now, tick := s.now }] }).bump64
            (pSLNK p) Off.SLNK_RX_FLITS 1
      else s.viol p 0x03 (flitVC b)
    State.takeFlits s p bs

/-- ETH_FRAME_RX (R363): a frame, from its encapsulation header on, is accepted in FSEQ order; its flits are
delivered, what it acknowledges is dropped, and FACK is returned. A frame of another generation (R33), or of another
length than its NFLITS gives, is dropped (log entries 3 and 39). -/
def execEthFrameRx (p : PortIx) (b : Bytes) (s : State) : Host.Outcome State Fault Refusal :=
  .next (if !(s.pup p && s.peth p) || b.length != 20 + 248 * fld b 2 1 || fld b 0 1 != 1 then s
    else
      let src := fld b 4 4
      let x := s.port p
      let s := s.setPort p { x with frames := x.frames.filter (fun f => !(f.dest == src && decide (f.fseq < fld b 16 4))) }
      if bit (fld b 1 1) 0 ∨ fld b 12 4 ≠ x.fack src then s
      else
        let s := s.takeFlits p ((upTo 0 (fld b 2 1)).map (fun i => (b.drop (20 + 248 * i)).take 248))
        let s := s.setPort p { s.port p with fseqRx := (src, (x.fack src + 1) % 2 ^ 32) :: x.fseqRx.filter (·.1 ≠ src) }
        s.sendFrame p true { dest := src, fseq := x.fseq src, flits := [] })

/-- ETH_FRAME_RESEND (R363): unacknowledged frames are sent again. -/
def execEthFrameResend (p : PortIx) (s : State) : Host.Outcome State Fault Refusal :=
  .next (if s.pup p && s.peth p then (s.port p).frames.foldl (fun (s : State) f => s.sendFrame p false f) s else s)

end Sys2Proof.Machine
end

