-- ==== Sys2Proof/Machine/Ferry.lean ====
section
/-!
DEFINITION. Machine/Ferry.lean: the four ferries of a core: enqueueing, starting, moving and completing
their operations, the software queue, and the pontoons' fill (R144–R147, R222–R237, R487).
-/
namespace Sys2Proof.Machine

/-! ### Enqueueing (R226, R232, R256) -/

/-- A slot counts as enqueued. -/
def State.noteEnq (s : State) (c i u : Nat) : State :=
  match (s.core c).tt with
  | some t => s.setCore c { s.core c with tt := some { t with enq := (i, u) :: t.enq } }
  | none => s

/-- The slot operation of unit `u` of record `i`. -/
def State.mkOp (s : State) (c : Nat) (t : TimetableRun) (i u : Nat) (hollow : Bool) : SlotOp :=
  { cmd := t.cmd, item := recItem (ttRec t.bytes i), recIx := i, first := i, tick := t.tickOf i, unit := u, slot := recUnit (ttRec t.bytes i) u,
    hollow := hollow, begun := false, done := false, step := 0, moved := 0, refetch := none, retried := [], issued := false,
    rgen := s.rgenNow, live := s.liveSlots (coreDie c), jobs := [], ring := 0, link := u == 4, voided := hollow,
    signalled := hollow }

/-- A collective operation's code. -/
def isColl (b : Bytes) : Bool := decide (0x10 ≤ fld b 0 1)

/-- FERRY_ENQUEUE (R226, R232): the ferry's next slot enters its queue in its tick. A slot of a failed item is
never enqueued: its signal is posted poisoned, a SEND sends its void transfer, and a collective operation
goes on as a void contribution. A RECV of a stream already named fails its item (R353). -/
def execFerryEnqueue (c : CoreIx) (f : FerryIx) (s : State) : Host.Outcome State Fault Refusal :=
  .next (match (s.core c).tt with
    | none => s
    | some t => match (sortSlots (t.waiting f)).head? with
      | none => s
      | some (w, i, u) =>
        if !t.checked || decide (s.now < w) then s
        else
          let slot := recUnit (ttRec t.bytes i) u
          let full := decide (16 ≤ ((s.fq c f).filter (·.ring == 0)).length)
          let put := fun (s : State) (o : SlotOp) => (s.useSlots (coreDie c) o.live true).setFq c f (s.fq c f ++ [o])
          if s.recFailed t i then
            let s := (s.noteEnq c i u).postSlot c slot true
            if u = 4 ∧ fld slot 0 1 = 0x01 then s.sendVoid (lSlot slot)
            else if u = 4 ∧ isColl slot ∧ !full then put s (s.mkOp c t i u true)
            else s
          else if full then s
          else
            let o := s.mkOp c t i u false
            let s := s.noteEnq c i u
            if u = 4 ∧ fld slot 0 1 = 0x02 ∧ s.recvNamed (lSlot slot).port (lSlot slot).stream then
              (s.itemErr (pSLNK (lSlot slot).port) 0x0C o.cmd o.item Status.BAD_COMMAND).postSlot c slot true
            else put s o)

/-! ### Starting (R226, R227, R229) -/

/-- The flag a slot waits on before it starts. -/
def slotWait (u : Nat) (b : Bytes) : Option Nat := if u ≠ 4 ∧ bit (fld b 1 1) 6 then some (bits (fld b 3 1) 5 0) else none

/-- The WAITF flag of a slot, if any, is set. -/
def State.waitMet (s : State) (c u : Nat) (b : Bytes) : Bool :=
  match slotWait u b with
  | some g => bit (s.seenFlags c) g
  | none => true

/-- The next operation of a queue to start: every one before it has issued its last request. -/
def nextStart : List SlotOp → Option SlotOp
  | [] => none
  | o :: os => if o.begun then (if o.issued then nextStart os else none) else some o

/-- FERRY_OP_START (R226, R227): the next operation starts once its predecessor, its flag and the hazards allow;
one whose item has failed does not start. -/
def execFerryOpStart (c : CoreIx) (f : FerryIx) (s : State) : Host.Outcome State Fault Refusal :=
  .next (match nextStart (s.fq c f) with
    | none => s
    | some o =>
      if (s.opFailed o && !o.hollow) || !s.waitMet c o.unit o.slot || (!o.hollow && !s.ferryClear c o.todo) then s
      else s.putOp c f { o with begun := true })

/-! ### Loads (R212, R218, R243, R252) -/

/-- PCIe port of an address in the outbound window (R312): 0 for port A, 1 for port B. -/
def outPort (a : Nat) : Nat := if a < 0xE800000000000 then 0 else 1

/-- Port A or B is up. -/
def State.pcieUp (s : State) (p : Nat) : Bool := bit (s.regN (pg .pcie p + Off.PCIE_STAT)) 0

/-- The range lies in the outbound window of a port whose link is down (R312). -/
def State.outDown (s : State) (a : Nat) : Bool :=
  match s.region a with
  | some .outA => !s.pcieUp 0
  | some .outB => !s.pcieUp 1
  | _ => false

/-- An access to the outbound window while the link is down is logged (R312). -/
def State.logDown (s : State) (a : Nat) : State := s.logAddr (pg .pcie (outPort a)) 0x06 a

/-- An engine that holds no lines reads a range: poison and a log record from a port whose link is down, else the bytes as
the homes give them (R261, R312). -/
def State.engineRead (s : State) (a n : Nat) : State × (Bytes × Bool) :=
  if s.outDown a then (s.logDown a, (rep n 0, true)) else (s.homeRead [(a, n)], (s.rdBytes a n, s.anyPoison a n))

/-- A data write of command `cmd` goes out on PCIe port `p`: Relaxed Ordering is set as PCIE_CTRL.RO_DATA and, on port A
of an endpoint, the function's bit allow, and the port owes a flush (R331, R332). -/
def State.viaPort (s : State) (cmd p a n : Nat) : State :=
  let ro := bit (s.regN (pg .pcie p + Off.PCIE_CTRL)) 1 && (p == 1 || bit (s.regN (pg .pcie 0 + Off.PCIE_STAT)) 10 || s.pcie.cfg.relaxed)
  (s.send (.hostWrite p a n ro)).updCmd cmd (fun k => { k with wrote := p :: k.wrote.filter (· ≠ p) })

/-- A data write of a command is a write through a PCIe port, if it goes to the outbound window. -/
def State.hostWrote (s : State) (cmd a n : Nat) : State :=
  match s.region a with
  | some .outA => s.viaPort cmd 0 a n
  | some .outB => s.viaPort cmd 1 a n
  | _ => s

/-- An engine that holds no lines writes bytes for command `cmd`: dropped and logged at a port whose link is down
(R261, R312). -/
def State.engineWrite (s : State) (cmd a : Nat) (b : Bytes) : State :=
  if s.outDown a then s.logDown a
  else ((s.homeWrite [(a, b.length)]).wrBytes a b).hostWrote cmd a b.length

/-- Ranges of one transfer lie in both halves of the outbound window: the whole is an access to an unmapped address
(R312). -/
def State.bothHalves (s : State) (rs : List (Nat × Nat)) : Bool :=
  rs.any (fun r => s.region r.1 == some .outA) && rs.any (fun r => s.region r.1 == some .outB)

/-- Fetch some ranges of memory for a load: unmapped addresses, lines that are not ready, poison and tiles are checked in
order; false when the operation stops, to try again, in error or for a re-fetch. -/
def State.fetch (c f : Nat) (o : SlotOp) : List (Nat × Nat) → State → State × Bool
  | [], s => (s, true)
  | (a, n) :: rs, s =>
    if n = 0 then State.fetch c f o rs s
    else if !s.mappedMem a n then (s.ferryErr c f o 0x01 Status.BAD_COMMAND a, false)
    else if s.outDown a then ((s.logDown a).ferryErr c f o 0x02 Status.MEM_UE a, false)
    else if !s.cohReady [(a, n)] then (s, false)
    else match (s.unitsIn a n).find? s.poisoned with
      | some l => (s.poisonErr c f o l, false)
      | none =>
        let bad := (s.guarded [(a, n)]).filterMap (fun g =>
          match s.checkTag g.1 (genAt o.rgen g.1) g.2 with
          | .ok => none
          | .poisoned => some (g.2, true)
          | .mismatch => if o.retried.contains (.granule g.2) then none else some (g.2, false))
        match bad with
        | (g, true) :: _ => (s.ferryErr c f o 0x02 Status.MEM_UE g, false)
        | (g, false) :: _ => (s.putOp c f { o with refetch := some (.granule g) }, false)
        | [] => State.fetch c f o rs s

/-- Raw bytes of a block of a coded tensor, and the numbers of the blocks that hold raw bytes [o, o + n). -/
def State.windowBlock (s : State) (r : Nat) : Nat := 256 * (codedSize (s.codedOf r).1).getD 1
def State.windowIx (s : State) (r o n : Nat) : List Nat :=
  upTo (o / s.windowBlock r) ((o + n - 1) / s.windowBlock r - o / s.windowBlock r + 1)

/-- The index entries of some blocks of region `r`, and the address of a block by its entry. -/
def State.windowIndex (s : State) (r : Nat) (l : List Nat) : Nat × Nat := (s.rBase r + 64 + 4 * l.headD 0, 4 * l.length)
def State.blockAddr (s : State) (r i : Nat) : Nat := s.rBase r + 16 * s.rdNat (s.rBase r + 64 + 4 * i) 4

/-- The stored bytes of a block. -/
def State.blockRange (s : State) (r i : Nat) : Nat × Nat :=
  let a := s.blockAddr r i
  (a, min (blkStored (blkHdr (s.rdBytes a 8)).length) (s.rBase r + s.rSize r - a))

/-- The ranges of memory that a row of `n` bytes at `a` is read from: itself, or in a window the index entries and the
blocks (R252). -/
def State.rowRanges (s : State) (a n : Nat) : List (Nat × Nat) :=
  match s.windowOf a with
  | some r =>
    let l := s.windowIx r (a - s.rLwin r) n
    if n = 0 ∨ (s.codedOf r).2 < a - s.rLwin r + n then [] else s.windowIndex r l :: l.map (s.blockRange r)
  | none => [(a, n)]

/-- Land one row of `n` bytes from address `a` at landing-buffer offset `dst`; a window address gives jobs for
the EXP: the index entries are verified first, then what they name (R252). -/
def State.landRow (s : State) (c f : Nat) (o : SlotOp) (a n dst : Nat) : State × Option (List ExpJob) :=
  match s.windowOf a with
  | some r =>
    let x := a - s.rLwin r
    if (s.codedOf r).2 < x + n then (s.ferryTagErr c f o 0x03 Status.BAD_COMMAND a, none)
    else
      let b := s.windowBlock r
      let l := s.windowIx r x n
      let lim := s.rBase r + s.rSize r
      match State.fetch c f o [s.windowIndex r l] s with
      | (s, false) => (s, none)
      | (s, true) => match l.find? (fun i => decide (lim ≤ s.blockAddr r i)) with
        | some i => (s.expErr c f o 0x02 Status.BLOCK_CHECK (s.blockAddr r i), none)
        | none => match State.fetch c f o (l.map (s.blockRange r)) s with
          | (s, false) => (s, none)
          | (s, true) => (s, some (l.map (fun i =>
              let m := min b ((s.codedOf r).2 - b * i)
              let lo := max x (b * i)
              { addr := s.blockAddr r i, lim := lim, owed := m, whole := false, skip := lo - b * i, dst := dst + (lo - x),
                land := min (x + n) (b * i + m) - lo })))
  | none =>
    match State.fetch c f o [(a, n)] s with
    | (s, false) => (s, none)
    | (s, true) => (s.lbWr c dst (s.rdBytes a n), some [])

/-- Land rows, as source, bytes and destination, until one stops the operation. -/
def State.landRows (c f : Nat) (o : SlotOp) : List (Nat × Nat × Nat) → List ExpJob → State → State
  | [], js, s => s.putOp c f { o with issued := true, jobs := js, done := js.isEmpty }
  | (a, n, d) :: rs, js, s =>
    match s.landRow c f o a n d with
    | (s, none) => s
    | (s, some l) => State.landRows c f o rs (js ++ l) s

/-- Run a load that lands rows: bytes and verified granules are counted, those of a window too, and the lines are read at
the die cache and the homes (R228). -/
def State.loadRows (s : State) (c f : Nat) (o : SlotOp) (rows : List (Nat × Nat × Nat)) : State :=
  let rs := rows.flatMap (fun r => s.rowRanges r.1 r.2.1)
  let g := (s.guarded rs).length
  let n := (rows.map (fun r => r.2.1)).foldl (· + ·) 0
  let s' := if s.bothHalves rs then s.ferryErr c f o 0x01 Status.BAD_COMMAND (rs.headD (0, 0)).1 else State.landRows c f o rows [] s
  match (s'.fq c f).find? (·.same o) with
  | some o' => if o'.issued && !o'.signalled then ((s'.moved c f o n).tagsChecked g).ferryAccess (coreDie c) false rs else s'
  | none => s'

/-- FERRY_COPY_IN (R224): rows from memory, at their memory pitch. -/
def execFerryCopyIn (c : CoreIx) (f : FerryIx) (s : State) : Host.Outcome State Fault Refusal :=
  .next (match s.ferryOp c f 0x01 with
    | none => s
    | some (o, x) => s.loadRows c f o ((upTo 0 x.rows).map (fun i => (x.mem + i * x.mpitch, x.rowB, x.lb + i * x.rowB))))

/-- FERRY_INDEX_IN (R224): rows taken by an index list in the landing buffer. -/
def execFerryIndexIn (c : CoreIx) (f : FerryIx) (s : State) : Host.Outcome State Fault Refusal :=
  .next (match s.ferryOp c f 0x03 with
    | none => s
    | some (o, x) => match s.poisonIn c [(x.arg, 4 * x.rows)] with
      | some a => (s.landUE c o a).opFail c f o
      | none => s.loadRows c f o ((upTo 0 x.rows).map (fun i =>
          (x.mem + s.rdNat (lbBase c + x.arg + 4 * i) 4 * x.rowB, x.rowB, x.lb + i * x.rowB))))

/-- FERRY_MXT_IN (R224, R75): an MX tensor lands transposed, quantised anew along its new K. -/
def execFerryMxtIn (c : CoreIx) (f : FerryIx) (s : State) : Host.Outcome State Fault Refusal :=
  .next (match s.ferryOp c f 0x05 with
    | none => s
    | some (o, x) =>
      let cols := 32 * x.units
      let src := bits x.arg 7 0
      let dst := bits x.arg 15 8
      let n := arrBytes src x.rows cols
      match State.fetch c f o [(x.mem, n)] s with
      | (s, false) => s
      | (s, true) =>
        let g := (s.guarded [(x.mem, n)]).length
        let rows := (upTo 0 cols).map (fun k => (upTo 0 x.rows).map (fun i => s.rdVal x.mem src x.rows cols 0 i k))
        ((((State.wrRows (lbBase c + x.lb) dst cols x.rows 0 0 rows s).moved c f o n).tagsChecked g).ferryAccess
          (coreDie c) false [(x.mem, n)]).opDone c f o)

/-! ### Window operations (R143–R147) -/

/-- Bytes of an element of a window tensor. -/
def WinDesc.eb (d : WinDesc) : Nat := elemBits d.fmt / 8

/-- Address of the run of channels at position `p` of batch `nb`, in a tensor of extents `e` (R139). -/
def WinDesc.runAt (d : WinDesc) (e : List Nat) (nb : Nat) (p : List Nat) : Nat :=
  d.src + ((nb * WinDesc.prod3 e + lin e p) * d.ct + d.cBase) * d.eb

/-- The input position a padded coordinate reads, or none for +0 (R142). -/
def WinDesc.inputAt (d : WinDesc) (p : List Nat) : Option (List Nat) :=
  match d.source 0 (WinDesc.at3 p 0), d.source 1 (WinDesc.at3 p 1), d.source 2 (WinDesc.at3 p 2) with
  | some a, some b, some c => some [a, b, c]
  | _, _, _ => none

/-- The runs of row `m` of a GATHER, one a tap (R144). -/
def WinDesc.gatherRow (d : WinDesc) (m : Nat) : List (Option Nat) :=
  let np := WinDesc.prod3 d.outs
  let o := unlin d.outs (m % np)
  (boxOf d.fp).map (fun k => (d.inputAt (zip3 (fun t => WinDesc.at3 o t * WinDesc.at3 d.s t +
    (WinDesc.at3 d.fo t + WinDesc.at3 k t) * WinDesc.at3 d.dil t))).map (d.runAt d.i (m / np)))

/-- Row positions of a GATHER_T: the image for PAD ZERO, the padded extents otherwise (R145). -/
def WinDesc.rowExt (d : WinDesc) : List Nat := if d.pad = 0 then d.i else d.exts

/-- Output position that dimension `t` of a row position reads through tap `k`, if any (R145). -/
def WinDesc.backAt (d : WinDesc) (x k t : Nat) : Option Nat :=
  let up := x + if d.pad = 0 then WinDesc.at3 d.pl t else 0
  let dn := (WinDesc.at3 d.fo t + k) * WinDesc.at3 d.dil t
  let sd := WinDesc.at3 d.s t
  if dn ≤ up ∧ (up - dn) % sd = 0 ∧ (up - dn) / sd < d.out t then some ((up - dn) / sd) else none

/-- The runs of row `m` of a GATHER_T (R145). -/
def WinDesc.gatherTRow (d : WinDesc) (m : Nat) : List (Option Nat) :=
  let np := WinDesc.prod3 d.rowExt
  let x := unlin d.rowExt (m % np)
  (boxOf d.fp).map (fun k =>
    match d.backAt (WinDesc.at3 x 0) (WinDesc.at3 k 0) 0, d.backAt (WinDesc.at3 x 1) (WinDesc.at3 k 1) 1,
        d.backAt (WinDesc.at3 x 2) (WinDesc.at3 k 2) 2 with
    | some a, some b, some e => some (d.runAt d.outs (m / np) [a, b, e])
    | _, _, _ => none)

/-- The run of tile position `p` of a HALO (R147). -/
def WinDesc.haloRow (d : WinDesc) (p : List Nat) : List (Option Nat) :=
  [(d.inputAt (zip3 (fun t => d.tileCoord t (WinDesc.at3 p t)))).map (d.runAt d.i d.nb)]

/-- The checks of R141 for a ferry. DESIGN CHOICE (log entry 69): R141 gives no error to FP outside 1–7, which is checked
for HALO too, to a destination that is not 64-byte aligned, and to a source of 2^52 or more; they break the descriptor. -/
def WinDesc.ferryOk (d : WinDesc) : Bool :=
  d.baseOk && addrOk d.dst && decide (d.src < 2 ^ 52) && inLB (d.dst, arrBytes d.fmt d.landed.1 d.landed.2)
  && (upTo 0 3).all (fun t => decide (WinDesc.at3 d.fo t + WinDesc.at3 d.fp t ≤ WinDesc.at3 d.f t ∧
      1 ≤ WinDesc.at3 d.fp t ∧ WinDesc.at3 d.fp t ≤ 7))

/-- Land the rows of a window operation: each a list of runs of C_COUNT elements, or +0. -/
def State.winLand (s : State) (c f : Nat) (o : SlotOp) (d : WinDesc) (rows : List (List (Option Nat))) : State :=
  let n := d.cCount * d.eb
  let rs := rows.flatMap (fun r => r.filterMap (fun a => a.map (fun a => (a, n))))
  if s.bothHalves rs then s.ferryErr c f o 0x01 Status.BAD_COMMAND d.src
  else match State.fetch c f o rs s with
  | (s, false) => s
  | (s, true) =>
    let pt := pitch d.fmt d.landed.2
    let bytes := rows.map (fun r => r.flatMap (fun a => match a with
      | some a => s.rdBytes a n
      | none => rep n (0 : Byte)))
    let g := (s.guarded rs).length
    let s := ((upTo 0 rows.length).zip bytes).foldl (fun (s : State) e => s.lbWr c (d.dst + e.1 * pt) e.2) s
    (((s.moved c f o (rs.length * n)).tagsChecked g).ferryAccess (coreDie c) false rs).opDone c f o

/-- Run the WINDOW operation in course when its descriptor names operation `op`: a bad descriptor, an empty
output or a box beyond the output first (R141, R143). -/
def State.winOp (s : State) (c f op : Nat) (rows : WinDesc → List (List (Option Nat))) : State :=
  match s.ferryOp c f 0x02 with
  | none => s
  | some (o, x) =>
    let d := winDesc (s.lbRd c x.lb 128)
    let mine := d.op == op || (op == 1 && !(d.op == 2 || d.op == 3))
    if !mine then s
    else match s.poisonIn c [(x.lb, 128)] with
      | some a => (s.landUE c o a).opFail c f o
      | none =>
        if d.op ≠ op ∨ !d.ferryOk then s.ferryErr c f o 0x03 Status.BAD_COMMAND d.src
        else if d.outs.contains 0 then (s.updCmd o.cmd (·.emptyOp o.item)).opDone c f o
        else if !boxOk d.outs d then s.ferryErr c f o 0x04 Status.BAD_COMMAND d.src
        else s.winLand c f o d (rows d)

/-- FERRY_GATHER (R144): rows of an A operand from an input tensor. A descriptor that names no ferry operation
is reported here. -/
def execFerryGather (c : CoreIx) (f : FerryIx) (s : State) : Host.Outcome State Fault Refusal :=
  .next (s.winOp c f 1 (fun d => (upTo d.mBase d.mCount).map d.gatherRow))

/-- FERRY_GATHER_T (R145): rows of the data gradient's A operand from dy. -/
def execFerryGatherT (c : CoreIx) (f : FerryIx) (s : State) : Host.Outcome State Fault Refusal :=
  .next (s.winOp c f 2 (fun d => (upTo d.mBase d.mCount).map d.gatherTRow))

/-- FERRY_HALO (R147): the halo tile that an output box reads. -/
def execFerryHalo (c : CoreIx) (f : FerryIx) (s : State) : Host.Outcome State Fault Refusal :=
  .next (s.winOp c f 3 (fun d => (boxOf d.tiles).map d.haloRow))

/-! ### Stores (R224, R242) -/

/-- Write one row of a store; what goes to an outbound window whose link is down is dropped and logged (R312). -/
def State.storeRow (s : State) (c cmd l n a : Nat) : State :=
  if s.outDown a then s.logDown a else (s.wrBytes a (s.lbRd c l n)).hostWrote cmd a n

/-- Run a store, its rows as landing-buffer offset, bytes and destination: nothing is written unless every row is mapped
and no tile is written in part; the rows are written in order, at the die cache and the homes, together with their tags
(R228, R242, R279). -/
def State.storeRows (s : State) (c f : Nat) (o : SlotOp) (rows : List (Nat × Nat × Nat)) : State :=
  let ws := rows.map (fun r => (r.2.2, r.2.1))
  match s.poisonIn c (rows.map (fun r => (r.1, r.2.1))) with
  | some a => (s.landUE c o a).opFail c f o
  | none => match ws.find? (fun w => !s.mappedMem w.1 w.2) with
    | some w => s.ferryErr c f o 0x01 Status.BAD_COMMAND w.1
    | none => match s.partialWrite ws with
      | some a => s.ferryTagErr c f o 0x02 Status.BAD_COMMAND a
      | none =>
        if s.bothHalves ws then s.ferryErr c f o 0x01 Status.BAD_COMMAND (ws.headD (0, 0)).1
        else if !s.cohReady ws || s.fillAhead c o ws then s
        else
          let s := rows.foldl (fun (s : State) r => s.storeRow c o.cmd r.1 r.2.1 r.2.2) (s.ferryAccess (coreDie c) true ws)
          ((s.tagRanges o.rgen ws).moved c f o ((rows.map (fun r => r.2.1)).foldl (· + ·) 0)).opDone c f o

/-- FERRY_COPY_OUT (R224, R242): rows from the landing buffer into memory. -/
def execFerryCopyOut (c : CoreIx) (f : FerryIx) (s : State) : Host.Outcome State Fault Refusal :=
  .next (match s.ferryOp c f 0x08 with
    | none => s
    | some (o, x) => s.storeRows c f o ((upTo 0 x.rows).map (fun i => (x.lb + i * x.rowB, x.rowB, x.mem + i * x.mpitch))))

/-- FERRY_INDEX_OUT (R224): rows written by an index list in ascending order, so that a repeated index keeps the
last. -/
def execFerryIndexOut (c : CoreIx) (f : FerryIx) (s : State) : Host.Outcome State Fault Refusal :=
  .next (match s.ferryOp c f 0x09 with
    | none => s
    | some (o, x) => match s.poisonIn c [(x.arg, 4 * x.rows)] with
      | some a => (s.landUE c o a).opFail c f o
      | none => s.storeRows c f o ((upTo 0 x.rows).map (fun i =>
          (x.lb + i * x.rowB, x.rowB, x.mem + s.rdNat (lbBase c + x.arg + 4 * i) 4 * x.rowB))))

/-! ### Pontoon fill (R233, R487) -/

def pPONT (k : Nat) : Nat := pg .pont k

/-- Commands of pontoon `k`; a shard item that was stopped from outside is no command any more. -/
def State.pont (s : State) (k : Nat) : List PontCmd :=
  (smGet (fun _ => []) s.ponts k).filter (fun x => match x.work with
    | .upd => match s.cmd? x.cmd with
      | some c => !c.itemEnded x.item
      | none => false
    | _ => true)
def State.setPont (s : State) (k : Nat) (l : List PontCmd) : State :=
  { s with ponts := smSet (fun _ => []) s.ponts k l }

/-- The stack whose local range holds a whole range (R213). -/
def State.localStack (s : State) (a n : Nat) : Option Nat :=
  let ri := interleavedBytes s.localGib
  let sz := gib * s.localGib
  if ri ≤ a ∧ 0 < sz ∧ 0 < n then
    let k := (a - ri) / sz
    if k < 20 ∧ a + n ≤ ri + (k + 1) * sz then some k else none
  else none

/-- A started PFILL goes to the pontoon of the one local stack that its range lies in (R233). -/
def State.pfillOp (s : State) (c f : Nat) (o : SlotOp) (x : FSlot) : State :=
  let n := 4096 * x.shape
  match s.localStack x.mem (max n 1) with
  | none => s.ferryErr c f o 0x0A Status.BAD_COMMAND x.mem
  | some k =>
    (s.setPont k (s.pont k ++ [{ cmd := o.cmd, item := o.item, work := .fill x.mem n x.arg c o.recIx o.ring }])).putOp c f
      { o with issued := true }

/-- FERRY_PFILL (R487): the range must lie in one stack-local range; the fill goes to that stack's pontoon. -/
def execFerryPfill (c : CoreIx) (f : FerryIx) (s : State) : Host.Outcome State Fault Refusal :=
  .next (match s.ferryOp c f 0x0B with
    | none => s
    | some (o, x) => s.pfillOp c f o x)

/-- A pontoon command ends: counted, and the queue goes on (R233). -/
def State.pontDone (s : State) (k nbytes ns : Nat) : State :=
  let s := (s.bump64 (pPONT k) Off.PONT_CMD_CNT 1).bump64 (pPONT k) Off.PONT_BYTES nbytes
  (s.bump64 (pPONT k) Off.PONT_BUSY_NS ns).setPont k (s.pont k).tail

/-- Write a 32-bit pattern over `n` words from an address. -/
def State.fillWords (p : Nat) : Nat → Nat → State → State
  | 0, _, s => s
  | n + 1, a, s => State.fillWords p n (a + 64) (s.wrBytes a ((rep 16 (natLE 4 p)).flatten))

/-- PONT_FILL (R233, R234, R487): copies of the range are recalled, the pontoon writes the pattern over it, and the ferry's
operation is visible. -/
def execPontFill (k : StackIx) (s : State) : Host.Outcome State Fault Refusal :=
  .next (match s.pont k with
    | { work := .fill a n p c r i, .. } :: _ =>
      if !s.cohReady [(a, n)] then s
      else
        let s := (State.fillWords p (n / 64) a (s.homeRecall [(a, n)])).pontDone k n (ceilDiv n 2048)
        match (s.fq c 2).find? (fun o => o.recIx == r && o.unit == 2 && o.ring == i && !o.done) with
        | some o => (s.moved c 2 o n).opDone c 2 o
        | none => s
    | _ => s)

/-! ### Peer operations (R230) -/

/-- FERRY_PEER_GET (R230, R355): the rows of a peer are asked for by a read request; on the own node the rows
are read here. -/
def execFerryPeerGet (c : CoreIx) (f : FerryIx) (s : State) : Host.Outcome State Fault Refusal :=
  .next (match s.ferryOp c f 0x10 with
    | none => s
    | some (o, x) =>
      let n := x.rows * x.rowB
      if x.node = s.node then
        if !s.served x.mem n then s.ferryErr c f o 0x06 Status.BAD_COMMAND x.mem
        else s.loadRows c f o [(x.mem, n, x.lb)]
      else
        let s := s.putOp c f { o with issued := true }
        let r := s.newMsg x.node (.ferry c o.recIx o.ring) o.cmd o.item x.mem (lbBase c + x.lb) n false
        r.1.sendRead r.2)

/-- A started PEER_PUT writes the tile to the node that its slot names: its own memory, or a message (R230). -/
def State.peerPutOp (s : State) (c f : Nat) (o : SlotOp) (x : FSlot) : State :=
  let n := x.rows * x.rowB
  if x.node = s.node then
    if !s.served x.mem n then s.ferryErr c f o 0x06 Status.BAD_COMMAND x.mem
    else s.storeRows c f o [(x.lb, n, x.mem)]
  else match s.poisonIn c [(x.lb, n)] with
    | some a => (s.landUE c o a).opFail c f o
    | none =>
      let s := s.putOp c f { o with issued := true }
      let r := s.newMsg x.node (.ferry c o.recIx o.ring) o.cmd o.item x.mem (lbBase c + x.lb) n true
      r.1.sendWrite r.2 true (s.lbRd c x.lb n)

/-- FERRY_PEER_PUT (R230, R242, R355): the rows go to a peer as bulk with TAGW set; on the own node they are
written here with their tags. -/
def execFerryPeerPut (c : CoreIx) (f : FerryIx) (s : State) : Host.Outcome State Fault Refusal :=
  .next (match s.ferryOp c f 0x11 with
    | none => s
    | some (o, x) => s.peerPutOp c f o x)

/-! ### The software queue (R229, R236) -/

/-- Entry checks of R229: the field rules with LEAD 0, reserved bytes 0, and no QRUN. -/
def entryOk (b : Bytes) (f : Nat) : Bool :=
  FSlot.fieldsOk (b.take 24) f && (fSlot b).lead == 0 && fld b 24 8 == 0 && (fSlot b).op != 0x06

/-- The next ring entry of a QRUN starts: it stands before the QRUN in its queue as an operation of its own; the QRUN has
issued its last request with its last entry. -/
def State.takeEntry (s : State) (c f : Nat) (o : SlotOp) (b : Bytes) : State :=
  let e := { o with slot := b, ring := o.step + 1, step := 0, begun := true }
  let last := decide ((fSlot o.slot).rows ≤ o.step + 1)
  let o' := { o with step := o.step + 1, issued := last, done := last }
  s.setFq c f ((s.fq c f).flatMap (fun x => if x.same o then [e, o'] else [x]))

/-- FERRY_QRUN (R229): the next published ring entry is taken, checked and started as its own operation. -/
def execFerryQrun (c : CoreIx) (f : FerryIx) (s : State) : Host.Outcome State Fault Refusal :=
  .next (match s.ferryOp c f 0x06 with
    | none => s
    | some (o, _) =>
      let p := pFERRY c f
      let h := s.regN (p + Off.FERRY_QHEAD)
      if h = s.qTail c f then s
      else
        let off := s.qEntry c f h
        match s.poisonIn c [(off, 32)] with
        | some a => (s.landUE c o a).opFail c f o
        | none =>
          let b := s.lbRd c off 32
          let up := fun (s : State) => s.setRegN (p + Off.FERRY_QHEAD) ((h + 1) % (2 * s.qSize c f))
          if !entryOk b f then (up s).ferryErr c f o 0x05 Status.BAD_COMMAND (lbBase c + off)
          else if s.waitMet c f.val (b.take 24) && s.ferryClear c { o.todo with ring := o.step + 1, slot := b.take 24 } then
            (up s).takeEntry c f o (b.take 24)
          else s)

/-- FERRY_QCFG_WRITE (R236): FERRY_QBASE or FERRY_QSIZE is written while the SEQ is IDLE; both ring indices
return to 0. -/
def execFerryQcfgWrite (c : CoreIx) (f : FerryIx) (size : Bool) (v : DWord) (s : State) : Host.Outcome State Fault Refusal :=
  let p := pFERRY c f
  let n := v.toNat
  let ok := s.seqIdle c && (!size || decide (16 ≤ n ∧ n ≤ 4096 ∧ 2 ^ Nat.log2 n = n))
  .next (if ok then
      let s := if size then s.setRegN (p + Off.FERRY_QSIZE) n else s.setRegN (p + Off.FERRY_QBASE) (bits n 21 6 * 64)
      (s.setRegN (p + Off.FERRY_QHEAD) 0).setRegN (p + Off.FERRY_QTAIL) 0
    else s.logCorr p 0x09)

/-- FERRY_QTAIL_WRITE (R236): entries are published; a tail more than the ring ahead of the head is ignored.
A ferry sees the entries from the next boundary (R30). -/
def execFerryQtailWrite (c : CoreIx) (f : FerryIx) (v : Word) (s : State) : Host.Outcome State Fault Refusal :=
  let p := pFERRY c f
  let q := s.qSize c f
  let t := v.toNat % (2 * q)
  let x := s.core c
  let old := if (x.tailOld.lookup f.val).isSome then x.tailOld else (f.val, s.regN (p + Off.FERRY_QTAIL)) :: x.tailOld
  .next (if q < (t + 2 * q - s.regN (p + Off.FERRY_QHEAD)) % (2 * q) then s.logCorr p 0x08
    else (s.setCore c { x with tailOld := old }).setRegN (p + Off.FERRY_QTAIL) t)

/-! ### Completion (R228, R232) -/

/-- The oldest operation leaves the queue and posts its signal, poisoned if its item has failed. -/
def State.opLeaves (s : State) (c f : Nat) (o : SlotOp) : State :=
  let bad := s.opFailed o || o.voided
  let s := (s.setFq c f (s.fq c f).tail).bump (pFERRY c f) Off.FERRY_OP_CNT 1
  let s := if o.ring = 0 then s.useSlots (coreDie c) o.live false else s
  if o.signalled then s else s.postSlot c o.slot bad

/-- FERRY_OP_COMPLETE (R228, R229, R232): the oldest operation, once its last byte is landed, visible or
acknowledged, completes; a QRUN completes with its last entry. -/
def execFerryOpComplete (c : CoreIx) (f : FerryIx) (s : State) : Host.Outcome State Fault Refusal :=
  .next (match s.fq c f with
    | [] => s
    | o :: _ =>
      let o := if o.unit = 4 ∧ fld o.slot 0 1 = 0x01 ∧ o.issued ∧ s.sendAcked c o then { o with done := true } else o
      if !o.done then s
      else
        let s := s.opLeaves c f o
        match s.fq c f with
        | q :: _ => if o.ring ≠ 0 ∧ q.ring = 0 ∧ q.recIx = o.recIx ∧ q.done then s.opLeaves c f q else s
        | [] => s)

/-- Operations of failed items that have not started are dropped at the boundary, their signals posted
poisoned; a dropped SEND sends its void transfer (R232, R354). -/
def State.dropFailed (s : State) (c : Nat) : State :=
  (upTo 0 4).foldl (fun (s : State) f =>
    let gone := (s.fq c f).filter (fun o => !o.begun && !o.hollow && s.opFailed o && !(o.unit == 4 && isColl o.slot))
    let s := s.setFq c f ((s.fq c f).filter (fun o => !gone.contains o))
    gone.foldl (fun (s : State) o =>
      let s := (s.useSlots (coreDie c) o.live false).postSlot c o.slot true
      if o.unit = 4 ∧ fld o.slot 0 1 = 0x01 then s.sendVoid (lSlot o.slot) else s) s) s

end Sys2Proof.Machine
end

