-- ==== Sys2Proof/Machine/Collective.lean ====
section
/-!
DEFINITION. Machine/Collective.lean: trees, the four collective operations of the link slot, the accumulator
table and the step summary (R369–R379, R384).
-/
namespace Sys2Proof.Machine

/-! ### Trees (R370, R384) -/

/-- The check of R370 on a tree's value: 0 it passes, 1 COLL_TREE_BAD, 2 failed on epoch. -/
def State.treeCheck (s : State) (v : Nat) : Nat :=
  let kids := (upTo 0 18).filter (fun p => bit v (8 + p))
  let par := bits v 4 0
  let ports := (if par = 31 then [] else [par]) ++ kids
  let pin := s.field (pSLNK 0 + Off.SLNK_PIN) 15 0
  let epochs := fun p => let e := s.regN (pSLNK p + Off.SLNK_PEER_EPOCH)
    (upTo 0 4).map (fun i => bits e (16 * i + 15) (16 * i))
  if kids.contains par ∨ (par ≠ 31 ∧ 17 < kids.length) ∨ !ports.all (fun p => decide (p < 18) && s.trained p) then 1
  else if ports.any (fun p => bit (s.regN (pSLNK p + Off.SLNK_STAT)) 14) ∨ (pin ≠ 0 ∧ !ports.all (fun p => (epochs p).contains pin)) then 2
  else 0

/-- A write of COLL_TREE[g] (R370, R384): only while no job runs, never with WAIT 0; ENABLE stands if the check
passes. -/
def State.treeWrite (s : State) (g v : Nat) : State :=
  let a := pCOLL 0 + Off.COLL_TREE + 8 * g
  if !s.noJob ∨ bits v 39 32 = 0 then s.logCorr (pCOLL 0) 0x0A
  else
    let keep := v &&& 0xFF1FFFFF1F
    let old := s.field a 30 30
    if !bit v 29 then s.setRegN a (keep + old * 2 ^ 30)
    else match s.treeCheck v with
      | 0 => s.setRegN a (keep + 2 ^ 29)
      | 1 => (s.setRegN a keep).logCorr (pCOLL 0) 0x01
      | _ => ((s.setRegN a (keep + 2 ^ 30)).logCorr (pCOLL 0) 0x01).logCorr (pCOLL 0) 0x02

/-- COLL_TREE_ENABLE (R370): a write of COLL_TREE[g]. -/
def execCollTreeEnable (g : Fin 8) (v : DWord) (s : State) : Host.Outcome State Fault Refusal := .next (s.treeWrite g v.toNat)

/-! ### The accumulator table (R376) -/

/-- The table, with its size shown in COLL_STAT. -/
def State.setAcc (s : State) (l : List (Nat × AccEntry)) : State :=
  { s with acc := l }.setField (pCOLL 0 + Off.COLL_STAT) 18 8 l.length

/-- VOID_STICKY and SPLIT (R375, R376). -/
def State.collSticky (s : State) : Bool := bit (s.regN (pCOLL 0 + Off.COLL_STAT)) 1
def State.collSplit (s : State) : Bool := bit (s.regN (pCOLL 0 + Off.COLL_STAT)) 2

/-- The table, VOID_STICKY and SPLIT are cleared (R377, R384). -/
def State.clearAcc (s : State) : State := (s.setAcc []).setField (pCOLL 0 + Off.COLL_STAT) 2 1 0

/-! ### Streams (R372) -/

/-- The CDATA payloads of a stream: 224 bytes each, LAST on the final one, which carries COUNT and SUMSQ. -/
def cdataFlits (stream flags count sumsq : Nat) : Nat → Nat → Bytes → List Bytes
  | 0, _, _ => []
  | n + 1, off, d =>
    if d.length ≤ 224 then [mkCdata stream d.length (flags + 2) off count sumsq d]
    else mkCdata stream 224 (flags % 8) off 0 0 (d.take 224) :: cdataFlits stream flags count sumsq n (off + 224) (d.drop 224)

/-- Send a stream on some ports. -/
def State.sendStream (s : State) (ports : List Nat) (stream flags count sumsq : Nat) (d : Bytes) (owner : Option (Nat × Nat)) : State :=
  let fl := cdataFlits stream flags count sumsq (d.length / 224 + 1) 0 d
  ports.foldl (fun (s : State) p => fl.foldl (fun (s : State) b => s.sendCdata p b owner) s) s

/-- A stream from port `p` of which nothing has come. -/
def CollIn.fresh (p : Nat) : CollIn :=
  { port := p, parts := [], last := false, count := 0, sumsq := 0, nonfin := false, split := false, closed := false }

/-- Nothing more is awaited of it. -/
def CollIn.ended (k : CollIn) : Bool := k.last || k.closed

/-- Put bytes at an offset of a fixed run of bytes. -/
def splice (b : Bytes) (off : Nat) (d : Bytes) : Bytes := (b.take off ++ d ++ b.drop (off + d.length)).take b.length

/-- Its first `n` bytes; a void stream is +0 (R375). -/
def CollIn.bytes (k : CollIn) (n : Nat) : Bytes :=
  if k.closed then rep n 0 else k.parts.foldl (fun b e => splice b e.1 e.2) (rep n 0)

/-- What it contributes to the count and to NONFIN. -/
def CollIn.cnt (k : CollIn) : Nat := if k.closed then 0 else k.count
def CollIn.nf (k : CollIn) : Bool := !k.closed && k.nonfin

/-! ### Arithmetic (R78, R373, R374, R377) -/

/-- Element `i` of G16 bytes with bucket exponent `e`, as FP32. -/
def g16At (e : Int) (b : Bytes) (i : Nat) : Nat := enc32 ((FP16.decode (fld b (2 * i) 2)).scale (-e))

/-- The sum of the contributions' elements `i`, in the order given. -/
def g16Sum (e : Int) (cs : List Bytes) (i : Nat) : Nat :=
  match cs with
  | [] => 0
  | b :: bs => bs.foldl (fun a x => add32 a (g16At e x i)) (g16At e b i)

/-- One hop: the combined elements and whether one of them is non-finite (R373). -/
def hop (e : Int) (n : Nat) (cs : List Bytes) : Bytes × Bool :=
  let ss := (upTo 0 (n / 2)).map (g16Sum e cs)
  (ss.flatMap (fun v => natLE 2 (FP16.round ((dec32 v).scale e))), ss.any (fun v => !(dec32 v).isFin))

/-- The sum of squares of a result (R374). -/
def collSumSq (e : Int) (n : Nat) (b : Bytes) : Nat :=
  (upTo 0 (n / 2)).foldl (fun a i => let y := g16At e b i; fma32 y y a) 0

/-- Contributions in ascending node ID: the own node's, and a child's by SLNK_PEER of its port (R373). -/
def State.byNode (s : State) (r : CollRun) : List CollIn :=
  ((s.node, r.own) :: r.kids.map (fun k => (s.field (pSLNK k.port + Off.SLNK_PEER) 14 0, k))).mergeSort
    (fun a b => decide (a.1 ≤ b.1)) |>.map (·.2)

/-- The common count of some counts, 0xFFFF_FFFF standing for an absent one, and whether they differ (R377). -/
def commonCount (l : List Nat) : Nat × Bool :=
  match l.filter (· ≠ 0xFFFFFFFF) with
  | [] => (0xFFFFFFFF, false)
  | c :: cs => (c, cs.any (· ≠ c))

/-! ### Operations -/

/-- The run of core `c` and record `i`, and the runs with one replaced. -/
def State.collRun (s : State) (c i : Nat) : Option CollRun := s.colls.find? (fun r => r.core == c && r.recIx == i)
def State.putColl (s : State) (r : CollRun) : State :=
  { s with colls := s.colls.map (fun x => if x.core = r.core ∧ x.recIx = r.recIx then r else x) }

/-- The link operation of a run is done. -/
def CoreSt.doneLink (x : CoreSt) (i : Nat) (void : Bool) : CoreSt :=
  { x with ferries := x.ferries.map (fun l => l.map (fun o =>
      if o.link && o.recIx == i then { o with issued := true, done := true, voided := o.voided || void } else o)) }

/-- An operation completes on this member. -/
def State.collFinish (s : State) (r : CollRun) (void : Bool) : State :=
  let s := { s with colls := s.colls.filter (fun x => !(x.core == r.core && x.recIx == r.recIx)) }
  s.setCore r.core ((s.core r.core).doneLink r.recIx void)

/-- A REDUCE completes: its entry is recorded (R374, R376). -/
def State.reduceDone (s : State) (r : CollRun) (count sumsq : Nat) (nonfin : Bool) : State :=
  let p := pCOLL (s.treeMaster r.tree)
  let s := s.bump64 p Off.COLL_REDUCE_CNT 1
  let s := if nonfin then s.bump p Off.COLL_NONFIN_CNT 1 else s
  let e : AccEntry := { tree := r.tree, count := count, nonfin := nonfin, sumsq := sumsq }
  (s.setAcc ((s.acc.filter (·.1 ≠ r.stream)) ++ [(r.stream, e)])).collFinish r false

/-- The step summary of R184 with its CRC. -/
def mkSummary (nonfin : Bool) (count step sumsq : Nat) : Bytes :=
  let b := natLE 1 1 ++ natLE 1 (b2n nonfin) ++ natLE 2 0 ++ natLE 4 count ++ natLE 8 step ++ natLE 4 sumsq ++ natLE 8 0
  b ++ natLE 4 (crc32c b)

/-- A SUMMARY completes: the summary is written and the table cleared (R377). -/
def State.summaryDone (s : State) (r : CollRun) (count sumsq : Nat) (nonfin : Bool) : State :=
  let s := if r.hollow then s else s.lbWr r.core (lSlot r.slot).lb (mkSummary nonfin count r.step sumsq)
  s.clearAcc.collFinish r false

/-- This member's tuple of the step, from its table in ascending stream (R377). -/
def State.ownTuple (s : State) (r : CollRun) : CollIn :=
  let es := s.acc.mergeSort (fun a b => decide (a.1 ≤ b.1)) |>.map (·.2)
  let cc := commonCount (es.map (·.count))
  { CollIn.fresh 31 with
    sumsq := (es.filter (fun e => bit (s.tree e.tree) 28)).foldl (fun a e => add32 a e.sumsq) 0,
    nonfin := es.any (·.nonfin), count := cc.1, split := cc.2 || s.collSplit, last := true, parts := r.own.parts }

/-- The combined tuple of a member and its children (R377). -/
def State.joinTuples (s : State) (r : CollRun) : CollIn :=
  let l := s.byNode r
  let cc := commonCount (l.map (·.cnt))
  match l with
  | [] => r.own
  | k :: ks => { CollIn.fresh 31 with
      sumsq := ks.foldl (fun a x => add32 a (if x.closed then 0 else x.sumsq)) (if k.closed then 0 else k.sumsq), nonfin := l.any (·.nf),
      count := cc.1, split := cc.2 || l.any (fun k => !k.closed && k.split) }

/-- A run goes as far as its inputs allow: with its own part and every child's stream it sends to its parent, or
at the root forms the result, sends it down and completes (R373, R374, R377, R379). -/
def State.collAdvance (s : State) (r : CollRun) : State :=
  let x := lSlot r.slot
  let kids := s.treeKids r.tree
  let root := s.treeParent r.tree = 31
  let up := [s.treeParent r.tree]
  if r.sent || !r.kids.all (·.ended) then s
  else if r.op = 0x10 then
    let n := x.bytes
    let e := sext 8 x.exp
    let l := s.byNode r
    let cnt := (l.foldl (fun a k => a + k.cnt) 0) % 2 ^ 32
    let h := hop e n (l.map (fun k => k.bytes n))
    let nf := h.2 || l.any (·.nf)
    if root then
      let ss := collSumSq e n h.1
      let s := s.sendStream kids r.stream (4 + 8 * b2n nf) cnt ss h.1 none
      let s := if r.hollow then s else s.lbWr r.core x.lb h.1
      s.reduceDone r cnt ss nf
    else
      let d := if r.kids.isEmpty then r.own.bytes n else h.1
      (s.sendStream up r.stream (8 * b2n nf) cnt 0 d none).putColl { r with sent := true }
  else if r.op = 0x12 then
    if root then (s.sendStream kids r.stream 4 0 0 [] none).collFinish r false
    else (s.sendStream up r.stream 0 0 0 [] none).putColl { r with sent := true }
  else if r.op = 0x13 then
    let t := s.joinTuples r
    if root then
      let bad := t.split || t.count == 0xFFFFFFFF
      let cnt := if bad then 0 else t.count
      let s := if bad then s.logCorr (pCOLL (s.treeMaster r.tree)) 0x08 else s
      let s := s.sendStream kids r.stream (4 + 8 * b2n t.nonfin + 32 * b2n t.split) cnt t.sumsq [] none
      s.summaryDone r cnt t.sumsq t.nonfin
    else (s.sendStream up r.stream (8 * b2n t.nonfin + 32 * b2n t.split) t.count t.sumsq [] none).putColl { r with sent := true }
  else s

/-- A collective operation ends in error as it starts (R371). -/
def State.collErr (s : State) (c : Nat) (o : SlotOp) (code st : Nat) : State :=
  let p := pCOLL (s.treeMaster (lSlot o.slot).port)
  let s := (s.setRegN (p + Off.COLL_LAST_ERR) (code + o.item % 2 ^ 24 * 256)).itemErr p code o.cmd o.item st
  s.opAbort c 3 o

/-- Another collective operation of the device, started and not complete, names the stream. -/
def State.streamBusy (s : State) (stream : Nat) : Bool :=
  s.cores.any (fun e => (e.2.ferries.getD 3 []).any (fun o =>
    o.link && isColl o.slot && o.issued && !o.done && (lSlot o.slot).stream == stream))

/-- Some REDUCE of the device has neither completed nor failed (R377). -/
def State.reducePending (s : State) : Bool :=
  s.cores.any (fun e => (e.2.ferries.getD 3 []).any (fun o => o.link && fld o.slot 0 1 == 0x10 && !o.done))

/-- The command asks to void non-finite contributions (R375). -/
def State.voidsNonfin (s : State) (cmd : Nat) : Bool :=
  match s.cmd? cmd with
  | some k => k.voidNonfin
  | none => false

/-- This member's contribution to a REDUCE (R373, R375): the state after its voids, and the contribution. -/
def State.ownReduce (s : State) (c : Nat) (o : SlotOp) (x : LSlot) : State × CollIn :=
  let b := s.lbRd c x.lb x.bytes
  let nf := (upTo 0 (x.bytes / 2)).any (fun i => !(FP16.decode (fld b (2 * i) 2)).isFin)
  let bad := !o.hollow && nf && s.voidsNonfin o.cmd
  let void := o.hollow || bad || s.collSticky
  let s := if bad then s.updCmd o.cmd (fun k => if k.voided.contains o.item then k else { k with voided := o.item :: k.voided }) else s
  if void then
    ((s.setField (pCOLL 0 + Off.COLL_STAT) 1 1 1).bump (pCOLL (s.treeMaster x.port)) Off.COLL_VOID_CNT 1,
      { CollIn.fresh 31 with last := true })
  else (s, { CollIn.fresh 31 with parts := [(0, b)], count := 1, nonfin := nf, last := true })

/-- Start the collective operation that the link ferry has taken (R371, R373–R379). -/
def State.collStart (s : State) (c : Nat) (o : SlotOp) (x : LSlot) : State :=
  let g := x.port
  let reads := (x.op = 0x10 ∨ x.op = 0x13 ∨ (x.op = 0x11 ∧ s.treeParent g = 31)) ∧ !o.hollow
  if bit (s.tree g) 30 then s.collErr c o 0x02 Status.VERSION_MISMATCH
  else if !bit (s.tree g) 29 then s.collErr c o 0x03 Status.BAD_COMMAND
  else if s.streamBusy x.stream ∨ (x.op = 0x10 ∧ s.acc.any (·.1 == x.stream)) then s.collErr c o 0x04 Status.BAD_COMMAND
  else if x.op = 0x13 ∧ s.reducePending then s
  else match if reads then s.poisonIn c [(x.lb, x.bytes)] else none with
    | some a => (s.landUE c o a).opFail c 3 o
    | none =>
      let s := s.putOp c 3 { o with issued := true }
      let kids := s.treeKids g
      let run : CollRun := {
        core := c, recIx := o.recIx, cmd := o.cmd, item := o.item, slot := o.slot, hollow := o.hollow, tick := o.tick,
        own := { CollIn.fresh 31 with last := true }, kids := kids.map CollIn.fresh, sent := false, got := 0,
        step := fld (s.lbRd c (x.lb + 8) 8) 0 8 }
      let go := fun (s : State) (r : CollRun) => { s with colls := s.colls ++ [r] }
      match x.op with
      | 0x10 =>
        let w := s.ownReduce c o x
        go (w.1.moved c 3 o x.bytes) { run with own := w.2 }
      | 0x11 =>
        if s.treeParent g ≠ 31 then go s { run with kids := [], sent := true }
        else if o.hollow then
          (s.sendStream kids x.stream 5 0 0 [] none).setCore c ((s.core c).doneLink o.recIx true)
        else
          let t := (s.sendStream kids x.stream 4 0 0 (s.lbRd c x.lb x.bytes) (some (c, o.recIx))).moved c 3 o x.bytes
          if kids.isEmpty then t.setCore c ((t.core c).doneLink o.recIx false) else t
      | 0x13 => go s { run with own := s.ownTuple run }
      | _ => go s run

/-- The rows of the collective operations: the operation in course starts, and the core's runs of the kind go as
far as their inputs allow. -/
def State.collRow (s : State) (c op : Nat) : State :=
  let s := match s.linkOp c op with
    | some (o, x) => s.collStart c o x
    | none => s
  (s.colls.filter (fun r => r.core == c && r.op == op)).foldl (fun (s : State) r => s.collAdvance r) s

/-- COLL_REDUCE (R373–R375): a member sends its contribution; an interior node, once its children's streams are
complete, sends the combined stream; the root returns the result. -/
def execCollReduce (c : CoreIx) (s : State) : Host.Outcome State Fault Refusal := .next (s.collRow c 0x10)

/-- COLL_BCAST (R378): the root sends its bytes down; another member waits for them. -/
def execCollBcast (c : CoreIx) (s : State) : Host.Outcome State Fault Refusal := .next (s.collRow c 0x11)

/-- COLL_BARRIER (R379): a member reports its arrival once its children's have come; the root releases. -/
def execCollBarrier (c : CoreIx) (s : State) : Host.Outcome State Fault Refusal := .next (s.collRow c 0x12)

/-- COLL_SUMMARY (R377): the table's tuple is combined over the tree and the summary written. -/
def execCollSummary (c : CoreIx) (s : State) : Host.Outcome State Fault Refusal := .next (s.collRow c 0x13)

/-! ### Received data (R372, R374, R375, R377–R379) -/

/-- The run that takes a CDATA flit of port `p`: the parent's for a DOWN flit, a child's otherwise. -/
def State.cdataFor (s : State) (p : Nat) (b : Bytes) : Option CollRun :=
  s.colls.find? (fun r => r.stream == fld b 0 2 &&
    (if bit (fld b 3 1) 2 then s.treeParent r.tree == p else r.kids.any (·.port == p)))

/-- A child's flit joins its stream; of a closed stream it is discarded. -/
def CollIn.take (k : CollIn) (b : Bytes) : CollIn :=
  let f := fld b 3 1
  if k.closed then k
  else
    let k := { k with parts := k.parts ++ [(fld b 4 4, (b.drop 16).take (min (fld b 2 1) 224))] }
    if bit f 1 then { k with last := true, count := fld b 8 4, sumsq := fld b 12 4, nonfin := bit f 3, split := bit f 5 } else k

/-- A flit from the parent: forwarded to every child, then landed; with its last the operation completes. -/
def State.takeDown (s : State) (r : CollRun) (b : Bytes) : State :=
  let f := fld b 3 1
  if bit f 4 then s.collAbort r
  else
    let s := (s.treeKids r.tree).foldl (fun (s : State) q => s.sendCdata q b none) s
    let x := lSlot r.slot
    let off := fld b 4 4
    let d := ((b.drop 16).take (min (fld b 2 1) 224)).take (x.bytes - off)
    let lands := decide (r.op = 0x10 ∨ r.op = 0x11) && !bit f 0
    let s := if lands && !r.hollow then s.lbWr r.core (x.lb + off) d else s
    let r' := { r with got := r.got + d.length }
    let s := s.putColl r'
    if r.op = 0x11 then
      if bit f 0 then s.collFinish r' true else if x.bytes ≤ r'.got then s.collFinish r' false else s
    else if !bit f 1 then s
    else if r.op = 0x10 then s.reduceDone r' (fld b 8 4) (fld b 12 4) (bit f 3)
    else if r.op = 0x13 then s.summaryDone r' (fld b 8 4) (fld b 12 4) (bit f 3)
    else s.collFinish r' false

/-- A CDATA flit is the rest of a child's stream that was given up, and no operation awaits that child's stream (R375). -/
def State.collRestOf (s : State) (p : Nat) (b : Bytes) : Bool :=
  !bit (fld b 3 1) 2 && s.collRest.contains (p, fld b 0 2) &&
    !s.colls.any (fun r => r.stream == fld b 0 2 && r.kids.any (fun k => k.port == p && !k.closed))

/-- CDATA_RX (R372, R375): the first received CDATA flit of the port whose operation has started goes to the master
COLL; the rest of a stream that was given up is discarded; other CDATA stay in the VC1 buffer. -/
def execCdataRx (p : PortIx) (s : State) : Host.Outcome State Fault Refusal :=
  .next (match (s.port p).rxq.find? (fun f => f.typ == 0x18 && (s.collRestOf p f.payload || (s.cdataFor p f.payload).isSome)) with
    | none => s
    | some fl => match if s.collRestOf p fl.payload then none else s.cdataFor p fl.payload with
      | none =>
        let t := s.dropRx p fl
        if bit (fld fl.payload 3 1) 1 then { t with collRest := t.collRest.filter (· ≠ (p.val, fld fl.payload 0 2)) } else t
      | some r =>
        let b := fl.payload
        let s := (s.dropRx p fl).bump64 (pCOLL (s.treeMaster r.tree)) Off.COLL_BYTES (min (fld b 2 1) 224)
        let s := if bits (fld b 3 1) 7 6 ≠ 0 then s.rsvd p 1 else s
        if bit (fld b 3 1) 2 then s.takeDown r b
        else
          let r := { r with kids := r.kids.map (fun k => if k.port = p.val then k.take b else k) }
          (s.putColl r).collAdvance r)

/-- COLL_CHILD_TIMEOUT (R375, R379): WAIT ticks after the issue tick a child stream still incomplete is void; a
BARRIER fails. -/
def execCollChildTimeout (c : CoreIx) (s : State) : Host.Outcome State Fault Refusal :=
  .next (match s.colls.find? (fun r => r.core == c.val && !r.kids.all (·.ended) &&
      decide (r.tick + bits (s.tree r.tree) 39 32 ≤ s.now)) with
    | none => s
    | some r =>
      let p := pCOLL (s.treeMaster r.tree)
      let n := (r.kids.filter (fun k => !k.ended)).length
      let s := (s.bump p Off.COLL_TIMEOUT_CNT n).logErr p 0x05 clsCorr (s.itemInfo r.cmd r.item)
      if r.op = 0x12 then s.collAbort r
      else
        let late := (r.kids.filter (fun k => !k.ended)).map (fun k => (k.port, r.stream))
        let s := { s with collRest := s.collRest.filter (fun e => !late.contains e) ++ late }
        let r := { r with kids := r.kids.map (fun k => if k.ended then k else { k with closed := true }) }
        (s.putColl r).collAdvance r)

end Sys2Proof.Machine
end

