-- ==== Sys2Proof/Machine/Matrix.lean ====
section
/-!
DEFINITION. Machine/Matrix.lean: the matrix engine: native and F3 products in the order of R96, the D
modes, MERGE, the epilogue, and the set-state cases (R89–R115, R161–R163, R486).
-/
namespace Sys2Proof.Machine

/-! ### Masks (R161–R163) -/

/-- Bit `t` of a bitmap. -/
def maskBit (b : Bytes) (t : Nat) : Bool := bit ((b.getD (t / 8) 0).toNat) (t % 8)

/-- Row `i` of the output is masked. -/
def rowMasked (m : Option MaskBind) (i : Nat) : Bool :=
  match m with
  | some m => m.rows && maskBit m.bitmap i
  | none => false

/-- Block (rb, cb) is masked. -/
def blockMasked (m : Option MaskBind) (x : MeSlot) (rb cb : Nat) : Bool :=
  match m with
  | some k =>
    if k.rows then (upTo (128 * rb) (min 128 (x.m - 128 * rb))).all (rowMasked m)
    else maskBit k.bitmap (rb * x.cbs + cb)
  | none => false

/-- The mask that binds the operation in course. -/
def State.maskOf (s : State) (c : Nat) : Option MaskBind :=
  match (s.core c).meOps with
  | o :: _ => (s.core c).masks.find? (·.recIx == o.first)
  | [] => none

/-- Output blocks in order, as (row block, column block), masked ones left out. -/
def openBlocks (m : Option MaskBind) (x : MeSlot) : List (Nat × Nat) :=
  ((upTo 0 x.nb).map (fun b => (b / x.cbs, b % x.cbs))).filter (fun b => !blockMasked m x b.1 b.2)

/-- The set that block (rb, cb) uses (R486). -/
def blockSet (x : MeSlot) (b : Nat × Nat) : Nat := (x.set + b.1 * x.cbs + b.2) % 4

def blockRows (x : MeSlot) (b : Nat × Nat) : Nat := min 128 (x.m - 128 * b.1)
def blockCols (x : MeSlot) (b : Nat × Nat) : Nat := min 128 (x.n - 128 * b.2)

/-! ### Operands (R94) -/

/-- Element (i, k) of A. -/
def State.meA (s : State) (c : Nat) (x : MeSlot) (i k : Nat) : FVal :=
  if x.tA then s.rdVal (lbBase c + x.a) x.fa x.k x.m 0 k i else s.rdVal (lbBase c + x.a) x.fa x.m x.k 0 i k

/-- Element (k, j) of B. -/
def State.meB (s : State) (c : Nat) (x : MeSlot) (k j : Nat) : FVal :=
  if x.tB then s.rdVal (lbBase c + x.b) x.fb x.k x.n 0 k j else s.rdVal (lbBase c + x.b) x.fb x.n x.k 0 j k

/-! ### Native and F3 products (R96, R97, R106) -/

/-- The exact sum of the products of chunk `q`. -/
def chunkSum (a b : Nat → FVal) (c K q : Nat) : FVal :=
  match upTo (q * c) (min c (K - q * c)) with
  | [] => .fin false 0 0
  | k :: ks => ks.foldl (fun t k => t.add ((a k).mul (b k))) ((a k).mul (b k))

/-- One output element in an FP32 accumulator, from `acc0` (R96). -/
def cellFloat (a b : Nat → FVal) (c K acc0 : Nat) : Nat :=
  (upTo 0 (ceilDiv K c)).foldl (fun acc q => enc32 ((dec32 acc).add (chunkSum a b c K q))) acc0

/-- An integer within INT32, and whether it had to saturate (R97). -/
def sat32 (v : Int) : Int × Bool :=
  if v < -(2 ^ 31 : Int) then (-(2 ^ 31 : Int), true) else if (2 ^ 31 : Int) - 1 < v then ((2 ^ 31 : Int) - 1, true)
  else (v, false)

/-- The integer of an exact integer value. -/
def FVal.toInt : FVal → Int
  | .fin s m e => intAt s m e 0
  | _ => 0

/-- One output element in an INT32 accumulator (R97): the sum and whether it saturated. -/
def cellInt (a b : Nat → FVal) (c K acc0 : Nat) : Nat × Bool :=
  let r := (upTo 0 (ceilDiv K c)).foldl (fun (t : Int × Bool) q =>
    let n := sat32 (t.1 + (chunkSum a b c K q).toInt)
    (n.1, t.2 || n.2)) (sext 32 acc0, false)
  (unsext 32 r.1, r.2)

/-- The BF16 split of an FP32 value (R106). -/
def split3 (v : FVal) : FVal × FVal :=
  if !v.isFin then (v, .fin false 0 0)
  else
    let p := BF16.round v
    let p := if BF16.maxMag < p % 2 ^ 15 then BF16.signBit v.isNeg + BF16.maxMag else p
    let hi := BF16.decode p
    (hi, BF16.decode (BF16.round (v.sub hi)))

/-- One output element of F3 (R106). -/
def cellF3 (a b : Nat → FVal) (K acc0 : Nat) : Nat :=
  (upTo 0 K).foldl (fun acc k =>
    let x := split3 (a k)
    let y := split3 (b k)
    let st := fun acc p => enc32 ((dec32 acc).add p)
    st (st (st acc (x.1.mul y.1)) (x.1.mul y.2)) (x.2.mul y.1)) acc0

/-- Cell (i, j) of a set; a cell outside the rows and columns it was filled in received only zero operands. -/
def AccSet.cell (a : AccSet) (i j : Nat) : Nat := if i < a.rows ∧ j < a.cols then a.vals.getD (i * a.cols + j) 0 else 0

/-- The value a cell starts from when a set is continued: the held one, or a free value of it where the set is of the
other kind, for which the manual states none. -/
def heldCell (a : AccSet) (int32 : Bool) (i j : Nat) : Nat :=
  if a.int32 = int32 then a.cell i j else Config.heldAs int32 i j (a.cell i j) % 2 ^ 32

/-- `rs` rows of `cs` cells, each formed by `f` on its row and column. -/
def cellsOf (int32 : Bool) (rs cs : Nat) (f : Nat → Nat → Nat × Bool) : AccSet × Nat :=
  let l := (upTo 0 rs).flatMap (fun i => (upTo 0 cs).map (f i))
  ({ int32 := int32, rows := rs, cols := cs, vals := l.map (·.1) }, (l.filter (·.2)).length)

/-- The product of block `b` into its set (R96, R97, R106), and how many cells saturated. A continued set keeps the
cells beyond the block, which receive only zero operands (R98). -/
def State.mmaBlock (s : State) (c : Nat) (x : MeSlot) (b : Nat × Nat) : AccSet × Nat :=
  let held := s.accSet c (blockSet x b)
  let rs := blockRows x b
  let cs := blockCols x b
  cellsOf x.int8 (if x.clear then rs else max rs held.rows) (if x.clear then cs else max cs held.cols) (fun i j =>
    let a := fun k => if i < rs then s.meA c x (128 * b.1 + i) k else .fin false 0 0
    let w := fun k => if j < cs then s.meB c x k (128 * b.2 + j) else .fin false 0 0
    let acc0 := if x.clear then 0 else heldCell held x.int8 i j
    if x.arith = 1 then (cellF3 a w x.k acc0, false)
    else if x.int8 then cellInt a w (x.chunk.getD 1) x.k acc0
    else (cellFloat a w (x.chunk.getD 1) x.k acc0, false))

/-! ### The epilogue (R102–R105) -/

/-- The element before its conversion: scale and bias, tile and function. -/
def State.epilogue (s : State) (c : Nat) (x : MeSlot) (int32 : Bool) (acc i j : Nat) : FVal :=
  let z := if int32 then enc32 (FVal.ofInt (sext 32 acc) 0) else acc
  let z :=
    if x.scaleEn || x.biasEn then
      let sc := if x.scaleEn then s.rd32 (lbBase c + x.sb + 4 * j) else one32
      let bi := if x.biasEn then s.rd32 (lbBase c + x.sb + roundUp (4 * x.n) 64 + 4 * j) else 0
      fma32 sc z bi
    else z
  let t := s.rdVal (lbBase c + x.t) x.tf x.m x.n 0 i j
  let top := fun z => match x.top with
    | 1 => enc32 ((dec32 z).add t)
    | 2 => enc32 ((dec32 z).mul t)
    | _ => z
  dec32 (if x.order then actFn x.f (top z) x.param else top (actFn x.f z x.param))

/-- A row of a block through the drain path: the values to convert; an INT32 output copies the accumulator. -/
def State.drainRow (s : State) (c : Nat) (x : MeSlot) (a : AccSet) (b : Nat × Nat) (i : Nat) : List FVal :=
  (upTo 0 (blockCols x b)).map (fun j =>
    let acc := a.cell i j
    if x.out = 0x10 then FVal.ofInt (sext 32 acc) 0
    else s.epilogue c x a.int32 acc (128 * b.1 + i) (128 * b.2 + j))

/-- The running sum of squares over a row's outputs as written (R104). -/
def sumSq (ss : Nat) (ys : List FVal) : Nat := ys.foldl (fun t y => enc32 ((dec32 t).add (y.mul y))) ss

/-- Drain block `b` from set `a`: each unmasked row is converted and written; the running sums of squares
of the block's rows go on. -/
def drainBlock (c : Nat) (x : MeSlot) (m : Option MaskBind) (b : Nat × Nat) (a : AccSet) (t : State × List Nat) :
    State × List Nat :=
  (upTo 0 (blockRows x b)).foldl (fun (t : State × List Nat) i =>
    let r := 128 * b.1 + i
    if rowMasked m r then t
    else
      let vs := t.1.drainRow c x a b i
      (t.1.wrRun (lbBase c + x.o) x.out x.m x.n x.gexp r (128 * b.2) vs,
        t.2.set i (sumSq (t.2.getD i 0) (asWritten x.out x.gexp vs)))) t

/-- Write the sums of squares of row block `rb`, masked rows left out (R104, R163). -/
def writeSS (c : Nat) (x : MeSlot) (m : Option MaskBind) (rb : Nat) (t : State × List Nat) : State :=
  if x.sumsq then
    (upTo 0 (min 128 (x.m - 128 * rb))).foldl (fun s i =>
      if rowMasked m (128 * rb + i) then s else s.wrNat (lbBase c + x.ss + 4 * (128 * rb + i)) 4 (t.2.getD i 0)) t.1
  else t.1

/-- Per row block, in order: form each open block by `get` and drain it; its set becomes EMPTY. DESIGN CHOICE (log
entry 68): where an output overlaps the operation's own operands or tile, a later block reads what an earlier one
drained (R96 does not say). -/
def State.drainAll (s : State) (c : Nat) (x : MeSlot) (get : State → Nat × Nat → AccSet × Nat) : State :=
  let m := s.maskOf c
  (upTo 0 x.rbs).foldl (fun s rb =>
    let bs := (openBlocks m x).filter (·.1 == rb)
    let t := bs.foldl (fun (t : State × List Nat) b =>
      let g := get t.1 b
      let t := (t.1.bump (pME c) Off.ME_SAT_CNT g.2, t.2)
      let t := drainBlock c x m b g.1 t
      (t.1.putSet c (blockSet x b) 0 AccSet.empty, t.2)) (s, rep 128 0)
    if bs.isEmpty then t.1 else writeSS c x m rb t) s

/-- ACTIVE and DRAIN cycles of the operation (R99). -/
def State.meCycles (s : State) (c active drain : Nat) : State :=
  (s.bump64 (pME c) Off.ME_ACTIVE_CYC active).bump64 (pME c) Off.ME_DRAIN_CYC drain

/-- A native or F3 MMA (R96, R102, R106). -/
def State.mmaRun (s : State) (c : Nat) (x : MeSlot) : State :=
  let bs := openBlocks (s.maskOf c) x
  let s := s.meCycles c (bs.length * x.kc) (if x.drain then bs.length * 128 else 0)
  if x.drain then s.drainAll c x (fun t b => t.mmaBlock c x b)
  else bs.foldl (fun s b =>
    let g := s.mmaBlock c x b
    (s.putSet c (blockSet x b) 2 g.1).bump (pME c) Off.ME_SAT_CNT g.2) s

/-- ME_MMA (R96, R97, R102): a native product. -/
def execMeMma (c : CoreIx) (s : State) : Host.Outcome State Fault Refusal :=
  .next (s.meRow c (fun _ x => x.op == 1 && x.arith == 0) (fun s _ x => s.mmaRun c x))

/-- ME_MMA_F3 (R106): an FP32 product of three BF16 products per k. -/
def execMeMmaF3 (c : CoreIx) (s : State) : Host.Outcome State Fault Refusal :=
  .next (s.meRow c (fun _ x => x.op == 1 && x.arith == 1) (fun s _ x => s.mmaRun c x))

/-! ### MERGE and DRAIN (R101, R114) -/

/-- Partial `p` added to every open block's set (R101). -/
def State.mergePart (s : State) (c : Nat) (x : MeSlot) (p : Nat) : State :=
  (openBlocks (s.maskOf c) x).foldl (fun s b =>
    let q := blockSet x b
    let a := s.accSet c q
    let base := lbBase c + x.a + 65536 * (p * x.nb + b.1 * x.cbs + b.2)
    let rs := max a.rows (blockRows x b)
    let cs := max a.cols (blockCols x b)
    let vals := (upTo 0 rs).flatMap (fun i => (upTo 0 cs).map (fun j =>
      add32 (heldCell a false i j) (if i < blockRows x b ∧ j < blockCols x b then s.rd32 (base + 4 * (128 * i + j)) else 0)))
    s.putSet c q 1 { int32 := false, rows := rs, cols := cs, vals := vals }) s

/-- The merged sets are HELD again. -/
def State.mergeEnd (s : State) (c : Nat) (x : MeSlot) : State :=
  (openBlocks (s.maskOf c) x).foldl (fun s b => s.setSetState c (blockSet x b) 2) s

/-- Every partial of a FIRST-COME MERGE has been added. -/
def CoreSt.allMerged (y : CoreSt) (x : MeSlot) : Bool := decide (x.parts ≤ y.merged.length)

/-- What ME_MERGE writes (R101): a native MERGE in FIXED order adds its one partial; in FIRST-COME order it ends when
every partial has been added. -/
def State.mergeRun (s : State) (c : Nat) (x : MeSlot) : State :=
  if x.first then (s.bump (pME c) Off.ME_FC_CNT 1).mergeEnd c x else (s.mergePart c x 0).mergeEnd c x

/-- ME_MERGE: its operation runs. -/
def execMeMerge (c : CoreIx) (s : State) : Host.Outcome State Fault Refusal :=
  .next (s.meRow c (fun _ x => x.op == 2 && !x.dmode && (!x.first || (s.core c).allMerged x)) (fun s _ x => s.mergeRun c x))

/-- The next partial of a FIRST-COME MERGE: the flag set first among those not yet added; flags set
together count in ascending order (R101). -/
def CoreSt.nextPartial (y : CoreSt) (x : MeSlot) : Option Nat :=
  (y.flagOrder.find? (fun f => decide (x.flag0 ≤ f ∧ f < x.flag0 + x.parts) && !bit y.fresh f && !y.merged.contains (f - x.flag0))).map
    (· - x.flag0)

/-- ME_MERGE_PARTIAL (R101, R111): in FIRST-COME order a partial whose flag is set is added. A flag set with
poison makes the operation hollow, as a waited flag would (R58). -/
def execMeMergePartial (c : CoreIx) (s : State) : Host.Outcome State Fault Refusal :=
  .next (match (s.core c).meOps with
    | [] => s
    | o :: _ =>
      let x := meSlot o.slot
      if o.begun && !o.done && !o.hollow && x.op == 2 && x.first then
        match (s.core c).nextPartial x with
        | none => s
        | some p =>
          if bit (s.flagPoison c) (x.flag0 + p) then
            (s.failItem o.cmd o.item Status.ABORTED).setMeOp c { o with done := true, hollow := true }
          else
            let s := s.setCore c { s.core c with merged := (s.core c).merged ++ [p] }
            if x.dmode then s
            else match s.poisonIn c [(x.a + 65536 * p * x.nb, 65536 * x.nb)] with
              | some a => (s.landUE c o a).setMeOp c { o with done := true }
              | none => s.mergePart c x p
      else s)

/-- What ME_DRAIN writes (R102, R105): held sets leave through the drain path and become EMPTY. -/
def State.drainRun (s : State) (c : Nat) (x : MeSlot) : State :=
  (s.meCycles c 0 ((openBlocks (s.maskOf c) x).length * 128)).drainAll c x (fun t b => (t.accSet c (blockSet x b), 0))

/-- ME_DRAIN: its operation runs. -/
def execMeDrain (c : CoreIx) (s : State) : Host.Outcome State Fault Refusal :=
  .next (s.meRow c (fun _ x => x.op == 3) (fun s _ x => s.drainRun c x))

/-! ### D modes (R108–R111) -/

/-- FP64 element (i, k) of a D-mode operand. -/
def State.d64 (s : State) (c : Nat) (x : MeSlot) (i k : Nat) : FVal := s.rdVal (lbBase c + x.a) 0 x.m x.k 0 i k

/-- The exponent-vector entry of a row (R108), as 16 bits. -/
def dEntry (vs : List FVal) : Nat :=
  if vs.any (fun v => !v.isFin) then 0x7FFF
  else
    let m := vs.foldl maxAbs (.fin false 0 0)
    if m.isZero then 0x8000 else unsext 16 (m.expo + 1)

/-- What ME_DSCAN writes (R108): the exponent vector of an operand's rows. -/
def State.dscanRun (s : State) (c : Nat) (x : MeSlot) : State :=
  (upTo 0 x.m).foldl (fun t i => t.wrNat (lbBase c + x.o + 2 * i) 2 (dEntry ((upTo 0 x.k).map (s.d64 c x i)))) s

/-- ME_DSCAN: its operation runs. -/
def execMeDscan (c : CoreIx) (s : State) : Host.Outcome State Fault Refusal :=
  .next (s.meRow c (fun _ x => x.op == 4) (fun s _ x => s.dscanRun c x))

/-- Slice `p` of a value under exponent entry `e` with `n` slices (R109). -/
def dSlice (n e p : Nat) : FVal → Int
  | .fin s m g =>
    if e = 0x8000 ∨ e = 0x7FFF then 0
    else
      let (a, b) := scaleRat m 1 (g + 7 * n - sext 16 e)
      let v : Int := (a / b / 2 ^ (7 * (n - p)) % 128 : Nat)
      if s then -v else v
  | _ => 0

/-- Slice `p` of an element (R109). A non-finite element in a row whose entry is neither 0x8000 nor 0x7FFF has no
stated slices. -/
def sliceByte (n e p : Nat) (v : FVal) : Byte :=
  if v.isFin ∨ e = 0x8000 ∨ e = 0x7FFF then BitVec.ofInt 8 (dSlice n e p v)
  else Config.sliceOf n e p (match v with | .inf s => if s then 2 else 1 | _ => 0)

/-- What ME_DSLICE writes (R109): the INT8 slice planes of an operand. -/
def State.dsliceRun (s : State) (c : Nat) (x : MeSlot) : State :=
  let e := fun i => s.rdNat (lbBase c + x.sb + 2 * i) 2
  let plane := x.m * pitch 7 x.k
  (upTo 1 x.slices).foldl (fun t p => (upTo 0 x.m).foldl (fun t i =>
    t.wrBytes (lbBase c + x.o + (p - 1) * plane + i * pitch 7 x.k) ((upTo 0 x.k).map (fun k =>
      sliceByte x.slices (e i) p (s.d64 c x i k)))) t) s

/-- ME_DSLICE: its operation runs. -/
def execMeDslice (c : CoreIx) (s : State) : Host.Outcome State Fault Refusal :=
  .next (s.meRow c (fun _ x => x.op == 5) (fun s _ x => s.dsliceRun c x))

/-- INT8 element (i, k) of slice plane `p` at LB offset `a`, of `rows` rows of `K`. -/
def State.plane (s : State) (c a rows K p i k : Nat) : Int :=
  sext 8 (s.rd8 (lbBase c + a + (p - 1) * (rows * pitch 7 K) + i * pitch 7 K + k)).toNat

/-- F(i, j) of R110. -/
def State.dSum (s : State) (c : Nat) (x : MeSlot) (i j : Nat) : Int :=
  (upTo 2 x.slices).foldl (fun f n => (upTo 1 (n - 1)).foldl (fun f p =>
    let l := (upTo 0 x.k).foldl (fun (t : Int) k =>
      t + s.plane c x.a x.m x.k p i k * s.plane c x.b x.n x.k (n - p) j k) 0
    f + l * 2 ^ (64 - 7 * n)) f) 0

/-- The rounded result of R110 from F and the two exponent entries. -/
def dResult (f : Int) (ei ej : Nat) : FVal :=
  if ei = 0x7FFF ∨ ej = 0x7FFF then .nan
  else if ei = 0x8000 ∨ ej = 0x8000 then .fin false 0 0
  else FVal.ofInt f (sext 16 ei + sext 16 ej - 64)

/-- Address of a D partial's element, in the partial at LB offset `a` (R111). -/
def dPart (c a n i j : Nat) : Nat := lbBase c + a + i * roundUp (16 * n) 64 + 16 * j

/-- Write a D-mode output element by element from F: rounded with DRAIN, as a D partial without (R110,
R111). The combine store holds the block's sums. -/
def State.dWrite (s : State) (c : Nat) (x : MeSlot) (f : Nat → Nat → Int) : State :=
  let ei := fun i => s.rdNat (lbBase c + x.sb + 2 * i) 2
  let ej := fun j => s.rdNat (lbBase c + x.sb + roundUp (2 * x.m) 64 + 2 * j) 2
  let s := (upTo 0 x.m).foldl (fun t i =>
    if x.drain then
      t.wrRun (lbBase c + x.o) x.out x.m x.n 0 i 0 ((upTo 0 x.n).map (fun j => dResult (f i j) (ei i) (ej j)))
    else (upTo 0 x.n).foldl (fun t j => t.wrNat (dPart c x.o x.n i j) 16 (unsext 128 (f i j))) t) s
  s.setCore c { s.core c with dstore := (upTo 0 (min 128 x.m)).flatMap (fun i => (upTo 0 (min 128 x.n)).map (f i)) }

/-- What ME_MMA_D writes (R110, R111): the slice products combined exactly and rounded once, or left as a D partial.
DESIGN CHOICE (log entry 68): ME_DRAIN_CYC counts each block's final drain W (of a MERGE its R113 cycles) and not the
passes that drain into the combine store. -/
def State.mmaDRun (s : State) (c : Nat) (x : MeSlot) : State :=
  let w := if x.drain then (if x.out = 0 then 256 else 128) else 512
  (s.meCycles c (x.nb * (x.slices * (x.slices + 1) / 2) * x.kc) (x.nb * w)).dWrite c x (s.dSum c x)

/-- ME_MMA_D: its operation runs. -/
def execMeMmaD (c : CoreIx) (s : State) : Host.Outcome State Fault Refusal :=
  .next (s.meRow c (fun _ x => x.op == 1 && x.dmode) (fun s _ x => s.mmaDRun c x))

/-- The 128-bit sum of a D-mode MERGE's base and partials (R111). -/
def State.dMerged (s : State) (c : Nat) (x : MeSlot) (i j : Nat) : Int :=
  sext 128 ((upTo 0 x.parts).foldl (fun t p => t + s.rdNat (dPart c (x.a + p * x.zBytes) x.n i j) 16)
    (s.rdNat (dPart c x.b x.n i j) 16))

/-- What ME_MERGE_D writes (R111): D partials added exactly; a partial or the rounded result is written. In FIRST-COME
order it ends when every partial has come. -/
def State.mergeDRun (s : State) (c : Nat) (x : MeSlot) : State :=
  let s := if x.first then s.bump (pME c) Off.ME_FC_CNT 1 else s
  (s.meCycles c 0 (x.parts * x.nb * 512)).dWrite c x (s.dMerged c x)

/-- ME_MERGE_D: its operation runs. -/
def execMeMergeD (c : CoreIx) (s : State) : Host.Outcome State Fault Refusal :=
  .next (s.meRow c (fun _ x => x.op == 2 && x.dmode && (!x.first || (s.core c).allMerged x)) (fun s _ x => s.mergeDRun c x))

/-! ### The start of an operation (R114) -/

/-- The set states an ME operation meets at its start allow it (R114). -/
def State.setsOk (s : State) (c : Nat) (x : MeSlot) : Bool :=
  let need := (x.op == 1 && !x.dmode && !x.clear) || (x.op == 2 && !x.dmode) || x.op == 3
  (openBlocks (s.maskOf c) x).all (fun b =>
    let q := blockSet x b
    (!need || s.setState c q == 2) && !(x.op == 3 && x.out == 0x10 && !(s.accSet c q).int32))

/-- The ME begins the first of its operations: the set states are checked and shown; an operation they
refuse issues hollow and its item fails (R114). A D-mode product takes all four sets (R113); DESIGN CHOICE (log entry
68): the combine store counts as holding a block (DSTORE_BUSY) during a D-mode product and a D-mode MERGE (R110). -/
def State.meBegin (s : State) (c : Nat) (o : SlotOp) : State :=
  let x := meSlot o.slot
  if s.setsOk c x then
    let s := s.setMeOp c { o with begun := true }
    let st := s.regN (pME c + Off.ME_STAT)
    let st := setBits (setBits (setBits st 8 8 1) 9 9 (b2n (x.dmode && (x.op == 1 || x.op == 2)))) 26 16 (x.op + x.arith * 256)
    let s := s.setRegN (pME c + Off.ME_STAT) st
    if x.dmode then (if x.op = 1 then (upTo 0 4).foldl (fun s q => s.putSet c q 1 AccSet.empty) s else s)
    else (openBlocks (s.maskOf c) x).foldl (fun s b => s.setSetState c (blockSet x b) (if x.op = 3 then 3 else 1)) s
  else (s.meErr c 0x01 o Status.BAD_COMMAND).setMeOp c { o with begun := true, done := true, hollow := true }

end Sys2Proof.Machine
end

