-- ==== Sys2Proof/Machine/Seq.lean ====
section
/-!
DEFINITION. Machine/Seq.lean: the sequencer: running timetables, load checks, issuing sailings, starting
engines, completing sailings, signals, and the end of items (R45–R59, R65, R120, R143, R162, R323).
-/
namespace Sys2Proof.Machine

/-- SEQ_STATE.STATE set. -/
def State.setSeq (s : State) (c v : Nat) : State := s.setField (pSEQ c + Off.SEQ_STATE) 2 0 v

/-! ### Running timetables (R323, R46–R48) -/

/-- Core entries of a RUN_TIMETABLE: core index and timetable address; the rest is reserved and ignored (R13). -/
def State.coreTable (s : State) (table n : Nat) : List (Nat × Nat) :=
  (upTo 0 n).map (fun i =>
    let b := s.rdBytes (table + 16 * i) 16
    (fld b 0 2, fld b 8 8))

/-- Cores that a RUN_TIMETABLE's cargo and table name. -/
def State.ttEntries (s : State) (table : Nat) (cargo : Bytes) : List (Nat × Nat) := s.coreTable table (fld cargo 2 2)

/-- The rules of R323 on a command's cargo and core table. -/
def State.ttCmdOk (s : State) (table : Nat) (cargo : Bytes) : Bool :=
  let l := s.ttEntries table cargo
  decide (1 ≤ fld cargo 2 2 ∧ fld cargo 2 2 ≤ 256 ∧ fld cargo 1 1 = 0 ∧ fld cargo 4 4 = 0) && l.all (fun e => decide (e.1 ≤ 255))
  && allDistinct (l.map (·.1))

/-- RUN_TIMETABLE (R323): each named core, all of them IDLE, begins to read its timetable. -/
def execRunTimetable (cmd : Nat) (s : State) : Host.Outcome State Fault Refusal :=
  .next (match s.fresh cmd 0x0001 with
    | none => s
    | some k =>
      let l := s.ttEntries k.table k.cargo
      if s.outDown k.table then ((s.logDown k.table).beginCmd cmd).failAll cmd Status.MEM_UE
      else if s.anyPoison k.table (16 * l.length) then (s.beginCmd cmd).failAll cmd Status.MEM_UE
      else if !s.ttCmdOk k.table k.cargo then (s.beginCmd cmd).failAll cmd Status.BAD_COMMAND
      else if !l.all (fun e => s.seqIdle e.1) then s
      else l.foldl (fun (s : State) e =>
        let run : TimetableRun := {
          cmd := cmd, bytes := [], poisoned := false, start := k.start, first := 0, pos := 0, issues := 0, enq := [],
          lastTick := none, read := false, refused := none, checked := false }
        ((s.setCore e.1 { s.core e.1 with tt := some run }).setRegN (pSEQ e.1 + Off.SEQ_TT_ADDR) e.2).setRegN
          (pSEQ e.1 + Off.SEQ_STATE) 1) (s.beginCmd cmd))

/-- The record before and after record `i` of `n`. -/
def ttPrev (b : Bytes) (i : Nat) : Option Bytes := if i = 0 then none else some (ttRec b (i - 1))
def ttNext (b : Bytes) (i : Nat) : Option Bytes := if i + 1 < ttCount b then some (ttRec b (i + 1)) else none

/-- The largest tick offset plus repeat count. -/
def ttSpan (b : Bytes) : Nat := ((upTo 0 (ttCount b)).map (fun i => recOffset (ttRec b i) + recRepeat (ttRec b i))).foldl max 0

/-- The load checks of R47 on a timetable at address `a` for core `c`, in their order: the status of the first
that fails. -/
def State.loadCheck (s : State) (c a items : Nat) : Option Nat :=
  let hdr := s.rdBytes a 64
  let n := ttCount hdr
  let len := 64 + 256 * n
  let w := fld hdr
  if !s.mappedMem a 64 || !s.mappedMem a len then some Status.BAD_COMMAND
  else if s.outDown a || s.anyPoison a len then some Status.MEM_UE
  else
    let b := s.rdBytes a len
    let recs := upTo 0 n
    let zeroed := b.take 0x3C ++ natLE 4 0 ++ b.drop 0x40
    if w 0 4 ≠ 0x42545457 ∨ w 0x3C 4 ≠ crc32c zeroed ∨ n = 0 ∨ 16777216 < n ∨ w 0x14 4 ≠ ttSpan b then some Status.BAD_COMMAND
    else if w 4 2 ≠ 0x0100 || recs.any (fun i => fld (ttRec b i) 0 1 != 1) then some Status.VERSION_MISMATCH
    else if w 0x0A 2 ≠ 1 ∨ (s.field (pSLNK 0 + Off.SLNK_PIN) 15 0 ≠ 0 ∧ s.field (pSLNK 0 + Off.SLNK_PIN) 15 0 ≠ w 0x0A 2) then
      some Status.VERSION_MISMATCH
    else if cycleBudget s.pmode < w 8 2 then some Status.BUDGET_EXCEEDED
    else if w 8 2 < cycleBudget s.pmode then some Status.BAD_COMMAND
    else if w 0x10 2 ≠ 0xFFFF ∧ w 0x10 2 ≠ c then some Status.BAD_COMMAND
    else if w 0x12 1 ≠ 0 ∧ w 0x12 1 ≠ (if s.elastic then 2 else 1) then some Status.BAD_COMMAND
    else if !recs.all (fun i => recOk (w 8 2) (bit (w 6 2) 0) (ttPrev b i) (ttNext b i) (ttRec b i) &&
        decide (recItem (ttRec b i) < items)) then some Status.BAD_COMMAND
    else none

/-- Cores that run timetables of a command, ascending. -/
def State.ttCores (s : State) (cmd : Nat) : List (Nat × TimetableRun) :=
  s.cores.filterMap (fun e => match e.2.tt with
    | some t => if t.cmd = cmd then some (e.1, t) else none
    | none => none)

/-- A core's timetable ends: its SEQ is IDLE (R90, R176). -/
def State.ttEnd (s : State) (c : Nat) : State :=
  let s := (s.discardSets c).slipLeftover c
  (s.setCore c { s.core c with tt := none, masks := [] }).setRegN (pSEQ c + Off.SEQ_STATE) 0

/-- The load checks of every named core are finished: all run, or none (R47, R48). -/
def State.ttDecide (s : State) (cmd : Nat) : State :=
  let l := s.ttCores cmd
  if !l.all (·.2.read) then s
  else
    let stop := fun (s : State) st => l.foldl (fun (s : State) e => s.ttEnd e.1) (s.failAll cmd st)
    match l.findSome? (·.2.refused) with
    | some st => stop s st
    | none =>
      match s.cmd? cmd with
      | none => s
      | some k =>
        if k.start ≠ 0 ∧ k.start ≤ s.now then stop s Status.TICK_OVERRUN
        else
          let n := if k.start = 0 then s.now + 1 else k.start
          l.foldl (fun (s : State) e =>
            ((s.setCore e.1 { s.core e.1 with tt := some { e.2 with start := n, first := s.now + 1, checked := true } }).setRegN
              (pSEQ e.1 + Off.SEQ_START_TICK) n).setSeq e.1 2) s

/-- TIMETABLE_LOAD_CHECK (R47, R48): the SEQ has read its timetable once; a refusal is logged on its page. -/
def execTimetableLoadCheck (c : CoreIx) (s : State) : Host.Outcome State Fault Refusal :=
  .next (match (s.core c).tt with
    | none => s
    | some t =>
      if t.read then s
      else match s.cmd? t.cmd with
        | none => s
        | some k =>
          let a := s.regN (pSEQ c + Off.SEQ_TT_ADDR)
          let r := s.loadCheck c a k.items
          let b := if r.isNone then s.rdBytes a (64 + 256 * ttCount (s.rdBytes a 64)) else []
          let s := s.setCore c { s.core c with tt := some { t with bytes := b, read := true, refused := r } }
          let s := match r with
            | some st => s.logErr (pSEQ c) (Config.seqCode st % 256) clsItem { LogInfo.none with tag := some k.tag }
            | none => s
          s.ttDecide t.cmd)

/-! ### Issuing (R49–R53, R58) -/

/-- Tick in which the record in course next issues. -/
def TimetableRun.nextTick (t : TimetableRun) : Nat := t.tickOf t.pos + t.issues

/-- Some operation of the ME has record `r`. -/
def State.meHas (s : State) (c r : Nat) : Bool := (s.core c).meOps.any (·.recIx == r)

/-- An engine operation of a record. -/
def engineOp (t : TimetableRun) (i tick u : Nat) (slot : Bytes) : SlotOp :=
  { cmd := t.cmd, item := recItem (ttRec t.bytes i), recIx := i, first := i, tick := tick, unit := u, slot := slot, hollow := false,
    begun := false, done := false, step := 0, moved := 0, refetch := none, retried := [], issued := false, rgen := [], live := [],
    jobs := [], ring := 0, link := false, voided := false, signalled := false }

/-- The first issue of a record: its sailing and its engine operations. A continuing ME operation takes the new
record's number. -/
def State.firstIssue (s : State) (c : Nat) (t : TimetableRun) : State :=
  let i := t.pos
  let r := ttRec t.bytes i
  let tick := t.nextTick
  let hollow := s.recFailed t i
  let cont := recContIn r
  let has := fun (b : Bytes) => fld b 0 1 != 0
  let x := s.core c
  let meOps :=
    if cont then
      if hollow then x.meOps.filter (fun o => o.recIx + 1 ≠ i)
      else x.meOps.map (fun o => if o.recIx + 1 = i then { o with recIx := i } else o)
    else if !hollow && has (recMe r) then x.meOps ++ [engineOp t i tick 0 (recMe r)] else x.meOps
  let ve := fun u => if !hollow && has (recVe r u) then [engineOp t i tick u (recVe r u)] else []
  let run : SailingRun := {
    cmd := t.cmd, item := recItem r, recIx := i, tick := tick, last := tick + recRepeat r - 1, bytes := r, hollow := hollow,
    waited := hollow, me := !hollow && has (recMe r) && meOps.any (·.recIx == i), ve0 := !hollow && has (recVe r 0),
    ve1 := !hollow && has (recVe r 1), extended := false }
  let s := s.setCore c { x with sailings := x.sailings ++ [run], meOps := meOps, veOps := x.veOps ++ ve 0 ++ ve 1 }
  let s := s.updCmd t.cmd (·.run (recItem r))
  if hollow && recConsume r then s.clearFlags c (recWait r) else s

/-- The next issue of the record in course is hollow: its sailing is, or has left and its item has failed (R58). -/
def State.issueHollow (s : State) (c : Nat) (t : TimetableRun) : Bool :=
  let l := (s.core c).sailings
  l.any (fun x => x.recIx == t.pos && x.hollow) || (!l.any (fun x => x.recIx == t.pos) && s.recFailed t t.pos)

/-- SAILING_ISSUE (R49, R50, R58): in its tick the record in course issues; the first issue makes the sailing,
hollow if its item has failed. -/
def execSailingIssue (c : CoreIx) (s : State) : Host.Outcome State Fault Refusal :=
  .next (match (s.core c).tt with
    | none => s
    | some t =>
      if !t.checked || decide (ttCount t.bytes ≤ t.pos) || decide (s.now < t.nextTick) || t.lastTick == some s.now then s
      else
        let r := ttRec t.bytes t.pos
        let s := if t.issues = 0 then s.firstIssue c t else s
        let hollow := s.issueHollow c t
        let last := decide (recRepeat r ≤ t.issues + 1)
        let t' := { t with pos := if last then t.pos + 1 else t.pos, issues := if last then 0 else t.issues + 1, lastTick := some s.now }
        let allHollow := hollow && t'.unissued.all (s.recFailed t)
        let s := s.setCore c { s.core c with tt := some t' }
        let s := if hollow then s.bump (pSEQ c) Off.SEQ_HOLLOW_CNT 1 else s
        let s := s.setRegN (pSEQ c + Off.SEQ_POS) t.pos
        let st := if ttCount t.bytes ≤ t'.pos then 5 else if allHollow then 4 else 3
        let s := s.setRegN (pSEQ c + Off.SEQ_STATE) (st + b2n (s.recFailed t t.pos) * 8 + recItem r * 256)
        s.checkWaits c)

/-! ### Engines (R54, R91, R119, R120, R162, R227) -/

/-- The sailing of a record. -/
def State.sailing (s : State) (c r : Nat) : Option SailingRun := (s.core c).sailings.find? (·.recIx == r)

/-- Drop the first ME or VE operation: its sailing issues hollow (R58). -/
def State.dropMe (s : State) (c : Nat) (o : SlotOp) : State :=
  (s.setCore c { s.core c with
    meOps := (s.core c).meOps.tail, masks := (s.core c).masks.filter (·.recIx ≠ o.first) }).opEnded c o true 0
def State.dropVe (s : State) (c : Nat) (o : SlotOp) : State :=
  (s.setCore c { s.core c with veOps := (s.core c).veOps.tail }).opEnded c o false o.unit

/-- The GMASK of the record in which an ME operation began, if it has one, has ended (R162). -/
def State.maskReady (s : State) (c : Nat) (o : SlotOp) : Bool :=
  !(s.core c).veOps.any (fun v => v.recIx == o.first && fld v.slot 0 1 == 0x40)

/-- A VE operation overlaps an ME operation of its record, or one of an earlier record or in course, that has not ended
(R120). A GMASK is not compared with its own record's, which waits for it. -/
def State.veHazard (s : State) (c : Nat) (o : SlotOp) : Bool :=
  let sp := s.veSpans c o.slot
  (s.core c).meOps.any (fun m =>
    (m.begun || decide (m.first < o.recIx ∨ (m.first = o.recIx ∧ fld o.slot 0 1 ≠ 0x40))) &&
    (let e := (meSlot m.slot).spans
     overlaps (sp.1 ++ sp.2) (e.1 ++ e.2)))

/-- Start the ME's first operation if it may start, by the flags of the record in which it began. One whose record has
handed it on waits for the record that takes it over (R53). -/
def State.startMe (s : State) (c : Nat) : State :=
  match (s.core c).meOps with
  | [] => s
  | o :: _ =>
    match (s.sailing c o.first).orElse (fun _ => s.sailing c o.recIx) with
    | none => s
    | some x =>
      if o.begun || !x.waited then s
      else if x.hollow then s.dropMe c o
      else if !s.maskReady c o || !s.engineClear c { o.todo with unit := 0 } then s
      else s.meBegin c o

/-- Start the VE's first operation, of slot `u`, if it may start; `clear` says that a held one is tried again. -/
def State.startVe (s : State) (c u : Nat) : State :=
  match (s.core c).veOps with
  | [] => s
  | o :: _ =>
    match s.sailing c o.recIx with
    | none => s.dropVe c o
    | some x =>
      if o.begun || !x.waited || o.unit != u then s
      else if x.hollow then s.dropVe c o
      else if !s.engineClear c { o.todo with unit := 1 + o.unit } then s
      else if s.veHazard c o then s.setField (pVE c + Off.VE_STAT) 2 2 1
      else s.veBegin c o

/-- ENGINE_START (R54, R91, R119, R120, R162, R227): an engine takes its next operation once the sailing's flags
are set and its hazards are clear; a hollow sailing's operation is dropped. -/
def execEngineStart (c : CoreIx) (e : Engine) (s : State) : Host.Outcome State Fault Refusal :=
  .next (match e with
    | .me => s.startMe c
    | .ve0 => s.startVe c 0
    | .ve1 => s.startVe c 1)

/-- VE_HAZARD_CLEAR (R120): the VE operation held by an overlapping ME operation starts once that has ended. -/
def execVeHazardClear (c : CoreIx) (s : State) : Host.Outcome State Fault Refusal :=
  .next (if bit (s.regN (pVE c + Off.VE_STAT)) 2 then
      match (s.core c).veOps with
      | o :: _ => if s.veHazard c o then s else s.startVe c o.unit
      | [] => s.setField (pVE c + Off.VE_STAT) 2 2 0
    else s)

/-! ### Completion and signals (R45, R51, R58, R65) -/

/-- A sailing's work has retired: its flags are seen and its operations have ended; the portion of an ME
operation that goes on has ended with the record's last issue. -/
def State.sailingDone (s : State) (x : SailingRun) : Bool :=
  x.waited && (x.hollow || (!x.ve0 && !x.ve1 && (!x.me || (recContOut x.bytes && decide (x.last ≤ s.now)))))

/-- Post a sailing's signals: local flags, and the flag of a target core, at once on its own die and over the
deck otherwise (R51). -/
def State.postSignals (s : State) (c : Nat) (r : Bytes) (poison : Bool) : State :=
  let s := s.postFlags c (recLocal r) poison
  let t := recTarget r
  if t = 0xFFFF then s
  else if coreDie t = coreDie c then s.postFlags t (2 ^ recTargetFlag r) poison
  else { s with signals := s.signals ++ [{ core := t, flag := recTargetFlag r, poison := poison }] }

/-- A sailing leaves, with the operations it still holds. -/
def State.endSailing (s : State) (c : Nat) (x : SailingRun) (poison : Bool) : State :=
  let y := s.core c
  let keep := fun (o : SlotOp) => o.recIx != x.recIx
  let s := s.setCore c { y with
    sailings := y.sailings.filter (fun z => z.recIx ≠ x.recIx),
    meOps := if x.hollow then y.meOps.filter keep else y.meOps, veOps := if x.hollow then y.veOps.filter keep else y.veOps }
  s.postSignals c x.bytes poison

/-- SAILING_COMPLETE (R45, R58, R65): the oldest sailing whose work has retired posts its signals, poisoned if it
is hollow or its item has failed; `cyc` is its cycles from cycle 0 to completion. -/
def execSailingComplete (c : CoreIx) (cyc : Nat) (s : State) : Host.Outcome State Fault Refusal :=
  .next (match (s.core c).sailings.find? s.sailingDone with
    | none => s
    | some x =>
      let failed := match s.cmd? x.cmd with
        | some k => k.itemFailed x.item
        | none => true
      let s := if x.hollow then s else s.raiseTo (pSEQ c) Off.SEQ_COST_MAX (min cyc 0xFFFFFFFF)
      s.endSailing c x (x.hollow || failed))

/-- SIGNAL_ARRIVAL (R51): a signal from another die sets its flag in the tick it arrives. -/
def execSignalArrival (c : CoreIx) (s : State) : Host.Outcome State Fault Refusal :=
  .next (match s.signals.find? (fun m => m.core == c.val) with
    | none => s
    | some m => { s with signals := s.signals.erase m }.postFlags c (2 ^ m.flag) m.poison)

/-- SEQ_FLAG_SET (R65, R30): flags 32–63 named in the high half are posted clean, and acted on from the next boundary. -/
def execSeqFlagSet (c : CoreIx) (v : DWord) (s : State) : Host.Outcome State Fault Refusal :=
  .next (s.handFlags c (v.toNat / 2 ^ 32 * 2 ^ 32))

/-- SEQ_FLAG_CLR (R51): the flags named and their poison bits are cleared. -/
def execSeqFlagClr (c : CoreIx) (v : DWord) (s : State) : Host.Outcome State Fault Refusal :=
  .next (s.clearFlags c v.toNat)

/-! ### The end of an item (R143, R323) -/

/-- Core `c` still has work of an item: records to issue, slots to enqueue, sailings or operations. -/
def State.itemBusy (s : State) (item : Nat) (c : Nat) (t : TimetableRun) : Bool :=
  let x := s.core c
  let mine := fun (o : SlotOp) => o.item == item && o.cmd == t.cmd
  !t.checked
  || (upTo t.pos (ttCount t.bytes - t.pos)).any (fun i => recItem (ttRec t.bytes i) == item)
  || (upTo 0 (ttCount t.bytes)).any (fun i => recItem (ttRec t.bytes i) == item &&
      (upTo 0 5).any (fun u => unitUsed (ttRec t.bytes i) u && !t.enq.contains (i, u)))
  || x.sailings.any (fun r => r.item == item && r.cmd == t.cmd)
  || x.meOps.any mine || x.veOps.any mine || x.ferries.any (·.any mine)

/-- Some record of the command's timetables names the item. -/
def State.itemSailed (s : State) (cmd item : Nat) : Bool :=
  (s.ttCores cmd).any (fun e => (upTo 0 (ttCount e.2.bytes)).any (fun i => recItem (ttRec e.2.bytes i) == item))

/-- The status of a RUN_TIMETABLE item that ended without failure. -/
def State.ttStatus (s : State) (k : Cmd) (item : Nat) : Nat :=
  if !s.itemSailed k.id item || (k.empties.contains item && !k.made.contains item) then Status.DONE_EMPTY
  else if k.voided.contains item then Status.DONE_VOIDED else Status.DONE

/-- ITEM_END (R323, R143): every operation of every sailing of an item has completed and the item ends; with the
last item the command's timetables end on every core. -/
def execItemEnd (cmd item : Nat) (s : State) : Host.Outcome State Fault Refusal :=
  .next (match s.cmd? cmd with
    | none => s
    | some k =>
      if k.opcode ≠ 1 || !k.begun || k.itemEnded item || decide (k.items ≤ item) then s
      else if (s.ttCores cmd).isEmpty || (s.ttCores cmd).any (fun e => s.itemBusy item e.1 e.2) then s
      else
        let s := s.endItem cmd item (s.ttStatus k item)
        match s.cmd? cmd with
        | some k => if k.allEnded then (s.ttCores cmd).foldl (fun (s : State) e => s.ttEnd e.1) s else s
        | none => s)

end Sys2Proof.Machine
end

