-- ==== Sys2Proof/Machine/Queue.lean ====
section
/-!
DEFINITION. Machine/Queue.lean: command queues and docks: rings, doorbells, enabling, fetching, completion
records, records held because a ring is full or its path is lost (R294–R298, R317, R318, R327–R338, R341).
Command queue q is source q and dock d is source 64 + d.
-/
namespace Sys2Proof.Machine

/-! ### Pages -/

/-- The page of a source. -/
def qPage (q : Nat) : Nat := if q < 64 then pg .cq q else pg .dock (q - 64)

/-- What a source holds beside its page. -/
def State.queue (s : State) (q : Nat) : QueueSt := smGet (fun _ => QueueSt.reset) s.queues q
def State.setQueue (s : State) (q : Nat) (x : QueueSt) : State :=
  { s with queues := smSet (fun _ => QueueSt.reset) s.queues q x }

/-- Registers of a source; CQ and DOCK pages give the same offsets to the same rings. -/
def State.qReg (s : State) (q off : Nat) : Nat := s.regN (qPage q + off)
def State.setQReg (s : State) (q off v : Nat) : State := s.setRegN (qPage q + off) v

/-- ENABLED, CPL_HELD, QUERY_WAIT, HEAD_WAIT and DETACHED of the status register. -/
def State.qEnabled (s : State) (q : Nat) : Bool := bit (s.qReg q Off.CQ_STAT) 0
def State.qDetached (s : State) (q : Nat) : Bool := q < 64 && bit (s.qReg q Off.CQ_STAT) 4
def State.setQStat (s : State) (q i : Nat) (v : Bool) : State := s.setField (qPage q + Off.CQ_STAT) i i (b2n v)

/-- Port A is a root complex (R31, R291). -/
def State.rootMode (s : State) : Bool := bit (s.regN (pg .pcie 0 + Off.PCIE_STAT)) 10

/-- CFG_WRITE_IGNORED of a source's page. -/
def State.qIgnored (s : State) (q : Nat) : State := s.logCorr (qPage q) 0x07

/-- A doorbell or completion index out of range: logged, and the page's interrupt raised (R298, R339). -/
def State.qRange (s : State) (q : Nat) : State := (s.logCorr (qPage q) 0x01).raiseEvent (qPage q)

/-- Entries between two indices of a ring of `n` (R294). -/
def ringDist (n head tail : Nat) : Nat := (tail + 2 * n - head % (2 * n)) % (2 * n)

/-- Commands of a source accepted and not complete. -/
def State.inflight (s : State) (q : Nat) : Nat := (s.cmds.filter (fun k => k.src == q && !k.closed)).length

/-- Records of a source held in its queue or in the log, and the figure its page shows. -/
def State.heldCount (s : State) (q : Nat) : Nat := (s.queue q).held.length + (s.heldLog.filter (·.1 == q)).length

/-- Records of a source wait for slots of its completion ring: held ones, or those of the log that it is owed (R338). -/
def QueueSt.waiting (x : QueueSt) : Bool := !x.held.isEmpty || decide (0 < x.owed) || x.owedOv

/-- The last record of a command is written: it stands neither in its queue, nor in the log, nor in an OVERFLOW record
(R326). -/
def State.recWritten (s : State) (k : Cmd) : Bool :=
  let has := fun (r : CplRec) => r.cmds.contains k.id
  let x := s.queue k.src
  k.closed && !x.held.any (fun e => has e.1) && !s.heldLog.any (fun e => e.1 == k.src && has e.2) && !x.overflow.any has

/-- The counts that the pages show are brought up to date. -/
def State.qShow (s : State) (q : Nat) : State :=
  let s := s.setField (qPage q + Off.CQ_STAT) 31 16 (min (s.inflight q) 65535)
  let s := s.setQReg q (if q < 64 then Off.CQ_HELD_CNT else Off.DOCK_HELD_CNT) (s.heldCount q)
  (s.setQStat q 1 (s.queue q).waiting).setRegN (pg .pcie 0 + Off.PCIE_HELD_CNT) s.heldLog.length

/-! ### Records (R327–R329, R337) -/

/-- The bytes of a record. -/
def CplRec.bytesOf (r : CplRec) : Bytes :=
  natLE 8 r.tag ++ natLE 2 r.status ++ natLE 2 r.flags ++ natLE 4 r.item ++ natLE 4 r.doneItems ++ natLE 4 r.bytes ++ natLE 8 r.tick

/-- A count of bytes in 64-byte units, saturated, with the SAT flag (R327, R328). -/
def satUnits (u : Nat) : Nat × Nat := (min u 0xFFFFFFFF, if 0xFFFFFFFF < u then 16 else 0)

/-- A record's address can be reached: its port is up. -/
def State.reaches (s : State) (a : Nat) : Bool := !s.outDown a

/-- The signal after a record: a vector through port A, or in ROOT the page's interrupt (R316, R329). -/
def State.cqSignal (s : State) (q : Nat) : State :=
  if !bit (s.qReg q Off.CQ_CTRL) 1 then s
  else if s.rootMode then s.raiseEvent (qPage q)
  else s.sendMsix (s.field (qPage q + Off.CQ_CTRL) 15 8)

/-- The interrupt file that a DOCK_MSI value names: machine, supervisor, or a guest file 1–7 (R289, R296). -/
def dockFile (v : Nat) : Option Nat :=
  match bits v 13 12 with
  | 0 => some 0
  | 1 => some 1
  | 2 => if bits v 18 16 = 0 then none else some (1 + bits v 18 16)
  | _ => none

/-- A dock's completion MSI reaches its owner's interrupt file (R289, R296); a file that DOCK_MSI does not name takes
nothing. -/
def State.dockSignal (s : State) (q : Nat) : State :=
  let v := s.qReg q Off.DOCK_MSI
  if bit (s.qReg q Off.DOCK_CTRL) 1 then
    match dockFile v with
    | some f => s.imsic (s.field (qPage q + Off.DOCK_CTRL) 14 8) f (bits v 10 0)
    | none => s
  else s

/-- Bytes of a record or a mirror line are written, at the homes (R296, R331). -/
def State.recBytes (s : State) (a : Nat) (b : Bytes) : State := (s.homeWrite [(a, b.length)]).wrBytes a b

/-- The mirror line of a dock (R296). -/
def State.writeMirror (s : State) (q : Nat) : State :=
  let a := s.qReg q Off.DOCK_MIRROR
  if a = 0 then s
  else s.recBytes a (natLE 4 (s.qReg q Off.DOCK_HEAD) ++ natLE 4 (s.qReg q Off.DOCK_CPL_TAIL) ++ natLE 8 s.now ++ rep 48 0)

/-- The completion ring of a source has no free slot. -/
def State.ringFull (s : State) (q : Nat) : Bool :=
  let n := s.qReg q Off.CQ_CPL_SIZE
  decide (n ≤ ringDist n (s.qReg q Off.CQ_CPL_HEAD) (s.qReg q Off.CQ_CPL_TAIL))

/-- A record is written to the next slot of its completion ring and signalled; `msi` asks a queue's vector. -/
def State.ringWrite (s : State) (q : Nat) (r : CplRec) (msi : Bool) : State :=
  let n := s.qReg q Off.CQ_CPL_SIZE
  let t := s.qReg q Off.CQ_CPL_TAIL
  let s := s.recBytes (s.qReg q Off.CQ_CPL_BASE + 32 * (t % n)) r.bytesOf
  let s := s.setQReg q Off.CQ_CPL_TAIL ((t + 1) % (2 * n))
  if q < 64 then (if msi then s.cqSignal q else s) else (s.writeMirror q).dockSignal q

/-- A record for the completion ring: written, or held while the ring is full or records before it wait (R297, R329,
R338). -/
def State.ringPut (s : State) (q : Nat) (r : CplRec) (msi : Bool) : State :=
  if (s.queue q).waiting || s.ringFull q then
    s.setQueue q { s.queue q with held := (s.queue q).held ++ [(r, msi)] }
  else s.ringWrite q r msi

/-- A record with HELD set. -/
def CplRec.asHeld (r : CplRec) : CplRec := { r with flags := r.flags ||| 2 }

/-- A record of the held log that source `q` is owed leaves the log and is written (R338). -/
def State.writeOwed (s : State) (q : Nat) : State :=
  match s.heldLog.find? (·.1 == q) with
  | some e =>
    (({ s with heldLog := s.heldLog.erase e }).setQueue q { s.queue q with owed := (s.queue q).owed - 1 }).ringWrite q e.2.asHeld true
  | none => s.setQueue q { s.queue q with owed := 0 }

/-- The first record that waits for a slot is written: the owed ones of the log, then the OVERFLOW record, then those held
in the queue (R338). -/
def State.writeWaiting (s : State) (q : Nat) : State :=
  let x := s.queue q
  if 0 < x.owed then s.writeOwed q
  else match x.owedOv, x.overflow with
    | true, some r => (s.setQueue q { x with overflow := none, owedOv := false }).ringWrite q r.asHeld true
    | true, none => s.setQueue q { x with owedOv := false }
    | false, _ => match x.held with
      | [] => s
      | (r, msi) :: rest => (s.setQueue q { x with held := rest }).ringWrite q r msi

/-- Records that wait are written while slots are free. -/
def State.drainWaiting (q : Nat) : Nat → State → State
  | 0, s => s
  | n + 1, s => if !(s.queue q).waiting || s.ringFull q then s else State.drainWaiting q n (s.writeWaiting q)

/-- Every record of a source that waits is written, as far as slots are free. -/
def State.drain (s : State) (q : Nat) : State :=
  (State.drainWaiting q ((s.queue q).held.length + (s.queue q).owed + 1) s).qShow q

/-- Fold a record into an OVERFLOW record (R337). -/
def foldRec (o : Option CplRec) (r : CplRec) : CplRec :=
  let old := o.getD { tag := 0, status := 0, flags := 8, item := 0, doneItems := 0, bytes := 0, tick := 0, cmds := [] }
  let b := satUnits (old.bytes + r.bytes)
  { old with
    status := if old.status = 0 then r.status else old.status, item := old.item + b2n (bit r.flags 0),
    doneItems := old.doneItems + r.doneItems, bytes := b.1, flags := old.flags ||| b.2 ||| (r.flags &&& 16), tick := r.tick,
    cmds := old.cmds ++ r.cmds }

/-- A record that cannot reach its destination goes to the held-completion log, or is folded when it is full
(R337). -/
def State.toLog (s : State) (q : Nat) (r : CplRec) : State :=
  if s.heldLog.length < 4096 then { s with heldLog := s.heldLog ++ [(q, r)] }
  else
    let s := s.setQueue q { s.queue q with overflow := some (foldRec (s.queue q).overflow r) }
    (s.bump (pg .pcie 0) Off.PCIE_HELD_OVF 1).logCorr (pg .pcie 0) 0x07

/-- A record of a source goes to `addr`, or with none to the completion ring; one that cannot reach it is kept in
the held log (R296, R328, R329, R337). -/
def State.putRec (s : State) (q : Nat) (addr : Option Nat) (r : CplRec) (msi : Bool) : State :=
  if s.qDetached q || !s.reaches (addr.getD (s.qReg q Off.CQ_CPL_BASE)) then s.toLog q r
  else match addr with
    | none => s.ringPut q r msi
    | some a =>
      let s := s.recBytes a r.bytesOf
      if q < 64 then (if msi then s.cqSignal q else s) else s.dockSignal q

/-- The status of an item record: the items' common status, if they share one (R328). -/
def Cmd.common (k : Cmd) : Option Nat :=
  match k.ended with
  | [] => none
  | e :: es => if es.all (fun x => x.status == e.status) then some e.status else none

/-- The tick in which the last of some statuses was decided. -/
def lastTick (es : List ItemEnd) : Nat := (es.map (·.tick)).foldl max 0

/-- The bytes a command has delivered, in units. -/
def Cmd.units (k : Cmd) : Nat := (k.ended.map (fun e => ceilDiv e.bytes 64)).foldl (· + ·) 0

/-- An item record (R328). -/
def Cmd.itemRec (k : Cmd) (e : ItemEnd) : CplRec :=
  let b := satUnits (ceilDiv e.bytes 64)
  { tag := k.tag, status := e.status, flags := b.2, item := e.item, doneItems := 0, bytes := b.1, tick := e.tick, cmds := [] }

/-- The one record of a command whose items share a status (R328). -/
def Cmd.singleRec (k : Cmd) (st units tick : Nat) : CplRec :=
  let b := satUnits units
  { tag := k.tag, status := st, flags := 5 + b.2, item := k.items, doneItems := if st = 0 then k.items else 0, bytes := b.1, tick := tick,
    cmds := [k.id] }

/-- The records of a command that are due so far, in order (R328): item records once two items differ, the closing
or single record when every item has ended. -/
def Cmd.due (k : Cmd) : List CplRec :=
  match k.whole with
  | some (st, t) => [k.singleRec st 0 t]
  | none =>
    let items := (k.ended.filter (fun e => e.status ≠ 0)).map k.itemRec
    match k.common with
    | some st => if k.allEnded then [k.singleRec st k.units (lastTick k.ended)] else []
    | none =>
      if k.ended.isEmpty then []
      else if k.allEnded then
        let b := satUnits k.units
        items ++ [{
          tag := k.tag, status := (items.head?.map (·.status)).getD 0, flags := 1 + b.2, item := k.items,
          doneItems := (k.ended.filter (fun e => e.status == 0)).length, bytes := b.1, tick := lastTick k.ended,
          cmds := [k.id] }]
      else items

/-- An UPDATE_PARAMS whose items have all concluded still owes the exponent move, which comes before its last record
(R206). -/
def State.moveOwed (s : State) (k : Cmd) : Bool :=
  match s.upd with
  | some r => r.cmd == k.id && r.algo != 3 && !r.moved && k.failed.isEmpty && k.whole.isNone
  | none => false

/-- Port through which a record at an address goes, if any. -/
def State.portOf (s : State) (a : Nat) : Option Nat :=
  match s.region a with
  | some .outA => some 0
  | some .outB => some 1
  | _ => none

/-- The flushes before a record that goes to address `a`: a zero-length read of every other port through which its command
wrote data. Their completions have arrived when the record is written (R332; log entry 74). -/
def State.flushes (s : State) (k : Cmd) (a : Nat) : State :=
  let ps := k.wrote.filter (fun p => s.portOf a ≠ some p && s.pcieUp p)
  (ps.foldl (fun (s : State) p => s.send (.flush p)) s).updCmd k.id (fun k => { k with wrote := k.wrote.filter (fun p => !ps.contains p) })

/-- A command's next record is written once its writes are visible and its flushes are answered (R328, R331–R333); with
the last the command is complete. A command whose records must be held waits while 64 are (R297), one with an address of
its own while records of its queue are owed (R338), and any while the lines it writes are not ready. -/
def State.nextRec (s : State) (k : Cmd) : State :=
  match k.due[k.recsOut]? with
  | none => s
  | some r =>
    let addr := if k.cpl = 0 then none else some (k.cpl + 32 * k.recsOut)
    let x := s.queue k.src
    let n := s.qReg k.src Off.CQ_CPL_SIZE
    let a := addr.getD (s.qReg k.src Off.CQ_CPL_BASE + 32 * (s.qReg k.src Off.CQ_CPL_TAIL % n))
    if bit r.flags 0 && s.moveOwed k then s
    else if k.fenceAll && s.msgs.any (fun m => m.cmd == k.id && m.write) then s
    else if !s.qDetached k.src && (if addr.isNone then decide (64 ≤ x.held.length) else decide (0 < x.owed) || x.owedOv) then s
    else if !s.cohReady [(a, 32), (if k.src < 64 then a else s.qReg k.src Off.DOCK_MIRROR, 32)] then s
    else
      let last := bit r.flags 0
      let s := (s.flushes k a).putRec k.src addr r (last && k.msi)
      (s.updCmd k.id (fun k => { k with recsOut := k.recsOut + 1, closed := last })).qShow k.src

/-- COMPLETION_RECORD_WRITE (R328): the next record of a command of a command queue. -/
def execCompletionRecordWrite (cmd : Nat) (s : State) : Host.Outcome State Fault Refusal :=
  .next (match s.cmd? cmd with
    | some k => if k.src < 64 ∧ !k.closed then s.nextRec k else s
    | none => s)

/-- DOCK_COMPLETION (R296): the next record of a command of a dock, with the mirror line and the MSI. -/
def execDockCompletion (d : DockIx) (cmd : Nat) (s : State) : Host.Outcome State Fault Refusal :=
  .next (match s.cmd? cmd with
    | some k => if k.src = 64 + d.val ∧ !k.closed then s.nextRec k else s
    | none => s)

/-! ### Enabling (R294, R298, R317, R338, R341) -/

/-- A power of two from 64 to 65,536. -/
def ringSizeOk (n : Nat) : Bool := decide (64 ≤ n ∧ n ≤ 65536 ∧ 2 ^ Nat.log2 n = n)

/-- A ring may lie there: HBM3E or the tier, and for a command queue of an endpoint host memory (R294, R317). -/
def State.ringPlace (s : State) (q a n : Nat) : Bool :=
  match s.rangeRegion a n with
  | some .hbm => true
  | some .tier => true
  | some .outA => q < 64 && !s.rootMode
  | _ => false

/-- The check of R294 on a source's rings. -/
def State.ringsOk (s : State) (q : Nat) : Bool :=
  let b := s.qReg q Off.CQ_RING_BASE
  let n := s.qReg q Off.CQ_RING_SIZE
  let cb := s.qReg q Off.CQ_CPL_BASE
  let cn := s.qReg q Off.CQ_CPL_SIZE
  let m := s.qReg q Off.DOCK_MIRROR
  decide (b % 4096 = 0 ∧ cb % 4096 = 0) && ringSizeOk n && ringSizeOk cn && s.ringPlace q b (128 * n) && s.ringPlace q cb (32 * cn)
    && (q < 64 || m == 0 || (m % 64 == 0 && s.ringPlace q m 64))

/-- All four indices return to 0. -/
def State.zeroIndices (s : State) (q : Nat) : State :=
  let s := (((s.setQReg q Off.CQ_TAIL 0).setQReg q Off.CQ_HEAD 0).setQReg q Off.CQ_CPL_HEAD 0).setQReg q Off.CQ_CPL_TAIL 0
  s.setQueue q { s.queue q with bells := [], fetched := [], fetchIx := 0, head := none }

/-- Some queue is still detached. -/
def State.anyDetached (s : State) : Bool := (upTo 0 64).any s.qDetached

/-- Re-attach queue `q` (R338, R341): indices 0, then the records of the held log and the OVERFLOW record, with HELD set and
before any new one, as slots are free. -/
def State.reattach (s : State) (q : Nat) : State :=
  let s := (s.zeroIndices q).setQStat q 4 false
  let s := s.setQueue q { s.queue q with owed := (s.heldLog.filter (·.1 == q)).length, owedOv := (s.queue q).overflow.isSome }
  (s.setField (pg .pcie 0 + Off.PCIE_STAT) 11 11 (b2n s.anyDetached)).drain q

/-- ENABLE is set: a queue out of service is checked and enabled, a detached one re-attached once the link is up. -/
def State.qEnable (s : State) (q : Nat) : State :=
  if s.qDetached q && !s.pcieUp 0 then s.qIgnored q
  else if s.qEnabled q && !s.qDetached q then s
  else if !s.qEnabled q && !s.ringsOk q then s.logCorr (qPage q) 0x02
  else
    let u := (s.setQStat q 0 true).setField (qPage q + Off.CQ_CTRL) 0 0 1
    if s.qDetached q then u.reattach q else u.zeroIndices q

/-- ENABLE is cleared: only with no command in flight and no record held. -/
def State.qDisable (s : State) (q : Nat) : State :=
  if s.inflight q ≠ 0 ∨ s.heldCount q ≠ 0 ∨ (s.queue q).overflow.isSome then s.qIgnored q
  else
    let s := (s.setQStat q 0 false).setField (qPage q + Off.CQ_CTRL) 0 0 0
    let s := if q < 64 then s.setQStat q 4 false else s
    s.setQueue q QueueSt.reset

/-- CQ_ENABLE (R317, R338): setting ENABLE. -/
def execCqEnable (q : QueueIx) (s : State) : Host.Outcome State Fault Refusal := .next (s.qEnable q)
/-- CQ_DISABLE (R341): clearing ENABLE. -/
def execCqDisable (q : QueueIx) (s : State) : Host.Outcome State Fault Refusal := .next (s.qDisable q)
/-- DOCK_ENABLE (R294): setting ENABLE. -/
def execDockEnable (d : DockIx) (s : State) : Host.Outcome State Fault Refusal := .next (s.qEnable (64 + d))
/-- DOCK_DISABLE (R298): clearing ENABLE. -/
def execDockDisable (d : DockIx) (s : State) : Host.Outcome State Fault Refusal := .next (s.qDisable (64 + d))

/-! ### Doorbells and returned slots (R295, R296, R298, R318, R329, R339) -/

/-- A doorbell of a source, stamped with the tick and cycle. -/
def State.doorbell (s : State) (q cyc v : Nat) : State :=
  let n := s.qReg q Off.CQ_RING_SIZE
  if !s.qEnabled q || s.qDetached q then s.logCorr (qPage q) 0x01
  else
    let t := v % (2 * n)
    if n < ringDist n (s.qReg q Off.CQ_HEAD) t then s.qRange q
    else
      (s.setQReg q Off.CQ_TAIL t).setQueue q { s.queue q with
        bells := (s.queue q).bells ++ [{ tick := s.now, cycle := cyc, tail := t }] }

/-- Slots of a completion ring are returned: held records follow. -/
def State.returnSlots (s : State) (q v : Nat) : State :=
  let n := s.qReg q Off.CQ_CPL_SIZE
  let h := s.qReg q Off.CQ_CPL_HEAD
  let t := s.qReg q Off.CQ_CPL_TAIL
  if ringDist n h t < ringDist n h (v % (2 * n)) then s.qRange q
  else (s.setQReg q Off.CQ_CPL_HEAD (v % (2 * n))).drain q

/-- CQ_TAIL_WRITE (R318, R339): a doorbell of a command queue in cycle `cyc` of the tick. -/
def execCqTailWrite (q : QueueIx) (v : Word) (cyc : Nat) (s : State) : Host.Outcome State Fault Refusal :=
  .next (s.doorbell q cyc v.toNat)
/-- CQ_CPL_HEAD_WRITE (R329): completion slots of a queue are returned. -/
def execCqCplHeadWrite (q : QueueIx) (v : Word) (s : State) : Host.Outcome State Fault Refusal :=
  .next (if !s.qEnabled q || s.qDetached q then s.logCorr (qPage q) 0x01 else s.returnSlots q v.toNat)
/-- DOCK_TAIL_WRITE (R295, R298): a doorbell of a dock in cycle `cyc` of the tick. -/
def execDockTailWrite (d : DockIx) (v : Word) (cyc : Nat) (s : State) : Host.Outcome State Fault Refusal :=
  .next (s.doorbell (64 + d) cyc v.toNat)
/-- DOCK_CPL_HEAD_WRITE (R296): completion slots of a dock are returned. -/
def execDockCplHeadWrite (d : DockIx) (v : Word) (s : State) : Host.Outcome State Fault Refusal :=
  .next (s.returnSlots (64 + d) v.toNat)

/-! ### Fetching (R295, R318) -/

/-- The entry after the last one read can be read. -/
def State.fetchReady (s : State) (q : Nat) : Bool :=
  s.cohReady [(s.qReg q Off.CQ_RING_BASE, 128 * s.qReg q Off.CQ_RING_SIZE)]

/-- Read the entry at a ring index once, coherently (R295, R318). -/
def State.fetchEntry (s : State) (q : Nat) : State :=
  let n := s.qReg q Off.CQ_RING_SIZE
  let e := s.engineRead (s.qReg q Off.CQ_RING_BASE + 128 * ((s.queue q).fetchIx % n)) 128
  let x := e.1.queue q
  e.1.setQueue q { x with fetched := x.fetched ++ [e.2], fetchIx := (x.fetchIx + 1) % (2 * n) }

/-- Read `k` entries. -/
def State.fetchEntries (q : Nat) : Nat → State → State
  | 0, s => s
  | k + 1, s => State.fetchEntries q k (s.fetchEntry q)

/-- CQ_ENTRY_FETCH (R318): the entries newly covered by CQ_TAIL are read. -/
def execCqEntryFetch (q : QueueIx) (s : State) : Host.Outcome State Fault Refusal :=
  .next (if !s.qEnabled q || s.qDetached q || !s.fetchReady q then s
    else State.fetchEntries q (ringDist (s.qReg q Off.CQ_RING_SIZE) (s.queue q).fetchIx (s.qReg q Off.CQ_TAIL)) s)

/-- EXT_COUNT of an entry's bytes. -/
def entExt (b : Bytes) : Nat := bits (fld b 0x28 8) 10 9

/-- DOCK_ENTRY_READ (R295): at a boundary after its doorbell the next command's entry and its extension entries are
read and DOCK_HEAD advances; while a command read waits, the entries behind it wait too. -/
def execDockEntryRead (d : DockIx) (s : State) : Host.Outcome State Fault Refusal :=
  let q := 64 + d.val
  let n := s.qReg q Off.DOCK_RING_SIZE
  let x := s.queue q
  let acted := (x.bells.filter (fun b => decide (b.tick < s.now))).getLast?
  .next (match acted with
    | none => s
    | some b =>
      let have' := ringDist n x.fetchIx b.tail
      if !s.qEnabled q || !x.fetched.isEmpty || have' = 0 || !s.fetchReady q then s
      else
        let t := s.fetchEntry q
        let ext := match (t.queue q).fetched with
          | e :: _ => entExt e.1
          | [] => 0
        if have' < 1 + ext then s
        else
          let s := State.fetchEntries q ext t
          s.setQReg q Off.DOCK_HEAD (s.queue q).fetchIx)

end Sys2Proof.Machine
end

