-- ==== Sys2Proof/Machine/Command.lean ====
section
/-!
DEFINITION. Machine/Command.lean: accepting commands, and WRITE_INLINE, COPY, FENCE, NOP and QUERY
(R295, R302–R307, R319–R326).
-/
namespace Sys2Proof.Machine

/-! ### Entries (R319–R322) -/

/-- A fetched command at the head of a source: its source, entry bytes with extensions, poison, ring index and
doorbell stamp. -/
structure HeadCmd where
  src : Nat
  bytes : Bytes
  poison : Bool
  ix : Nat
  tick : Nat
  cycle : Nat
  deriving DecidableEq, Repr

/-- Fields of an entry. -/
def entOp (b : Bytes) : Nat := fld b 0 2
def entFlags (b : Bytes) : Nat := fld b 3 1
def entItems (b : Bytes) : Nat := fld b 4 4
def entTable (b : Bytes) : Nat := fld b 0x10 8
def entCpl (b : Bytes) : Nat := fld b 0x18 8
def entPolicy (b : Bytes) : Nat := fld b 0x28 8
def entInline (b : Bytes) : Nat := bits (entPolicy b) 8 2

/-- Every cargo byte of an entry and its extensions, and the cargo it declares (R320). -/
def entAll (b : Bytes) : Bytes := b.drop 0x30
def entCargo (b : Bytes) : Bytes := if entExt b = 0 then (entAll b).take (entInline b) else entAll b

/-- A source has accepted a QUERY that is not placed: its entries behind it wait (R305). -/
def State.queryHeld (s : State) (q : Nat) : Bool :=
  s.cmds.any (fun k => k.src == q && k.opcode == 8 && !k.allEnded && !s.queries.any (·.cmd == k.id))

/-- The command at the head of source `q`, if it may be accepted at this boundary (R295, R297, R318). -/
def State.headOf (s : State) (q : Nat) : Option HeadCmd :=
  let x := s.queue q
  let n := s.qReg q Off.CQ_RING_SIZE
  match x.fetched with
  | [] => none
  | e :: _ =>
    let k := 1 + entExt e.1
    let ix := (x.fetchIx + 2 * n - x.fetched.length) % (2 * n)
    let covers := fun (b : Doorbell) => decide (k ≤ ringDist n ix b.tail ∧ ringDist n ix b.tail ≤ n)
    match x.bells.find? covers with
    | none => none
    | some b =>
      if s.qEnabled q && !s.qDetached q && !x.waiting && !s.queryHeld q && decide (k ≤ x.fetched.length) && decide (b.tick < s.now) then
        some { src := q, bytes := ((x.fetched.take k).map (·.1)).flatten, poison := (x.fetched.take k).any (·.2), ix := ix,
               tick := b.tick, cycle := b.cycle }
      else none

/-- The command at the head of source `q` is published by a doorbell acted on at this boundary, and its entries are still to
be read: its place in the acceptance order (R295). -/
def State.unread (s : State) (q : Nat) : Option HeadCmd :=
  let x := s.queue q
  let n := s.qReg q Off.CQ_RING_SIZE
  if !s.qEnabled q || s.qDetached q || x.waiting || s.queryHeld q || !x.fetched.isEmpty then none
  else
    let k := 1 + entExt (s.rdBytes (s.qReg q Off.CQ_RING_BASE + 128 * (x.fetchIx % n)) 128)
    let covers := fun (b : Doorbell) => decide (b.tick < s.now ∧ k ≤ ringDist n x.fetchIx b.tail ∧ ringDist n x.fetchIx b.tail ≤ n)
    (x.bells.find? covers).map (fun b => { src := q, bytes := [], poison := false, ix := x.fetchIx, tick := b.tick, cycle := b.cycle })

/-- Earlier in the acceptance order: doorbell stamp, then command queues before docks, then index (R295). -/
def HeadCmd.before (a b : HeadCmd) : Bool :=
  decide (a.tick < b.tick ∨ (a.tick = b.tick ∧ (a.cycle < b.cycle ∨ (a.cycle = b.cycle ∧ a.src ≤ b.src))))

/-- Bytes of an opcode's own cargo; `none` where its own rules decide. -/
def ownCargo (b : Bytes) : Option Nat :=
  match entOp b with
  | 1 => some 8
  | 2 => some (16 + fld (entAll b) 8 2)
  | 5 => some 32
  | 6 => some 32
  | 7 => some 80
  | 8 => some (entInline b)
  | 4 => none
  | _ => some 0

/-- Items an opcode allows (R322). -/
def itemsOk (b : Bytes) : Bool :=
  let n := entItems b
  match entOp b with
  | 1 => decide (1 ≤ n ∧ n ≤ 16777216)
  | 3 => decide (1 ≤ n ∧ n ≤ 16777216)
  | 4 => decide (1 ≤ n)
  | 5 => decide (1 ≤ n)
  | 6 => decide (1 ≤ n)
  | 7 => decide (1 ≤ n) && n == ((upTo 0 4).filter (bit (fld (entAll b) 1 1))).length
  | _ => n == 1

/-- Alignment and bytes of an opcode's TABLE; `none` where TABLE is 0 (R322). -/
def tableOf (b : Bytes) : Option (Nat × Nat) :=
  match entOp b with
  | 1 => some (16, 16 * fld (entAll b) 2 2)
  | 3 => some (32, 32 * entItems b)
  | 4 => some (64, 128 * entItems b)
  | 5 => some (32, 32 * entItems b)
  | 6 => some (32, 32 * entItems b)
  | 8 => some (64, 64)
  | _ => none

/-- TABLE and CPL_ADDR are aligned and mapped (R321, R328). -/
def State.addrsOk (s : State) (b : Bytes) : Bool :=
  (match tableOf b with
    | some (al, n) => entTable b % al == 0 && s.mappedMem (entTable b) (max n 1)
    | none => entTable b == 0) &&
  (entCpl b == 0 || (entCpl b % 32 == 0 && s.mappedMem (entCpl b) (32 * (entItems b + 1))))

/-- The structure rules of R319 and R320 on an entry, and the reserved bits of a cargo (R257, R321, R323, R325,
R394, R402). -/
def entryRules (b : Bytes) : Bool :=
  decide (1 ≤ entOp b ∧ entOp b ≤ 10 ∧ entFlags b / 4 = 0 ∧ bits (entPolicy b) 63 11 = 0 ∧ entInline b ≤ 80)
  && (!bit (entFlags b) 1 || entOp b == 8) && (entExt b == 0 || entInline b == 80)
  && (match entOp b with
    | 1 => decide (fld (entAll b) 1 1 = 0 ∧ fld (entAll b) 4 4 = 0)
    | 2 => fld (entAll b) 10 6 == 0
    | 5 => decide (fld (entAll b) 1 1 < 2 ∧ fld (entAll b) 2 6 = 0 ∧ fld (entAll b) 0x18 8 = 0)
    | 6 => decide (fld (entAll b) 2 2 = 0 ∧ fld (entAll b) 4 4 < 2 ^ 15 ∧ fld (entAll b) 0x18 8 = 0)
    | 7 => decide (fld (entAll b) 1 1 < 16 ∧ bits (fld (entAll b) 2 1) 6 3 = 0) && allZero (((entAll b).drop 4).take 12)
    | _ => true)
  && (match ownCargo b with
    | some n => decide (n ≤ (entCargo b).length) && allZero ((entAll b).drop n)
    | none => true)

/-- An opcode whose cargo begins with a VERSION that R321 checks; that of UPDATE_PARAMS is refused, before the
checks that follow here, by its own rule with an event of its own (R186). -/
def cargoVersioned (op : Nat) : Bool := op == 1 || op == 5 || op == 6 || op == 7

/-- The checks of R321 in their order: the status of the first that fails, with the page's error code. -/
def State.entryCheck (s : State) (h : HeadCmd) : Option (Nat × Option Nat) :=
  let b := h.bytes
  if h.poison then some (Status.MEM_UE, some 0x03)
  else if fld b 2 1 ≠ 1 ∨ (cargoVersioned (entOp b) ∧ fld (entAll b) 0 1 ≠ 1) then some (Status.VERSION_MISMATCH, none)
  else if entOp b = 4 ∧ fld (entAll b) 0 1 ≠ 1 then none
  else if !entryRules b || !itemsOk b || !s.addrsOk b then some (Status.BAD_COMMAND, some 0x08)
  else none

/-! ### Acceptance (R295, R321, R323, R390, R391) -/

/-- The command of an entry. -/
def mkCmd (id now : Nat) (h : HeadCmd) : Cmd :=
  let b := h.bytes
  { id := id, src := h.src, ringIx := h.ix, opcode := entOp b, msi := bit (entFlags b) 0, qaddr := bit (entFlags b) 1, items := entItems b,
    tag := fld b 8 8, table := entTable b, cpl := entCpl b, start := fld b 0x20 8, fenceAll := bit (entPolicy b) 0,
    voidNonfin := bit (entPolicy b) 1, cargo := entCargo b, desc := [], accTick := now, begun := false, running := [], made := [], empties := [], wrote := [],
    voided := [], failed := [], ended := [], bytes := [], whole := none, recsOut := 0, closed := false }

/-- A RUN_TIMETABLE at the head must wait: a core it names is not IDLE, or an accepted one has still to take it
(R323). -/
def State.mustWait (s : State) (h : HeadCmd) : Bool :=
  let b := h.bytes
  if (s.entryCheck h).isSome || entOp b ≠ 1 || s.rasState ≠ 0 then false
  else if s.outDown (entTable b) || s.anyPoison (entTable b) (16 * fld (entAll b) 2 2) || !s.ttCmdOk (entTable b) (entCargo b) then false
  else
    let mine := (s.ttEntries (entTable b) (entCargo b)).map (·.1)
    let taken := (s.cmds.filter (fun k => k.opcode == 1 && !k.begun && !k.allEnded)).flatMap (fun k => (s.ttEntries k.table k.cargo).map (·.1))
    !mine.all (fun c => s.seqIdle c && !taken.contains c)

/-- The head of a command queue moves past `n` entries (R318); a dock's moved as they were read (R295). -/
def State.headPast (s : State) (q n : Nat) : State :=
  if q < 64 then s.setQReg q Off.CQ_HEAD ((s.qReg q Off.CQ_HEAD + n) % (2 * s.qReg q Off.CQ_RING_SIZE)) else s

/-- The QUERY at the head of a source, if it is this command, leaves it (R305): its ring entries are passed. -/
def State.passQuery (s : State) (q : Nat) (k : Cmd) : State :=
  if (s.queue q).head = some k.id then
    ((s.setQueue q { s.queue q with head := none }).setQStat q 2 false).headPast q (1 + (k.cargo.length - 80) / 128)
  else s

/-- A QUERY at the head of a source that has ended otherwise leaves it. -/
def State.passEnded (s : State) (q : Nat) : State :=
  match (s.queue q).head with
  | some id => match s.cmd? id with
    | some k => s.passQuery q k
    | none => s
  | none => s

/-- An error of a source's page about an entry, shown with its ring index. -/
def State.entryErr (s : State) (k : Cmd) (code st : Nat) : State :=
  let p := qPage k.src
  (s.setRegN (p + (if k.src < 64 then Off.CQ_LAST_ERR else Off.DOCK_LAST_ERR)) (code + k.ringIx % 2 ^ 24 * 256)).itemErr p code k.id 0 st

/-- Accept the command at the head of a source. -/
def State.accept (s : State) (h : HeadCmd) : State :=
  let s := s.passEnded h.src
  let x := s.queue h.src
  let n := s.qReg h.src Off.CQ_RING_SIZE
  let k := 1 + entExt h.bytes
  let c := mkCmd s.nextCmd s.now h
  let ix := (h.ix + k) % (2 * n)
  let bad := s.entryCheck h
  let s := s.setQueue h.src { x with fetched := x.fetched.drop k, bells := x.bells.filter (fun b => decide (0 < ringDist n ix b.tail ∧ ringDist n ix b.tail ≤ n)) }
  let s := { s with cmds := s.cmds ++ [c], nextCmd := s.nextCmd + 1 }
  let s := if c.opcode = 8 ∧ bad.isNone then s.setQueue h.src { s.queue h.src with head := some c.id } else s.headPast h.src k
  let s := s.bump64 (qPage h.src) (if h.src < 64 then Off.CQ_CMD_CNT else Off.DOCK_CMD_CNT) 1
  let s := if h.src < 64 then s.setQStat h.src 3 false else s
  let s := match bad with
    | some (st, some code) =>
      let p := qPage h.src
      let s := s.setRegN (p + (if h.src < 64 then Off.CQ_LAST_ERR else Off.DOCK_LAST_ERR)) (code + h.ix % 2 ^ 24 * 256)
      (s.logErr p code clsItem { LogInfo.none with tag := some c.tag }).failAll c.id st
    | some (st, none) => s.failAll c.id st
    | none => s
  let s := if s.left then s.failAll c.id Status.DEVICE_LEAVING
    else if s.rasState = 1 ∧ c.opcode = 1 then s.failAll c.id Status.ABORTED else s
  s.qShow h.src

/-- COMMAND_ACCEPT (R295, R318, R321): the next command in the acceptance order that need not wait is accepted;
a RUN_TIMETABLE that waits for its cores shows HEAD_WAIT. A command whose entry is read waits for earlier ones whose
entries are still to be read. -/
def execCommandAccept (s : State) : Host.Outcome State Fault Refusal :=
  let hs := ((upTo 0 192).filterMap s.headOf).mergeSort HeadCmd.before
  let us := (upTo 0 192).filterMap s.unread
  let s' := (hs.filter (fun h => s.mustWait h && decide (h.src < 64))).foldl (fun (t : State) h => t.setQStat h.src 3 true) s
  .next (match hs.find? (fun h => !s.mustWait h) with
    | none => s'
    | some h => if us.any (fun u => u.before h) then s' else s'.accept h)

/-! ### WRITE_INLINE, COPY, FENCE, NOP (R324–R326) -/

/-- An item of a command ends with an entry error. -/
def State.entryItem (s : State) (k : Cmd) (item : Nat) : State :=
  let p := qPage k.src
  let s := s.setRegN (p + (if k.src < 64 then Off.CQ_LAST_ERR else Off.DOCK_LAST_ERR)) (0x08 + k.ringIx % 2 ^ 24 * 256)
  (s.itemErr p 0x08 k.id item Status.BAD_COMMAND).endItem k.id item Status.BAD_COMMAND

/-- The range is host memory behind port A. -/
def State.isHost (s : State) (a : Nat) : Bool := s.region a == some .outA

/-- WRITE_INLINE (R325): the cargo's data are written to their destination, once its lines are ready. -/
def execWriteInline (cmd : Nat) (s : State) : Host.Outcome State Fault Refusal :=
  .next (match s.fresh cmd 0x0002 with
    | none => s
    | some k =>
      let a := fld k.cargo 0 8
      let n := fld k.cargo 8 2
      let u := s.updCmd cmd (fun k => { k with begun := true, running := [0] })
      if n = 0 ∨ 448 < n ∨ !s.mappedMem a n then u.entryItem k 0
      else if s.outDown a then (u.logDown a).endItem cmd 0 (if s.isHost a then Status.HOST_LINK_LOST else Status.DONE)
      else if !s.cohReady [(a, n)] then s
      else ((u.engineWrite cmd a ((k.cargo.drop 16).take n)).updCmd cmd (·.addBytes 0 n)).endItem cmd 0 Status.DONE)

/-- COPY (R324): the copy engine takes the command; its items run as channels free. -/
def execCopy (cmd : Nat) (s : State) : Host.Outcome State Fault Refusal :=
  .next (match s.fresh cmd 0x0003 with
    | none => s
    | some _ => s.beginCmd cmd)

/-- Channels of the copy engine in use: transfers to peers not yet acknowledged. -/
def State.copyBusy (s : State) : Nat := (s.msgs.filter (fun m => m.use == .copy)).length

/-- Run one copy descriptor (R324): read, checked, and its bytes moved at the homes (R261); it waits while the lines are not
ready. -/
def State.copyItem (s : State) (k : Cmd) (j : Nat) : State :=
  let s₀ := s
  let t := k.table + 32 * j
  let e := s.engineRead t 32
  let b := e.2.1
  let src := fld b 0 8
  let dst := fld b 8 8
  let n := fld b 16 8
  let node := fld b 24 4
  let loc := node = s.node
  let wait := !s.cohReady [(t, 32)] ||
    (!e.2.2 && decide (n ≤ 2 ^ 40) && !s.cohReady ((src, n) :: if node = s.node then [(dst, n)] else []))
  let s := e.1.updCmd k.id (·.run j)
  if wait then s₀
  else if e.2.2 then s.endItem k.id j Status.MEM_UE
  else if n = 0 ∨ 2 ^ 40 < n ∨ 2 ^ 15 ≤ node ∨ node = 0x7FFF ∨ !s.mappedMem src n ∨
      (loc ∧ (!s.mappedMem dst n ∨ overlap (src, n) (dst, n))) then s.entryItem k j
  else if s.outDown src ∨ (loc ∧ s.outDown dst ∧ s.isHost dst) then
    let s := s.logDown (if s.outDown src then src else dst)
    s.endItem k.id j (if s.isHost src || s.isHost dst then Status.HOST_LINK_LOST else Status.MEM_UE)
  else if s.anyPoison src n then s.endItem k.id j Status.MEM_UE
  else if loc then
    if s.outDown dst then (s.logDown dst).endItem k.id j Status.DONE
    else
      let d := s.engineRead src n
      ((d.1.engineWrite k.id dst d.2.1).updCmd k.id (·.addBytes j n)).endItem k.id j Status.DONE
  else
    let d := s.engineRead src n
    let r := d.1.newMsg node .copy k.id j dst src n true
    r.1.sendWrite r.2 false d.2.1

/-- COPY_ITEM (R324): the next item in ascending index takes a free channel. -/
def execCopyItem (cmd : Nat) (s : State) : Host.Outcome State Fault Refusal :=
  .next (match s.cmd? cmd with
    | none => s
    | some k =>
      let j := k.running.length
      if k.opcode ≠ 3 || !k.begun || k.allEnded || decide (k.items ≤ j) || decide (8 ≤ s.copyBusy) then s
      else if k.itemEnded j then s.updCmd cmd (·.run j)
      else s.copyItem k j)

/-- FENCE (R326): ends once every command accepted earlier, of its source or with FENCE_ALL of all, has written its
last record. -/
def execFence (cmd : Nat) (s : State) : Host.Outcome State Fault Refusal :=
  .next (match s.fresh cmd 0x0009 with
    | none => s
    | some k =>
      if s.cmds.any (fun x => decide (x.id < cmd) && !s.recWritten x && (k.fenceAll || x.src == k.src)) then s
      else (s.beginCmd cmd).endItem cmd 0 Status.DONE)

/-- NOP (R326): ends at its first tick boundary after START. -/
def execNop (cmd : Nat) (s : State) : Host.Outcome State Fault Refusal :=
  .next (match s.fresh cmd 0x000A with
    | none => s
    | some k => if max k.start k.accTick < s.now then (s.beginCmd cmd).endItem cmd 0 Status.DONE else s)

/-! ### Surrogate queries (R302–R307) -/

/-- The fields of a service descriptor (R302). -/
structure SvcDesc where
  core : Nat
  batch : Nat
  every : Nat
  nout : Nat
  ticks : Nat
  res : Nat
  inLb : Nat
  outLb : Nat
  t0 : Nat
  tEnd : Nat
  deriving DecidableEq, Repr

def svcDesc (b : Bytes) : SvcDesc :=
  { core := fld b 2 2, batch := fld b 4 1, every := fld b 5 1, nout := fld b 6 1, ticks := fld b 8 2, res := fld b 10 2,
    inLb := fld b 12 4, outLb := fld b 16 4, t0 := fld b 0x18 8, tEnd := fld b 0x20 8 }

/-- The rules of R302 and R304 on a descriptor. -/
def svcOk (b : Bytes) : Bool :=
  let d := svcDesc b
  decide (fld b 0x3C 4 = crc32c (b.take 0x3C) ∧ fld b 0 1 = 1 ∧ fld b 1 1 = 0 ∧ fld b 7 1 = 0 ∧ fld b 0x14 4 = 0 ∧ fld b 0x28 20 = 0 ∧
    d.core ≤ 255 ∧ 1 ≤ d.batch ∧ d.batch ≤ 64 ∧ 1 ≤ d.every ∧ 1 ≤ d.nout ∧ d.nout ≤ 16 ∧ 1 ≤ d.ticks ∧ d.res % 64 = 0 ∧ 64 ≤ d.res ∧
    d.res ≤ 4096 ∧ d.inLb % 64 = 0 ∧ d.outLb % 64 = 0 ∧ d.inLb + 2 * (64 + 128 * d.batch) ≤ 0x400000 ∧
    d.outLb + d.nout * d.batch * d.res ≤ 0x400000)

/-- The conditions of R304 on the command. -/
def queryOk (k : Cmd) : Bool :=
  decide (k.items = 1 ∧ k.cpl ≠ 0 ∧ k.cpl % 64 = 0) &&
  (if k.qaddr then k.cargo.length == 12 && decide (1 ≤ fld k.cargo 8 4) else decide (1 ≤ k.cargo.length ∧ k.cargo.length ≤ 80))

/-- A query ends in error and leaves the head of its source. -/
def State.queryFail (s : State) (k : Cmd) (code st : Nat) : State :=
  let s := if code = 0 then s.failItem k.id 0 st else s.entryErr k code st
  ((s.endItem k.id 0 st).passQuery k.src k).qShow k.src

/-- QUERY (R304): an accepted query's command and its service descriptor are checked. -/
def execQuery (cmd : Nat) (s : State) : Host.Outcome State Fault Refusal :=
  .next (match s.fresh cmd 0x0008 with
    | none => s
    | some k =>
      let d := s.engineRead k.table 64
      if !s.cohReady [(k.table, 64)] then s
      else if d.2.2 then d.1.queryFail k 0 Status.MEM_UE
      else if !queryOk k || !svcOk d.2.1 then d.1.queryFail k 0x04 Status.BAD_COMMAND
      else (d.1.beginCmd cmd).updCmd cmd (fun c => { c with desc := d.2.1 }))

/-- The first admission tick at or after `t` (R302, R305). -/
def SvcDesc.admitTick (d : SvcDesc) (t : Nat) : Nat := if t ≤ d.t0 then d.t0 else d.t0 + roundUp (t - d.t0) d.every

/-- An inbox slot (R303). -/
def inboxSlot (k : Cmd) : Bytes :=
  if k.qaddr then natLE 1 2 ++ natLE 1 0 ++ natLE 2 0 ++ natLE 4 (fld k.cargo 8 4) ++ natLE 8 (fld k.cargo 0 8) ++ natLE 8 k.tag ++ rep 104 0
  else natLE 1 1 ++ natLE 1 k.cargo.length ++ natLE 2 0 ++ natLE 4 0 ++ natLE 8 0 ++ natLE 8 k.tag ++ rep 24 0 ++ k.cargo ++
    rep (80 - k.cargo.length) 0

/-- The query must wait for a later boundary: its batch is full, or 256 were placed in this tick (R305). -/
def State.queryWaits (s : State) (k : Cmd) : Bool :=
  let d := svcDesc k.desc
  let t := d.admitTick (max (s.now + 1) k.start)
  decide (t ≤ d.tEnd) && (s.seqState d.core == 2 || s.seqState d.core == 3) &&
    (decide (d.batch ≤ (s.queries.filter (fun x => x.table == k.table && x.tick == t)).length) ||
      decide (256 ≤ (s.queries.filter (·.placed == s.now)).length))

/-- The inbox buffer that a query's batch uses (R303). -/
def SvcDesc.inbox (d : SvcDesc) (t : Nat) : Nat := d.inLb + (t - d.t0) / d.every % 2 * (64 + 128 * d.batch)

/-- A placed query's slot and the header of its batch are written once the buffer is its batch's: not while an earlier batch
that uses the buffer is still to begin (R303, R305, R306). -/
def State.writeSlot (s : State) (x : QueryRun) : State :=
  match s.cmd? x.cmd with
  | none => s
  | some k =>
    let d := svcDesc k.desc
    let buf := d.inbox x.tick
    if x.written || decide (max s.now d.t0 + 2 * d.every ≤ x.tick) then s
    else
      let n := (s.queries.filter (fun y => y.table == x.table && y.tick == x.tick && y.written)).length + 1
      let s := s.lbWr d.core (buf + 64 + 128 * x.slot) (inboxSlot k)
      let s := s.lbWr d.core buf (natLE 8 n ++ natLE 8 x.tick ++ rep 48 0)
      { s with queries := s.queries.map (fun y => if y.cmd = x.cmd then { y with written := true } else y) }

/-- Place a query in its batch, or end it (R305). -/
def State.placeQuery (s : State) (k : Cmd) : State :=
  let d := svcDesc k.desc
  let t := d.admitTick (max (s.now + 1) k.start)
  if d.tEnd < t then s.queryFail k 0x05 Status.BAD_COMMAND
  else match if s.seqState d.core = 2 ∨ s.seqState d.core = 3 then (s.core d.core).tt else none with
    | none => s.queryFail k 0x06 Status.ABORTED
    | some r =>
      let slot := (s.queries.filter (fun x => x.table == k.table && x.tick == t)).length
      let j := (t - d.t0) / d.every
      let x : QueryRun := {
        cmd := k.id, svc := r.cmd, table := k.table, core := d.core, tick := t, slot := slot, due := t + d.ticks, len := d.res,
        out := d.outLb + j % d.nout * d.batch * d.res + slot * d.res, placed := s.now, written := false }
      let s := ({ s with queries := s.queries ++ [x] } : State).writeSlot x
      (s.updCmd k.id (·.run 0)).passQuery k.src k

/-- QUERY_PLACE (R305): slots of earlier queries that are due are written; then the first accepted query, in acceptance order,
that has room is placed for its admission tick; one that waits shows QUERY_WAIT. A query whose descriptor is still to be
checked holds back those behind it. -/
def execQueryPlace (s : State) : Host.Outcome State Fault Refusal :=
  let s := s.queries.foldl (fun (t : State) x => t.writeSlot x) s
  let ks := (s.cmds.filter (fun k => k.opcode == 8 && !k.allEnded && !s.queries.any (·.cmd == k.id))).takeWhile (·.begun)
  let s' := (ks.filter (fun k => s.queryWaits k && (s.queue k.src).head == some k.id)).foldl (fun (t : State) k => t.setQStat k.src 2 true) s
  .next (match ks.find? (fun k => !s.queryWaits k) with
    | none => s'
    | some k => s'.placeQuery k)

/-- The status of a query whose batch is over (R307). -/
def State.queryStatus (s : State) (x : QueryRun) : Nat :=
  match s.cmd? x.svc with
  | none => Status.ABORTED
  | some k =>
    let past := match k.whole with
      | some w => decide (w.2 < x.tick)
      | none => k.allEnded && decide (lastTick k.ended < x.tick)
    if past then Status.ABORTED
    else match k.failed.find? (fun f => decide (x.tick ≤ f.2.2 ∧ f.2.2 < x.due)) with
      | some f => f.2.1
      | none => Status.DONE

/-- QUERY_RESULT_COLLECT (R306, R307): in tick T + C a query's result is read from its outbox slot and written 64
bytes after its completion record's address, and the query ends. -/
def execQueryResultCollect (s : State) : Host.Outcome State Fault Refusal :=
  .next (match s.queries.find? (fun x => decide (x.due ≤ s.now)) with
    | none => s
    | some x =>
      let s' := { s with queries := s.queries.erase x }
      match s.cmd? x.cmd with
      | none => s'
      | some k =>
        if k.itemEnded 0 then s'
        else
          let st := s.queryStatus x
          if st ≠ Status.DONE then (s'.failItem x.cmd 0 st).endItem x.cmd 0 st
          else if s.anyPoison (lbBase x.core + x.out) x.len then s'.endItem x.cmd 0 Status.MEM_UE
          else if !s.mappedMem (k.cpl + 64) x.len then s'.endItem x.cmd 0 Status.BAD_COMMAND
          else if s.outDown (k.cpl + 64) then
            (s'.logDown (k.cpl + 64)).endItem x.cmd 0 (if s.isHost (k.cpl + 64) then Status.HOST_LINK_LOST else Status.DONE)
          else if !s.cohReady [(k.cpl + 64, x.len)] then s
          else ((s'.engineWrite x.cmd (k.cpl + 64) (s.lbRd x.core x.out x.len)).updCmd x.cmd (·.addBytes 0 x.len)).endItem x.cmd 0 Status.DONE)

end Sys2Proof.Machine
end

