-- ==== Sys2Proof/Machine/Pcie.lean ====
section
/-!
DEFINITION. Machine/Pcie.lean: the two PCIe ports: training, loss and return of the link, accesses through BAR2
and the outbound window, and host-side violations (R309–R314, R334–R336, R339, R340).
-/
namespace Sys2Proof.Machine

def pPCIE (p : Nat) : Nat := pg .pcie p

/-! ### The link (R309, R311, R334, R335) -/

/-- The highest generation and width of the device that a partner's also supports. -/
def trainedGen (g : Nat) : Nat := min g 7
def widthOk (w : Nat) : Bool := w == 1 || w == 2 || w == 4 || w == 8 || w == 16

/-- PCIE_LINK_TRAIN (R309): the port trains with a partner that supports generations up to `gen` and the width. -/
def execPcieLinkTrain (p : PcieIx) (gen width : Nat) (s : State) : Host.Outcome State Fault Refusal :=
  let a := pPCIE p + Off.PCIE_STAT
  .next (if gen = 0 || !widthOk width || s.pcieUp p || (p.val == 0 && s.pcie.d3) || !s.powered 6 then s
      else s.setRegN a (setBits (s.regN a) 9 0 (1 + trainedGen gen * 2 + width * 16 + b2n (decide (6 ≤ gen)) * 512)))

/-- PCIE_RETRAIN (R334): the link retrains; nothing is lost above the data-link layer. -/
def execPcieRetrain (p : PcieIx) (s : State) : Host.Outcome State Fault Refusal :=
  .next (if s.pcieUp p then (s.bump (pPCIE p) Off.PCIE_RETRAIN_CNT 1).logCorr (pPCIE p) 0x01 else s)

/-- A range that a ferry slot moves lies in host memory. -/
def State.slotHost (s : State) (c : Nat) (b : Bytes) : Bool :=
  s.isHost (if (fSlot b).op = 2 then (winDesc (s.lbRd c (fSlot b).lb 128)).src else (fSlot b).mem)

/-- The item has still to read or write host memory (R335): its command's table or descriptor, or what they name. -/
def State.needsHost (s : State) (k : Cmd) (j : Nat) : Bool :=
  match k.opcode with
  | 1 => (!k.begun && s.isHost k.table) || (s.ttCores k.id).any (fun e => (!e.2.read && s.isHost (s.regN (pSEQ e.1 + Off.SEQ_TT_ADDR))) ||
      (s.ferryTodo e.1).any (fun t => decide (t.unit ≤ 3) && recItem (ttRec e.2.bytes t.recIx) == j && s.slotHost e.1 t.slot))
  | 2 => s.isHost (fld k.cargo 0 8)
  | 3 => (!k.running.contains j && s.isHost (k.table + 32 * j)) || s.isHost (s.rdNat (k.table + 32 * j) 8) ||
      (s.rdNat (k.table + 32 * j + 24) 4 == s.node && s.isHost (s.rdNat (k.table + 32 * j + 8) 8))
  | 4 => !k.begun && s.isHost (k.table + 128 * j)
  | 8 => (!k.begun && s.isHost k.table) || s.isHost (k.cpl + 64)
  | 5 => s.isHost (k.table + 32 * j) || s.isHost (s.rdNat (k.table + 32 * j + 8) 8)
  | 6 => s.isHost (k.table + 32 * j) || s.isHost (s.rdNat (k.table + 32 * j + 8) 8)
  | _ => false

/-- An item is stopped from outside with a status: a timetable's goes on hollow until its sailings have ended, any
other ends now (R58, R336, R389). -/
def State.stopItem (s : State) (k : Cmd) (j st : Nat) : State :=
  let s := s.failItem k.id j st
  if k.opcode = 1 ∧ k.begun then s else s.endItem k.id j st

/-- Every item of a command not yet ended is stopped. -/
def State.stopCmd (s : State) (k : Cmd) (st : Nat) : State :=
  if k.opcode = 1 ∧ k.begun then (upTo 0 k.items).foldl (fun (s : State) j => s.stopItem k j st) s else s.failAll k.id st

/-- The items of every open command that need the host fail with FAIL_HOST_LINK_LOST (R335). -/
def State.failHostItems (s : State) : State :=
  (s.cmds.filter (fun k => !k.closed && k.whole.isNone)).foldl (fun (s : State) k =>
    (upTo 0 k.items).foldl (fun (s : State) j =>
      if !k.itemEnded j && s.needsHost k j then s.stopItem k j Status.HOST_LINK_LOST else s) s) s

/-- Queue `q` becomes DETACHED: what it fetched is dropped and what it holds goes to the log (R335, R337). -/
def State.detach (s : State) (q : Nat) : State :=
  if s.qDetached q then s
  else
    let x := s.queue q
    let s := s.setQueue q { x with bells := [], fetched := [], held := [], head := none, owed := 0, owedOv := false }
    let s := ((s.setQStat q 4 true).setQStat q 3 false).setQStat q 2 false
    (x.held.foldl (fun (s : State) r => s.toLog q r.1) s).qShow q

/-- A COPY item in course to host memory of which `n` bytes were acknowledged before the link was lost (R328, R335). -/
def State.copyCut (s : State) (cmd j n : Nat) : State :=
  match s.cmd? cmd with
  | none => s
  | some k =>
    let t := k.table + 32 * j
    let dst := s.rdNat (t + 8) 8
    if k.opcode ≠ 3 || !k.begun || decide (k.items ≤ j) || k.itemEnded j || !s.isHost dst || s.rdNat (t + 24) 4 != s.node ||
        decide (s.rdNat (t + 16) 8 < n) || !s.mappedMem dst (max n 1) then s
    else (s.wrBytes dst (s.rdBytes (s.rdNat t 8) n)).updCmd cmd (fun k => (k.run j).addBytes j n)

/-- Port A's configuration space returns to its reset values (R335); the MSI-X table in BAR4 keeps its own. -/
def State.resetCfg (s : State) : State := { s with pcie := { s.pcie with cfg := FnCfg.reset, bar2 := 36, atc := [] } }

/-- PCIE_LINK_LOSS (R335): link down, hot reset, PERST_N or D3hot. On port A of an endpoint host transfers are
aborted, every queue is detached, and the detach policy is due at the boundary (R336). A function in D3hot that loses its link loses it once more. -/
def execPcieLinkLoss (p : PcieIx) (loss : LinkEnd) (s : State) : Host.Outcome State Fault Refusal :=
  let a := pPCIE p + Off.PCIE_STAT
  let asleep := p.val == 0 && s.pcie.d3
  .next (if !s.pcieUp p && (!asleep || loss.why == .d3hot) then s
    else
      let s := if loss.why = .d3hot ∧ p.val = 0 then { s.setField a 0 0 0 with pcie := { s.pcie with d3 := true } }
        else { s.setField a 9 0 0 with pcie := { s.pcie with d3 := s.pcie.d3 && p.val != 0 } }
      let s := (s.bump (pPCIE p) Off.PCIE_DOWN_CNT 1).logCorr (pPCIE p) 0x02
      if p.val = 1 ∨ s.rootMode then s
      else
        let s := match loss.cut with
          | some (cmd, j, n) => s.copyCut cmd j n
          | none => s
        let s := s.failHostItems
        let s := (upTo 0 64).foldl (fun (s : State) q => s.detach q) s
        let s := (s.setField a 11 11 1).resetCfg
        let abort := if bit (s.regN (pPCIE 0 + Off.PCIE_CTRL)) 0 then none else some s.now
        { s with pcie := { s.pcie with abort := abort } })

/-- PCIE_D3HOT_EXIT (R311): the function returns to D0 and takes memory requests again. -/
def execPcieD3hotExit (s : State) : Host.Outcome State Fault Refusal :=
  .next (if s.pcie.d3 then { s.setField (pPCIE 0 + Off.PCIE_STAT) 0 0 1 with pcie := { s.pcie with d3 := false } } else s)

/-- HOST_DETACH_ABORT (R336): with SURVIVE_HOST_DETACH clear, at the first boundary after the loss every item of a
command-queue command not ended fails. -/
def execHostDetachAbort (s : State) : Host.Outcome State Fault Refusal :=
  .next (match s.pcie.abort with
    | none => s
    | some t =>
      if s.now ≤ t then s
      else
        let s := { s with pcie := { s.pcie with abort := none } }
        (s.cmds.filter (fun k => decide (k.src < 64) && !k.closed)).foldl (fun (s : State) k => s.stopCmd k Status.ABORTED) s)

/-! ### Accesses (R310, R312, R314) -/

/-- What a read answers. -/
def State.answered (s : State) (d : Bytes) (poison err : Bool) : State := { s with rdData := d, rdPoison := poison, rdError := err }

/-- BAR2_ACCESS (R314, R339): a host access at offset `off`: a read of `n` bytes, or a write of `data`. A malformed packet
or one with an ECRC error is dropped and reported through AER; a write with the EP bit poisons what it writes. An address
that BAR2 does not reach is refused and logged. The access acts at the homes as RD_ONCE, WR_LINE or WR_PART, and waits
while its lines are not ready (log entry 70). -/
def execBar2Access (off n : Nat) (wr : Bool) (data : Bytes) (fault : TlpFault) (s : State) : Host.Outcome State Fault Refusal :=
  let len := if wr then data.length else n
  let a := s.regN (pPCIE 0 + Off.PCIE_BAR2_BASE) + off
  let ok := s.devMem a (max len 1) || s.rangeRegion a (max len 1) == some .land
  .next (if 4096 < len ∨ fault = .malformed ∨ fault = .ecrc then
      (if s.rootMode || !s.pcieUp 0 then s else s.bump (pPCIE 0) Off.PCIE_AER_CNT 1)
    else if s.rootMode || !s.pcieUp 0 || decide (2 ^ s.pcie.bar2 < off + len) then s.answered [] false true
      else if !ok then
        let s := s.logAddr (pPCIE 0) 0x05 (a % 2 ^ 52)
        if wr then s else s.answered [] false true
      else if !s.cohReady [(a, len)] then s
      else if wr then
        let s := ((s.homeWrite [(a, len)]).wrBytes a data).bump64 (pPCIE 0) Off.PCIE_RX_BYTES len
        if fault = .poisoned then (s.poisonRange a len).bump (pPCIE 0) Off.PCIE_AER_CNT 1 else s
      else ((s.homeRead [(a, len)]).bump64 (pPCIE 0) Off.PCIE_TX_BYTES len).answered (s.rdBytes a len) (s.anyPoison a len) false)

/-- A translation enters port A's cache of 4,096 entries, in place of the oldest (R310). -/
def State.cacheXlat (s : State) (e : AtcEntry) : State :=
  let l := s.pcie.atc.filter (fun x => !overlap (x.addr, x.len) (e.addr, e.len))
  { s with pcie := { s.pcie with atc := (l ++ [e]).drop (l.length + 1 - 4096) } }

/-- Bytes of a page that ATS translates: a power of two from 4 KiB to 1 GiB (R310). -/
def atsPage (n : Nat) : Bool := decide (4096 ≤ n ∧ n ≤ gib ∧ 2 ^ Nat.log2 n = n)

/-- OUTBOUND_ACCESS (R310, R312): a device access to the outbound window. Outside one half it is an access to an
unmapped address; with the link down a read answers poison and a write is dropped. `xl` is a translation the
host gave for the page, as its length and target. -/
def execOutboundAccess (a n : Nat) (wr : Bool) (data : Bytes) (xl : Option (Nat × Nat)) (s : State) : Host.Outcome State Fault Refusal :=
  let len := if wr then data.length else n
  let p := outPort a
  .next (if a < 0xE000000000000 ∨ 0xF000000000000 ≤ a then s
    else if (s.rangeRegion a (max len 1)).isNone then (if wr then s else s.answered [] false true)
      else if s.outDown a then
        let s := s.logDown a
        if wr then s else s.answered (rep len 0) true false
      else
        let s := match xl with
          | some (l, d) => if p = 0 ∧ !s.rootMode ∧ s.pcie.cfg.atsOn ∧ atsPage l then s.cacheXlat { addr := a % 2 ^ 47 / l * l, len := l, dest := d } else s
          | none => s
        if wr then (s.wrBytes a data).bump64 (pPCIE p) Off.PCIE_TX_BYTES len
        else (s.bump64 (pPCIE p) Off.PCIE_RX_BYTES len).answered (s.rdBytes a len) (s.anyPoison a len) false)

/-- ATS_INVALIDATION (R310): entries that overlap a range of bus addresses leave the translation cache. -/
def execAtsInvalidation (a n : Nat) (s : State) : Host.Outcome State Fault Refusal :=
  .next { s with pcie := { s.pcie with atc := s.pcie.atc.filter (fun x => !overlap (x.addr, x.len) (a, n)) } }

/-! ### Port A's function (R310, R311, R313, R315) -/

/-- The capabilities of the function (R311). -/
inductive PcieCap where
  | pciExpress
  | powerManagement
  | msix
  | aer
  | doe
  | ats
  | resizableBar
  | dataLinkFeature
  | deviceSerialNumber
  deriving DecidableEq, Repr

/-- What the configuration space reports (R311). -/
structure FnIdentity where
  vendor : Nat
  device : Nat
  revision : Nat
  classCode : Nat
  caps : List PcieCap
  serial : Nat
  deriving DecidableEq, Repr

def State.fnIdentity (s : State) : FnIdentity :=
  { vendor := s.regN (pg .devid 0 + Off.DEVID_VENDOR) % 65536, device := 0xC701, revision := 0xA1, classCode := 0x120000,
    caps := [.pciExpress, .powerManagement, .msix, .aer, .doe, .ats, .resizableBar, .dataLinkFeature, .deviceSerialNumber],
    serial := s.regN (pg .devid 0 + Off.DEVID_SERIAL) }

/-- Pending vectors that may be sent now are sent. -/
def State.flushMsix (s : State) : State :=
  let go := s.pcie.pba.filter (fun v => !s.pcie.cfg.msixMask && !(s.msixEntry v).masked)
  go.foldl (fun (s : State) v => s.sendMsix v) { s with pcie := { s.pcie with pba := s.pcie.pba.filter (fun v => !go.contains v) } }

/-- A configuration write to port A's function (R310–R313). BAR2 takes a size from 1 GiB to 4 TiB. -/
def State.configWrite (s : State) (r : CfgReg) (v : Nat) : State :=
  let x := s.pcie
  let c := x.cfg
  match r with
  | .relaxedOrdering => { s with pcie := { x with cfg := { c with relaxed := bit v 0 } } }
  | .msixEnable => ({ s with pcie := { x with cfg := { c with msixOn := bit v 0 } } }).flushMsix
  | .msixMask => ({ s with pcie := { x with cfg := { c with msixMask := bit v 0 } } }).flushMsix
  | .atsEnable => { s with pcie := { x with cfg := { c with atsOn := bit v 0 }, atc := if bit v 0 then x.atc else [] } }
  | .bar2Size => if 30 ≤ v ∧ v ≤ 42 then { s with pcie := { x with bar2 := v } } else s
  | .bar n =>
    let z := if n = 0 then 26 else if n = 1 then x.bar2 else 17
    { s with pcie := { x with cfg := { c with bars := smSet (fun _ => 0) c.bars n (v / 2 ^ z * 2 ^ z) } } }

/-- A 4-byte write of the MSI-X table: word `w` of vector `v`'s entry. -/
def State.msixWrite (s : State) (v w n : Nat) : State :=
  let e := s.msixEntry v
  let e := if w = 0 then { e with addr := e.addr / 2 ^ 32 * 2 ^ 32 + n } else if w = 1 then { e with addr := e.addr % 2 ^ 32 + n * 2 ^ 32 }
    else if w = 2 then { e with data := n } else { e with masked := bit n 0 }
  ({ s with pcie := { s.pcie with msix := smSet (fun _ => MsixEntry.reset) s.pcie.msix v e } }).flushMsix

/-- A 4-byte write of BAR4 in cycle `cyc` (R315): a doorbell, the MSI-X table, or an offset that takes none. -/
def State.bar4Word (s : State) (off n cyc : Nat) : State :=
  if off < 0x200 then (if off % 8 = 0 then s.doorbell (off / 8) cyc n else s)
  else if 0x800 ≤ off ∧ off < 0xA00 then
    let q := (off - 0x800) / 8
    if off % 8 ≠ 0 then s
    else if !s.qEnabled q || s.qDetached q then s.logCorr (qPage q) 0x01 else s.returnSlots q n
  else if 0x10000 ≤ off ∧ off < 0x11000 then s.msixWrite ((off - 0x10000) / 16) (off / 4 % 4) n
  else s

/-- A 4-byte read of BAR4 (R315): a doorbell or a reserved offset answers 0. -/
def State.bar4Read (s : State) (off : Nat) : Nat :=
  if 0x10000 ≤ off ∧ off < 0x11000 then
    let e := s.msixEntry ((off - 0x10000) / 16)
    match off / 4 % 4 with
    | 0 => e.addr % 2 ^ 32
    | 1 => e.addr / 2 ^ 32
    | 2 => e.data
    | _ => b2n e.masked
  else if 0x11000 ≤ off ∧ off < 0x11020 then
    ((upTo 0 32).map (fun i => b2n (s.pcie.pba.contains ((off - 0x11000) / 4 * 32 + i)) * 2 ^ i)).foldl (· + ·) 0
  else 0

/-! ### Violations and settings (R336, R339, R340) -/

/-- PCIE_UNEXP_CPL (R339): an unexpected completion is discarded and reported. -/
def execPcieUnexpCpl (p : PcieIx) (s : State) : Host.Outcome State Fault Refusal :=
  let q := pPCIE p
  .next (((s.bump q Off.PCIE_UNEXP_CPL_CNT 1).bump q Off.PCIE_AER_CNT 1).logCorr q 0x03)

/-- PCIE_CPL_TIMEOUT (R339): a read of host memory is not answered: its item fails. -/
def execPcieCplTimeout (p : PcieIx) (cmd item : Nat) (s : State) : Host.Outcome State Fault Refusal :=
  let q := pPCIE p
  .next (match s.cmd? cmd with
    | none => s
    | some k =>
      if k.closed || k.itemEnded item || decide (k.items ≤ item) then s
      else ((s.bump q Off.PCIE_AER_CNT 1).logErr q 0x04 clsItem (s.itemInfo cmd item)).stopItem k item Status.HOST_LINK_LOST)

/-- PCIE_POISONED_TLP (R339): a poisoned write poisons the lines it names; a poisoned read completion fails its
item. -/
def execPciePoisonedTlp (p : PcieIx) (item : Option (Nat × Nat)) (a n : Nat) (s : State) : Host.Outcome State Fault Refusal :=
  let s₀ := s
  let s := s.bump (pPCIE p) Off.PCIE_AER_CNT 1
  .next (match item with
    | none => if !s.cohReady [(a, max n 1)] then s₀
      else if s.devMem a (max n 1) || s.rangeRegion a (max n 1) == some .land then (s.homeWrite [(a, n)]).poisonRange a n else s
    | some (cmd, j) => match s.cmd? cmd with
      | none => s
      | some k => if k.closed || k.itemEnded j || decide (k.items ≤ j) then s else s.stopItem k j Status.MEM_UE)

/-- PCIE_BAR2_BASE_WRITE (R340): the device address of BAR2, aligned to its size. -/
def execPcieBar2BaseWrite (v : DWord) (s : State) : Host.Outcome State Fault Refusal :=
  .next (if v.toNat % 2 ^ s.pcie.bar2 = 0 then s.setReg (pPCIE 0 + Off.PCIE_BAR2_BASE) v else s.logCorr (pPCIE 0) 0x08)

/-- PCIE_CTRL_WRITE (R331, R336): the detach policy changes only while no job runs; port B has none. -/
def execPcieCtrlWrite (p : PcieIx) (v : Word) (s : State) : Host.Outcome State Fault Refusal :=
  let q := pPCIE p
  let n := if p.val = 0 then bits v.toNat 1 0 else bits v.toNat 1 1 * 2
  .next (if n % 2 ≠ s.field (q + Off.PCIE_CTRL) 0 0 ∧ !s.noJob then s.logCorr q 0x08 else s.setRegN (q + Off.PCIE_CTRL) n)

end Sys2Proof.Machine
end

