-- ==== Sys2Proof/Machine/Memory.lean ====
section
/-!
DEFINITION. Machine/Memory.lean: memory errors, scrubbing, the map and the tier mode, clearing a landing
buffer, and deck accesses to one (R213–R221, R235–R238).
-/
namespace Sys2Proof.Machine

def pHBMC (k : Nat) : Nat := pg .hbmc k
def pLPDC (l : Nat) : Nat := pg .lpdc l

/-- Stack 0–19 or tier controller 20–31 that an address lies at. -/
def State.unitOf (s : State) (a : Nat) : Nat :=
  match s.region a with
  | some .hbm => s.loc a / (48 * gib)
  | some .tier => 20 + (s.loc a - 0x10000000000) / (128 * gib)
  | _ => 32

/-- Page, and its counters, of a memory unit: offset of the page, CE and UE counters, LAST_ADDR. -/
def unitPage (u : Nat) : Nat := if u < 20 then pHBMC u else pLPDC (u - 20)
def unitCe (u : Nat) : Nat := if u < 20 then Off.HBMC_CE_CNT else Off.LPDC_CE_CNT
def unitUe (u : Nat) : Nat := if u < 20 then Off.HBMC_UE_CNT else Off.LPDC_UE_CNT
def unitLast (u : Nat) : Nat := if u < 20 then Off.HBMC_LAST_ADDR else Off.LPDC_LAST_ADDR

/-- A corrected read: counted, and its page logged once per tide (R218). -/
def State.memCorrected (s : State) (a : Nat) : State :=
  let u := s.unitOf a
  let s := (s.bump (unitPage u) (unitCe u) 1).ev (fun e => { e with ce := e.ce + 1 })
  let s := { s with age := { s.age with memCe := s.age.memCe.set u (s.age.memCe.getD u 0 + 1) } }
  let k := s.loc a / 4096
  if s.ceLogged.contains k then s
  else (({ s with ceLogged := k :: s.ceLogged }).setRegN (unitPage u + unitLast u) a).logAddr (unitPage u) 0x01 a

/-- An uncorrectable read: counted and logged, and the line is poisoned; a scrub's own finding is correctable
(R218, R219). -/
def State.memUncorrectable (s : State) (a : Nat) (scrub : Bool) : State :=
  let u := s.unitOf a
  let s := ((s.bump (unitPage u) (unitUe u) 1).ev (fun e => { e with ue := e.ue + 1 })).setRegN (unitPage u + unitLast u) a
  let s := if scrub then s.logAddr (unitPage u) (if u < 20 then 0x03 else 0x04) a
    else s.logErr (unitPage u) 0x02 clsItem { LogInfo.none with addr := some a }
  s.setPoison a true

/-- MEMORY_READ_ERROR (R218, R220): a read of HBM3E, the tier or a landing buffer is corrected and counted, or
its line is delivered poisoned. -/
def execMemoryReadError (a : Nat) (kind : ReadErr) (s : State) : Host.Outcome State Fault Refusal :=
  .next (match s.region a with
    | some .land =>
      let c := (a - lbBase 0) / 0x400000
      let off := (a - lbBase 0) % 0x400000
      let s := s.setRegN (pLAND c + Off.LAND_LAST_ERR) (off / 8 * 8)
      match kind with
      | .corrected => ((s.bump (pLAND c) Off.LAND_CE_CNT 1).ev (fun e => { e with ce := e.ce + 1 })).logAddr (pLAND c) 0x01 a
      | .uncorrectable => s.setPoison a true
      | .link => s
    | some .hbm =>
      match kind with
      | .corrected => s.memCorrected a
      | .uncorrectable => s.memUncorrectable a false
      | .link => s
    | some .tier =>
      match kind with
      | .corrected => s.memCorrected a
      | .uncorrectable => s.memUncorrectable a false
      | .link => (s.bump (unitPage (s.unitOf a)) Off.LPDC_LINK_CNT 1).logAddr (unitPage (s.unitOf a)) 0x03 a
    | _ => s)

/-- A scrub pass of a unit: corrected data are written back, lines found uncorrectable are poisoned and logged. -/
def State.scrub (s : State) (u : Nat) (ce ue : List Nat) : State :=
  let mine := fun (s : State) a => s.unitOf a == u
  let s := ce.foldl (fun (s : State) a => if mine s a then s.memCorrected a else s) s
  ue.foldl (fun (s : State) a => if mine s a then s.memUncorrectable a true else s) s

/-- The next scrub pass of unit `u`, one every `n` tides, is due to end; 0 stops scrubbing (R219). -/
def State.scrubDue (s : State) (u n : Nat) : Bool := n != 0 && decide (smGet (fun _ => 0) s.scrubbed u + n ≤ s.tide)

/-- A pass that ends, if one is due. -/
def State.scrubPass (s : State) (u n : Nat) (ce ue : List Nat) : State :=
  if s.scrubDue u n then { s.scrub u ce ue with scrubbed := smSet (fun _ => 0) s.scrubbed u s.tide } else s

/-- HBMC_SCRUB_PASS (R219): once every HBMC_SCRUB tides, unless that is 0. -/
def execHbmcScrubPass (k : StackIx) (ce ue : List Nat) (s : State) : Host.Outcome State Fault Refusal :=
  .next (s.scrubPass k (s.regN (pHBMC k + Off.HBMC_SCRUB)) ce ue)

/-- LPDC_SCRUB_PASS (R219, R217): once every LPDC_SCRUB tides, unless that is 0 or the tier is idle. -/
def execLpdcScrubPass (l : LpIx) (ce ue : List Nat) (s : State) : Host.Outcome State Fault Refusal :=
  .next (if s.tiered then s.scrubPass (20 + l) (s.regN (pLPDC l + Off.LPDC_SCRUB)) ce ue else s)

/-- HBMC_MAP_WRITE (R213, R217): while no job runs; a LOCAL_GIB above 48 is ignored and logged. No data move. -/
def execHbmcMapWrite (v : Word) (s : State) : Host.Outcome State Fault Refusal :=
  let n := v.toNat
  .next (if !s.noJob then s.logCorr (pHBMC 0) 0x04
    else
      let s' := s.setField (pHBMC 0 + Off.HBMC_MAP) 6 6 (bits n 6 6)
      if 48 < bits n 5 0 then s'.logCorr (pHBMC 0) 0x04 else s'.setField (pHBMC 0 + Off.HBMC_MAP) 5 0 (bits n 5 0))

/-- Some segment has SPILL_EN set (R217). -/
def State.anySpill (s : State) : Bool := (upTo 0 256).any (fun c => (upTo 0 32).any (s.sSpill c))

/-- LPDC_TIER_WRITE (R217): while no job runs; not TIERED for an untrained tier, nor HBM-ONLY while a segment may
spill. -/
def execLpdcTierWrite (v : Word) (s : State) : Host.Outcome State Fault Refusal :=
  let n := v.toNat
  .next (if !s.noJob || (bit n 0 && s.field (pLPDC 0 + Off.LPDC_STAT) 2 0 == 0) || (!bit n 0 && s.anySpill) then
      s.logCorr (pLPDC 0) 0x05
    else s.setRegN (pLPDC 0 + Off.LPDC_TIER) (n % 4))

/-! ### Landing buffers -/

/-- LAND_CLEAR (R237): the clear starts while the SEQ is IDLE. -/
def execLandClear (c : CoreIx) (s : State) : Host.Outcome State Fault Refusal :=
  .next (if s.seqIdle c then s.setRegN (pLAND c + Off.LAND_STAT) 1 else s.logCorr (pLAND c) 0x03)

/-- LAND_CLEAR_DONE (R237, R238): the whole landing buffer is zero, with valid check bits. -/
def execLandClearDone (c : CoreIx) (s : State) : Host.Outcome State Fault Refusal :=
  .next (if bit (s.regN (pLAND c + Off.LAND_STAT)) 0 then
      (s.zeroRange (lbBase c) 0x400000).setRegN (pLAND c + Off.LAND_STAT) 0
    else s)

/-- A read answers data. -/
def State.answer (s : State) (b : Bytes) (poison : Bool) : State := { s with rdData := b, rdPoison := poison, rdError := false }

/-- An uncorrectable word of core `c`'s landing buffer met by a read that no item makes: counted and logged (R220). -/
def State.landRead (s : State) (c off : Nat) : State :=
  let p := pLAND c
  let s := ((s.bump p Off.LAND_UE_CNT 1).ev (fun e => { e with ue := e.ue + 1 })).setRegN (p + Off.LAND_LAST_ERR) (off / 8 * 8)
  s.logErr p 0x02 clsItem { LogInfo.none with addr := some (lbBase c + off) }

/-- DECK_LB_ACCESS (R220, R221): an uncached access of at most 64 naturally aligned bytes. -/
def execDeckLbAccess (c : CoreIx) (off n : Nat) (wr : Bool) (data : Bytes) (s : State) : Host.Outcome State Fault Refusal :=
  .next (if !([1, 2, 4, 8, 16, 32, 64].contains n) || decide (off % n ≠ 0 ∨ 0x400000 < off + n) then s
    else if wr then s.lbWr c off (fit n 0 data)
    else match s.poisonIn c [(off, n)] with
      | some o => (s.landRead c o).answer (s.lbRd c off n) true
      | none => s.answer (s.lbRd c off n) false)

end Sys2Proof.Machine
end

