-- ==== Sys2Proof/Machine/Prep.lean ====
section
/-!
DEFINITION. Machine/Prep.lean: the random-number page of a core and its prep core: run control, traps,
interrupts and the flags it posts (R132–R138). The instructions that a prep core executes are RISC-V's and
no command of this block; what they do to the block arrives as its commands.
-/
namespace Sys2Proof.Machine

/-! ### RNG page (R132, R138) -/

/-- RNG_SEED_WRITE (R138): the job seed is set while the SEQ is IDLE. -/
def execRngSeedWrite (c : CoreIx) (v : DWord) (s : State) : Host.Outcome State Fault Refusal :=
  .next (if s.seqIdle c then s.setReg (pRNG c + Off.RNG_SEED) v else s.logCorr (pRNG c) 0x02)

/-- RNG_RESTORE_STEP_WRITE (R132, R138): the position is recomputed as (restored step, 0); another value held in
RNG_POS is kept in RNG_MISMATCH, logged and overwritten. -/
def execRngRestoreStepWrite (c : CoreIx) (v : DWord) (s : State) : Host.Outcome State Fault Refusal :=
  let p := pRNG c
  let pos := v.toNat % 2 ^ 40 * 2 ^ 24
  .next (if !s.seqIdle c then s.logCorr p 0x02
    else if s.regN (p + Off.RNG_POS) = pos then s
    else ((((s.setReg (p + Off.RNG_MISMATCH) (s.reg (p + Off.RNG_POS))).bump p Off.RNG_MISMATCH_CNT 1).logCorr p 0x01).setRegN
      (p + Off.RNG_POS) pos))

/-! ### Run control (R133, R137) -/

def pPREP (c : Nat) : Nat := pg .prep c

/-- PREP_STAT.STATE: 0 RESET, 1 RUNNING, 2 HALTED, 3 WFI. -/
def State.prepState (s : State) (c : Nat) : Nat := s.field (pPREP c + Off.PREP_STAT) 1 0
def State.setPrepState (s : State) (c v : Nat) : State := s.setField (pPREP c + Off.PREP_STAT) 1 0 v

/-- What a prep core holds. -/
def State.setPrep (s : State) (c : Nat) (x : PrepSt) : State := s.setCore c { s.core c with prep := x }
def State.setHart (s : State) (c : Nat) (h : HartSt) : State := s.setPrep c { (s.core c).prep with hart := h }

/-- PREP_RUN (R133): a core in reset or halted starts at PREP_RESET_VEC; the rest of its state is kept. -/
def execPrepRun (c : CoreIx) (s : State) : Host.Outcome State Fault Refusal :=
  let p := pPREP c
  let st := s.prepState c
  let s := s.setField (p + Off.PREP_CTRL) 0 0 1
  .next (if st = 0 ∨ st = 2 then
      (s.setRegN (p + Off.PREP_STAT) 1).setHart c { (s.core c).prep.hart with pc := s.regN (p + Off.PREP_RESET_VEC) }
    else s)

/-- PREP_HALT (R133): a core that runs halts at the next instruction boundary. -/
def execPrepHalt (c : CoreIx) (s : State) : Host.Outcome State Fault Refusal :=
  let st := s.prepState c
  let s := s.setField (pPREP c + Off.PREP_CTRL) 0 0 0
  .next (if st = 1 ∨ st = 3 then s.setPrepState c 2 else s)

/-- PREP_RESET (R133): the architectural state and caches are reset; with RUN set the core starts again. -/
def execPrepReset (c : CoreIx) (s : State) : Host.Outcome State Fault Refusal :=
  let p := pPREP c
  let s := (s.setPrep c PrepSt.reset).setRegN (p + Off.PREP_STAT) 0
  .next (if bit (s.regN (p + Off.PREP_CTRL)) 0 then
      (s.setPrepState c 1).setHart c { HartSt.reset with pc := s.regN (p + Off.PREP_RESET_VEC) }
    else s)

/-! ### Traps and interrupts (R134, R135, R137) -/

/-- The prep core executes: RUNNING, or waiting in WFI. -/
def State.prepUp (s : State) (c : Nat) : Bool := s.prepState c == 1 || s.prepState c == 3

/-- A trap is taken in machine mode: the hart's CSRs, its mode and its pc follow, and the page shows its mcause, mepc and
mtval. -/
def State.prepTrap (s : State) (c : Nat) (cause epc tval : DWord) : State :=
  let p := pPREP c
  let s := ((s.setReg (p + Off.PREP_MCAUSE) cause).setReg (p + Off.PREP_MEPC) epc).setReg (p + Off.PREP_MTVAL) tval
  s.setHart c ((s.core c).prep.hart.trapM cause.toNat epc.toNat tval.toNat)

/-- mip of a prep core: MTIP while TICK_NOW has reached PTICKCMP, MEIP while a source is pending (R135, R137). -/
def State.prepMip (s : State) (c : Nat) : Nat :=
  b2n (decide ((s.core c).prep.tickCmp ≤ s.now)) * 2 ^ 7 + b2n (s.regN (pPREP c + Off.PREP_IRQ_PEND) != 0) * 2 ^ 11

/-- An interrupt is pending: it wakes a core in WFI, and is taken once the core has it enabled. -/
def State.prepIrq (s : State) (c : Nat) : State :=
  let s := if s.prepState c = 3 then s.setPrepState c 1 else s
  let h := (s.core c).prep.hart
  let h' := h.interrupt (s.prepMip c)
  if !s.prepUp c || h' == h then s
  else s.prepTrap c (BitVec.ofNat 64 (h'.csr mTrap.cause)) (BitVec.ofNat 64 h.pc) 0

/-! ### Server harts (R286, R290) -/

/-- The hart of a server core is replaced. -/
def State.setSrvHart (s : State) (k : Nat) (h : HartSt) : State := s.setServer k { s.server k with hart := h }

/-- An exception of a server core is taken in the mode its delegation registers give. -/
def State.serverTrap (s : State) (k cause epc tval : Nat) : State := s.setSrvHart k ((s.server k).hart.trap cause epc tval)

/-- A CSR of server core `k` as an instruction reads it: its identity, which the DEVID page reports, the time, and what
the hart holds (R286). -/
def State.serverCsr (s : State) (k n : Nat) : Nat :=
  let d := pg .devid 0
  if n = 0xF14 then k
  else if n = 0xF11 then s.regN (d + Off.DEVID_MVENDORID)
  else if n = 0xF12 then s.regN (d + Off.DEVID_MARCHID)
  else if n = 0xF13 then s.regN (d + Off.DEVID_MIMPID)
  else if n = 0xC01 then s.now
  else (s.server k).hart.csr n

/-- The Sstc timer interrupt of a server core is pending: the time has reached stimecmp, once menvcfg allows it (R286). -/
def State.serverTimer (s : State) (k : Nat) : Bool :=
  bit (s.serverCsr k 0x30A) 63 && decide (s.serverCsr k 0x14D ≤ s.now)

/-! ### CSRs and accesses of a prep core (R133–R135)

The instructions that a prep core executes are no commands of this block. What its CSRs read and where its accesses go
stands here; a write of PTFLAGSET or PTICKCMP and a failing access have rows. -/

/-- A CSR of prep core `c` as an instruction reads it. PTCYC, the cycle within the tick, is a free value (log entry 6). -/
def State.prepCsr (s : State) (c n : Nat) : State × Nat :=
  if n = 0xF14 then (s, 0x10000 + c)
  else if n = 0xC01 then (s, s.now)
  else if n = 0x344 then (s, s.prepMip c)
  else if n = 0x7C1 then (s, s.flags c)
  else if n = 0x7C2 then (s, (s.core c).prep.tickCmp)
  else if n = 0x7C3 then ((s.draw).2, (Config.freeValue s.free).toNat)
  else if n = 0xFC0 then (s, c)
  else (s, (s.core c).prep.hart.csr n)

/-- An access of `n` bytes that prep core `c` can make: of at most 8 bytes to a landing buffer, its own through its local
port or another's over the deck, and anywhere in mapped memory (R134). -/
def State.prepReaches (s : State) (a n : Nat) : Bool :=
  match s.rangeRegion a n with
  | none => false
  | some r => r != .land || decide (n ≤ 8)

/-- A load of a prep core: its data, or the access fault of an unmapped address or of poisoned data (R134, R278). -/
def State.prepLoad (s : State) (c a n : Nat) (epc : DWord) : State × Bytes :=
  if !s.prepReaches a n then ((s.prepTrap c 5 epc (BitVec.ofNat 64 a)).logAddr (pPREP c) 0x02 (a % 2 ^ 52), [])
  else if s.anyPoison a n then (s.prepTrap c 5 epc (BitVec.ofNat 64 a), [])
  else (s, s.rdBytes a n)

/-- A store of a prep core (R134). -/
def State.prepStore (s : State) (c a : Nat) (b : Bytes) (epc : DWord) : State :=
  if !s.prepReaches a b.length then (s.prepTrap c 7 epc (BitVec.ofNat 64 a)).logAddr (pPREP c) 0x02 (a % 2 ^ 52)
  else s.wrBytes a b

/-- PTFLAGSET (R135, R136, R30): once the earlier stores are visible, flags 0–31 named by the value are posted clean, and
acted on from the next boundary; a post in a tick of a sailing that waits on it is counted. A halted core posts nothing. -/
def execPtflagset (c : CoreIx) (v : DWord) (s : State) : Host.Outcome State Fault Refusal :=
  let m := v.toNat % 2 ^ 32
  let late := (s.core c).sailings.any (fun x => !x.waited && decide (x.tick ≤ s.now) && (recWait x.bytes &&& m) != 0)
  .next (if !s.prepUp c then s
    else (if late then s.bump (pPREP c) Off.PREP_LATE_POST 1 else s).handFlags c m)

/-- PTICKCMP_IRQ (R135): the CSR PTICKCMP holds `cmp`; the machine timer interrupt is raised while TICK_NOW has
reached it. -/
def execPtickcmpIrq (c : CoreIx) (cmp : DWord) (s : State) : Host.Outcome State Fault Refusal :=
  let s := s.setPrep c { (s.core c).prep with tickCmp := cmp.toNat }
  .next (if cmp.toNat ≤ s.now then s.prepIrq c else s)

/-- PREP_BUS_ERROR (R134): an access to an unmapped address traps with the access fault of its kind and is
logged. -/
def execPrepBusError (c : CoreIx) (cause epc addr : DWord) (s : State) : Host.Outcome State Fault Refusal :=
  .next (if s.prepUp c && (cause == 1 || cause == 5 || cause == 7) && (s.region addr.toNat).isNone then
      (s.prepTrap c cause epc addr).logAddr (pPREP c) 0x02 (addr.toNat % 2 ^ 52)
    else s)

/-- PREP_DOUBLE_TRAP (R137): a trap taken while mcause still holds one that the program has not acknowledged halts the
core. Whether it has is known to the program alone: the row says that it has not (DEDUCED, safe: log entry 65). -/
def execPrepDoubleTrap (c : CoreIx) (cause epc tval : DWord) (s : State) : Host.Outcome State Fault Refusal :=
  .next (if s.prepUp c then
      ((s.prepTrap c cause epc tval).setRegN (pPREP c + Off.PREP_STAT) 6).logCorr (pPREP c) 0x01
    else s)

/-- The page whose error is source `u` of PREP_IRQ_PEND; source 0 is the SEQ. -/
def prepSource (c u : Nat) : Nat :=
  match u with
  | 0 => pSEQ c
  | 1 => pME c
  | 2 => pVE c
  | 3 => pFERRY c 0
  | 4 => pFERRY c 1
  | 5 => pFERRY c 2
  | 6 => pFERRY c 3
  | 7 => pEXP c
  | _ => pRNG c

/-- An item that a record of this core names has failed. -/
def State.coreItemFailed (s : State) (c : Nat) : Bool :=
  match (s.core c).tt with
  | none => false
  | some t => (upTo 0 (ttCount t.bytes)).any (s.recFailed t)

/-- UNIT_ERROR_IRQ (R137): an error of source `u` of the core raises the machine external interrupt. -/
def execUnitErrorIrq (c : CoreIx) (u : Fin 9) (s : State) : Host.Outcome State Fault Refusal :=
  let on := bit (s.regN (prepSource c u + Off.PG_IRQ_STAT)) 0 || (u.val == 0 && s.coreItemFailed c)
  .next (if on then (s.setField (pPREP c + Off.PREP_IRQ_PEND) u u 1).prepIrq c else s)

end Sys2Proof.Machine
end

