-- ==== Sys2Proof/Machine/Coherence.lean ====
section
/-!
DEFINITION. Machine/Coherence.lean: homes and their line FIFOs, participants and their copies, snoops,
grants, atomics and the die caches (R259–R284). The data of a coherent line is one image: what a message
carries is what the line holds when the message is sent, and a dirty copy's data stands in memory.
-/
namespace Sys2Proof.Machine

/-! ### Serving the head (R265, R267, R271–R273, R276, R277) -/

/-- What a home or controller sends back. -/
def State.reply (s : State) (t : HomeTx) (line : Nat) (kind : ReplyKind) (data : Bytes) : State :=
  let r : CohReply :=
    { agent := t.agent, line := line, kind := kind, core := t.core, contended := t.contended,
      poison := s.poisoned (64 * line), data := data }
  s.setCoh { s.coh with replies := s.coh.replies ++ [r] }

/-- WB_ACK to a participant. -/
def State.sendAck (s : State) (p : PartIx) (line : Nat) : State := s.reply (mkTx .wb (.part p) 0 []) line .wbAck []

/-- The low `n` bytes of a value. -/
def amoCut (n v : Nat) : Nat := v % 2 ^ (8 * n)

/-- The low `n` bytes read as two's complement. -/
def amoInt (n v : Nat) : Int := sext (8 * n) (amoCut n v)

/-- The new value of an AMO on `n` bytes (R276). -/
def amoOp (o : AmoOp) (n old v : Nat) : Nat :=
  amoCut n (match o with
    | .swap => v
    | .add => old + v
    | .and => old &&& v
    | .or => old ||| v
    | .xor => old ^^^ v
    | .min => if amoInt n old ≤ amoInt n v then old else v
    | .max => if amoInt n v ≤ amoInt n old then old else v
    | .minu => min old (amoCut n v)
    | .maxu => max old (amoCut n v))

/-- Bytes of a far atomic: 4 or 8 (R276). -/
def amoBytes (wide : Bool) : Nat := if wide then 8 else 4

/-- Bytes of an atomic. -/
def atomBytes : AtomSize → Nat
  | .b8 => 1
  | .b16 => 2
  | .b32 => 4
  | .b64 => 8
  | .b128 => 16

/-- The lines of a bulk request that are not yet served. -/
def State.bulkLeft (s : State) (id : Nat) : Bool :=
  s.coh.fifos.any (fun e => e.2.any (fun t => t.bulk.any (·.1 == id)))

/-- A request counts as served: a bulk request with its last line. -/
def State.countReq (s : State) (line : Nat) (t : HomeTx) : State :=
  match t.bulk with
  | some b => if s.bulkLeft b.1 then s else s.bump64 (linePage line) Off.HOME_REQ_CNT 1
  | none => s.bump64 (linePage line) Off.HOME_REQ_CNT 1

/-- WR_DONE: for a bulk write when its last line is globally visible, naming the first (R277). -/
def State.writeDone (s : State) (line : Nat) (t : HomeTx) : State :=
  match t.bulk with
  | some b => if s.bulkLeft b.1 then s else s.reply t b.2 .wrDone []
  | none => s.reply t line .wrDone []

/-- Bytes of a line under a byte mask. -/
def State.wrMask (s : State) (line mask : Nat) (data : Bytes) : State :=
  (upTo 0 64).foldl (fun (s : State) i => if bit mask i then s.wr8 (64 * line + i) (data.getD i 0) else s) s

/-- Participant `p` becomes the line's only holder, and the slice holds it no more (R262, R263). -/
def State.ownTo (s : State) (line p : Nat) : State :=
  let s := s.dirSet line true [p]
  s.setCoh (s.coh.llcDrop line)

/-- No participant holds the line, nor does the slice: a write puts it into memory (R277). -/
def State.homeLeft (s : State) (line : Nat) : State :=
  let s := s.dirFree line
  s.setCoh (s.coh.llcDrop line)

/-- The head transaction has every answer it needs: its effect, its grant or completion, and its place in the
FIFO given up. -/
def State.cohFinish (s : State) (line : Nat) : State :=
  match s.fifo line with
  | [] => s
  | t :: rest =>
    let s := s.setFifo line rest
    let page := linePage line
    let p := (agentPart t.agent).getD 64
    let others := (s.coh.sharers line).filter (· ≠ p)
    let now := s.rdBytes (64 * line) 64
    match t.kind with
    | .rdShared =>
      let s := s.countReq line t
      if classA p && (t.dirty || !others.isEmpty) then
        (if others.isEmpty then s.dirFree line else s).reply t line .dataOnce now
      else if others.isEmpty then (s.ownTo line p).reply t line .gntE now
      else (s.dirSet line false (p :: others)).reply t line .gntS now
    | .rdOwn => ((s.countReq line t).ownTo line p).reply t line (if t.dirty then .gntM else .gntE) now
    | .upgrade =>
      let s := s.countReq line t
      if (s.coh.sharers line).contains p then (s.ownTo line p).reply t line .gntUp []
      else (s.ownTo line p).reply t line (if t.dirty then .gntM else .gntE) now
    | .rdOnce => (s.countReq line t).reply t line .dataOnce now
    | .bulkRd => (s.countReq line t).reply t line .dataOnce now
    | .wrLine => (((s.homeLeft line).wrBytes (64 * line) t.data).countReq line t).writeDone line t
    | .bulkWr => (((s.homeLeft line).wrBytes (64 * line) t.data).countReq line t).writeDone line t
    | .wrPart mask => (((s.homeLeft line).wrMask line mask t.data).countReq line t).writeDone line t
    | .amo o wide a v =>
      let n := amoBytes wide
      let old := s.rdNat a n
      let s := (s.dirFree line).wrRaw a (natLE n (amoOp o n old v))
      let s := s.setCoh (s.coh.llcPut line)
      ((s.countReq line t).bump64 page Off.HOME_FAR_AMO_CNT 1).reply t line (.amoRsp old wide) []
    | .recall => (s.dirFree line).countReq line t
    | .wb => (s.dirDrop line p).reply t line .wbAck []
    | .evict => (s.dirDrop line p).reply t line .wbAck []
    | .backInv => s.dirFree line

/-- The entries of the directory set of a line. -/
def CohSt.setOf (x : CohSt) (line : Nat) : List DirEntry :=
  let h := homeOf (64 * line)
  let mine := x.dir.filter (fun e => homeOf (64 * e.line) == h)
  -- a slice with fewer than 12 entries has no full set, whatever the hash
  if mine.length < 12 then []
  else mine.filter (fun e => Config.dirSet e.line % 65536 == Config.dirSet line % 65536)

/-- Snoops sent for the head transaction. -/
def State.sendSnoops (s : State) (line : Nat) (k : SnoopKind) (ps : List Nat) : State :=
  let new : List CohSnoop := ps.map (fun p => { part := p, line := line, kind := k, again := false })
  (s.setCoh { s.coh with snoops := s.coh.snoops ++ new }).bump64 (linePage line) Off.HOME_SNOOP_CNT ps.length

/-- The head transaction of a line is served: its snoops are sent, or, with none to send, it completes. A
transaction that needs an entry of a full set has a back-invalidation enter the FIFO of the least recently
allocated line that has an empty one, and waits (R271). -/
def State.cohServe (s : State) (line : Nat) : State :=
  match s.fifo line with
  | [] => s
  | t :: rest =>
    if t.started then (if t.waits.isEmpty then s.cohFinish line else s)
    else
      let full := s.coh.setOf line
      if needsEntry t && (s.coh.entry line).isNone && decide (12 ≤ full.length) then
        if full.any (fun e => (s.fifo e.line).any (·.kind == .backInv)) then s
        else match full.find? (fun e => (s.fifo e.line).isEmpty) with
          | some v => (s.enter v.line (mkTx .backInv .host 0 [])).bump64 (linePage line) Off.HOME_BACKINV_CNT 1
          | none => s
      else
        let q := s.coh.targets line t
        if q.2.isEmpty then s.cohFinish line
        else
          let ws : List SnoopWait := q.2.map (fun p => { part := p, kind := q.1, resend := none, dif := false })
          (s.setFifo line ({ t with started := true, contended := true, waits := ws } :: rest)).sendSnoops line q.1 q.2

/-! ### Requests that arrive at a home (R264–R267) -/

/-- Classes of agent that may send each request (R264). -/
def mayAsk (k : TxKind) (g : CohAgent) : Bool :=
  match k, g with
  | .rdShared, .part _ => true
  | .rdOwn, .part _ => true
  | .upgrade, .part p => !classA p
  | .rdOnce, _ => true
  | .bulkRd, .ferry _ _ => true
  | .bulkRd, .pont _ => true
  | .bulkRd, .coll _ => true
  | .wrLine, _ => true
  | .bulkWr, .ferry _ _ => true
  | .bulkWr, .coll _ => true
  | .wrPart _, .host => true
  | .wrPart _, .coll _ => true
  | .amo _ _ _ _, .part _ => true
  | .recall, .pont _ => true
  | _, _ => false

/-- Take a message that `f` accepts. Messages of one kind between two units, those for which `same` holds, arrive in
the order sent (R266): none where there is no such message, and no taking where an earlier one is still on its way;
`late` says that one was passed over. -/
def arrive {α : Type} (same f : α → Bool) : List α → Bool → Option (Option (α × List α))
  | [], _ => none
  | r :: rs, late =>
    if f r then some (if late then none else some (r, rs))
    else (arrive same f rs (late || same r)).map (Option.map (fun x => (x.1, r :: x.2)))

/-- Two requests go from one agent to one home. -/
def sameWay (line : Nat) (g : CohAgent) (r : Nat × HomeTx) : Bool := r.2.agent == g && homeOf (64 * r.1) == homeOf (64 * line)

/-- A request for one line arrives: one sent on its way by this block, or one that the agent's own cache miss or access
makes, which the requests it sent before to this home come before. -/
def State.request (s : State) (line : Nat) (t : HomeTx) : State :=
  if !mayAsk t.kind t.agent then s.cohProtocol line
  else match arrive (sameWay line t.agent)
      (fun r => r.1 == line && r.2.agent == t.agent && r.2.kind == t.kind && r.2.core == t.core) s.coh.reqs false with
    | some (some r) => (s.setCoh { s.coh with reqs := r.2 }).enter line t
    | some none => s
    | none =>
      if s.coh.reqs.any (sameWay line t.agent) then s
      else
        let s := match agentPart t.agent with
          | some p => if classA p then s.bump64 (pDCACHE (p - 32)) Off.DCACHE_MISS_CNT 1 else s
          | none => s
        s.enter line t

/-- A request for a line of device memory. -/
def State.requestAt (s : State) (a : Nat) (t : HomeTx) : State :=
  if s.devMem (a / 64 * 64) 64 then s.request (a / 64) t else s

/-- A bulk request enters the FIFOs of all its lines at once (R265). -/
def State.bulkRequest (s : State) (a n : Nat) (kind : TxKind) (g : CohAgent) (data : Bytes) : State :=
  let first := a / 64
  if n = 0 || !s.devMem (64 * first) (64 * n) then s
  else if !mayAsk kind g then s.cohProtocol first
  else
    let id := s.coh.nextBulk
    (upTo 0 n).foldl (fun (s : State) i =>
      s.enter (first + i) { mkTx kind g 0 ((data.drop (64 * i)).take 64) with bulk := some (id, first) })
      (s.setCoh { s.coh with nextBulk := id + 1 })

/-- A bulk request names 1 to 64 lines of one page (R264). -/
def bulkOk (a n : Nat) : Bool := decide (1 ≤ n ∧ n ≤ 64 ∧ a % 64 = 0 ∧ a / 4096 = (a + 64 * n - 1) / 4096)

/-- The lines of `n` from the line of `a` on that lie in its page: what one bulk request can name (R264, log entry 3). -/
def pageLines (a n : Nat) : Nat := min n (64 - a / 64 % 64)

/-- HOME_RD_SHARED (R264, R265). -/
def execHomeRdShared (p : PartIx) (core : Fin 64) (a : Nat) (s : State) : Host.Outcome State Fault Refusal :=
  .next (s.requestAt a (mkTx .rdShared (.part p) core []))

/-- HOME_RD_OWN (R264, R265). -/
def execHomeRdOwn (p : PartIx) (core : Fin 64) (a : Nat) (s : State) : Host.Outcome State Fault Refusal :=
  .next (s.requestAt a (mkTx .rdOwn (.part p) core []))

/-- HOME_UPGRADE (R264, R267). -/
def execHomeUpgrade (p : PartIx) (core : Fin 64) (a : Nat) (s : State) : Host.Outcome State Fault Refusal :=
  .next (s.requestAt a (mkTx .upgrade (.part p) core []))

/-- HOME_RD_ONCE (R264). -/
def execHomeRdOnce (g : CohAgent) (a : Nat) (s : State) : Host.Outcome State Fault Refusal :=
  .next (s.requestAt a (mkTx .rdOnce g 0 []))

/-- HOME_BULK_RD (R264, R265). -/
def execHomeBulkRd (g : CohAgent) (a n : Nat) (s : State) : Host.Outcome State Fault Refusal :=
  .next (s.bulkRequest a (pageLines a n) .bulkRd g [])

/-- HOME_WR_LINE (R264): a whole line. -/
def execHomeWrLine (g : CohAgent) (a : Nat) (data : Bytes) (s : State) : Host.Outcome State Fault Refusal :=
  .next (s.requestAt a (mkTx .wrLine g 0 (fit 64 0 data)))

/-- HOME_BULK_WR (R264, R265). -/
def execHomeBulkWr (g : CohAgent) (a : Nat) (data : Bytes) (s : State) : Host.Outcome State Fault Refusal :=
  .next (s.bulkRequest a (pageLines a (data.length / 64)) .bulkWr g data)

/-- HOME_WR_PART (R264): the bytes of a line that the mask names. -/
def execHomeWrPart (g : CohAgent) (a : Nat) (mask : DWord) (data : Bytes) (s : State) : Host.Outcome State Fault Refusal :=
  .next (s.requestAt a (mkTx (.wrPart mask.toNat) g 0 (fit 64 0 data)))

/-- HOME_AMO_FAR (R276): an atomic that its sender's predictor made far. -/
def execHomeAmoFar (p : PartIx) (core : Fin 64) (op : AmoOp) (wide : Bool) (a : Nat) (v : DWord) (s : State) :
    Host.Outcome State Fault Refusal :=
  .next (if a % amoBytes wide = 0 then s.requestAt a (mkTx (.amo op wide a v.toNat) (.part p) core []) else s)

/-- HOME_RECALL (R234, R265). -/
def execHomeRecall (g : CohAgent) (a n : Nat) (s : State) : Host.Outcome State Fault Refusal :=
  .next (s.bulkRequest a (pageLines a n) .recall g [])

/-- HOME_TRANSACTION_SERVE (R265). -/
def execHomeTransactionServe (a : Nat) (s : State) : Host.Outcome State Fault Refusal := .next (s.cohServe (a / 64))

/-! ### Answers, write-backs and crossings (R267–R270) -/

/-- The wait of a head transaction for a participant. -/
def headWait (f : List HomeTx) (p : Nat) : Option SnoopWait :=
  match f with
  | [] => none
  | t :: _ => t.waits.find? (·.part == p)

/-- The head transaction changed. -/
def State.updHead (s : State) (line : Nat) (g : HomeTx → HomeTx) : State :=
  match s.fifo line with
  | [] => s
  | t :: rest => s.setFifo line (g t :: rest)

/-- A wait of the head is over; with none left the transaction completes. -/
def State.settle (s : State) (line p : Nat) (dirty : Bool) : State :=
  let s := s.updHead line (fun t => { t with waits := t.waits.filter (·.part ≠ p), dirty := t.dirty || dirty })
  match s.fifo line with
  | [] => s
  | t :: _ => if t.waits.isEmpty then s.cohFinish line else s

/-- The participant's write-back (or eviction) waits in the FIFO behind the head. -/
def queuedLeave (f : List HomeTx) (p : Nat) (k : TxKind) : Bool :=
  (f.drop 1).any (fun t => t.kind == k && agentPart t.agent == some p)

/-- It is taken out of the FIFO, and acknowledged: it is not served again (R269). -/
def State.takeLeave (s : State) (line : Nat) (p : PartIx) (k : TxKind) : State :=
  match s.fifo line with
  | [] => s
  | t :: rest => (s.setFifo line (t :: rest.filter (fun x => !(x.kind == k && agentPart x.agent == some p.val)))).sendAck p line

/-- The data of a write-back serve as the snoop answer (R269). -/
def State.crossing (s : State) (line : Nat) (p : PartIx) : State :=
  ((s.dirDrop line p).bump (linePage line) Off.HOME_DIF_CNT 1).settle line p true

/-- The next write-back or eviction of a participant for a line, if it has come. -/
def State.leave (s : State) (p : PartIx) (line : Nat) (k : TxKind) : Option (Option ((Nat × HomeTx) × List (Nat × HomeTx))) :=
  arrive (sameWay line (.part p)) (fun r => r.1 == line && r.2.agent == .part p && r.2.kind == k) s.coh.reqs false

/-- HOME_WB (R266, R267, R269): the answer that a DIF announced, or queued. -/
def execHomeWb (p : PartIx) (a : Nat) (s : State) : Host.Outcome State Fault Refusal :=
  let line := a / 64
  .next (match s.leave p line .wb with
    | none => s.cohProtocol line
    | some none => s
    | some (some r) =>
      let s := s.setCoh { s.coh with reqs := r.2 }
      if !(s.coh.sharers line).contains p.val then s.cohProtocol line
      else if (headWait (s.fifo line) p).any (·.dif) then (s.sendAck p line).crossing line p
      else s.enter line r.1.2)

/-- HOME_EVICT (R266, R267, R269): queued; one that an RSP_I has settled already is acknowledged at once. -/
def execHomeEvict (p : PartIx) (a : Nat) (s : State) : Host.Outcome State Fault Refusal :=
  let line := a / 64
  .next (match s.leave p line .evict with
    | none => s.cohProtocol line
    | some none => s
    | some (some r) =>
      let s := s.setCoh { s.coh with reqs := r.2 }
      if (s.coh.sharers line).contains p.val then s.enter line r.1.2
      else (s.sendAck p line).bump (linePage line) Off.HOME_DIF_CNT 1)

/-- The next answer of a participant about a line, if it has come. -/
def CohSt.takeAnswer (x : CohSt) (p : PartIx) (line : Nat) : Option (Option (CohAns × List CohAns)) :=
  arrive (fun (r : CohAns) => r.part == p.val && homeOf (64 * r.line) == homeOf (64 * line))
    (fun r => r.part == p.val && r.line == line) x.answers false

/-- HOME_SNOOP_ANSWER (R267, R269, R270). -/
def execHomeSnoopAnswer (p : PartIx) (a : Nat) (s : State) : Host.Outcome State Fault Refusal :=
  let line := a / 64
  .next (match s.coh.takeAnswer p line, headWait (s.fifo line) p with
    | none, _ => s.cohProtocol line
    | some none, _ => s
    | some (some r), none => (s.setCoh { s.coh with answers := r.2 }).cohProtocol line
    | some (some r), some w =>
      let s := s.setCoh { s.coh with answers := r.2 }
      match r.1.rsp with
      | .i =>
        let s := s.dirDrop line p
        let s := if queuedLeave (s.fifo line) p .evict then
            (s.takeLeave line p .evict).bump (linePage line) Off.HOME_DIF_CNT 1 else s
        s.settle line p false
      | .data =>
        let keep := w.kind == .share && !classA p
        let s := if keep then s.dirSet line false (s.coh.sharers line) else s.dirDrop line p
        s.settle line p true
      | .dif =>
        if queuedLeave (s.fifo line) p .wb then (s.takeLeave line p .wb).crossing line p
        else s.updHead line (fun t =>
          { t with waits := t.waits.map (fun x => if x.part = p.val then { x with dif := true } else x) })
      | .hold n => (s.bump (linePage line) Off.HOME_HOLD_CNT 1).updHead line (fun t =>
          { t with contended := true, waits := t.waits.map (fun x => if x.part = p.val then { x with resend := some n } else x) }))

/-- SNOOP_RESEND (R270): n deck cycles after its HOLD answer arrived the snoop is sent again. -/
def execSnoopResend (p : PartIx) (a : Nat) (s : State) : Host.Outcome State Fault Refusal :=
  let line := a / 64
  .next (match headWait (s.fifo line) p with
    | some w =>
      if w.resend.isSome then
        let s := s.updHead line (fun t =>
          { t with waits := t.waits.map (fun x => if x.part = p.val then { x with resend := none } else x) })
        (s.setCoh { s.coh with snoops := s.coh.snoops ++ [{ part := p, line := line, kind := w.kind, again := true }] }).bump64
          (linePage line) Off.HOME_SNOOP_CNT 1
      else s
    | none => s)

/-- COH_SNOOP_TIMEOUT (R268): a snoop unanswered for SNOOP_LIMIT deck cycles. -/
def execCohSnoopTimeout (p : PartIx) (a : Nat) (s : State) : Host.Outcome State Fault Refusal :=
  let line := a / 64
  .next (match headWait (s.fifo line) p with
    | some w => if w.resend.isNone then s.cohFatal line 0x01 else s
    | none => s)

/-! ### Snoops that arrive at a participant (R264, R268–R271) -/

/-- A snoop answer is sent. -/
def State.ansSnoop (s : State) (p line : Nat) (r : SnoopRsp) : State :=
  s.setCoh { s.coh with answers := s.coh.answers ++ [{ part := p, line := line, rsp := r }] }

/-- A grant of ownership or sharing. -/
def isGrant : ReplyKind → Bool
  | .gntS => true
  | .gntE => true
  | .gntM => true
  | .gntUp => true
  | _ => false

/-- A grant of the line to the participant is on its way: no snoop sent after it may pass it, or the directory would not
stay inclusive (R263, log entry 41). -/
def CohSt.granting (x : CohSt) (p : PartIx) (line : Nat) : Bool :=
  x.replies.any (fun r => r.agent == .part p && r.line == line && isGrant r.kind)

/-- The next snoop of a kind to a participant about a line, if it has come. -/
def CohSt.takeSnoop (x : CohSt) (p : PartIx) (line : Nat) (k : SnoopKind) : Option (Option (CohSnoop × List CohSnoop)) :=
  arrive (fun (r : CohSnoop) => r.part == p.val && homeOf (64 * r.line) == homeOf (64 * line))
    (fun r => r.part == p.val && r.line == line && r.kind == k) x.snoops false

/-- A participant receives a snoop and answers for every copy behind it; `left` hold cycles remain if its
bollard hold runs, which is over before a re-sent snoop arrives (R266, R270). -/
def State.snooped (s : State) (p : PartIx) (line : Nat) (k : SnoopKind) (left : Nat) : State :=
  match s.coh.takeSnoop p line k with
  | none => s.cohProtocol line
  | some none => s
  | some (some r) =>
    if s.coh.granting p line then s else
    let s := s.setCoh { s.coh with snoops := r.2 }
    match s.coh.copy p line with
    | none => s.ansSnoop p line .i
    | some c =>
      if c.held && !r.1.again then
        (if classA p then s.bump (pDCACHE (p - 32)) Off.DCACHE_HOLD_ANS_CNT 1 else s).ansSnoop p line (.hold left)
      else match c.st with
        | .wbp => s.ansSnoop p line .dif
        | .m =>
          if k == .share && !classA p then
            (s.setCoh (s.coh.setCopy { c with st := .s, held := false })).ansSnoop p line .data
          else (s.setCoh (s.coh.dropCopy p line)).ansSnoop p line .data
        | .e =>
          if k == .share then
            if classA p then (s.setCoh (s.coh.dropCopy p line)).ansSnoop p line .data
            else (s.setCoh (s.coh.setCopy { c with st := .s, held := false })).ansSnoop p line .data
          else (s.setCoh (s.coh.dropCopy p line)).ansSnoop p line .i
        | .s =>
          if k == .share then s.ansSnoop p line .data
          else (s.setCoh (s.coh.dropCopy p line)).ansSnoop p line .i

/-- SNP_INV (R264, R268). -/
def execSnpInv (p : PartIx) (a : Nat) (left : Fin 64) (s : State) : Host.Outcome State Fault Refusal :=
  .next (s.snooped p (a / 64) .inv left)

/-- SNP_SHARE (R264). -/
def execSnpShare (p : PartIx) (a : Nat) (left : Fin 64) (s : State) : Host.Outcome State Fault Refusal :=
  .next (s.snooped p (a / 64) .share left)

/-- BACK_INV (R271). -/
def execBackInv (p : PartIx) (a : Nat) (left : Fin 64) (s : State) : Host.Outcome State Fault Refusal :=
  .next (s.snooped p (a / 64) .back left)

/-- BOLLARD_HOLD_END (R270). -/
def execBollardHoldEnd (p : PartIx) (a : Nat) (s : State) : Host.Outcome State Fault Refusal :=
  .next (match s.coh.copy p (a / 64) with
    | some c => if c.held then s.setCoh (s.coh.setCopy { c with held := false }) else s
    | none => s)

/-! ### Dropping a line (R262, R264) -/

/-- CACHE_EVICTION (R262). -/
def execCacheEviction (p : PartIx) (a : Nat) (s : State) : Host.Outcome State Fault Refusal :=
  .next (s.evictLine p (a / 64))

/-! ### Atomics (R274–R276) -/

/-- Where a line's counter stands: a[17:6] XOR a[29:18] within its cache (R275). -/
def predIx (cache line : Nat) : Nat := 4096 * cache + ((line % 4096) ^^^ (line / 4096 % 4096))

/-- A predictor counter (R275). -/
def CohSt.pred (x : CohSt) (cache line : Nat) : Nat := smGet (fun _ => 0) x.preds (predIx cache line)

/-- The counter moves up on a contended answer and down otherwise, saturating (R275). -/
def CohSt.train (x : CohSt) (cache line : Nat) (contended : Bool) : CohSt :=
  let v := x.pred cache line
  { x with preds := smSet (fun _ => 0) x.preds (predIx cache line) (if contended then min 3 (v + 1) else v - 1) }

/-- All counters of a cache are 0. -/
def CohSt.clearPreds (x : CohSt) (cache : Nat) : CohSt :=
  { x with preds := x.preds.filter (fun e => e.1 / 4096 ≠ cache) }

/-- The atomic's core answers with a value. -/
def State.atomAnswer (s : State) (r : AtomRun) (v : Nat) : State :=
  s.answer (natLE (atomBytes r.size) v) (s.poisoned r.a)

/-- Lines that a core's lowest cache, a core's L2 and a die cache hold (R28, R133, R287). -/
def lowestLines : Nat := 1024
def l2Lines : Nat := 16384
def dieLines : Nat := 524288

/-- The line leaves a server core's L2, and its L1 with it; the participant drops a line that no L2 holds any more. -/
def State.l2Drop (s : State) (p : PartIx) (c : CacheCopy) (k : Nat) : State :=
  let l := c.l2.filter (· ≠ k)
  if l.isEmpty then s.evictLine p c.line else s.setCoh (s.coh.setCopy { c with cores := c.cores.filter (· ≠ k), l2 := l })

/-- A full cache makes room for a line: its oldest line leaves it (DESIGN CHOICE: log entry 70). Caches of core `k`
behind participant `p`: the lowest one, then its L2 or the die cache. -/
def State.makeRoom (s : State) (p : PartIx) (k : Nat) : State :=
  let mine := s.coh.copies.filter (fun c => c.part == p.val && c.st != .wbp)
  let low := mine.filter (·.cores.contains k)
  let s := match low with
    | c :: _ => if lowestLines ≤ low.length then s.setCoh (s.coh.setCopy { c with cores := c.cores.filter (· ≠ k) }) else s
    | [] => s
  if classA p then
    match mine with
    | c :: _ => if dieLines ≤ mine.length then s.evictLine p c.line else s
    | [] => s
  else
    let l2 := mine.filter (·.l2.contains k)
    match l2 with
    | c :: _ => if l2Lines ≤ l2.length then s.l2Drop p c k else s
    | [] => s

/-- Core `k` behind participant `p` holds the line in its caches, alone if it may write. -/
def CacheCopy.heldBy (c : CacheCopy) (k : Nat) (alone : Bool) : CacheCopy :=
  let add := fun (l : List Nat) => if alone then [k] else k :: l.filter (· ≠ k)
  { c with cores := add c.cores, l2 := if classA c.part then [] else add c.l2 }

/-- The atomic is performed in the lowest cache of its core, whose participant holds the line in E or M. -/
def State.atomNear (s : State) (r : AtomRun) : State :=
  let line := r.a / 64
  let n := atomBytes r.size
  let p := atomPart r.core
  let old := s.rdNat r.a n
  let held := ((s.coh.copy p line).map (·.held)).getD false
  let was := ((s.coh.copy p line).map (·.st)).getD .e
  let own := fun (s : State) (st : LineState) =>
    s.setCoh (s.coh.setCopy (CacheCopy.heldBy { part := p, line := line, st := st, held := held, cores := [], l2 := [] } (atomIx r.core) true))
  let write := fun (s : State) (v : Nat) => (own s .m).wrRaw r.a (natLE n (amoCut n v))
  let s := match r.core with
    | .prep c => s.bump (pDCACHE (c / 64)) Off.DCACHE_NEAR_AMO_CNT 1
    | .server _ => s
  match r.op with
  | .amo o => (write s (amoOp o n old r.v)).atomAnswer r old
  | .cas e => (if old = amoCut n e.toNat then write s r.v else own s was).atomAnswer r old
  | .lr =>
    let s := own s was
    (s.setCoh { s.coh with resv := (r.core, line) :: s.coh.resv.filter (·.1 ≠ r.core) }).atomAnswer r old
  | .sc =>
    let hit := s.coh.resv.contains (r.core, line)
    let s := s.setCoh { s.coh with resv := s.coh.resv.filter (·.1 ≠ r.core) }
    if hit then (write s r.v).atomAnswer r 0 else s.atomAnswer r 1

/-- Far atomics are allowed of this core's cache (R275, R284, R308). -/
def State.farEnabled (s : State) : AtomCore → Bool
  | .server k => bit (s.regN (pg .srvc k + Off.SRVC_CTRL)) 2
  | .prep c => bit (s.regN (pDCACHE (c / 64) + Off.DCACHE_CTRL)) 2

/-- The participant as an operand. -/
def partOf (c : AtomCore) : PartIx := match c with
  | .server k => ⟨k / 4, by omega⟩
  | .prep c => ⟨32 + c / 64, by omega⟩

/-- The atomic may go far: one of the nine AMOs on 32 or 64 bits, as (operation, 64 bits) (R274, R276). -/
def AtomRun.farOp (r : AtomRun) : Option (AmoOp × Bool) :=
  match r.op, r.size with
  | .amo o, .b32 => some (o, false)
  | .amo o, .b64 => some (o, true)
  | _, _ => none

/-- An atomic of the same core waits: one not yet answered is an acquire or of the same line, or this is a release `rl`
(R276). -/
def CohSt.atomHeld (x : CohSt) (r : AtomRun) (rl : Bool) : Bool :=
  x.atoms.any (fun y => y.core == r.core && (y.aq || rl || y.a / 64 == r.a / 64))

/-- An atomic begins: in the lowest cache where that holds the line in E or M, else near or far by the predictor
of the next level. It waits while an earlier atomic of its core holds it, and while its line is being written back. -/
def State.atomStart (s : State) (r : AtomRun) (rl : Bool) : State :=
  let line := r.a / 64
  let p := atomPart r.core
  let c := s.coh.copy p line
  let writable := c.any (fun c => c.st == .e || c.st == .m)
  let far := if s.farEnabled r.core && decide (2 ≤ s.coh.pred (atomCache r.core) line) then r.farOp else none
  let hit := fun (s : State) => match r.core with
    | .prep k => s.bump64 (pDCACHE (k / 64)) Off.DCACHE_HIT_CNT 1
    | .server _ => s
  let miss := fun (s : State) => match r.core with
    | .prep k => s.bump64 (pDCACHE (k / 64)) Off.DCACHE_MISS_CNT 1
    | .server _ => s
  let ask := fun (s : State) (k : TxKind) (r : AtomRun) =>
    let x := (line, mkTx k (.part (partOf r.core)) (atomIx r.core) [])
    s.setCoh { s.coh with reqs := s.coh.reqs ++ [x], atoms := s.coh.atoms ++ [r] }
  if s.coh.atomHeld r rl || c.any (·.st == .wbp) then s
  else if writable && c.any (·.cores.contains (atomIx r.core)) then s.atomNear r
  else match far with
    | none =>
      if writable then ((hit s).makeRoom (partOf r.core) (atomIx r.core)).atomNear r
      else ask (miss s) (if c.any (·.st == .s) then .upgrade else .rdOwn) r
    | some (o, wide) =>
      let s := miss s
      let s := match r.core with
        | .prep k => s.bump (pDCACHE (k / 64)) Off.DCACHE_FAR_AMO_CNT 1
        | .server _ => s
      ask s (.amo o wide r.a r.v) { r with far := true }

/-- The core runs an exception entry; one that does not run executes nothing. -/
def State.atomTrap (s : State) (core : AtomCore) (cause tval : Nat) : State :=
  match core with
  | .server k => if s.field (pg .srvc k + Off.SRVC_STAT) 1 0 = 1 then s.serverTrap k cause (s.server k).hart.pc tval else s
  | .prep c => if s.prepUp c then
      s.prepTrap c (BitVec.ofNat 64 cause) (BitVec.ofNat 64 (s.core c).prep.hart.pc) (BitVec.ofNat 64 tval) else s

/-- The core has the atomic: 32 and 64 bits by the A extension; on a server core also 8 and 16 bits by Zabha, and
compare-and-swap to 128 bits by Zacas (R133, R285). -/
def atomKnown (core : AtomCore) (op : AtomOp) (size : AtomSize) : Bool :=
  let word := size == .b32 || size == .b64
  let server := match core with
    | .server _ => true
    | .prep _ => false
  match op with
  | .lr => word
  | .sc => word
  | .amo _ => word || (server && size != .b128)
  | .cas _ => server

/-- ATOMIC_OP (R274–R276, R285, R286): an atomic of a core on device memory. One that the core does not have is an
illegal instruction; a misaligned one takes the address-misaligned exception of a load for LR, and of a store or AMO
otherwise. -/
def execAtomicOp (core : AtomCore) (op : AtomOp) (form : AtomForm) (a : Nat) (v : BitVec 128) (s : State) :
    Host.Outcome State Fault Refusal :=
  .next (if !atomKnown core op form.size then s.atomTrap core 2 0
    else if a % atomBytes form.size ≠ 0 then s.atomTrap core (if op = .lr then 4 else 6) a
    else if s.devMem (a / 64 * 64) 64 then
      s.atomStart { core := core, op := op, size := form.size, aq := form.aq, a := a, v := v.toNat, far := false } form.rl
    else s)

/-! ### Grants and completions that arrive (R264, R270, R275, R277) -/

/-- The next reply of a line's home to an agent that a test accepts. DATA_ONCE may come from a memory controller, so it
keeps no order with what the home sends (R264, R266). -/
def CohSt.takeReply (x : CohSt) (g : CohAgent) (line : Nat) (f : ReplyKind → Bool) : Option (Option (CohReply × List CohReply)) :=
  arrive (fun (r : CohReply) => r.agent == g && homeOf (64 * r.line) == homeOf (64 * line) && r.kind != .dataOnce && !f .dataOnce)
    (fun r => r.agent == g && r.line == line && f r.kind) x.replies false

/-- The atomics of the participant that waited for ownership of the line are performed, and their cache's
predictor learns from the grant. -/
def State.atomsGranted (s : State) (p line core : Nat) (contended : Bool) : State :=
  let mine := fun (r : AtomRun) => !r.far && atomPart r.core == p && r.a / 64 == line && atomIx r.core == core
  let rs := s.coh.atoms.filter mine
  let s := s.setCoh { s.coh with atoms := s.coh.atoms.filter (fun r => !mine r) }
  rs.foldl (fun (s : State) r => (s.setCoh (s.coh.train (atomCache r.core) line contended)).atomNear r) s

/-- GNT_RECEIVE (R270): the copy enters its state; E and M start the bollard hold. -/
def execGntReceive (p : PartIx) (a : Nat) (s : State) : Host.Outcome State Fault Refusal :=
  let line := a / 64
  let st := fun (k : ReplyKind) => match k with
    | .gntS => some LineState.s
    | .gntE => some LineState.e
    | .gntM => some LineState.m
    | _ => none
  .next (match s.coh.takeReply (.part p) line (fun k => (st k).isSome) with
    | none => s.cohProtocol line
    | some none => s
    | some (some r) =>
      let x := (st r.1.kind).getD .s
      let s := (s.setCoh { s.coh with replies := r.2 }).makeRoom p r.1.core
      let s := s.setCoh (s.coh.setCopy (CacheCopy.heldBy { part := p, line := line, st := x, held := x != .s, cores := [], l2 := [] } r.1.core true))
      if x == .s then s else s.atomsGranted p line r.1.core r.1.contended)

/-- GNT_UP (R264): the S copy is now E; no hold. -/
def execGntUp (p : PartIx) (a : Nat) (s : State) : Host.Outcome State Fault Refusal :=
  let line := a / 64
  .next (match s.coh.takeReply (.part p) line (· == .gntUp), s.coh.copy p line with
    | none, _ => s.cohProtocol line
    | some none, _ => s
    | some (some r), some c =>
      if c.st == .s then
        let s := s.setCoh { s.coh.setCopy ({ c with st := .e }.heldBy r.1.core true) with replies := r.2 }
        s.atomsGranted p line r.1.core r.1.contended
      else (s.setCoh { s.coh with replies := r.2 }).cohProtocol line
    | some (some r), none => (s.setCoh { s.coh with replies := r.2 }).cohProtocol line)

/-- DATA_ONCE (R264): a requester receives data that it does not cache. -/
def execDataOnce (g : CohAgent) (a : Nat) (s : State) : Host.Outcome State Fault Refusal :=
  let line := a / 64
  .next (match s.coh.takeReply g line (· == .dataOnce) with
    | none => s.cohProtocol line
    | some none => s
    | some (some r) =>
      let s := (s.setCoh { s.coh with replies := r.2 }).answer r.1.data r.1.poison
      match agentPart g with
      | some p => if classA p then s.bump64 (pDCACHE (p - 32)) Off.DCACHE_ONCE_CNT 1 else s
      | none => s)

/-- WR_DONE (R277): the writer learns that its write is globally visible. -/
def execWrDone (g : CohAgent) (a : Nat) (s : State) : Host.Outcome State Fault Refusal :=
  let line := a / 64
  .next (match s.coh.takeReply g line (· == .wrDone) with
    | none => s.cohProtocol line
    | some none => s
    | some (some r) => s.setCoh { s.coh with replies := r.2 })

/-- The old value that an AMO_RSP carries. -/
def amoOld : ReplyKind → Option (Nat × Bool)
  | .amoRsp o w => some (o, w)
  | _ => none

/-- AMO_RSP (R275): the old value of a far atomic; the predictor learns from it. -/
def execAmoRsp (p : PartIx) (a : Nat) (s : State) : Host.Outcome State Fault Refusal :=
  let line := a / 64
  .next (match s.coh.takeReply (.part p) line (fun k => (amoOld k).isSome) with
    | none => s.cohProtocol line
    | some none => s
    | some (some r) =>
      let s := s.setCoh { s.coh with replies := r.2 }
      let o := (amoOld r.1.kind).getD (0, false)
      let mine := fun (x : AtomRun) => x.far && atomPart x.core == p.val && x.a / 64 == line && atomIx x.core == r.1.core
      let s := match s.coh.atoms.find? mine with
        | some x => s.setCoh (({ s.coh with atoms := s.coh.atoms.erase x }).train (atomCache x.core) line r.1.contended)
        | none => s
      s.answer (natLE (amoBytes o.2) o.1) r.1.poison)

/-- WB_ACK (R264): an eviction is settled, or WBP ends in I. -/
def execWbAck (p : PartIx) (a : Nat) (s : State) : Host.Outcome State Fault Refusal :=
  let line := a / 64
  .next (match s.coh.takeReply (.part p) line (· == .wbAck) with
    | none => s.cohProtocol line
    | some none => s
    | some (some r) =>
      let s := s.setCoh { s.coh with replies := r.2 }
      if s.coh.evs.contains (p.val, line) then s.setCoh { s.coh with evs := s.coh.evs.erase (p.val, line) }
      else if (s.coh.copy p line).any (·.st == .wbp) then s.setCoh (s.coh.dropCopy p line)
      else s.cohProtocol line)

/-! ### Die caches and HOME_CFG (R278, R283, R284) -/

/-- Every SEQ of a T-die reports IDLE. -/
def State.dieIdle (s : State) (t : Nat) : Bool := (upTo (64 * t) 64).all s.seqIdle

/-- DCACHE_FLUSH (R284): every M line is written back, and the die cache and its prep-core caches are
invalidated. -/
def execDcacheFlush (t : DieIx) (s : State) : Host.Outcome State Fault Refusal :=
  let p : PartIx := ⟨32 + t, by omega⟩
  .next (if !s.dieIdle t then s.logCorr (pDCACHE t) 0x04
    else
      (((s.coh.copies.filter (·.part == p.val)).map (·.line)).foldl (fun (s : State) l => s.evictLine p l) s).setRegN
        (pDCACHE t + Off.DCACHE_STAT) 1)

/-- DCACHE_FLUSH_DONE (R284): no line of the die cache is still in WBP. -/
def execDcacheFlushDone (t : DieIx) (s : State) : Host.Outcome State Fault Refusal :=
  .next (if s.coh.copies.any (fun c => c.part == 32 + t.val && c.st == .wbp) then s
    else s.setRegN (pDCACHE t + Off.DCACHE_STAT) 0)

/-- DCACHE_PRED_CLR (R275, R284). -/
def execDcachePredClr (t : DieIx) (s : State) : Host.Outcome State Fault Refusal :=
  .next (if !s.dieIdle t then s.logCorr (pDCACHE t) 0x04 else s.setCoh (s.coh.clearPreds (128 + t)))

/-- DC_POISON_CONSUMED (R278): a load of a poisoned line takes a load access fault, and the die cache logs it. -/
def execDcPoisonConsumed (c : CoreIx) (epc : DWord) (a : Nat) (s : State) : Host.Outcome State Fault Refusal :=
  let p := pDCACHE (c / 64)
  .next (if s.prepUp c && s.poisoned a then
      ((s.prepTrap c 5 epc (BitVec.ofNat 64 a)).setRegN (p + Off.DCACHE_ERR_ADDR) (a / 64 * 64)).logAddr p 0x03 a
    else s)

/-- HOME_CFG_WRITE (R283). -/
def execHomeCfgWrite (h : SliceIx) (v : Word) (s : State) : Host.Outcome State Fault Refusal :=
  .next (if !s.noJob || decide (v.toNat % 65536 < 64) then s.logCorr (pHOME h) 0x07
    else s.setRegN (pHOME h + Off.HOME_CFG) (v.toNat % 65536))

end Sys2Proof.Machine
end

