-- ==== Sys2Proof/Machine/Server.lean ====
section
/-!
DEFINITION. Machine/Server.lean: the server cores' run control, reservation, clocks and errors (R288–R293,
R308). The instructions a server core executes are RISC-V's and no command of this block.
-/
namespace Sys2Proof.Machine

def pSRVC (k : Nat) : Nat := pg .srvc k

/-- SRVC_STAT.STATE: 0 STOPPED, 1 RUNNING, 2 RESERVED. -/
def State.srvState (s : State) (k : Nat) : Nat := s.field (pSRVC k + Off.SRVC_STAT) 1 0

/-- SRVC_RUN (R291, R293): a STOPPED core starts at SRVC_RESET_VEC; a RESERVED one ignores the write, logged. -/
def execSrvcRun (k : ServerIx) (s : State) : Host.Outcome State Fault Refusal :=
  let p := pSRVC k
  .next (if s.srvState k = 2 then s.logCorr p 0x04
    else
      let was := s.srvState k
      let s := s.setField (p + Off.SRVC_CTRL) 0 0 1
      if was = 0 then (s.setField (p + Off.SRVC_STAT) 2 0 1).setSrvHart k { HartSt.reset with pc := s.regN (p + Off.SRVC_RESET_VEC) }
      else s)

/-- SRVC_STOP (R291, R293): the core stops at the next instruction boundary; its caches stay coherent and its
architectural state is discarded. -/
def execSrvcStop (k : ServerIx) (s : State) : Host.Outcome State Fault Refusal :=
  let p := pSRVC k
  .next (if s.srvState k = 2 then s.logCorr p 0x04
    else
      let s := ((s.setField (p + Off.SRVC_CTRL) 0 0 0).setField (p + Off.SRVC_STAT) 2 0 0).setServer k SrvSt.reset
      s.setCoh { s.coh with resv := s.coh.resv.filter (·.1 ≠ .server k) })

/-- The core's L1 and L2 hold nothing: its lines are written back or dropped, unless another core of the cluster
holds them too. -/
def State.flushCore (s : State) (k : ServerIx) : State :=
  let p : PartIx := ⟨k / 4, by omega⟩
  (s.coh.copies.filter (fun c => c.part == p.val && c.l2.contains (k.val % 4))).foldl
    (fun (s : State) c => s.l2Drop p c (k.val % 4)) s

/-- SRVC_RESERVE (R293): a STOPPED core is dedicated to the update routine. -/
def execSrvcReserve (k : ServerIx) (s : State) : Host.Outcome State Fault Refusal :=
  let p := pSRVC k
  .next (if s.srvState k = 0 then (s.setField (p + Off.SRVC_CTRL) 1 1 1).setField (p + Off.SRVC_STAT) 2 0 6
    else s.logCorr p 0x05)

/-- An UPDATE_PARAMS command is executing. -/
def State.updating (s : State) : Bool := s.cmds.any (fun c => c.opcode == 4 && !c.closed)

/-- SRVC_RELEASE (R293): while no UPDATE_PARAMS is executing the core returns to STOPPED, its caches written
back. -/
def execSrvcRelease (k : ServerIx) (s : State) : Host.Outcome State Fault Refusal :=
  let p := pSRVC k
  .next (if s.srvState k ≠ 2 then s
    else if s.updating then s.logCorr p 0x05
    else ((s.setField (p + Off.SRVC_CTRL) 1 1 0).setField (p + Off.SRVC_STAT) 2 0 0).flushCore k)

/-- SRVC_PRED_CLR (R275, R308). -/
def execSrvcPredClr (k : ServerIx) (s : State) : Host.Outcome State Fault Refusal :=
  .next (if s.srvState k = 1 then s.logCorr (pSRVC k) 0x05 else s.setCoh (s.coh.clearPreds k))

/-- SRVC_L2_FLUSH (R308). -/
def execSrvcL2Flush (k : ServerIx) (s : State) : Host.Outcome State Fault Refusal :=
  .next (if s.srvState k = 1 then s.logCorr (pSRVC k) 0x05
    else (s.flushCore k).setField (pSRVC k + Off.SRVC_STAT) 3 3 1)

/-- L2_FLUSH_DONE (R308). -/
def execL2FlushDone (k : ServerIx) (s : State) : Host.Outcome State Fault Refusal :=
  .next (s.setField (pSRVC k + Off.SRVC_STAT) 3 3 0)

/-- SRVC_CLK_WRITE (R288, R308): a request in range and on a 100 MHz step; the cluster's clock follows. -/
def execSrvcClkWrite (k : ServerIx) (mhz : BitVec 12) (s : State) : Host.Outcome State Fault Refusal :=
  let m := mhz.toNat
  .next (if m < 1000 ∨ serverMax s.pmode < m ∨ m % 100 ≠ 0 then s.logCorr (pSRVC k) 0x05
    else (s.setField (pSRVC k + Off.SRVC_CLK) 11 0 m).setCluster (k / 4))

/-- SRV_POISON_CONSUMED (R290): a load or fetch of poisoned data takes a precise access fault. -/
def execSrvPoisonConsumed (k : ServerIx) (fetch : Bool) (epc : DWord) (a : Nat) (s : State) : Host.Outcome State Fault Refusal :=
  let p := pSRVC k
  .next (if s.srvState k ≠ 0 && s.poisoned a then
      (((s.serverTrap k (if fetch then 1 else 5) epc.toNat a).bump p Off.SRVC_POISON_CNT 1).setRegN (p + Off.SRVC_ERR_ADDR) a).logAddr p 0x03 a
    else s)

/-- SRV_CACHE_ERROR (R290): counted when corrected; a clean line is fetched again; a dirty one is poisoned. -/
def execSrvCacheError (k : ServerIx) (a : Nat) (kind : CacheErr) (s : State) : Host.Outcome State Fault Refusal :=
  let p := pSRVC k
  let at_ := fun (s : State) => s.setRegN (p + Off.SRVC_ERR_ADDR) a
  .next (match kind with
    | .corrected => (at_ ((s.bump p Off.SRVC_CE_CNT 1).ev (fun e => { e with ce := e.ce + 1 }))).logAddr p 0x01 a
    | .clean => s
    | .dirty => (at_ (((s.setPoison a true).bump p Off.SRVC_UE_CNT 1).ev (fun e => { e with ue := e.ue + 1 }))).logAddr p 0x02 a)

end Sys2Proof.Machine
end

