-- ==== Sys2Proof/Machine/Update.lean ====
section
/-!
DEFINITION. Machine/Update.lean: UPDATE_PARAMS: the step decision, the shard items with their commit records and
tags, roll-forward, the exponent move and verification (R180–R210, R79–R81, R233). One UPD_SHARD_ITEM is one write
step of its item: the start record, one half of one block with its tag, the LAMB ratio, or the commit.
-/
namespace Sys2Proof.Machine

/-! ### Events (R210) -/

/-- An update event enters the RAS log; the manual gives its record neither page nor code (Config). -/
def State.logUpd (s : State) (ev cls : Nat) (li : LogInfo) : State :=
  let x := { mkLog s 0 0 cls li with source := Config.updSource ev % 2 ^ 32, code := Config.updCode ev % 256 }
  if cls = clsCorr then
    -- the tide's limit is kept per event, at keys that no page has
    if s.ras.cnt 0xFFFFFFFF ev < 16 then ({ s with ras := s.ras.count 0xFFFFFFFF ev }).appendLog x else s
  else s.appendLog x

def evCargo : Nat := 0
def evSummary : Nat := 1
def evUstate : Nat := 2
def evShard : Nat := 3
def evPlacement : Nat := 4
def evRecord : Nat := 5
def evTag : Nat := 6
def evReissue : Nat := 7
def evWork : Nat := 8
def evRoll : Nat := 9
def evRepaired : Nat := 10

/-- An item fails with an update event. -/
def State.updFail (s : State) (cmd item ev st : Nat) : State :=
  ((s.logUpd ev clsItem (s.itemInfo cmd item)).failItem cmd item st).endItem cmd item st

/-- Every item of a command fails with an update event. -/
def State.updFailAll (s : State) (k : Cmd) (ev st : Nat) : State :=
  ((s.logUpd ev clsItem (s.itemInfo k.id 0)).beginCmd k.id).failAll k.id st

/-! ### Cargo, summary, update state record (R184–R186, R205) -/

/-- Fields of the cargo. -/
def caAlgo (b : Bytes) : Nat := fld b 1 1
def caFlags (b : Bytes) : Nat := fld b 2 2
def caStep (b : Bytes) : Nat := fld b 8 8
def caSummary (b : Bytes) : Nat := fld b 0x10 8
def caUstate (b : Bytes) : Nat := fld b 0x18 8
def caLR (b : Bytes) : Nat := fld b 0x20 4
def caB1 (b : Bytes) : Nat := fld b 0x24 4
def caB2 (b : Bytes) : Nat := fld b 0x28 4
def caEps (b : Bytes) : Nat := fld b 0x2C 4
def caWD (b : Bytes) : Nat := fld b 0x30 4
def caClip (b : Bytes) : Nat := fld b 0x34 4
def caAbsurd (b : Bytes) : Nat := fld b 0x38 4
def caBC1 (b : Bytes) : Nat := fld b 0x3C 4
def caBC2 (b : Bytes) : Nat := fld b 0x40 4
def caTrust (b : Bytes) : Nat := fld b 0x44 4
def caNesterov (b : Bytes) : Bool := bit (caFlags b) 0
def caRepair (b : Bytes) : Bool := bit (caFlags b) 1

def zeroV : FVal := .fin false 0 0

/-- Finite and not negative. -/
def nonNeg (x : Nat) : Bool := (dec32 x).isFin && !(dec32 x).lt zeroV
/-- In [0, 1). -/
def inUnit (x : Nat) : Bool := nonNeg x && (dec32 x).lt (dec32 one32)
/-- Positive, infinity allowed. -/
def posOrInf (x : Nat) : Bool := zeroV.lt (dec32 x)
/-- Finite and at least 1. -/
def atLeast1 (x : Nat) : Bool := (dec32 x).isFin && !(dec32 x).lt (dec32 one32)

/-- The status with which the cargo check of R186 fails, if it does. -/
def cargoFail (b : Bytes) : Option Nat :=
  let al := caAlgo b
  let fl := caFlags b
  if fld b 0 1 ≠ 1 then some Status.VERSION_MISMATCH
  else if b.length ≠ 80 ∨ 3 < al ∨ 4 ≤ fl ∨ (bit fl 0 ∧ al ≠ 2) ∨ (bit fl 1 ∧ al ≠ 3) then some Status.BAD_COMMAND
  else if al = 3 then (if allZero (b.drop 4) then none else some Status.BAD_COMMAND)
  else
    let ok := decide (fld b 4 4 = 0 ∧ fld b 0x48 8 = 0 ∧ 1 ≤ caStep b ∧ caStep b < 2 ^ 40) && nonNeg (caLR b) && nonNeg (caWD b) &&
      inUnit (caB1 b) && inUnit (caB2 b) && posOrInf (caClip b) && posOrInf (caAbsurd b)
    let ok := ok && (al == 2 || ((dec32 (caEps b)).isFin && posOrInf (caEps b) && atLeast1 (caBC1 b) && atLeast1 (caBC2 b)))
    let ok := ok && (if al = 1 then posOrInf (caTrust b) else caTrust b == 0)
    let ok := ok && (al != 2 || decide (caB2 b = 0 ∧ caEps b = 0 ∧ caBC1 b = 0 ∧ caBC2 b = 0))
    if ok then none else some Status.BAD_COMMAND

/-- The checks of a step summary (R184). -/
def summaryOk (b : Bytes) (step : Nat) : Bool :=
  decide (fld b 0x1C 4 = crc32c (b.take 0x1C) ∧ fld b 0 1 = 1 ∧ fld b 2 2 = 0 ∧ fld b 0x14 8 = 0 ∧ fld b 1 1 ≤ 1 ∧ fld b 8 8 = step)

/-- The server cores that a SERVER_MASK names are all reserved, and there is one (R205, R293). -/
def State.maskOk (s : State) (b : Bytes) : Bool :=
  let m := fld b 0x20 16
  m != 0 && (upTo 0 128).all (fun k => !bit m k || s.srvState k == 2)

/-- The checks of an update state record (R205). -/
def State.ustateOk (s : State) (b : Bytes) : Bool :=
  decide (fld b 0x3C 4 = crc32c (b.take 0x3C) ∧ fld b 0 1 = 1 ∧ fld b 1 1 ≤ 1 ∧ fld b 2 2 ≠ 0) && (fld b 1 1 == 0 || s.maskOk b)

/-- The step decision (R190): the status, and the factor a of an applied update. -/
def updDecide (sum cargo : Bytes) : Nat × Nat :=
  let n := fld sum 4 4
  let S := fld sum 0x10 4
  if n = 0 then (Status.DONE_VOIDED, 0)
  else if fld sum 1 1 = 1 ∨ (dec32 S).isFin = false then (Status.SKIP_NONFINITE, 0)
  else
    let norm := FVal.divRound FP32 (dec32 (sqrt32 S)) (.fin false n 0)
    if (dec32 (caAbsurd cargo)).lt (dec32 norm) then (Status.SKIP_NORM, 0)
    else
      let c := if (dec32 (caClip cargo)).lt (dec32 norm) then div32 (caClip cargo) norm else one32
      (Status.DONE, FVal.divRound FP32 (dec32 c) (.fin false n 0))

/-! ### Shard descriptors (R182, R187, R188, R196) -/

/-- A shard descriptor (R187). -/
structure Shard where
  wfmt : Nat
  flags : Nat
  count : Nat
  elem : Nat
  master : Nat
  work : Nat
  grad : Nat
  gscale : Nat
  mcode : Nat
  mscale : Nat
  vcode : Nat
  vscale : Nat
  tags : Nat
  commit : Nat
  mask : Nat
  mfirst : Nat
  mcols : Nat
  deriving DecidableEq, Repr

def shardOf (b : Bytes) : Shard :=
  { wfmt := fld b 1 1, flags := fld b 2 1, count := fld b 4 4, elem := fld b 8 8, master := fld b 0x10 8, work := fld b 0x18 8,
    grad := fld b 0x20 8, gscale := fld b 0x28 8, mcode := fld b 0x30 8, mscale := fld b 0x38 8, vcode := fld b 0x40 8,
    vscale := fld b 0x48 8, tags := fld b 0x50 8, commit := fld b 0x58 8, mask := fld b 0x60 8, mfirst := fld b 0x68 8,
    mcols := fld b 0x70 4 }

def Shard.masked (d : Shard) : Bool := bit d.flags 0
def Shard.byBlock (d : Shard) : Bool := bit d.flags 1
def Shard.noDecay (d : Shard) : Bool := bit d.flags 2
/-- Blocks of 4,096 parameters (R197). -/
def Shard.blocks (d : Shard) : Nat := ceilDiv d.count 4096
/-- Blocks of 32. -/
def Shard.mblocks (d : Shard) : Nat := ceilDiv d.count 32
/-- Bucket exponents (R78). -/
def Shard.buckets (d : Shard) : Nat := ceilDiv (2 * d.count) 65536
/-- Bytes of a working-copy element. -/
def Shard.wsize (d : Shard) : Nat := if d.wfmt = 0x02 then 2 else 1

/-- The rules of R188 on one descriptor; under SGD the V8 fields are reserved. A masked shard has columns (the
model's choice: a tensor of no columns has no rows to mask). -/
def shardOk (b : Bytes) (sgd : Bool) : Bool :=
  let d := shardOf b
  decide (fld b 0x7C 4 = crc32c (b.take 0x7C) ∧ fld b 0 1 = 1 ∧ (d.wfmt = 2 ∨ d.wfmt = 4 ∨ d.wfmt = 5) ∧ d.flags < 8 ∧ fld b 3 1 = 0 ∧
    1 ≤ d.count ∧ d.elem < 2 ^ 48 ∧ fld b 0x74 8 = 0) &&
  (upTo 0 11).all (fun i => fld b (0x10 + 8 * i) 8 % 64 == 0) && (!sgd || decide (d.vcode = 0 ∧ d.vscale = 0)) &&
  (!d.masked || decide (d.mcols % 32 = 0 ∧ d.mfirst % 32 = 0 ∧ 0 < d.mcols))

/-- Bit of the mask bitmap that masks parameter `i` (R161, R196). -/
def Shard.maskIx (d : Shard) (i : Nat) : Nat :=
  let k := d.mfirst + i
  if d.byBlock then k / d.mcols / 128 * ceilDiv d.mcols 128 + k % d.mcols / 128 else k / d.mcols

/-- Parameter `i` is masked. -/
def State.paramMasked (s : State) (d : Shard) (i : Nat) : Bool :=
  d.masked && bit (s.rdNat (d.mask + d.maskIx i / 8) 1) (d.maskIx i % 8)

/-- The first and the last bit of the mask bitmap that the shard's parameters have: under block granularity the bits of a
block row are taken by every one of its rows (R161, R196). -/
def Shard.maskSpan (d : Shard) : Nat × Nat :=
  let r0 := d.mfirst / d.mcols
  let r1 := (d.mfirst + d.count - 1) / d.mcols
  if !d.byBlock then (r0, r1)
  else
    let n := ceilDiv d.mcols 128
    let lo := if r0 < r1 ∧ (r0 + 1) / 128 = r0 / 128 then 0 else d.mfirst % d.mcols / 128
    let hi := if r0 < r1 ∧ (r1 - 1) / 128 = r1 / 128 then n - 1 else (d.mfirst + d.count - 1) % d.mcols / 128
    (r0 / 128 * n + lo, r1 / 128 * n + hi)

/-- The ranges of a shard's arrays (R180, R182). -/
def Shard.arrays (d : Shard) (sgd : Bool) : List (Nat × Nat) :=
  [(d.master, 4 * d.count), (d.work, d.wsize * d.count), (d.grad, 2 * d.count), (d.gscale, d.buckets), (d.mcode, d.count),
   (d.mscale, d.mblocks), (d.tags, 8 * d.blocks), (d.commit, 64)]
  ++ (if sgd then [] else [(d.vcode, d.count), (d.vscale, d.mblocks)])
  ++ (if d.masked then [(d.mask + d.maskSpan.1 / 8, d.maskSpan.2 / 8 + 1 - d.maskSpan.1 / 8)] else [])

/-- The parts of the arrays that block `b` takes, without the mask. -/
def Shard.blockRanges (d : Shard) (sgd : Bool) (b : Nat) : List (Nat × Nat) :=
  let i := 4096 * b
  let n := min 4096 (d.count - i)
  [(d.master + 4 * i, 4 * n), (d.work + d.wsize * i, d.wsize * n), (d.grad + 2 * i, 2 * n), (d.gscale + b / 8, 1), (d.mcode + i, n),
   (d.mscale + 128 * b, ceilDiv n 32), (d.tags + 8 * b, 8)]
  ++ (if sgd then [] else [(d.vcode + i, n), (d.vscale + 128 * b, ceilDiv n 32)])

/-- The arrays lie where the site allows (R182); a verification has no site and needs device memory. -/
def State.placed (s : State) (d : Shard) (site algo : Nat) : Bool :=
  let rs := d.arrays (algo == 2)
  if algo = 3 then rs.all (fun r => s.devMem r.1 r.2)
  else if site = 0 then
    match s.localStack d.master (4 * d.count) with
    | some k => rs.all (fun r => s.localStack r.1 r.2 == some k)
    | none => false
  else rs.all (fun r => s.devMem r.1 r.2)

/-- Descriptor bytes of an item. -/
def State.shardBytes (s : State) (k : Cmd) (j : Nat) : Bytes := s.rdBytes (k.table + 128 * j) 128

/-- Another descriptor of the command names the same commit record (R188). -/
def State.sharedCommit (s : State) (k : Cmd) (j : Nat) : Bool :=
  (upTo 0 k.items).any (fun i => i != j && (shardOf (s.shardBytes k i)).commit == (shardOf (s.shardBytes k j)).commit)

/-! ### Commit records (R198) -/

/-- A commit record. -/
structure CommitRec where
  phase : Nat
  last : Nat
  cargoCrc : Nat
  commit : Nat
  applied : Nat
  pstep : Nat
  factor : Nat
  ratio : Nat
  count : Nat
  sumCrc : Nat
  deriving DecidableEq, Repr

def commitOf (b : Bytes) : CommitRec :=
  { phase := fld b 1 1, last := fld b 2 2, cargoCrc := fld b 4 4, commit := fld b 8 8, applied := fld b 0x10 8, pstep := fld b 0x18 8,
    factor := fld b 0x20 4, ratio := fld b 0x24 4, count := fld b 0x28 4, sumCrc := fld b 0x2C 4 }

/-- CRC, VERSION, PHASE and reserved bytes of a commit record are sound. -/
def commitOk (b : Bytes) : Bool :=
  decide (fld b 0x3C 4 = crc32c (b.take 0x3C) ∧ fld b 0 1 = 1 ∧ fld b 1 1 ≤ 2 ∧ fld b 0x30 12 = 0)

/-- A record with its CRC. -/
def withCrc (b : Bytes) : Bytes := b ++ natLE 4 (crc32c b)

def CommitRec.bytes (r : CommitRec) : Bytes :=
  withCrc (natLE 1 1 ++ natLE 1 r.phase ++ natLE 2 r.last ++ natLE 4 r.cargoCrc ++ natLE 8 r.commit ++ natLE 8 r.applied ++ natLE 8 r.pstep ++
    natLE 4 r.factor ++ natLE 4 r.ratio ++ natLE 4 r.count ++ natLE 4 r.sumCrc ++ rep 12 0)

/-! ### Arithmetic of one parameter (R191–R195) -/

/-- What the arithmetic of a shard reads: cargo, descriptor, step, the factor a and the LAMB ratio. -/
structure UpdCtx where
  cargo : Bytes
  d : Shard
  step : Nat
  a : Nat
  ratio : Nat
  deriving DecidableEq, Repr

/-- The job seed: RNG_SEED of core 0 (the job gives every core the same). -/
def State.jobSeed (s : State) : Nat := s.regN (pg .rng 0 + Off.RNG_SEED)

/-- The draw of parameter `i` for stream 0xFF00 + `q` (R195). -/
def State.updDraw (s : State) (x : UpdCtx) (q i : Nat) : Nat := draw32 s.jobSeed (0xFF00 + q) x.step ((x.d.elem + i) % 2 ^ 48) 0

/-- The mean gradient of parameter `i`, clipped: the G16 element decoded by its bucket exponent, times a (R78). -/
def State.updG (s : State) (x : UpdCtx) (i : Nat) : Nat :=
  let e := sext 8 (s.rdNat (x.d.gscale + i / 32768) 1)
  mul32 (FP32.round ((FP16.decode (s.rdNat (x.d.grad + 2 * i) 2)).scale (-e))) x.a

def State.updW (s : State) (x : UpdCtx) (i : Nat) : FVal := dec32 (s.rdNat (x.d.master + 4 * i) 4)
def State.updM (s : State) (x : UpdCtx) (i : Nat) : FVal := decM8 (s.rdNat (x.d.mscale + i / 32) 1) (s.rdNat (x.d.mcode + i) 1)
def State.updV (s : State) (x : UpdCtx) (i : Nat) : FVal := decV8 (s.rdNat (x.d.vscale + i / 32) 1) (s.rdNat (x.d.vcode + i) 1)
def State.updR (s : State) (x : UpdCtx) (i : Nat) : FVal := decR8 (s.rdNat (x.d.vscale + i / 32) 1) (s.rdNat (x.d.vcode + i) 1)

/-- The gradient of SGD, with weight decay (R193). -/
def State.sgdG (s : State) (x : UpdCtx) (i : Nat) : Nat :=
  let g := s.updG x i
  if x.d.noDecay then g else enc32 ((dec32 g).add ((dec32 (caWD x.cargo)).mul (s.updW x i)))

/-- The new first moment of parameter `i`, before quantisation. -/
def State.newM (s : State) (x : UpdCtx) (i : Nat) : Nat :=
  let b1 := caB1 x.cargo
  if caAlgo x.cargo = 2 then enc32 (((dec32 b1).mul (s.updM x i)).add (dec32 (s.sgdG x i)))
  else enc32 (((dec32 b1).mul (s.updM x i)).add (dec32 (mul32 (sub32 one32 b1) (s.updG x i))))

/-- The root of the new second moment. -/
def State.newR (s : State) (x : UpdCtx) (i : Nat) : Nat :=
  let b2 := caB2 x.cargo
  let g := s.updG x i
  sqrt32 (enc32 (((dec32 b2).mul (s.updV x i)).add (dec32 (mul32 (sub32 one32 b2) (mul32 g g)))))

/-- The direction u of ADAMW and LAMB, from the stored moments (R191). -/
def State.adamU (s : State) (x : UpdCtx) (i : Nat) : Nat :=
  let den := add32 (enc32 ((s.updR x i).mul (dec32 (caBC2 x.cargo)))) (caEps x.cargo)
  let u := div32 (enc32 ((s.updM x i).mul (dec32 (caBC1 x.cargo)))) den
  if x.d.noDecay then u else enc32 ((dec32 u).add ((dec32 (caWD x.cargo)).mul (s.updW x i)))

/-- The direction of SGD (R193). -/
def State.sgdU (s : State) (x : UpdCtx) (i : Nat) : Nat :=
  if caNesterov x.cargo then enc32 ((dec32 (s.sgdG x i)).add ((dec32 (caB1 x.cargo)).mul (s.updM x i))) else enc32 (s.updM x i)

/-- The new master of parameter `i`: one stochastic rounding of the exact difference. -/
def State.newW (s : State) (x : UpdCtx) (i : Nat) : Nat :=
  let step := match caAlgo x.cargo with
    | 0 => (dec32 (caLR x.cargo)).mul (dec32 (s.adamU x i))
    | 1 => (dec32 (mul32 (caLR x.cargo) x.ratio)).mul (dec32 (s.adamU x i))
    | _ => (dec32 (caLR x.cargo)).mul (if caNesterov x.cargo then dec32 (s.sgdU x i) else s.updM x i)
  FP32.sr ((s.updW x i).sub step) (s.updDraw x 0 i)

/-- The working copy of a master (R181). -/
def workOf (wfmt m : Nat) : Nat := encElem wfmt 0 (dec32 m)

/-! ### Halves of a block (R191–R193, R196, R200) -/

/-- Parameters of block `b`. -/
def Shard.params (d : Shard) (b : Nat) : List Nat := upTo (4096 * b) (min 4096 (d.count - 4096 * b))

/-- 32-blocks of block `b` that are not masked. -/
def State.openSub (s : State) (d : Shard) (b : Nat) : List Nat :=
  (upTo (128 * b) (min 128 (d.mblocks - 128 * b))).filter (fun q => !s.paramMasked d (32 * q))

/-- Parameters of the shard in 32-block `q`. -/
def Shard.subLen (d : Shard) (q : Nat) : Nat := min 32 (d.count - 32 * q)

/-- Moments of one 32-block quantised, from `s`, and stored in `t`. -/
def State.momentSub (s : State) (x : UpdCtx) (t : State) (q : Nat) : State :=
  let is := upTo (32 * q) (x.d.subLen q)
  let m := quantM8 (is.map (fun i => dec32 (s.newM x i))) (is.map (s.updDraw x 1))
  let t := (t.wrNat (x.d.mscale + q) 1 m.1).wrBytes (x.d.mcode + 32 * q) (m.2.map (BitVec.ofNat 8))
  if caAlgo x.cargo = 2 then t
  else
    let r := quantV8 (is.map (fun i => dec32 (s.newR x i))) (is.map (s.updDraw x 2))
    (t.wrNat (x.d.vscale + q) 1 r.1).wrBytes (x.d.vcode + 32 * q) (r.2.map (BitVec.ofNat 8))

/-- The moment half of a block: every input is read before any output is written (R200). -/
def State.momentHalf (s : State) (x : UpdCtx) (b : Nat) : State := (s.openSub x.d b).foldl (s.momentSub x) s

/-- Master and working copy of one parameter, from `s`, stored in `t`. -/
def State.weightOne (s : State) (x : UpdCtx) (t : State) (i : Nat) : State :=
  let w := s.newW x i
  (t.wrNat (x.d.master + 4 * i) 4 w).wrNat (x.d.work + x.d.wsize * i) x.d.wsize (workOf x.d.wfmt w)

/-- The weight half of a block: every input is read before any output is written (R200). -/
def State.weightHalf (s : State) (x : UpdCtx) (b : Nat) : State :=
  ((x.d.params b).filter (fun i => !s.paramMasked x.d i)).foldl (s.weightOne x) s

/-- Bytes that a half of block `b` writes, its tag included. -/
def State.halfBytes (s : State) (x : UpdCtx) (b : Nat) (weights : Bool) : Nat :=
  4 + ((s.openSub x.d b).map (fun q =>
    let n := x.d.subLen q
    if weights then (4 + x.d.wsize) * n else (n + 1) * (if caAlgo x.cargo = 2 then 1 else 2))).foldl (· + ·) 0

/-- Inputs of a half of block `b`, as ranges over its unmasked 32-blocks. -/
def State.halfInputs (s : State) (x : UpdCtx) (b : Nat) (weights : Bool) : List (Nat × Nat) :=
  let d := x.d
  let sgd := caAlgo x.cargo == 2
  (s.openSub d b).flatMap (fun q =>
    let n := d.subLen q
    [(d.mcode + 32 * q, n), (d.mscale + q, 1)] ++ (if sgd then [] else [(d.vcode + 32 * q, n), (d.vscale + q, 1)]) ++
    (if weights || (sgd && !d.noDecay) then [(d.master + 128 * q, 4 * n)] else []) ++
    (if !weights || (sgd && caNesterov x.cargo) then [(d.grad + 64 * q, 2 * n), (d.gscale + q / 1024, 1)] else []))

/-- Bytes of the mask bitmap that block `b` reads. -/
def Shard.maskBytes (d : Shard) (b : Nat) : List (Nat × Nat) :=
  if d.masked then (upTo (128 * b) (min 128 (d.mblocks - 128 * b))).map (fun q => (d.mask + d.maskIx (32 * q) / 8, 1)) else []

/-- The sums of LAMB over a shard (R192), as (Su, Sw). -/
def State.lambSums (s : State) (x : UpdCtx) : Nat × Nat :=
  let sq := fun (f : Nat → Nat) (b : Nat) =>
    let leaves := (upTo (4096 * b) 4096).map (fun i => if i < x.d.count ∧ !s.paramMasked x.d i then mul32 (f i) (f i) else 0)
    (laneTree add32 12 leaves).getD 0 0
  (upTo 0 x.d.blocks).foldl (fun t b => (add32 t.1 (sq (s.adamU x) b), add32 t.2 (sq (fun i => s.rdNat (x.d.master + 4 * i) 4) b))) (0, 0)

/-- The trust ratio (R192). -/
def State.lambRatio (s : State) (x : UpdCtx) : Nat :=
  let (su, sw) := s.lambSums x
  if (dec32 sw).isZero ∨ (dec32 su).isZero then one32
  else
    let q := div32 (sqrt32 sw) (sqrt32 su)
    if (dec32 (caTrust x.cargo)).lt (dec32 q) then caTrust x.cargo else q

/-! ### The run of an item (R199–R203) -/

/-- Tags of a block. -/
def State.mtag (s : State) (d : Shard) (b : Nat) : Nat := s.rdNat (d.tags + 8 * b) 4
def State.wtag (s : State) (d : Shard) (b : Nat) : Nat := s.rdNat (d.tags + 8 * b + 4) 4

def UpdRun.put (r : UpdRun) (x : UpdItem) : UpdRun := { r with items := r.items.filter (·.item ≠ x.item) ++ [x] }
def State.setUpd (s : State) (r : UpdRun) : State := { s with upd := some r }

/-- An input of an item cannot be read: the item fails; under PONTOON its pontoon logs it (R200, R234). -/
def State.updUE (s : State) (k : Cmd) (item : Nat) (stack : Option Nat) : State :=
  let s := match stack with
    | some t => ((s.setRegN (pPONT t + Off.PONT_LAST_ERR) (1 + item % 2 ^ 24 * 256)).logErr (pPONT t) 0x01 clsItem (s.itemInfo k.id item))
    | none => s
  (s.failItem k.id item Status.MEM_UE).endItem k.id item Status.MEM_UE

/-- One half of a block is run, its tag written last. -/
def State.runHalf (s : State) (k : Cmd) (r : UpdRun) (x : UpdCtx) (it : UpdItem) (weights : Bool) (next : UpdItem) (stack : Option Nat) : State :=
  if (s.halfInputs x it.block weights).any (fun g => s.anyPoison g.1 g.2) then s.updUE k it.item stack
  else
    let n := s.halfBytes x it.block weights
    let s := if weights then s.weightHalf x it.block else s.momentHalf x it.block
    ((s.updCmd k.id (·.addBytes it.item n)).wrNat (x.d.tags + 8 * it.block + (if weights then 4 else 0)) 4 (r.step % 2 ^ 32)).setUpd (r.put next)

/-- An item writes its commit record. -/
def State.putCommit (s : State) (k : Cmd) (d : Shard) (item : Nat) (c : CommitRec) : State :=
  (s.wrBytes d.commit c.bytes).updCmd k.id (·.addBytes item 64)

/-- The commit of R199. -/
def State.commitItem (s : State) (k : Cmd) (r : UpdRun) (d : Shard) (c : CommitRec) (item : Nat) : State :=
  (s.putCommit k d item { c with commit := r.step, applied := r.step, phase := 0, last := Status.DONE }).endItem k.id item Status.DONE

/-- What the next step of an item that has begun reads before it acts: the commit record, and the tags and mask of its
block, or for the LAMB ratio the mask, moments and masters of every block (R192, R200). -/
def State.stepReads (s : State) (x : UpdCtx) (b : Nat) (ratio : Bool) : List (Nat × Nat) :=
  let d := x.d
  (d.commit, 64) :: (if b < d.blocks then (d.tags + 8 * b, 8) :: d.maskBytes b
    else if ratio then (upTo 0 d.blocks).flatMap (fun i => d.maskBytes i ++ s.halfInputs x i true) else [])

/-- The next write step of an item that has begun. -/
def State.updNext (s : State) (k : Cmd) (r : UpdRun) (d : Shard) (it : UpdItem) (stack : Option Nat) : State :=
  let c := commitOf (s.rdBytes d.commit 64)
  let x : UpdCtx := { cargo := k.cargo, d := d, step := r.step, a := it.factor, ratio := c.ratio }
  let b := it.block
  let A := c.applied % 2 ^ 32
  let T := r.step % 2 ^ 32
  let mt := s.mtag d b
  let wt := s.wtag d b
  let skip := { it with block := b + 1, mid := false }
  let bad := s.updFail k.id it.item evTag Status.SHARD_INCONSISTENT
  let lamb := r.algo == 1
  if (s.stepReads x b (lamb && c.phase == 1)).any (fun g => s.anyPoison g.1 g.2) then s.updUE k it.item stack
  else if b < d.blocks then
    if it.mid then s.runHalf k r x it true skip stack
    else if it.roll && mt == T && wt == T then s.setUpd (r.put skip)
    else if lamb && c.phase == 2 then
      if mt == T && wt == A then s.runHalf k r x it true skip stack else bad
    else if it.roll && mt == T && wt == A then
      if lamb then s.setUpd (r.put skip) else s.runHalf k r x it true skip stack
    else if mt == A && wt == A then
      s.runHalf k r x it false (if lamb then skip else { it with mid := true }) stack
    else bad
  else if lamb && c.phase == 1 then
    (s.putCommit k d it.item { c with ratio := s.lambRatio x, phase := 2 }).setUpd (r.put { it with block := 0 })
  else s.commitItem k r d c it.item

/-- An item begins: its commit record decides (R199, R202). -/
def State.updStart (s : State) (k : Cmd) (r : UpdRun) (d : Shard) (item : Nat) : State :=
  let b := s.rdBytes d.commit 64
  let c := commitOf b
  let t := r.step
  if !commitOk b then s.updFail k.id item evRecord Status.SHARD_INCONSISTENT
  else if c.commit = t ∧ c.phase = 0 ∧ c.cargoCrc = r.cargoCrc then s.endItem k.id item c.last
  else if c.commit + 1 = t ∧ c.phase = 0 then
    if r.status ≠ Status.DONE then
      (s.putCommit k d item { c with commit := t, phase := 0, last := r.status, cargoCrc := r.cargoCrc }).endItem k.id item r.status
    else
      (s.putCommit k d item { c with
        phase := 1, pstep := t, factor := r.factor, count := r.count, cargoCrc := r.cargoCrc, sumCrc := r.sumCrc }).setUpd
        (r.put { item := item, roll := false, factor := r.factor, block := 0, mid := false })
  else if c.commit + 1 = t ∧ c.phase ≠ 0 ∧ c.pstep = t ∧ c.cargoCrc = r.cargoCrc ∧ c.sumCrc = r.sumCrc then
    (s.logUpd evRoll clsCorr (s.itemInfo k.id item)).setUpd
      (r.put { item := item, roll := true, factor := c.factor, block := 0, mid := false })
  else s.updFail k.id item evReissue Status.SHARD_INCONSISTENT

/-- Parameters of a shard whose working copy is not their master's (R207). -/
def State.workDiff (s : State) (d : Shard) : List Nat :=
  (upTo 0 d.count).filter (fun i => s.rdNat (d.work + d.wsize * i) d.wsize != workOf d.wfmt (s.rdNat (d.master + 4 * i) 4))

/-- A VERIFY item (R207). -/
def State.verifyItem (s : State) (k : Cmd) (d : Shard) (item : Nat) (stack : Option Nat) : State :=
  let b := s.rdBytes d.commit 64
  if !commitOk b || (commitOf b).phase != 0 then s.updFail k.id item evRecord Status.SHARD_INCONSISTENT
  else if s.anyPoison d.master (4 * d.count) || s.anyPoison d.work (d.wsize * d.count) then s.updUE k item stack
  else
    let diff := s.workDiff d
    if diff.isEmpty then s.endItem k.id item Status.DONE
    else
      let li := { s.itemInfo k.id item with info := diff.length }
      if caRepair k.cargo then
        let s := s.updCmd k.id (·.addBytes item (d.wsize * diff.length))
        let s := diff.foldl (fun (s : State) i =>
          s.wrNat (d.work + d.wsize * i) d.wsize (workOf d.wfmt (s.rdNat (d.master + 4 * i) 4))) s
        (s.logUpd evRepaired clsCorr li).endItem k.id item Status.DONE
      else ((s.logUpd evWork clsItem li).failItem k.id item Status.SHARD_INCONSISTENT).endItem k.id item Status.SHARD_INCONSISTENT

/-- The stack whose pontoon runs an item: that of the shard under PONTOON; for a verification, which knows no site, the one
stack that holds all it touches, if there is one (R182, R207, R233; DESIGN CHOICE: log entry 72). -/
def State.updStack (s : State) (r : UpdRun) (d : Shard) : Option Nat :=
  match if r.site = 0 ∨ r.algo = 3 then s.localStack d.master (4 * d.count) else none with
  | none => none
  | some k =>
    if r.algo = 3 ∧ (s.localStack d.work (d.wsize * d.count) ≠ some k ∨ s.localStack d.commit 64 ≠ some k) then none else some k

/-- The ranges that the next step of an item reads or writes; copies of them are recalled first (R234). -/
def stepRanges (r : UpdRun) (d : Shard) (item : Nat) : List (Nat × Nat) :=
  (d.commit, 64) :: (match r.items.find? (·.item == item) with
    | some it => if it.block < d.blocks then d.blockRanges (r.algo == 2) it.block else if r.algo = 1 then d.arrays false else []
    | none => if r.algo = 3 then [(d.master, 4 * d.count), (d.work, d.wsize * d.count)] else [])

/-- The item is the command its pontoon works on. -/
def State.pontTurn (s : State) (k : Cmd) (item : Nat) (stack : Option Nat) : Bool :=
  match stack with
  | none => true
  | some t => match (s.pont t).head? with
    | some c => c.cmd == k.id && c.item == item && c.work == .upd
    | none => false

/-- The pontoon's counters when an item ends; the bytes and time of an update are not stated (free values). -/
def State.updCount (s : State) (k : Cmd) (item : Nat) (stack : Option Nat) : State :=
  match stack with
  | none => s
  | some t => match s.cmd? k.id with
    | some c =>
      if c.itemEnded item then
        let n := s.draw
        let m := n.2.draw
        let s := (m.2.bump64 (pPONT t) Off.PONT_CMD_CNT 1).bump64 (pPONT t) Off.PONT_BYTES (Config.freeValue n.1).toNat
        (s.bump64 (pPONT t) Off.PONT_BUSY_NS (Config.freeValue m.1).toNat).setPont t (s.pont t)
      else s
    | none => s

/-- UPD_SHARD_ITEM (R187, R188, R199–R203, R207): the next write step of a shard item of the update in course. -/
def execUpdShardItem (cmd item : Nat) (s : State) : Host.Outcome State Fault Refusal :=
  .next (match s.upd, s.cmd? cmd with
    | some r, some k =>
      if r.cmd ≠ cmd ∨ k.itemEnded item ∨ k.items ≤ item then s
      else
        let t := k.table + 128 * item
        let b := s.shardBytes k item
        let d := shardOf b
        let rs := stepRanges r d item
        match r.items.find? (·.item == item) with
        | some it =>
          let st := s.updStack r d
          if s.pontTurn k item st && s.cohReady rs then ((s.homeRecall rs).updNext k r d it st).updCount k item st else s
        | none =>
          if s.anyPoison t 128 then (s.updCmd cmd (·.run item)).updUE k item none
          else if !shardOk b (r.algo == 2) || s.sharedCommit k item then
            (s.updCmd cmd (·.run item)).updFail cmd item evShard Status.BAD_COMMAND
          else if !s.placed d r.site r.algo then (s.updCmd cmd (·.run item)).updFail cmd item evPlacement Status.BAD_COMMAND
          else
            let st := s.updStack r d
            if !s.pontTurn k item st || !s.cohReady rs then s
            else
              let s := (s.homeRecall rs).updCmd cmd (·.run item)
              let s := if s.anyPoison d.commit 64 then s.updUE k item st
                else if r.algo = 3 then s.verifyItem k d item st else s.updStart k r d item
              s.updCount k item st
    | _, _ => s)

/-! ### The command (R186, R189, R190, R205, R206, R400) -/

/-- An earlier UPDATE_PARAMS has not written its last record (R189). -/
def State.earlierUpd (s : State) (cmd : Nat) : Bool := s.cmds.any (fun k => k.opcode == 4 && decide (k.id < cmd) && !s.recWritten k)

/-- Commit records of the shards a snapshot holds (R396, R400). -/
def State.heldCommits (s : State) : List Nat :=
  match s.snap with
  | some n => match s.cmd? n.cmd with
    | some k => (n.held.filter (fun j => !k.itemEnded j)).map (fun j => (shardOf (s.rdBytes (s.rdNat (k.table + 32 * j) 8) 128)).commit)
    | none => []
  | none => []

/-- The snapshot holds this update: accepted at a boundary at or after T, it names a shard not yet released, or the
freeze is still to come (R396, R400). -/
def State.updHeld (s : State) (k : Cmd) : Bool :=
  match s.snap with
  | none => false
  | some n => match n.t with
    | none => false
    | some t => decide (t ≤ k.accTick) &&
      (!n.frozen || (upTo 0 k.items).any (fun j => s.heldCommits.contains (shardOf (s.shardBytes k j)).commit))

/-- RAS_SNAP_STAT.HOLD. -/
def State.holdBit (s : State) : Bool := bit (s.regN (pg .ras 0 + Off.RAS_SNAP_STAT)) 3

/-- Shard items go to their pontoons in ascending index (R189, R233). -/
def State.queueItems (s : State) (k : Cmd) (r : UpdRun) : State :=
  (upTo 0 k.items).foldl (fun (s : State) j =>
    let b := s.shardBytes k j
    let d := shardOf b
    if s.anyPoison (k.table + 128 * j) 128 || !shardOk b (r.algo == 2) || s.sharedCommit k j || !s.placed d r.site r.algo then s
    else match s.updStack r d with
      | some t => s.setPont t (s.pont t ++ [{ cmd := k.id, item := j, work := .upd }])
      | none => s) s

/-- The checks and the decision of an update command, in order: cargo, records, LAST_STEP, summary. -/
def State.updBegin (s : State) (k : Cmd) : State :=
  let b := k.cargo
  match cargoFail b with
  | some st => s.updFailAll k evCargo st
  | none =>
    let base : UpdRun := {
      cmd := k.id, algo := caAlgo b, step := caStep b, status := Status.DONE, factor := 0, count := 0, sumCrc := 0, cargoCrc := crc32c b,
      site := 0, ustate := [], last := 0, queued := false, moved := false, items := [] }
    if caAlgo b = 3 then ((s.beginCmd k.id).setUpd base).queueItems k base
    else if !s.devMem (caSummary b) 32 || !s.devMem (caUstate b) 64 then s.updFailAll k evPlacement Status.BAD_COMMAND
    else if s.anyPoison (caUstate b) 64 || s.anyPoison (caSummary b) 32 then (s.beginCmd k.id).failAll k.id Status.MEM_UE
    else
      let u := s.rdBytes (caUstate b) 64
      let m := s.rdBytes (caSummary b) 32
      if !s.ustateOk u then s.updFailAll k evUstate Status.BAD_COMMAND
      else if fld u 8 8 + 1 ≠ caStep b ∧ fld u 8 8 ≠ caStep b then s.updFailAll k evReissue Status.SHARD_INCONSISTENT
      else if !summaryOk m (caStep b) then s.updFailAll k evSummary Status.BAD_COMMAND
      else
        let q := updDecide m b
        let r := { base with
          status := q.1, factor := q.2, count := fld m 4 4, sumCrc := fld m 0x1C 4, site := fld u 1 1, ustate := u, last := fld u 8 8 }
        ((s.beginCmd k.id).setUpd r).queueItems k r

/-- UPDATE_PARAMS with an ALGO; a reserved ALGO fails whichever row takes it. -/
def State.updateParams (s : State) (cmd algo : Nat) : State :=
  match s.fresh cmd 0x0004 with
  | none => s
  | some k =>
    if (caAlgo k.cargo ≠ algo ∧ caAlgo k.cargo ≤ 3) ∨ s.earlierUpd cmd then s
    else if s.updHeld k then s.setField (pg .ras 0 + Off.RAS_SNAP_STAT) 3 3 1
    else if s.holdBit then s
    else s.updBegin k

/-- UPDATE_PARAMS_ADAMW (R186, R189–R191). -/
def execUpdateParamsAdamw (cmd : Nat) (s : State) : Host.Outcome State Fault Refusal := .next (s.updateParams cmd 0)
/-- UPDATE_PARAMS_LAMB (R186, R189, R190, R192). -/
def execUpdateParamsLamb (cmd : Nat) (s : State) : Host.Outcome State Fault Refusal := .next (s.updateParams cmd 1)
/-- UPDATE_PARAMS_SGD (R186, R189, R190, R193). -/
def execUpdateParamsSgd (cmd : Nat) (s : State) : Host.Outcome State Fault Refusal := .next (s.updateParams cmd 2)
/-- UPDATE_PARAMS_VERIFY (R186, R189, R207). -/
def execUpdateParamsVerify (cmd : Nat) (s : State) : Host.Outcome State Fault Refusal := .next (s.updateParams cmd 3)

/-- UPD_HOLD_RELEASE (R400): once no update is held, HOLD clears and the one that waited proceeds. -/
def execUpdHoldRelease (s : State) : Host.Outcome State Fault Refusal :=
  .next (if s.cmds.any (fun k => k.opcode == 4 && !k.begun && !k.allEnded && !s.earlierUpd k.id && s.updHeld k) then s
    else s.setField (pg .ras 0 + Off.RAS_SNAP_STAT) 3 3 0)

/-! ### The exponent move (R79, R206, R233) -/

/-- A bucket exponent moved by one, within its limits (R79). -/
def moveExp (up : Bool) (b : Nat) : Nat :=
  unsext 8 (if up then min 127 (sext 8 b + 1) else max (-128) (sext 8 b - 1))

/-- Every bucket exponent of a range moves. -/
def State.moveRange (s : State) (a n : Nat) (up : Bool) : State :=
  (upTo a n).foldl (fun (s : State) x => s.wrNat x 1 (moveExp up (s.rdNat x 1))) s

/-- The clean-step count after a status, and the move, if any (R79). -/
def moveRule (status clean n : Nat) : Nat × Option Bool :=
  if status = Status.SKIP_NONFINITE then (0, some false)
  else if status = Status.DONE then (if clean + 1 ≥ n then (0, some true) else (clean + 1, none))
  else (clean, none)

/-- The update state record of a command after the move. -/
def ustateAfter (u : Bytes) (step status clean : Nat) : Bytes :=
  withCrc (u.take 4 ++ natLE 4 clean ++ natLE 8 step ++ natLE 2 status ++ (u.drop 0x12).take 0x2A)

/-- An item fails in the exponent move, after it had ended (R206). -/
def State.refail (s : State) (cmd item st : Nat) : State := s.updCmd cmd (·.refail item st s.now)

/-- The exponent move of a command on server cores: every GSCALE range is read before any is written, and an item whose
range cannot be read fails. -/
def State.serverMove (s : State) (cmd : Nat) (ds : List (Nat × Shard)) (up : Bool) : State :=
  match ds.filter (fun e => s.anyPoison e.2.gscale e.2.buckets) with
  | [] => ds.foldl (fun (s : State) e => (s.homeRecall [(e.2.gscale, e.2.buckets)]).moveRange e.2.gscale e.2.buckets up) s
  | bad => bad.foldl (fun (s : State) e => s.refail cmd e.1 Status.MEM_UE) s

/-- UPD_EXPONENT_MOVE (R206): once every item has concluded without failure the bucket exponents move, by the pontoons
under PONTOON, and then the update state record, read once before the decision (R205), is written anew. An item that fails
in the move keeps the record as it was. -/
def execUpdExponentMove (cmd : Nat) (s : State) : Host.Outcome State Fault Refusal :=
  .next (match s.upd, s.cmd? cmd with
    | some r, some k =>
      if r.cmd ≠ cmd || r.algo = 3 || r.moved || !k.allEnded || !k.failed.isEmpty || k.whole.isSome then s
      else if r.last = r.step then s.setUpd { r with moved := true }
      else
        let (clean, mv) := moveRule r.status (fld r.ustate 4 4) (fld r.ustate 2 2)
        let ds := (upTo 0 k.items).map (fun j => (j, shardOf (s.shardBytes k j)))
        let close := fun (s : State) =>
          (s.wrBytes (caUstate k.cargo) (ustateAfter r.ustate r.step r.status clean)).setUpd { r with moved := true }
        match mv with
        | none => close s
        | some up =>
          if r.site = 1 then
            if !s.cohReady (ds.map (fun e => (e.2.gscale, e.2.buckets))) then s
            else
              let s := s.serverMove cmd ds up
              if (s.cmd? cmd).any (fun k => k.failed.isEmpty) then close s else s
          else if !r.queued then
            ds.foldl (fun (s : State) e =>
              match s.localStack e.2.gscale e.2.buckets with
              | some t => s.setPont t (s.pont t ++ [{ cmd := cmd, item := e.1, work := .gexp e.2.gscale e.2.buckets up }])
              | none => s) (s.setUpd { r with queued := true })
          else if s.ponts.any (fun e => e.2.any (fun c => c.cmd == cmd && c.work != .upd)) then s
          else close s
    | _, _ => s)

/-- PONT_GEXP (R206, R233): the pontoon applies the exponent move over a GSCALE range, which must be its own. -/
def execPontGexp (k : StackIx) (s : State) : Host.Outcome State Fault Refusal :=
  .next (match s.pont k with
    | { work := .gexp a n up, cmd, item } :: _ =>
      let err := fun (code st : Nat) => (((s.setRegN (pPONT k + Off.PONT_LAST_ERR) (code + item % 2 ^ 24 * 256)).itemErrAt (pPONT k) code
        cmd item st a).refail cmd item st).pontDone k 0 0
      if s.localStack a n ≠ some k.val then err 0x02 Status.BAD_COMMAND
      else if !s.cohReady [(a, n)] then s
      else if s.anyPoison a n then err 0x01 Status.MEM_UE
      else ((s.homeRecall [(a, n)]).moveRange a n up).pontDone k (2 * n) (ceilDiv n 2048)
    | _ => s)

end Sys2Proof.Machine
end

