-- ==== Sys2Proof/Machine/Ras.lean ====
section
/-!
DEFINITION. Machine/Ras.lean: the classes of every page's error codes, the RAS log's rows, device-fatal faults and
the leaving sequence, the HALT policy, and local resets (R385–R393, R405).
-/
namespace Sys2Proof.Machine

def pRAS : Nat := pg .ras 0

/-! ### Classes (R385) -/

/-- Class of an error code and, for an item-fatal one, the status of its item. -/
def cE : Nat × Nat := (clsCorr, 0)
def vE : Nat × Nat := (clsVoid, 0)
def dE : Nat × Nat := (clsFatal, Status.ABORTED)
def lE : Nat × Nat := (clsLink, 0)
def iE (st : Nat) : Nat × Nat := (clsItem, st)

/-- The error-code tables of the chapters, from code 0x01 upward. -/
def errList : Blk → List (Nat × Nat)
  | .pgdir => [cE, cE]
  | .tick => [cE, cE, cE, dE, dE, dE, cE, cE, cE, cE, cE]
  | .pwr => [cE, cE, cE, dE, cE, cE, dE, dE, cE]
  | .age => [cE, cE, cE, cE, cE, cE, cE]
  | .ras => [
    vE, cE, cE, cE, iE Status.BAD_COMMAND, iE Status.BAD_COMMAND, iE Status.BAD_COMMAND, iE Status.BAD_COMMAND, iE Status.SHARD_INCONSISTENT, cE,
    cE, cE, cE, iE Status.SHARD_INCONSISTENT, iE Status.SHARD_INCONSISTENT, iE Status.BAD_COMMAND, iE Status.SHARD_INCONSISTENT, cE]
  | .sec => [cE, cE, cE, cE, cE]
  | .mgmt => [cE, cE]
  | .pcie => [cE, cE, cE, iE Status.HOST_LINK_LOST, cE, cE, cE, cE]
  | .cq => [cE, cE, iE Status.MEM_UE, iE Status.BAD_COMMAND, iE Status.BAD_COMMAND, iE Status.ABORTED, cE, iE Status.BAD_COMMAND]
  | .dock => [cE, cE, iE Status.MEM_UE, iE Status.BAD_COMMAND, iE Status.BAD_COMMAND, iE Status.ABORTED, cE]
  | .slnk => [
    cE, cE, cE, cE, cE, iE Status.PEER_PROTOCOL, cE, cE, cE, cE, iE Status.PEER_LINK_LOST, iE Status.BAD_COMMAND, cE, cE, cE, lE, lE, cE, lE]
  | .coll => [cE, iE Status.VERSION_MISMATCH, iE Status.BAD_COMMAND, iE Status.BAD_COMMAND, cE, iE Status.PEER_LINK_LOST, cE, cE, cE, cE]
  | .hbmc => [cE, iE Status.MEM_UE, cE, cE]
  | .pont => [iE Status.MEM_UE, iE Status.BAD_COMMAND]
  | .lpdc => [cE, iE Status.MEM_UE, cE, cE, cE]
  | .home => [dE, dE, cE, dE, cE, cE, cE]
  | .dcache => [cE, cE, cE, cE]
  | .ctab => [iE Status.BAD_COMMAND, iE Status.BAD_COMMAND, iE Status.BAD_COMMAND]
  | .tagr => [iE Status.TILE_CHECK, iE Status.BAD_COMMAND, iE Status.BAD_COMMAND, cE, cE, cE]
  | .me => [iE Status.BAD_COMMAND, iE Status.TICK_OVERRUN]
  | .ve => [iE Status.BAD_COMMAND, iE Status.BAD_COMMAND, iE Status.BAD_COMMAND, iE Status.BAD_COMMAND]
  | .prep => [cE, cE]
  | .ferry => [
    iE Status.BAD_COMMAND, iE Status.MEM_UE, iE Status.BAD_COMMAND, iE Status.BAD_COMMAND, iE Status.BAD_COMMAND, iE Status.BAD_COMMAND,
    iE Status.PEER_LINK_LOST, cE, cE, iE Status.BAD_COMMAND]
  | .land => [cE, iE Status.MEM_UE, cE]
  | .slip => [iE Status.SLIPWAY_FULL, iE Status.BAD_COMMAND, iE Status.BAD_COMMAND, iE Status.TILE_CHECK, iE Status.BAD_COMMAND, cE, cE, cE, cE]
  | .rng => [cE, cE]
  | .exp => [iE Status.VERSION_MISMATCH, iE Status.BLOCK_CHECK, iE Status.BLOCK_CHECK, iE Status.BLOCK_CHECK, iE Status.TABLE_MISSING, cE]
  | .srvc => [cE, cE, cE, cE, cE]
  | _ => []

/-- Class and status of a page's error code; 0xF0 to 0xF2 are common to every page (R465). -/
def errClass (b : Blk) (code : Nat) : Option (Nat × Nat) :=
  if 0xF0 ≤ code then (if code ≤ 0xF2 then some cE else none)
  else if code = 0 then none else (errList b)[code - 1]?

/-- The item, tag and address of a record. -/
def State.infoOf (s : State) (item : Option (Nat × Nat)) (addr : Option Nat) (info : Nat) : LogInfo :=
  match item with
  | some (cmd, j) => { s.itemInfo cmd j with addr := addr, info := info }
  | none => { LogInfo.none with addr := addr, info := info }

/-- The counters that an error of a home or die cache moves, and the line it poisons (R278). -/
def State.cacheErr (s : State) (b : Blk) (page code : Nat) (addr : Option Nat) : State :=
  let mark := fun (s : State) (off : Nat) => match addr with
    | some a => s.setRegN (page + off) (a / 64 * 64)
    | none => s
  let spoil := fun (s : State) => match addr with
    | some a =>
      -- a slice's clean line is only lost; a dirty one, or a die cache's, is poisoned
      if s.devMem (a / 64 * 64) 64 && (b != .home || s.coh.llc.any (fun e => e.line == a / 64 && e.dirty)) then s.setPoison a true
      else s
    | none => s
  let s := match b, code with
    | .home, 3 | .home, 5 | .dcache, 1 => s.ev (fun e => { e with ce := e.ce + 1 })
    | .home, 6 | .dcache, 2 => s.ev (fun e => { e with ue := e.ue + 1 })
    | _, _ => s
  match b, code with
  | .home, 3 => mark (s.bump page Off.HOME_LLC_CE_CNT 1) Off.HOME_ERR_ADDR
  | .home, 5 => mark (s.bump page Off.HOME_LLC_CE_CNT 1) Off.HOME_ERR_ADDR
  | .home, 4 => mark s Off.HOME_ERR_ADDR
  | .home, 6 => spoil (mark (s.bump page Off.HOME_LLC_UE_CNT 1) Off.HOME_ERR_ADDR)
  | .dcache, 1 => mark (s.bump page Off.DCACHE_CE_CNT 1) Off.DCACHE_ERR_ADDR
  | .dcache, 2 => spoil (mark (s.bump page Off.DCACHE_UE_CNT 1) Off.DCACHE_ERR_ADDR)
  | _, _ => s

/-- An error of a page with the consequence of its class (R385). -/
def State.pageError (s : State) (b : Blk) (i code : Nat) (c : Nat × Nat) (item : Option (Nat × Nat)) (addr : Option Nat) (info : Nat) : State :=
  let page := pg b i
  let s := s.cacheErr b page code addr
  match item with
  | some (cmd, j) => match s.cmd? cmd with
    | some k =>
      if k.closed || decide (k.items ≤ j) then s.logErr page code c.1 { LogInfo.none with addr := addr, info := info }
      else if c.1 = clsVoid then s.mbVoid cmd j
      else
        let s := s.logErr page code c.1 (s.infoOf item addr info)
        if (c.1 = clsItem ∨ c.1 = clsFatal) ∧ !k.itemEnded j then s.stopItem k j c.2 else s
    | none => s.logErr page code c.1 { LogInfo.none with addr := addr, info := info }
  | none => s.logErr page code c.1 { LogInfo.none with addr := addr, info := info }

/-- RAS_LOG_APPEND (R387, R388): an event of page `i` of block `b` is logged, with the consequence of its class. A
code that the page's table does not have names no event. -/
def execRasLogAppend (b : Blk) (i code : Nat) (item : Option (Nat × Nat)) (addr : Option Nat) (info : Nat) (s : State) :
    Host.Outcome State Fault Refusal :=
  .next (match errClass b code with
    | some c => if i < b.count then s.pageError b i code c item addr info else s
    | none => s)

/-- DEVICE_FATAL_FAULT (R391): a device-fatal error of a page; the faulting item, if one is named, fails with its own
status. -/
def execDeviceFatalFault (b : Blk) (i code : Nat) (item : Option (Nat × Nat)) (addr : Option Nat) (s : State) :
    Host.Outcome State Fault Refusal :=
  .next (match errClass b code with
    | some c => if i < b.count ∧ c.1 = clsFatal then s.pageError b i code c item addr 0 else s
    | none => s)

/-- RAS_LOG_TAIL_WRITE (R405): records are consumed; a tail beyond the head is ignored and logged. -/
def execRasLogTailWrite (v : DWord) (s : State) : Host.Outcome State Fault Refusal :=
  .next (if s.regN (pRAS + Off.RAS_LOG_HEAD) < v.toNat then s.logCorr pRAS 0x12 else s.setReg (pRAS + Off.RAS_LOG_TAIL) v)

/-! ### Stopping the units -/

/-- The operations of a core's ferries are gone: they count on no decode-table slot any more (R256). -/
def State.dropFerries (s : State) (c : Nat) : State :=
  ((s.core c).ferries.flatMap (fun l => l.filter (·.ring == 0))).foldl
    (fun (s : State) o => s.useSlots (coreDie c) o.live false) s

/-- Every SEQ stops: the segments of a core that ran a timetable are emptied (R176), and the engines and ferries hold no
operation. -/
def State.stopCores (s : State) : State :=
  let s := s.foldCores (fun (s : State) c x => if x.tt.isSome then (s.dropFerries c).slipLeftover c else s.dropFerries c)
  let s := s.foldCores (fun (s : State) c _ =>
    ((s.setRegN (pg .seq c + Off.SEQ_STATE) 0).setField (pg .me c + Off.ME_STAT) 9 8 0).setField (pg .me c + Off.ME_STAT) 26 16 0)
  s.mapCores (fun _ x => { x with
    tt := none, sailings := [], meOps := [], veOps := [], ferries := CoreSt.reset.ferries, masks := [], merged := [] })

/-- Pontoons, collective operations, messages, queries and the update, snapshot and restore in course end. -/
def State.stopUnits (s : State) : State :=
  { s with
    ponts := [], colls := [], msgs := [], inMsgs := [], queries := [], signals := [], upd := none, snap := none, rvs := [] }.setField
    (pRAS + Off.RAS_SNAP_STAT) 31 0 0

/-! ### Leaving (R389, R391) -/

/-- The status of an item that a device-fatal fault stops (R389). -/
def leaveStatus (k : Cmd) (j : Nat) : Nat := if k.running.contains j then Status.ABORTED else Status.DEVICE_LEAVING

/-- Every item of a command not ended gets its status. -/
def State.leaveCmd (s : State) (k : Cmd) : State :=
  if k.whole.isSome then s
  else if k.running.isEmpty && k.ended.isEmpty && k.failed.isEmpty then s.failAll k.id Status.DEVICE_LEAVING
  else (upTo 0 k.items).foldl (fun (s : State) j =>
    if k.itemEnded j then s else s.updCmd k.id (fun x => (x.fail j (leaveStatus k j) s.now).endItem j (leaveStatus k j) s.now)) s

/-- LEAVE_STOP (R391): at the boundary after a device-fatal fault every SEQ stops, the units stop, every port goes
DOWN, and no notice asserts TLATE any more. -/
def execLeaveStop (s : State) : Host.Outcome State Fault Refusal :=
  .next (if !s.ras.leavePend || decide (s.now ≤ s.regN (pRAS + Off.RAS_FATAL_TICK)) then s
    else
      let s := (s.cmds.filter (fun k => !k.closed)).foldl (fun (s : State) k => s.leaveCmd k) s
      let s := s.stopCores.stopUnits
      let s := (upTo 0 18).foldl (fun (s : State) p =>
        if s.pstate p = 2 ∨ s.pstate p = 3 then s.portLeave p 0 0x13 Status.PEER_LINK_LOST
        else if s.pstate p = 1 then s.portIdle p 0 else s) s
      { s with
        ras := { s.ras with leavePend := false, haltPend := none, resetPend := none }
        tick := { s.tick with notices := [], asserting := false } })

/-- The records of a command still due are written, each where its path serves; a dock's that cannot be written is
logged (R391). -/
def State.flushRecs (s : State) (k : Cmd) : State :=
  let rs := k.due.drop k.recsOut
  let s := (rs.zip (upTo k.recsOut rs.length)).foldl (fun (s : State) e =>
    let addr := if k.cpl = 0 then none else some (k.cpl + 32 * e.2)
    if 64 ≤ k.src && !s.reaches (addr.getD (s.qReg k.src Off.CQ_CPL_BASE)) then
      (s.bump pRAS Off.RAS_CPL_LOST_CNT 1).logErr pRAS 0x03 clsCorr
        { LogInfo.none with item := some e.1.item, tag := some k.tag, info := e.1.status }
    else s.putRec k.src addr e.1 (bit e.1.flags 0 && k.msi)) s
  (s.updCmd k.id (fun x => { x with recsOut := x.recsOut + rs.length, closed := true })).qShow k.src

/-- LEAVE_RECORDS (R391): the harbour controller writes the records of every accepted command. -/
def execLeaveRecords (s : State) : Host.Outcome State Fault Refusal :=
  .next (if !s.left || s.ras.leavePend then s
    else
      let s := (s.cmds.filter (fun k => !k.closed)).foldl (fun (s : State) k => s.leaveCmd k) s
      (s.cmds.filter (fun k => !k.closed)).foldl (fun (s : State) k => s.flushRecs k) s)

/-! ### Floods (R380) -/

/-- The tree of the job, and whether this device is its root (R380). -/
def State.jobTree (s : State) : Nat := s.field (pCOLL 0 + Off.COLL_FLOOD_TREE) 2 0
def State.jobRoot (s : State) : Bool := s.treeParent s.jobTree == 31

/-- A FLOOD payload. -/
def mkFlood (kind req tick origin : Nat) : Bytes :=
  natLE 1 1 ++ natLE 1 kind ++ natLE 1 req ++ rep 5 0 ++ natLE 8 tick ++ natLE 4 origin ++ rep 220 0

/-- A FLOOD flit leaves on a port. -/
def State.sendFlood (s : State) (p : Nat) (b : Bytes) : State := s.queueFlit p { typ := 0x0B, vc := 4, payload := b, owner := none }

/-- A downward FLOOD to every child of the job tree. -/
def State.floodDown (s : State) (b : Bytes) : State := (s.treeKids s.jobTree).foldl (fun (s : State) p => s.sendFlood p b) s

/-- A SNAPSHOT_AT gives its T to the armed snapshot, or is logged where none is accepted (R380, R395). -/
def State.takeSnapAt (s : State) (t : Nat) : State :=
  let s := s.setRegN (pCOLL 0 + Off.COLL_FLOOD_LAST) t
  let s := { s with ras := { s.ras with snapAt := some t } }
  match s.snap with
  | none => s.logCorr pRAS 0x0A
  | some n => if n.t.isNone then { s with snap := some { n with t := some t } }.setRegN (pRAS + Off.RAS_SNAP_T) t else s

/-- A SNAPSHOT_AT of this device whose tick has not come (R395). -/
def State.snapPending (s : State) : Bool := s.ras.snapAt.any (fun t => decide (s.now ≤ t))

/-- The root floods SNAPSHOT_AT and acts on it. -/
def State.announce (s : State) (t : Nat) : State :=
  let s := s.floodDown (mkFlood 1 0 t s.node)
  ({ s with ras := { s.ras with snapSent := some s.tide } }).takeSnapAt t

/-- The root answers a request (R401). -/
def State.answerReq (s : State) (kind : Nat) : State :=
  if kind = 1 then
    let gap := s.ras.snapSent.any (fun t => decide (s.tide < t + s.regN (pRAS + Off.RAS_SNAP_GAP)))
    if s.snapPending || gap then s.logCorr pRAS 0x0C else s.announce (s.now + s.regN (pRAS + Off.RAS_SNAP_LEAD))
  else if bit (s.regN (pRAS + Off.RAS_CTRL)) 3 then
    let s := s.floodDown (mkFlood 2 0 0 s.node)
    if s.left then s else { s with ras := { s.ras with resetPend := some (s.ras.resetPend.getD s.now) } }
  else s.logCorr pRAS 0x0D

/-- A REQUEST goes up the job tree, or is answered at its root. -/
def State.request3 (s : State) (kind : Nat) : State :=
  if s.jobRoot then s.answerReq kind else s.sendFlood (s.treeParent s.jobTree) (mkFlood 3 kind 0 s.node)

/-- The rules on a FLOOD payload (R364, R380). -/
def floodOk (b : Bytes) : Bool :=
  let k := fld b 1 1
  decide (fld b 0 1 = 1 ∧ 1 ≤ k ∧ k ≤ 3 ∧ fld b 3 5 = 0 ∧ fld b 0x10 4 < 2 ^ 15) &&
  (if k = 3 then decide (fld b 2 1 = 1 ∨ fld b 2 1 = 2) else fld b 2 1 == 0) && (k == 1 || fld b 8 8 == 0)

/-- The first FLOOD flit of a port: a bad one is discarded and counted; one of another kind waits for its own row. -/
def State.takeFlood (s : State) (p kind : Nat) : State × Option Bytes :=
  match s.takeRx p 0x0B with
  | none => (s, none)
  | some (f, t) =>
    if !floodOk f.payload then (t.viol p 0x09 4, none)
    else if fld f.payload 1 1 = kind then (t, some f.payload) else (s, none)

/-- FLOOD_SNAPSHOT_AT (R380): forwarded to the children, then acted on, unless T comes too soon. -/
def execFloodSnapshotAt (p : PortIx) (s : State) : Host.Outcome State Fault Refusal :=
  .next (match s.takeFlood p 1 with
    | (s, none) => s
    | (s, some b) =>
      let s := s.floodDown b
      let t := fld b 8 8
      if t ≤ s.now + 1 then s.logCorr (pCOLL 0) 0x09 else s.takeSnapAt t)

/-- FLOOD_GLOBAL_RESET (R380, R393): forwarded, then a local reset is due; a device that has left ignores it. -/
def execFloodGlobalReset (p : PortIx) (s : State) : Host.Outcome State Fault Refusal :=
  .next (match s.takeFlood p 2 with
    | (s, none) => s
    | (s, some b) =>
      let s := s.floodDown b
      if s.left then s else { s with ras := { s.ras with resetPend := some (s.ras.resetPend.getD s.now) } })

/-- FLOOD_REQUEST (R380, R401): forwarded towards the root, or answered or declined there. -/
def execFloodRequest (p : PortIx) (s : State) : Host.Outcome State Fault Refusal :=
  .next (match s.takeFlood p 3 with
    | (s, none) => s
    | (s, some b) => if s.jobRoot then s.answerReq (fld b 2 1) else s.sendFlood (s.treeParent s.jobTree) b)

/-! ### HALT and local reset (R390, R393) -/

/-- MB_HALT (R390): under HALT, at the boundary after a micro-batch-void fault, the items of every RUN_TIMETABLE fail,
their records go on hollow, and the device is HALTED. -/
def execMbHalt (s : State) : Host.Outcome State Fault Refusal :=
  .next (if !s.ras.haltPend.any (fun t => decide (t < s.now)) || s.left then s
    else
      let s := { s with ras := { s.ras with haltPend := none } }
      let s := (s.cmds.filter (fun k => k.opcode == 1 && !k.closed && k.whole.isNone)).foldl (fun (s : State) k => s.stopCmd k Status.ABORTED) s
      let s := ((s.setField (pRAS + Off.RAS_STAT) 1 0 1).logCorr pRAS 0x02).raiseEvent pRAS
      if bit (s.regN (pRAS + Off.RAS_CTRL)) 1 then s.request3 2 else s)

/-- The accumulator sets, flags and segments of every core in use are emptied (R90, R176, R393). -/
def State.emptyCores (s : State) : State :=
  let s := s.foldCores (fun (s : State) c _ => s.discardSets c)
  let s := s.foldCores (fun (s : State) c _ => s.setFlags c 0 0)
  s.berths.foldl (fun (s : State) e => s.emptySegment (e.1 / 32) (e.1 % 32)) s

/-- A local reset takes effect (R389, R393). -/
def State.localReset (s : State) : State :=
  if s.left then s
  else
    let s := (s.cmds.filter (fun k => !k.closed)).foldl (fun (s : State) k => s.failAll k.id Status.ABORTED) s
    let s := (s.stopCores.stopUnits.emptyCores).clearAcc
    let s := s.setField (pRAS + Off.RAS_STAT) 2 0 4
    { s with ras := { s.ras with resetPend := none, haltPend := none } }

/-- LOCAL_RESET (R393): at the first boundary after RAS_CTRL.LOCAL_RESET or a GLOBAL_RESET flood. -/
def execLocalReset (s : State) : Host.Outcome State Fault Refusal :=
  .next (if s.ras.resetPend.any (fun t => decide (t < s.now)) then s.localReset else s)

/-- GLOBAL_RESET_DONE (R393): the local reset has completed. -/
def execGlobalResetDone (s : State) : Host.Outcome State Fault Refusal :=
  .next (if bit (s.regN (pRAS + Off.RAS_STAT)) 2 then (s.setField (pRAS + Off.RAS_STAT) 2 2 0).logCorr pRAS 0x04 else s)

end Sys2Proof.Machine
end

