-- ==== Sys2Proof/Machine/Ageing.lean ====
section
/-!
DEFINITION. Machine/Ageing.lean: the boot flash, the ageing monitors, the margin re-plan, the hull log and the
health-risk score (R419, R423–R435, R436).
-/
namespace Sys2Proof.Machine

def pAGE : Nat := pg .age 0

/-! ### Boot flash (R436) -/

/-- One byte of the boot flash; an erased one reads 0xFF. -/
def State.flashByte (s : State) (a : Nat) : Byte := smGet (fun _ => 0xFF) s.flash a

/-- `n` bytes of the boot flash. -/
def State.flashRd (s : State) (a n : Nat) : Bytes := (upTo a n).map s.flashByte

/-- Write bytes to the boot flash. -/
def State.flashWr : State → Nat → Bytes → State
  | s, _, [] => s
  | s, a, b :: bs => State.flashWr { s with flash := smSet (fun _ => 0xFF) s.flash a b } (a + 1) bs

/-- Erase the 64 KiB sector that holds an address. -/
def State.flashErase (s : State) (a : Nat) : State :=
  { s with flash := s.flash.filter (fun e => e.1 / 65536 ≠ a / 65536) }

/-! ### Domains (R423) -/

/-- Domains of the device. -/
def domains : Nat := 288

/-- Die of a margin domain, as PWR_TJ numbers dies. -/
def domDie (i : Nat) : Nat := if i < 256 then i / 64 else 4 + (i - 256) / 16

/-- The rail register of a domain: PWR_CORE_V or PWR_CLUS_V. -/
def domRail (i : Nat) : Nat :=
  if i < 256 then pPWR + 0x1000 + Off.PWR_CORE_V + 4 * i else pPWR + 0x2000 + Off.PWR_CLUS_V + 4 * (i - 256)

/-- AGE_DOMAIN of a domain, and AGE_SENT of a sentinel. -/
def ageDom (i : Nat) : Nat := pAGE + 0x1000 + Off.AGE_DOMAIN + 4 * i
def ageSent (j : Nat) : Nat := pAGE + 0x1000 + Off.AGE_SENT + 4 * j

/-- DELTA of a domain. -/
def State.delta (s : State) (i : Nat) : Nat := s.field (ageDom i) 15 0

/-- The samples of this tide up to tick 899,999 still feed the plan (R426). -/
def State.planWindow (s : State) : Bool := decide (s.now % 1000000 ≤ 899999)

/-! ### Junction sensors (R419, R423, R425) -/

/-- A sample of one die: the tide's highest, and a thermal cycle when it falls below 45 °C after 85 °C (R425). -/
def State.dieSample (s : State) (d : Nat) (t : Int) : State :=
  let a := s.age
  let warm := a.warm.getD d false
  let cyc := warm && decide (t < 45)
  let s := { s with age := { a with
    dieTj := a.dieTj.set d t
    dieHot := a.dieHot.set d (max t (a.dieHot.getD d 0))
    planHot := if s.planWindow then a.planHot.set d (max t (a.planHot.getD d 0)) else a.planHot
    warm := a.warm.set d (!cyc && (warm || decide (85 < t)))
    cyc := if cyc then a.cyc.set d (a.cyc.getD d 0 + 1) else a.cyc } }
  if cyc then
    (s.ev (fun e => { e with cycles := e.cycles.set d (e.cycles.getD d 0 + 1) })).bump pAGE (Off.AGE_CYCLES + 4 * d) 1
  else s

/-- The highest of a sample. -/
def hottest (ts : List Int) : Int := ts.foldl max (ts.headD 0)

/-- THERMTRIP_N asserts and latches, and every converter goes off (R419). -/
def State.thermTrip (s : State) : State :=
  let s := s.logErr pPWR 0x07 clsFatal LogInfo.none
  { s with pwr := { s.pwr with phase := .off, thermtrip := true } }.unpower

/-- One sample of the six dies: PWR_TJ, the tide's highest, the board's sensor every 100 ms, and the trip at 105 °C
(R419, R434). -/
def State.tjSample (s : State) (tj : List Int) : State :=
  let h := hottest tj
  let die := tj.findIdx (· == h)
  let s : State := (tj.zip (upTo 0 6)).foldl (fun (s : State) e => s.dieSample e.2 e.1) s
  let s := s.setRegN (pPWR + Off.PWR_TJ) (unsext 8 h + die * 0x100)
  let s : State := { s with pwr := { s.pwr with hot := max s.pwr.hot h } }
  let s : State := if s.now / 100000 = s.mgmt.tjAt then s
    else { s with mgmt := { sensors := s.mgmt.sensors.set 0 h, tjAt := s.now / 100000 } }
  if 105 ≤ h ∧ !s.pwr.thermtrip then s.thermTrip else s

/-- `n` temperatures in °C, each as a sensor shows it: −128 to 127. -/
def fitTemps (n : Nat) (l : List Int) : List Int := (fit n 0 l).map (fun t => max (-128) (min 127 t))

/-- TJ_SAMPLE (R419): the junction sensors of dies 0–5, in °C. -/
def execTjSample (tj : List Int) (s : State) : Host.Outcome State Fault Refusal :=
  .next (if s.awake then s.tjSample (fitTemps 6 tj) else s)

/-! ### Oscillators and sentinels (R423, R424) -/

/-- Slowdown of a count against the fresh one, in 0.01 %, rounded down (R423). -/
def slowdown (f f0 : Nat) : Nat := if f0 = 0 then 0 else (f0 - f) * 10000 / f0

/-- OSC_SAMPLE (R423): the counts of both replica oscillators of every domain over 1 ms. -/
def execOscSample (f : List (Nat × Nat)) (s : State) : Host.Outcome State Fault Refusal :=
  .next { s with age := { s.age with samples := ((fit domains (0, 0) f).zip (upTo 0 domains)).map (fun e =>
      let i := e.2
      let code := s.field (domRail i) 6 0
      let tj := s.age.dieTj.getD (domDie i) 0
      let old := (s.age.samples.lookup i).getD ([], [])
      (i, (slowdown e.1.1 (Config.freshCount i 0 code tj) :: old.1,
           slowdown e.1.2 (Config.freshCount i 1 code tj) :: old.2))) } }

/-- SENTINEL_SAMPLE (R423): the lowest passing rail code of each of the 192 sentinels. -/
def execSentinelSample (codes : List (BitVec 7)) (s : State) : Host.Outcome State Fault Refusal :=
  let codes := fit 192 0 codes
  .next (
    let t := (codes.zip (upTo 0 192)).foldl (fun (s : State) e => s.setRegN (ageSent e.2) e.1.toNat) s
    if s.planWindow then { t with age := { t.age with planSent := codes.map (·.toNat) } } else t)

/-- A number into a rising list. -/
def insertUp (x : Nat) : List Nat → List Nat
  | [] => [x]
  | y :: ys => if x ≤ y then x :: y :: ys else y :: insertUp x ys

/-- The median: of an even number of samples, the mean of the middle two, rounded down. -/
def median (l : List Nat) : Nat :=
  let m := l.foldr insertUp []
  (m.getD ((m.length - 1) / 2) 0 + m.getD (m.length / 2) 0) / 2

/-- The slowdown of a domain over the tide (R424): the larger of its two medians, with OSC_FAULT when they are more
than 5 points apart; DELTA becomes the larger of itself and the smallest of the last 8. -/
def State.ageDomain (s : State) (e : Nat × (List Nat × List Nat)) : State :=
  let a := median e.2.1
  let b := median e.2.2
  let s := if 500 < max a b - min a b then s.logErr pAGE 0x04 clsCorr { LogInfo.none with info := e.1 } else s
  let hist := (max a b :: (s.age.medians.lookup e.1).getD []).take 8
  let s := { s with age := { s.age with medians := (e.1, hist) :: s.age.medians.filter (fun x => x.1 ≠ e.1) } }
  if hist.length = 8 then s.setField (ageDom e.1) 15 0 (max (s.delta e.1) (hist.foldl min 10000)) else s

/-- The end of a tide for every domain sampled in it. -/
def State.tideAgeing (s : State) : State :=
  let s := s.age.samples.foldl State.ageDomain s
  { s with age := { s.age with samples := [] } }

/-! ### The margin re-plan (R426–R428) -/

/-- Base rail code of a mode (R407, R426). -/
def baseCode (m : Nat) : Nat := if m = 0 then 80 else if m = 1 then 60 else 40

/-- The temperature term (R426). -/
def tempTerm (t : Int) : Nat := if t < 25 then 2 else if t < 85 then 0 else if t < 95 then 1 else 2

/-- The margin cap. -/
def State.marginCap (s : State) : Nat := s.field (pPWR + Off.PWR_STAT) 7 6
def State.setMarginCap (s : State) (c : Nat) : State :=
  (s.setPwrStat 7 6 c).setField (pAGE + Off.AGE_STAT) 5 4 c

/-- The plan of a domain for a mode, before it is held to 120 (R426). -/
def State.planCode (s : State) (m i : Nat) : Nat :=
  let d := domDie i
  let floor := ((s.age.planSent.drop (32 * d)).take 32).foldl max 0 + 10
  let code : Int := baseCode m + (s.age.trim.lookup i).getD 0 + ceilDiv (s.delta i) 50 + tempTerm (s.age.planHot.getD d 0)
  max code.toNat floor

/-- The mode of the next tide, once the thermal and energy caps decided for it are counted (R412, R428). -/
def State.nextMode (s : State) : Nat :=
  max (max (s.field (pPWR + Off.PWR_CTRL) 1 0) (min s.pwr.step 2)) (max s.pwr.ecap s.marginCap)

/-- MARGIN_EXHAUSTED of a domain, once per tide (R427). -/
def State.exhaust (s : State) (i : Nat) : State :=
  if s.age.exhLogged.contains i then s
  else
    let s := { s with age := { s.age with exhLogged := i :: s.age.exhLogged, cur := { s.age.cur with exhausted := true } } }
    ((s.bump pAGE Off.AGE_EXHAUST_CNT 1).logErr pAGE 0x01 clsCorr { LogInfo.none with info := i }).send
      (.mgmt (.event .marginExhausted))

/-- Every domain whose plan for mode `m` is above 120. -/
def State.exhaustedIn (s : State) (m : Nat) : List Nat := (upTo 0 domains).filter (fun i => decide (120 < s.planCode m i))

/-- The plan of a domain is shown (R426, R427). -/
def State.showPlan (s : State) (m i : Nat) : State :=
  let code := min 120 (s.planCode m i)
  ((s.setField (domRail i) 14 8 code).setField (ageDom i) 22 16 code).setField (ageDom i) 23 23
    (b2n (s.age.exhLogged.contains i))

/-- The lowest headroom of a plan and its domain, the first on a tie. -/
def State.lowHeadroom (s : State) (m : Nat) : Nat × Nat :=
  (upTo 0 domains).foldl (fun b i =>
    let h := 120 - s.planCode m i
    if h < b.1 then (h, i) else b) (120 - s.planCode m 0, 0)

/-- A tide in which the lower mode would leave a headroom of 4 counts towards the release of the margin cap (R427). -/
def State.relaxMargin (s : State) : State :=
  let c := s.marginCap
  if c = 0 then { s with age := { s.age with easy := 0 } }
  else if (upTo 0 domains).all (fun i => decide (s.planCode (c - 1) i ≤ 116)) then
    if s.age.easy + 1 = 3600 then { s with age := { s.age with easy := 0 } }.setMarginCap (c - 1)
    else { s with age := { s.age with easy := s.age.easy + 1 } }
  else { s with age := { s.age with easy := 0 } }

/-- The re-plan (R426–R428): settle the mode, plan, and on exhaustion raise the cap and plan once more. -/
def State.replan (s : State) : State :=
  let s := s.relaxMargin
  let m := s.nextMode
  let ex := s.exhaustedIn m
  let s := ex.foldl State.exhaust s
  let s := if !ex.isEmpty && decide (m < 2) then s.setMarginCap (min 2 (s.marginCap + 1)) else s
  let m2 := s.nextMode
  -- held at 120 in P3; an exhaustion of the second pass in another mode is left for the next tide
  let s := if !ex.isEmpty && decide (m < 2) && decide (m2 = 2) then (s.exhaustedIn m2).foldl State.exhaust s else s
  let s := (upTo 0 domains).foldl (fun (s : State) i => s.showPlan m2 i) s
  let h := s.lowHeadroom m2
  let s := s.setRegN (pAGE + Off.AGE_HEADROOM) (h.1 + h.2 * 0x100)
  s.setField (pAGE + Off.AGE_STAT) 6 6 (b2n (!s.age.exhLogged.isEmpty))

/-- MARGIN_REPLAN (R426): once per tide, after the last sample that counts. -/
def execMarginReplan (s : State) : Host.Outcome State Fault Refusal :=
  .next (if s.planWindow || s.age.planned == some s.tide || s.pwr.phase != .ready then s
    else { s.replan with age := { s.replan.age with planned := some s.tide } })

/-! ### The hull log (R429–R431) -/

/-- First byte of the hull ring, and of a slot (R429, R436). -/
def hullBase : Nat := 0x1820000
def hullSlot (k : Nat) : Nat := hullBase + 4096 * (k % 2048)

/-- Tj bin of the histogram (R429). -/
def tjBin (t : Int) : Nat := if t < 35 then 0 else if 105 ≤ t then 15 else ((t - 30) / 5).toNat

/-- For each bin the largest count of the dies (R431). -/
def histMax (hist : List (List Nat)) (b : Nat) : Nat := (hist.map (fun h => h.getD b 0)).foldl max 0

/-- LIFE_USED of a histogram, exactly (R431). Bin b has its midpoint at 32.5 + 5·b °C, so its weight is 2^((2·b − 25) / 4);
with E and O the sums over even and odd bins in units of 2^(b div 2), the total is (E + O·√2) · 2^(3/4) / 128. -/
def lifeUsed (hist : List (List Nat)) : Nat :=
  let sum := fun r => ((upTo 0 8).map (fun k => histMax hist (2 * k + r) * 2 ^ k)).foldl (· + ·) 0
  let e := sum 0
  let o := sum 1
  let a := e * e + 2 * (o * o)
  let b := 2 * (e * o)
  isqrt (4 * b + isqrt (8 * (a * a))) / (128 * 189216)

/-- The life figures as shown. -/
def State.showLife (s : State) : State := s.setRegN (pAGE + Off.AGE_LIFE_USED) (lifeUsed s.age.hist)

/-- A hull record's first 4,092 bytes but for SEQ, of the present state (R429). -/
def State.hullBody (s : State) (reason : Nat) : Bytes :=
  natLE 4 0x4C4C5548 ++ natLE 1 1 ++ natLE 1 reason ++ natLE 2 0 ++ natLE 8 0 ++ natLE 8 s.age.life ++ natLE 4 s.tide ++
  natLE 1 (s.field (pAGE + Off.AGE_STAT) 3 0) ++ natLE 1 (s.pmode + 4 * s.marginCap) ++ natLE 2 (lifeUsed s.age.hist) ++
  ((upTo 0 6).map (fun d => natLE 4 (s.age.cyc.getD d 0))).flatten ++ natLE 8 0 ++
  ((upTo 0 96).map (fun j => natLE 4 ((s.age.hist.getD (j / 16) []).getD (j % 16) 0))).flatten ++
  ((upTo 0 domains).map (fun i => natLE 2 (s.delta i))).flatten ++
  ((upTo 0 domains).map (fun i => natLE 1 (s.field (domRail i) 6 0))).flatten ++
  ((upTo 0 192).map (fun j => natLE 1 (s.regN (ageSent j)))).flatten ++
  ((upTo 0 72).map (fun l => natLE 2 (s.age.eyeLow.getD l 0))).flatten ++
  ((upTo 0 72).map (fun l => natLE 4 (s.age.berHigh.getD l 0))).flatten ++
  ((upTo 0 32).map (fun u => natLE 4 (s.age.memCe.getD u 0))).flatten ++
  ((upTo 0 6).map (fun d => natLE 2 (s.age.effLow.getD d 0))).flatten ++ rep 2016 0

/-- A hull record is asked for: the state is captured, and what a record counts since the previous one starts anew. -/
def State.askHull (s : State) (reason : Nat) : State :=
  { s with age := { s.age with
    hullReq := s.age.hullReq ++ [s.hullBody reason]
    eyeLow := AgeSt.reset.eyeLow, berHigh := AgeSt.reset.berHigh, memCe := AgeSt.reset.memCe } }

/-- A captured record with its SEQ. -/
def hullSeqd (b : Bytes) (seq : Nat) : Bytes := b.take 8 ++ natLE 8 seq ++ b.drop 16

/-- The write of a record to a slot begins: the sector is erased first where the slot opens one; the CRC goes last. -/
def State.beginHull (s : State) (b : Bytes) (slot : Nat) (again : Bool) : State :=
  let s := if slot % 16 = 0 then s.flashErase (hullSlot slot) else s
  let s := s.flashWr (hullSlot slot) b
  { s with age := { s.age with hullBusy := some (slot, b, again), hullNext := (slot + 1) % 2048 } }.setField
    (pAGE + Off.AGE_STAT) 7 7 1

/-- HULL_WRITE (R430): the oldest record asked for begins to be written; a write in progress goes first. -/
def execHullWrite (s : State) : Host.Outcome State Fault Refusal :=
  .next (match s.age.hullBusy, s.age.hullReq with
    | none, b :: bs =>
      let seq := match s.age.hullSeq with
        | some n => (n + 1) % 2 ^ 64
        | none => 0
      ({ s with age := { s.age with hullReq := bs } }).beginHull (hullSeqd b seq) s.age.hullNext false
    | _, _ => s)

/-- HULL_WRITE_DONE (R430): the write ends. After a good read-back the record is current; the first bad one is tried
again in the next slot, the second is logged. -/
def execHullWriteDone (ok : Bool) (s : State) : Host.Outcome State Fault Refusal :=
  .next (match s.age.hullBusy with
    | none => s
    | some (slot, b, again) =>
      let t := { s with age := { s.age with hullBusy := none } }.setField (pAGE + Off.AGE_STAT) 7 7 0
      if ok then
        let seq := leNat ((b.drop 8).take 8)
        let t := t.flashWr (hullSlot slot + 0xFFC) (natLE 4 (crc32c b))
        let t := (t.setRegN (pAGE + Off.AGE_HULL_SEQ) seq).setRegN (pAGE + Off.AGE_HULL_TIDE) (leNat ((b.drop 0x18).take 4))
        { t with age := { t.age with hullSeq := some seq } }
      else if again then t.logCorr pAGE 0x05
      else t.beginHull b s.age.hullNext true)

/-- HULL_NOW (R430, R435): a record is due in the next tide. -/
def execHullNow (s : State) : Host.Outcome State Fault Refusal := .next { s with age := { s.age with hullNow := true } }

/-- The record in a slot, if it is valid (R429). -/
def State.hullAt (s : State) (k : Nat) : Option Bytes :=
  let a := hullSlot k
  if s.flashRd a 5 = natLE 4 0x4C4C5548 ++ natLE 1 1 then
    let b := s.flashRd a 4096
    if crc32c (b.take 4092) = leNat (b.drop 4092) then some b else none
  else none

/-- The slot and bytes of the current record: the valid one with the highest SEQ (R429). -/
def State.hullCurrent (s : State) : Option (Nat × Bytes) :=
  (upTo 0 2048).foldl (fun best k =>
    match s.hullAt k, best with
    | none, _ => best
    | some b, none => some (k, b)
    | some b, some (_, c) => if leNat ((c.drop 8).take 8) < leNat ((b.drop 8).take 8) then some (k, b) else best) none

/-- What stage S2 takes from the current record, or from the fuses without one (R431). -/
def State.loadHull (s : State) : State :=
  let w := fun (b : Bytes) o n => leNat ((b.drop o).take n)
  match s.hullCurrent with
  | none =>
    let s := (upTo 0 domains).foldl (fun (s : State) i => s.setField (ageDom i) 15 0 (Config.fusedDelta i)) s
    s.logCorr pAGE 0x06
  | some (k, b) =>
    let s := { s with age := { s.age with
      hullNext := (k + 1) % 2048, hullSeq := some (w b 8 8), life := w b 0x10 8
      cyc := (upTo 0 6).map (fun d => w b (0x20 + 4 * d) 4)
      hist := (upTo 0 6).map (fun d => (upTo 0 16).map (fun j => w b (0x40 + 64 * d + 4 * j) 4)) } }
    let s := (s.setRegN (pAGE + Off.AGE_HULL_SEQ) (w b 8 8)).setRegN (pAGE + Off.AGE_HULL_TIDE) (w b 0x18 4)
    let s := s.setRegN (pAGE + Off.AGE_LIFE_TIDES) (w b 0x10 8)
    let s := (upTo 0 6).foldl (fun (s : State) d => s.setRegN (pAGE + Off.AGE_CYCLES + 4 * d) (w b (0x20 + 4 * d) 4)) s
    let s := (upTo 0 domains).foldl (fun (s : State) i =>
      (s.setField (ageDom i) 15 0 (w b (0x1C0 + 2 * i) 2)).setField (ageDom i) 22 16 (w b (0x400 + i) 1)) s
    (s.setMarginCap (min 2 (w b 0x1D 1 / 4 % 4))).showLife

/-! ### The health-risk score (R432, R433) -/

/-- A count over the last `w` tides. -/
def AgeSt.inWindow (a : AgeSt) (w : Nat) (f : TideEv → Nat) : Nat := ((a.past.take w).map f).foldl (· + ·) 0

/-- The largest number of thermal cycles on one die in 86,400 tides. -/
def AgeSt.maxCycles (a : AgeSt) : Nat := ((upTo 0 6).map (fun d => a.inWindow 86400 (fun e => e.cycles.getD d 0))).foldl max 0

/-- The tide scored. -/
def AgeSt.last (a : AgeSt) : TideEv := a.past.headD TideEv.zero

/-- The six components (R432). -/
def compE (a : AgeSt) : Nat :=
  let n := a.inWindow 64 (·.ce)
  if 0 < a.inWindow 3600 (·.ue) then 3 else if 1024 ≤ n then 2 else if 64 ≤ n then 1 else 0

def compM (a : AgeSt) (headroom : Nat) : Nat :=
  if a.last.exhausted then 3
  else if a.planned.isSome && decide (headroom ≤ 3) then 2
  else if (a.planned.isSome && decide (headroom ≤ 7)) || (a.effNow.zip a.effFused).any (fun e => decide (e.1 + 30 < e.2)) then 1
  else 0

def compT (a : AgeSt) : Nat :=
  let hot := 0 < a.inWindow 3600 (·.therm100)
  let cyc := 24 < a.maxCycles
  if hot ∧ cyc then 3 else if hot then 2 else if 0 < a.inWindow 3600 (·.therm95) ∨ cyc then 1 else 0

def compL (a : AgeSt) : Nat :=
  let n := a.inWindow 3600 (·.retrains)
  if 0 < a.inWindow 3600 (·.portFail) then 3 else if 16 ≤ n ∨ a.last.lowEye then 2 else if 4 ≤ n then 1 else 0

def compO (a : AgeSt) : Nat :=
  let n := a.inWindow 64 (·.notices)
  if 4096 ≤ n then 3 else if 64 ≤ n then 2 else if 1 ≤ n then 1 else 0

def compC (a : AgeSt) : Nat :=
  let n := a.inWindow 64 (·.refetch)
  if 0 < a.inWindow 3600 (·.checkFail) then 3 else if 16 ≤ n then 2 else if 1 ≤ n then 1 else 0

/-- The components enabled by COMP_EN, in the order E, M, T, L, O, C. -/
def State.components (s : State) : List Nat :=
  let en := s.field (pAGE + Off.AGE_CTRL) 5 0
  let a := s.age
  (([compE a, compM a (s.field (pAGE + Off.AGE_HEADROOM) 7 0), compT a, compL a, compO a, compC a]).zip (upTo 0 6)).map
    (fun e => if bit en e.2 then e.1 else 0)

/-- An event of R433: raised where the score is at its threshold and it is armed, re-armed two below. -/
def State.scoreEvent (s : State) (bitNo thr code : Nat) (e : PldmEvent) (score : Nat) : State × Bool :=
  let a := pAGE + Off.AGE_STAT
  if thr ≤ score ∧ s.field a bitNo bitNo = 0 then
    ((((s.setField a bitNo bitNo 1).logCorr pAGE code).raiseEvent pAGE).send (.mgmt (.event e)), true)
  else if score + 2 ≤ thr then (s.setField a bitNo bitNo 0, false)
  else (s, false)

/-- HEALTH_SCORE (R432, R433, R401): the tide just ended is scored, once. -/
def execHealthScore (s : State) : Host.Outcome State Fault Refusal :=
  .next (if s.age.scored == some s.tide || s.age.past.isEmpty || s.pwr.phase != .ready then s
    else
      let cs := s.components
      let score := min 15 (cs.foldl (· + ·) 0)
      let s := { s with age := { s.age with scored := some s.tide } }
      let s := s.setRegN (pAGE + Off.AGE_COMP) ((cs.zip (upTo 0 6)).foldl (fun n e => n + e.1 * 16 ^ e.2) 0)
      let s := s.setField (pAGE + Off.AGE_STAT) 3 0 score
      let s := { s with mgmt := { s.mgmt with sensors := s.mgmt.sensors.set 1 score } }
      let s := (s.scoreEvent 8 8 0x02 .secureState score).1
      let r := s.scoreEvent 9 12 0x03 .secureNow score
      if r.2 && bit (s.regN (pRAS + Off.RAS_CTRL)) 2 then (r.1.logCorr pRAS 0x0B).request3 1 else r.1)

end Sys2Proof.Machine
end

