-- ==== Sys2Proof/Machine/Snapshot.lean ====
section
/-!
DEFINITION. Machine/Snapshot.lean: SNAPSHOT and its copy-out, digests, and RESTORE_VERIFY in its three modes
(R394–R404, R233).
-/
namespace Sys2Proof.Machine

/-! ### Bodies and digests (R397, R398) -/

/-- Parts of a shard's body in order: address and length. -/
def Shard.parts (d : Shard) : List (Nat × Nat) :=
  [(d.commit, 64), (d.gscale, d.buckets), (d.master, 4 * d.count), (d.mcode, d.count), (d.mscale, d.mblocks)]
  ++ (if d.vcode = 0 then [] else [(d.vcode, d.count), (d.vscale, d.mblocks)]) ++ [(d.tags, 8 * d.blocks)]

/-- Where each part of a body begins within it: offset, address and length; parts begin on 64-byte boundaries. -/
def partOffsets : Nat → List (Nat × Nat) → List (Nat × (Nat × Nat))
  | _, [] => []
  | o, p :: ps => (o, p) :: partOffsets (o + roundUp p.2 64) ps

/-- BODY_BYTES: to the end of the tags. -/
def Shard.bodyLen (d : Shard) : Nat :=
  match (partOffsets 0 d.parts).getLast? with
  | some (o, p) => o + p.2
  | none => 0

def mib : Nat := 0x100000

/-- BLOCKS of a body. -/
def Shard.digBlocks (d : Shard) : Nat := ceilDiv d.bodyLen mib

/-- The body of a shard as it stands in its arrays. -/
def State.shardBody (s : State) (d : Shard) : Bytes :=
  ((d.parts.map (fun p => s.rdBytes p.1 p.2 ++ rep (roundUp p.2 64 - p.2) 0)).flatten).take d.bodyLen

/-- Some line of a shard's body is poisoned. -/
def State.bodyPoison (s : State) (d : Shard) : Bool := d.parts.any (fun p => s.anyPoison p.1 p.2)

/-- Digest `j` of a body. -/
def digest (b : Bytes) (j : Nat) : Nat := crc64 ((b.drop (j * mib)).take mib)

/-- All digests of a body. -/
def digests (b : Bytes) : List Nat := (upTo 0 (ceilDiv b.length mib)).map (digest b)

/-- The stack whose pontoon can digest the shard: every part lies in its local range (R398). -/
def State.digStack (s : State) (d : Shard) : Option Nat :=
  match s.localStack d.commit 64 with
  | some k => if d.parts.all (fun p => s.localStack p.1 p.2 == some k) then some k else none
  | none => none

/-! ### SNAPSHOT (R394, R395) -/

/-- A snapshot or restore entry, and its shard. -/
def State.entryOf (s : State) (k : Cmd) (j : Nat) : Bytes := s.rdBytes (k.table + 32 * j) 32
def State.entryShard (s : State) (k : Cmd) (j : Nat) : Bytes := s.rdBytes (fld (s.entryOf k j) 0 8) 128

/-- An image may lie there: coherent memory or the outbound window. -/
def State.imagePlace (s : State) (a n : Nat) : Bool :=
  match s.rangeRegion a n with
  | some .hbm => true
  | some .tier => true
  | some .outA => true
  | some .outB => true
  | _ => false

/-- The rules on a snapshot entry and its descriptor (R394). -/
def State.snapEntryOk (s : State) (k : Cmd) (j : Nat) : Bool :=
  let e := s.entryOf k j
  let d := shardOf (s.entryShard k j)
  let others := (upTo 0 k.items).filter (· ≠ j)
  decide (fld e 0 8 % 64 = 0 ∧ fld e 8 8 % 64 = 0 ∧ 1 ≤ fld e 0x10 8) && s.devMem (fld e 0 8) 128
  && s.imagePlace (fld e 8 8) (fld e 0x10 8) && shardOk (s.entryShard k j) false && d.parts.all (fun p => s.devMem p.1 p.2)
  && !others.any (fun i => (shardOf (s.entryShard k i)).commit == d.commit)

/-- RAS_SNAP_STAT and what follows from the snapshot in course; one whose items have all ended is over. -/
def State.showSnap (s : State) (phase : Nat) : State :=
  let at_ := pRAS + Off.RAS_SNAP_STAT
  match s.snap with
  | none => s
  | some n => match s.cmd? n.cmd with
    | none => { s with snap := none }.setField at_ 2 0 0
    | some k =>
      if k.allEnded then (({ s with snap := none }).setField at_ 2 0 0).setField at_ 31 16 0
      else (s.setField at_ 2 0 phase).setField at_ 31 16 (k.items - k.ended.length)

/-- Every item of a snapshot fails at acceptance. -/
def State.snapRefuse (s : State) (k : Cmd) (code : Nat) : State :=
  ((s.logErr pRAS code clsItem (s.itemInfo k.id 0)).beginCmd k.id).failAll k.id Status.BAD_COMMAND

/-- A snapshot has not ended. -/
def State.snapBusy (s : State) : Bool :=
  s.snap.any (fun n => match s.cmd? n.cmd with
    | some k => !k.allEnded
    | none => false)

/-- SNAPSHOT (R394, R395): the command is checked, its snapshot armed or scheduled, and announced if it asks. -/
def execSnapshot (cmd : Nat) (s : State) : Host.Outcome State Fault Refusal :=
  .next (match s.fresh cmd 0x0005 with
    | none => s
    | some k =>
      let b := k.cargo
      let t := fld b 8 8
      let ann := bit (fld b 1 1) 0
      if fld b 0x10 8 % 64 ≠ 0 ∨ !s.devMem (fld b 0x10 8) 64 then
        ((s.beginCmd cmd).entryErr k 0x08 Status.BAD_COMMAND).failAll cmd Status.BAD_COMMAND
      else if s.snapBusy then s.snapRefuse k 0x05
      else if t ≠ 0 ∧ t ≤ k.accTick then s.snapRefuse k 0x06
      else if ann ∧ t ≠ 0 ∧ !s.jobRoot then s.snapRefuse k 0x07
      else
        let s := s.beginCmd cmd
        let n : SnapRun := {
          cmd := cmd, t := if t = 0 then none else some t, frozen := false, fstep := 0, ustate := [], held := [], digs := [] }
        let s := { s with snap := some n }
        let s := if t = 0 then s else s.setRegN (pRAS + Off.RAS_SNAP_T) t
        let s := (upTo 0 k.items).foldl (fun (s : State) j =>
          if s.anyPoison (k.table + 32 * j) 32 then s.endItem cmd j Status.MEM_UE
          else if s.snapEntryOk k j then s
          else (s.itemErr pRAS 0x08 cmd j Status.BAD_COMMAND).endItem cmd j Status.BAD_COMMAND) s
        let s := s.showSnap 1
        if !ann then s
        else if !s.jobRoot then s.request3 1
        else if s.snapPending then s
        else s.announce (if t = 0 then s.now + s.regN (pRAS + Off.RAS_SNAP_LEAD) else t))

/-- SNAPSHOT_FREEZE (R396): at cycle 0 of tick T, once the update accepted before T has ended, the step is frozen, each
shard's record is checked, and the digests of stack-local shards go to the pontoons. -/
def execSnapshotFreeze (s : State) : Host.Outcome State Fault Refusal :=
  .next (match s.snap with
    | none => s
    | some n => match n.t, s.cmd? n.cmd with
      | some t, some k =>
        if n.frozen || decide (s.now < t) then s
        else if s.cmds.any (fun x => x.opcode == 4 && decide (x.accTick < t) && !s.recWritten x) then s.showSnap 2
        else
          let ua := fld k.cargo 0x10 8
          let u := s.rdBytes ua 64
          let f := fld u 8 8
          let live := (upTo 0 k.items).filter (fun j => !k.itemEnded j)
          let bad := s.anyPoison ua 64
          let s := s.setRegN (pRAS + Off.RAS_SNAP_FSTEP) f
          let s := live.foldl (fun (s : State) j =>
            let c := s.rdBytes (shardOf (s.entryShard k j)).commit 64
            let s := s.updCmd k.id (·.run j)
            if bad || s.anyPoison (shardOf (s.entryShard k j)).commit 64 then s.endItem k.id j Status.MEM_UE
            else if commitOk c && decide ((commitOf c).commit = f ∧ (commitOf c).phase = 0) then
              match s.digStack (shardOf (s.entryShard k j)) with
              | some p => s.setPont p (s.pont p ++ [{ cmd := k.id, item := j, work := .dig }])
              | none => s
            else (s.itemErr pRAS 0x09 k.id j Status.SHARD_INCONSISTENT).endItem k.id j Status.SHARD_INCONSISTENT) s
          ({ s with snap := some { n with frozen := true, fstep := f, ustate := u, held := live } }).showSnap 3
      | _, _ => s)

/-- The digests of a shard that a pontoon has computed, kept for the snapshot or the restore item that asked. -/
def State.keepDigs (s : State) (cmd item : Nat) (l : List Nat) : State :=
  { s with
    snap := s.snap.map (fun n => if n.cmd = cmd then { n with digs := n.digs ++ [(item, l)] } else n)
    rvs := s.rvs.map (fun (r : RvRun) => if r.cmd = cmd ∧ r.item = item then { r with digs := (l.map (natLE 8)).flatten, stage := 2 } else r) }

/-- Whether a command waits for a digest, and the shard descriptor of its item: a snapshot's as frozen. -/
def State.digShard (s : State) (k : Cmd) (item : Nat) : Option Shard :=
  if k.itemEnded item then none
  else match s.snap with
    | some n => if n.cmd = k.id then some (shardOf (s.entryShard k item)) else if k.opcode = 6 then some (shardOf (s.entryShard k item)) else none
    | none => if k.opcode = 6 then some (shardOf (s.entryShard k item)) else none

/-- PONT_DIG (R233, R234, R398): the pontoon has copies of the shard's arrays recalled and digests its body, block by
block. -/
def execPontDig (p : StackIx) (s : State) : Host.Outcome State Fault Refusal :=
  .next (match s.pont p with
    | { work := .dig, cmd, item } :: _ => match (s.cmd? cmd).bind (fun k => s.digShard k item) with
      | none => s.pontDone p 0 0
      | some d =>
        let show3 := fun (t : State) => if s.snap.any (fun n => n.cmd == cmd) then t.showSnap 3 else t
        let err := fun (code st : Nat) =>
          show3 ((((s.setRegN (pPONT p + Off.PONT_LAST_ERR) (code + item % 2 ^ 24 * 256)).itemErr (pPONT p) code cmd item st).endItem
            cmd item st).pontDone p 0 0)
        if s.digStack d ≠ some p.val then err 0x02 Status.BAD_COMMAND
        else if !s.cohReady d.parts then s
        else if s.bodyPoison d then err 0x01 Status.MEM_UE
        else ((s.homeRecall d.parts).keepDigs cmd item (digests (s.shardBody d))).pontDone p d.bodyLen (ceilDiv d.bodyLen 1024)
    | _ => s)

/-- The header of an image (R397). -/
def imageHeader (d : Shard) (fstep node t : Nat) : Bytes :=
  withCrc ([0x57, 0x43, 0x4B, 0x50] ++ natLE 1 1 ++ natLE 1 d.wfmt ++ natLE 1 (b2n (d.vcode != 0)) ++ natLE 1 0 ++ natLE 8 fstep ++ natLE 4 d.count ++
    natLE 4 node ++ natLE 8 d.elem ++ natLE 8 t ++ natLE 8 d.bodyLen ++ natLE 4 d.digBlocks ++ rep 8 0)

/-- Bytes of an image: header, update state record, body, and the digest table on the next boundary. -/
def Shard.imageLen (d : Shard) : Nat := 128 + roundUp d.bodyLen 64 + 8 * d.digBlocks

/-- SNAPSHOT_ITEM_DONE (R397–R399): the image of the next item in ascending index is globally visible at its
destination, and its shard is released. -/
def execSnapshotItemDone (item : Nat) (s : State) : Host.Outcome State Fault Refusal :=
  .next (match s.snap with
    | none => s
    | some n => match s.cmd? n.cmd with
      | none => s
      | some k =>
        if !n.frozen || k.itemEnded item || decide (k.items ≤ item) || (upTo 0 item).any (fun j => !k.itemEnded j) ||
            !s.cohReady ((fld (s.entryOf k item) 8 8, (shardOf (s.entryShard k item)).imageLen) :: (shardOf (s.entryShard k item)).parts) then s
        else
          let e := s.entryOf k item
          let d := shardOf (s.entryShard k item)
          let dst := fld e 8 8
          let digs := match n.digs.lookup item with
            | some l => some l
            | none => if (s.digStack d).isSome then none else some (digests (s.shardBody d))
          match digs with
          | none => s
          | some l =>
            (if fld e 0x10 8 < d.imageLen then (s.itemErr pRAS 0x08 k.id item Status.BAD_COMMAND).endItem k.id item Status.BAD_COMMAND
              else if s.bodyPoison d then s.endItem k.id item Status.MEM_UE
              else if s.outDown dst then
                (s.logDown dst).endItem k.id item (if s.isHost dst then Status.HOST_LINK_LOST else Status.DONE)
              else
                let body := s.shardBody d
                let img := imageHeader d n.fstep s.node (n.t.getD 0) ++ n.ustate ++ body ++ rep (roundUp d.bodyLen 64 - d.bodyLen) 0 ++
                  (l.map (natLE 8)).flatten
                ((s.engineWrite k.id dst img).updCmd k.id (·.addBytes item img.length)).endItem k.id item Status.DONE).showSnap 4)

/-! ### RESTORE_VERIFY (R402, R403) -/

/-- An error of a restore item. -/
def State.rvErr (s : State) (k : Cmd) (j code st : Nat) : State := (s.itemErr pRAS code k.id j st).endItem k.id j st

/-- Cargo of RESTORE_VERIFY. -/
def rvMode (k : Cmd) : Nat := fld k.cargo 1 1
def rvPartner (k : Cmd) : Nat := fld k.cargo 4 4
def rvStep (k : Cmd) : Nat := fld k.cargo 8 8
def rvUstate (k : Cmd) : Nat := fld k.cargo 0x10 8

/-- The rules on the cargo (R402). -/
def State.rvCargoOk (s : State) (k : Cmd) : Bool :=
  decide (rvMode k ≤ 2) &&
  (rvMode k == 2 || (rvUstate k % 64 == 0 && s.devMem (rvUstate k) 64))

/-- The item of a restore command that a row works on: the command has begun, its cargo is sound, and the item has not
ended. A bad cargo fails every item. -/
def State.rvItem (s : State) (cmd item mode : Nat) : State × Option Cmd :=
  match s.cmd? cmd with
  | none => (s, none)
  | some k =>
    if k.opcode ≠ 6 || k.allEnded || (decide (s.now < k.start) && !k.begun) || decide (k.items ≤ item) || k.itemEnded item then (s, none)
    else if rvMode k ≠ mode ∧ rvMode k ≤ 2 then (s, none)
    else if !s.rvCargoOk k then (((s.beginCmd cmd).entryErr k 0x08 Status.BAD_COMMAND).failAll cmd Status.BAD_COMMAND, none)
    else ((s.beginCmd cmd).updCmd cmd (·.run item), some k)

/-- The local shard of a restore item, if its descriptor is sound and lies in device memory. -/
def State.rvShard (s : State) (k : Cmd) (j : Nat) : Option Shard :=
  let a := fld (s.entryOf k j) 0 8
  let b := s.rdBytes a 128
  if a % 64 = 0 && s.devMem a 128 && shardOk b false && (shardOf b).parts.all (fun p => s.devMem p.1 p.2) then some (shardOf b) else none

/-- A digest table header (R403). -/
def digHeader (ready fstep blocks : Nat) : Bytes :=
  withCrc (natLE 1 1 ++ natLE 1 ready ++ rep 6 0 ++ natLE 8 fstep ++ natLE 4 blocks ++ rep 40 0)

/-- The header is one that a requester accepts. -/
def digHeaderOk (b : Bytes) (fstep : Nat) : Bool :=
  decide (fld b 0x3C 4 = crc32c (b.take 0x3C) ∧ fld b 0 1 = 1 ∧ fld b 1 1 = 1 ∧ fld b 8 8 = fstep)

/-- RESTORE_VERIFY_SERVE (R403): the digest table of a live shard is published; the digests of a shard that lies in one
stack-local range come from its pontoon (R398). -/
def execRestoreVerifyServe (cmd item : Nat) (s : State) : Host.Outcome State Fault Refusal :=
  .next (match s.rvItem cmd item 2 with
    | (s, none) => s
    | (s, some k) =>
      let at_ := fld (s.entryOf k item) 0x18 8
      match s.rvShard k item with
      | none => s.rvErr k item 0x10 Status.BAD_COMMAND
      | some d =>
        let c := s.rdBytes d.commit 64
        if at_ % 64 ≠ 0 ∨ !s.devMem at_ (64 + 8 * d.digBlocks) then s.rvErr k item 0x10 Status.BAD_COMMAND
        else if s.bodyPoison d then s.endItem cmd item Status.MEM_UE
        else if !commitOk c || (commitOf c).commit ≠ rvStep k || (commitOf c).phase ≠ 0 then s.rvErr k item 0x10 Status.BAD_COMMAND
        else
          let rest := s.rvs.filter (fun r => !(r.cmd == cmd && r.item == item))
          let publish := fun (digs : Bytes) =>
            let t := ({ s with rvs := rest } : State).wrBytes at_ (digHeader 0 (rvStep k) d.digBlocks)
            let t := (t.wrBytes (at_ + 64) digs).updCmd cmd (·.addBytes item (128 + digs.length))
            (t.wrBytes at_ (digHeader 1 (rvStep k) d.digBlocks)).endItem cmd item Status.DONE
          match s.digStack d, s.rvs.find? (fun r => r.cmd == cmd && r.item == item) with
          | none, _ => publish ((digests (s.shardBody d)).map (natLE 8)).flatten
          | some p, none =>
            let run : RvRun := { cmd := cmd, item := item, stage := 1, start := s.now, parts := [], desc := [], digs := [], bad := [] }
            ({ s with rvs := rest ++ [run] } : State).setPont p (s.pont p ++ [{ cmd := cmd, item := item, work := .dig }])
          | some _, some r => if r.stage = 2 then publish r.digs else s)

/-- The image header agrees with the command and the shard (R403). -/
def imageOk (b : Bytes) (fstep : Nat) (d : Shard) : Bool :=
  decide (fld b 0x3C 4 = crc32c (b.take 0x3C) ∧ b.take 4 = [0x57, 0x43, 0x4B, 0x50] ∧ fld b 4 1 = 1 ∧ fld b 8 8 = fstep ∧ fld b 0x10 4 = d.count ∧
    fld b 0x18 8 = d.elem ∧ fld b 5 1 = d.wfmt ∧ bits (fld b 6 1) 0 0 = b2n (d.vcode != 0) ∧ fld b 0x28 8 = d.bodyLen ∧
    fld b 0x30 4 = d.digBlocks)

/-- Pieces of a shard's arrays that body bytes [lo, hi) cover: body offset, address and length. -/
def Shard.pieces (d : Shard) (lo hi : Nat) : List (Nat × (Nat × Nat)) :=
  (partOffsets 0 d.parts).filterMap (fun e =>
    let a := max lo e.1
    let b := min hi (e.1 + e.2.2)
    if a < b then some (a, (e.2.1 + (a - e.1), b - a)) else none)

/-- A body copied from an image into a shard's arrays. -/
def State.copyBody (s : State) (d : Shard) (img : Nat) : State :=
  (d.pieces 0 d.bodyLen).foldl (fun (s : State) e => s.wrBytes e.2.1 (s.rdBytes (img + 128 + e.1) e.2.2)) (s.homeWrite d.parts)

/-- The working copy regenerated from the master (R181). -/
def State.regenWork (s : State) (d : Shard) : State :=
  (upTo 0 d.count).foldl (fun (s : State) i =>
    s.wrNat (d.work + d.wsize * i) d.wsize (workOf d.wfmt (s.rdNat (d.master + 4 * i) 4))) s

/-- Blocks of a body whose digest is not the wanted one. -/
def badBlocks (body : Bytes) (want : Bytes) : List Nat :=
  (upTo 0 (ceilDiv body.length mib)).filter (fun j => digest body j != fld want (8 * j) 8)

/-- The update state record of an item's source, if it has an image. -/
def State.rvRecord (s : State) (k : Cmd) (j : Nat) : Option Bytes :=
  let img := fld (s.entryOf k j) 8 8
  if img = 0 then none else some (s.rdBytes (img + 64) 64)

/-- An item succeeds: the record of item 0's source is written at USTATE_ADDR, any other item's must equal it, the
working copy is regenerated, and the item ends DONE (R403). -/
def State.rvDone (s : State) (k : Cmd) (j : Nat) (d : Shard) : State :=
  let s := { s with rvs := s.rvs.filter (fun r => !(r.cmd == k.id && r.item == j)) }
  let mine := s.rvRecord k j
  if j ≠ 0 ∧ mine.isSome ∧ mine ≠ s.rvRecord k 0 then s.rvErr k j 0x11 Status.SHARD_INCONSISTENT
  else
    let s := match if j = 0 then mine else none with
      | some u => (s.wrBytes (rvUstate k) u).updCmd k.id (·.addBytes j 64)
      | none => s
    ((s.regenWork d).updCmd k.id (·.addBytes j (d.wsize * d.count))).endItem k.id j Status.DONE

/-- The image of an item can be read: placed, reachable, not poisoned; else the status it fails with. -/
def State.imageRead (s : State) (img n : Nat) : Option Nat :=
  if img % 64 ≠ 0 ∨ !s.imagePlace img n then some Status.BAD_COMMAND
  else if s.outDown img then some (if s.isHost img then Status.HOST_LINK_LOST else Status.MEM_UE)
  else if s.anyPoison img n then some Status.MEM_UE
  else none

/-- RESTORE_VERIFY_STORED (R403): a shard is restored from its image and verified block by block. -/
def execRestoreVerifyStored (cmd item : Nat) (s : State) : Host.Outcome State Fault Refusal :=
  .next (match s.rvItem cmd item 0 with
    | (s, none) => s
    | (s, some k) =>
      let img := fld (s.entryOf k item) 8 8
      match s.rvShard k item with
      | none => s.rvErr k item 0x10 Status.BAD_COMMAND
      | some d => match s.imageRead img d.imageLen with
        | some st => if st = Status.BAD_COMMAND then s.rvErr k item 0x10 st else s.endItem cmd item st
        | none =>
          if !imageOk (s.rdBytes img 64) (rvStep k) d then s.rvErr k item 0x10 Status.BAD_COMMAND
          else
            let want := s.rdBytes (img + 128 + roundUp d.bodyLen 64) (8 * d.digBlocks)
            let s := (s.copyBody d img).updCmd cmd (·.addBytes item d.bodyLen)
            if (badBlocks (s.shardBody d) want).isEmpty then s.rvDone k item d
            else s.rvErr k item 0x0E Status.SHARD_INCONSISTENT)

/-- A restore's read from its partner. -/
def State.rvAsk (s : State) (k : Cmd) (j : Nat) (buf : Bool) (remote localAddr n : Nat) : State :=
  let r := s.newMsg (rvPartner k) (.restore buf) k.id j remote localAddr n false
  r.1.sendRead r.2

/-- What the reads of a run have brought, in order of offset. -/
def RvRun.got (r : RvRun) (n : Nat) : Bytes :=
  (r.parts.foldl (fun (b : Bytes) e => b.take e.1 ++ rep (e.1 - b.length) 0 ++ e.2 ++ b.drop (e.1 + e.2.length)) []).take n

def State.putRv (s : State) (r : RvRun) : State :=
  { s with rvs := s.rvs.filter (fun x => !(x.cmd == r.cmd && x.item == r.item)) ++ [r] }

/-- The blocks of a shard that differ are fetched from the partner's arrays (R403). -/
def State.rvFetch (s : State) (k : Cmd) (r : RvRun) (d : Shard) (bad : List Nat) : State :=
  let pd := shardOf r.desc
  let s := s.putRv { r with stage := 4, bad := bad, parts := [] }
  bad.foldl (fun (s : State) j =>
    ((pd.pieces (j * mib) (min ((j + 1) * mib) d.bodyLen)).zip (d.pieces (j * mib) (min ((j + 1) * mib) d.bodyLen))).foldl
      (fun (s : State) e => s.rvAsk k r.item false e.1.2.1 e.2.2.1 e.2.2.2) s) s

/-- RESTORE_VERIFY_REPLICA (R403): the next step of an item: the partner's descriptor, its digest table, polled until
READY, the local image if there is one, and every block that differs fetched from the partner and digested again. -/
def execRestoreVerifyReplica (cmd item : Nat) (s : State) : Host.Outcome State Fault Refusal :=
  .next (match s.rvItem cmd item 1 with
    | (s, none) => s
    | (s, some k) =>
      let e := s.entryOf k item
      let img := fld e 8 8
      let table := fld e 0x18 8
      let limit := s.regN (pg .slnk 0 + Off.SLNK_MSG_TIMEOUT)
      if k.itemFailed item then
        ({ s with rvs := s.rvs.filter (fun r => !(r.cmd == cmd && r.item == item)) }).endItem cmd item Status.PEER_LINK_LOST
      else if s.msgs.any (fun m => m.cmd == cmd && m.item == item && !m.write) then s
      else match s.rvShard k item, s.rvs.find? (fun r => r.cmd == cmd && r.item == item) with
      | none, _ => s.rvErr k item 0x10 Status.BAD_COMMAND
      | some _, none =>
        (s.putRv { cmd := cmd, item := item, stage := 1, start := s.now, parts := [], desc := [], digs := [], bad := [] }).rvAsk k item true
          (fld e 0x10 8) 0 128
      | some d, some r =>
        match r.stage with
        | 1 =>
          let b := r.got 128
          let pd := shardOf b
          if !shardOk b false || pd.count != d.count || pd.elem != d.elem || pd.wfmt != d.wfmt || (pd.vcode == 0) != (d.vcode == 0) then
            s.rvErr k item 0x10 Status.BAD_COMMAND
          else (s.putRv { r with stage := 2, desc := b, parts := [] }).rvAsk k item true table 0 64
        | 2 =>
          let h := r.got 64
          if digHeaderOk h (rvStep k) then
            if fld h 0x10 4 ≠ d.digBlocks then s.rvErr k item 0x10 Status.BAD_COMMAND
            else (s.putRv { r with stage := 3, parts := [] }).rvAsk k item true (table + 64) 0 (8 * d.digBlocks)
          else if r.start + limit ≤ s.now then (s.failItem cmd item Status.PEER_LINK_LOST).endItem cmd item Status.PEER_LINK_LOST
          else (s.putRv { r with parts := [] }).rvAsk k item true table 0 64
        | 3 =>
          let want := r.got (8 * d.digBlocks)
          let r := { r with digs := want, parts := [] }
          if img = 0 then s.rvFetch k r d (upTo 0 d.digBlocks)
          else match s.imageRead img d.imageLen with
            | some st => if st = Status.BAD_COMMAND then s.rvErr k item 0x10 st else s.endItem cmd item st
            | none =>
              if !imageOk (s.rdBytes img 64) (rvStep k) d then s.rvErr k item 0x10 Status.BAD_COMMAND
              else
                let s := (s.copyBody d img).updCmd cmd (·.addBytes item d.bodyLen)
                let bad := badBlocks (s.shardBody d) want
                if bad.isEmpty then s.rvDone k item d else s.rvFetch k r d bad
        | _ =>
          let bad := badBlocks (s.shardBody d) r.digs
          if r.bad.any bad.contains then s.rvErr k item 0x0F Status.SHARD_INCONSISTENT else s.rvDone k item d)

end Sys2Proof.Machine
end

