-- ==== Sys2Proof/Machine/Security.lean ====
section
/-!
DEFINITION. Machine/Security.lean: the directory and images of the boot flash, the fuses, attestation, firmware update,
debug unlock, and the management transports (R434, R436–R453). The cryptographic algorithms are constants of Config.
-/
namespace Sys2Proof.Machine

def pSEC : Nat := pg .sec 0
def pMGMT : Nat := pg .mgmt 0

/-- Fields of SEC_STAT. -/
def State.secStat (s : State) (hi lo : Nat) : Nat := s.field (pSEC + Off.SEC_STAT) hi lo
def State.setSecStat (s : State) (hi lo v : Nat) : State := s.setField (pSEC + Off.SEC_STAT) hi lo v

/-- Recovery; the debug level (R441, R452). -/
def State.recovery (s : State) : Bool := s.secStat 5 5 == 1
def State.dbgLevel (s : State) : Nat := s.secStat 4 3

/-- The characters of a text as bytes. -/
def ascii (t : String) : Bytes := t.toList.map (fun c => BitVec.ofNat 8 c.toNat)

/-! ### Directory (R437) -/

/-- A directory copy. -/
structure Dir where
  copy : Nat
  pref : Nat
  trial : Bool
  tries : Nat
  seq : Nat
  deriving DecidableEq, Repr

/-- The directory copy at index `k`, if it is valid. -/
def State.dirAt (s : State) (k : Nat) : Option Dir :=
  let b := s.flashRd (0x10000 * k) 64
  let w := fun o n => leNat ((b.drop o).take n)
  if b.take 4 = ascii "WFDR" ∧ w 4 1 = 1 ∧ w 5 1 ≤ 1 ∧ crc32c (b.take 60) = w 0x3C 4 then
    some { copy := k, pref := w 5 1, trial := decide (w 6 1 = 1), tries := w 7 1, seq := w 8 8 }
  else none

/-- The current copy: the valid one with the higher SEQ. -/
def State.dirNow (s : State) : Option Dir :=
  match s.dirAt 0, s.dirAt 1 with
  | some a, some b => if a.seq < b.seq then some b else some a
  | some a, none => some a
  | none, d => d

/-- The directory the ROM works with: PREF 0 and TRIAL 0 where no copy is valid. -/
def State.dirOrNone (s : State) : Dir := s.dirNow.getD { copy := 1, pref := 0, trial := false, tries := 0, seq := 0 }

/-- A directory write goes to the other copy, with SEQ one up. -/
def State.writeDir (s : State) (d : Dir) : State :=
  let k := 1 - d.copy
  let b := ascii "WFDR" ++ natLE 1 1 ++ natLE 1 d.pref ++ natLE 1 (b2n d.trial) ++ natLE 1 d.tries ++ natLE 8 (d.seq + 1) ++ rep 44 0
  (s.flashErase (0x10000 * k)).flashWr (0x10000 * k) (b ++ natLE 4 (crc32c b))

/-! ### Images (R438–R440) -/

/-- First byte of an image slot, and its size. -/
def slotBase (k : Nat) : Nat := if k = 0 then 0x20000 else 0xC20000
def slotSize : Nat := 0xC00000

/-- A key slot may verify: programmed, not revoked, and its hash is that of the public key (R440). -/
def keyOk (prog rev : Nat) (roots : List Bytes) (slot : Nat) (pub : Bytes) : Bool :=
  decide (slot < 4) && bit prog slot && !bit rev slot && decide (roots[slot]? = some (Config.sha384 pub))

/-- The header of an image slot. -/
def State.imgHeader (s : State) (k : Nat) : Bytes := s.flashRd (slotBase k) 8192

/-- The digest D of an image slot (R438). -/
def State.imgDigest (s : State) (k : Nat) : Bytes :=
  let h := s.imgHeader k
  Config.sha384 (h.take 0x8A0 ++ s.flashRd (slotBase k + 8192) (leNat ((h.drop 0xC).take 4)))

/-- What does not need the algorithms: the fields of the header (R438, R440). -/
def State.headerOk (s : State) (k : Nat) : Bool :=
  let h := s.imgHeader k
  let w := fun o n => leNat ((h.drop o).take n)
  decide (h.take 4 = ascii "WFWI") && decide (w 4 1 = 1) && decide (w 5 1 = 1) && decide (w 6 2 = 0) && decide (w 0xB 1 = 0)
    && allZero ((h.drop 0x60).take 160) && allZero ((h.drop 0x15CD).take 2611)
    && decide (1 ≤ w 0xC 4 ∧ w 0xC 4 ≤ slotSize - 8192) && decide (s.sec.svnMin ≤ w 8 1 ∧ w 8 1 ≤ 64)

/-- Verification of an image slot (R440). -/
def State.slotOk (s : State) (k : Nat) : Bool :=
  s.headerOk k &&
  (let h := s.imgHeader k
   let w := fun o n => leNat ((h.drop o).take n)
   let ed := (h.drop 0x40).take 32
   let ml := (h.drop 0x100).take 1952
   let d := s.imgDigest k
   keyOk s.sec.edProg s.sec.edRev s.sec.edRoots (w 9 1) ed && keyOk s.sec.mlProg s.sec.mlRev s.sec.mlRoots (w 0xA 1) ml
     && Config.edVerify ed d ((h.drop 0x8A0).take 64) && Config.mlVerify ml d ((h.drop 0x8E0).take 3309))

/-- SEC_IMAGE_BAD with its slot. -/
def State.imageBad (s : State) (k : Nat) : State := s.logErr pSEC 0x01 clsCorr { LogInfo.none with info := k }

/-- The ROM starts the image of a slot: what runs is recorded and shown (R438, R440, R445). -/
def State.runImage (s : State) (k : Nat) (trial : Bool) : State :=
  let h := s.imgHeader k
  let w := fun o n => leNat ((h.drop o).take n)
  let eps := (upTo 0 4).filter (fun i => decide (w (0x18 + 2 * i) 2 ≠ 0))
  let s := { s with sec := { s.sec with runSvn := w 8 1, edSlot := w 9 1, mlSlot := w 0xA 1, digest := s.imgDigest k } }
  let s := (s.setRegN (pg .devid 0 + Off.DEVID_EPOCHS) (w 0x18 8)).setField (pg .devid 0 + Off.DEVID_REV) 23 16 eps.length
  ((s.setSecStat 0 0 k).setSecStat 1 1 (b2n trial)).setSecStat 5 5 0

/-- Stage S1 (R440, R441): a trial is counted or given up, then the first slot that verifies is started, the preferred
one first. Without one the device is in recovery. -/
def State.bootRom (s : State) : State × Bool :=
  let d := s.dirOrNone
  let s := if s.dirNow.isNone then s.logCorr pSEC 0x03 else s
  let (s, d) :=
    if d.trial then
      if d.tries = 0 then
        let d := { d with pref := 1 - d.pref, trial := false }
        ((s.logCorr pSEC 0x02).writeDir d, d)
      else
        let d := { d with tries := d.tries - 1 }
        (s.writeDir d, d)
    else (s, d)
  if s.slotOk d.pref then (s.runImage d.pref d.trial, true)
  else
    let s := s.imageBad d.pref
    if s.slotOk (1 - d.pref) then (s.runImage (1 - d.pref) false, true)
    else ((s.imageBad (1 - d.pref)).setSecStat 5 5 1, false)

/-! ### Fuses and keys (R442, R443) -/

/-- TRIAL of the directory, which the rules on confirming and committing mean (R437, R442, R443). -/
def State.dirTrial (s : State) : Bool := s.dirOrNone.trial

/-- SEC_CONFIRM (R442): TRIAL is cleared in the directory. -/
def execSecConfirm (s : State) : Host.Outcome State Fault Refusal :=
  .next (if s.dirTrial then (s.writeDir { s.dirOrNone with trial := false }).setSecStat 1 1 0 else s)

/-- SEC_SVN_COMMIT (R442): fuses begin to be blown up to the running image's SVN. -/
def execSecSvnCommit (s : State) : Host.Outcome State Fault Refusal :=
  .next (if s.dirTrial || decide (s.sec.runSvn ≤ s.sec.svnMin) then s.logCorr pSEC 0x04
    else if s.sec.fuseTo.isSome then s
    else { s with sec := { s.sec with fuseTo := some s.sec.runSvn } }.setSecStat 6 6 1)

/-- FUSING_DONE (R442): SVN_MIN is what the commit asked for. -/
def execFusingDone (s : State) : Host.Outcome State Fault Refusal :=
  .next (match s.sec.fuseTo with
    | none => s
    | some t => { s with sec := { s.sec with svnMin := t, fuseTo := none } }.setSecStat 6 6 0)

/-- The named slots may be revoked (R443). -/
def State.revokeOk (s : State) (ed ml : Nat) : Bool :=
  let x := s.sec
  let left := fun prog rev m => (upTo 0 4).any (fun i => bit prog i && !bit rev i && !bit m i)
  !s.dirTrial && (s.recovery || (!bit ed x.edSlot && !bit ml x.mlSlot)) && left x.edProg x.edRev ed && left x.mlProg x.mlRev ml

/-- SEC_REVOKE (R443): the named revocation bits are set, or the write is refused. -/
def execSecRevoke (v : Word) (s : State) : Host.Outcome State Fault Refusal :=
  let ed := bits v.toNat 3 0
  let ml := bits v.toNat 7 4
  .next (if s.revokeOk ed ml then { s with sec := { s.sec with edRev := s.sec.edRev ||| ed, mlRev := s.sec.mlRev ||| ml } }
    else s.logCorr pSEC 0x04)

/-! ### Measurements and evidence (R444, R445, R447) -/

/-- SEC_KEYSTAT (R439, R443). -/
def State.keyStat (s : State) : Nat :=
  let x := s.sec
  x.edRev + x.mlRev * 2 ^ 4 + x.edProg * 2 ^ 8 + x.mlProg * 2 ^ 12 + x.edSlot * 2 ^ 16 + x.mlSlot * 2 ^ 18

/-- Measurement `m` = 1–5 (R445). -/
def State.measurement (s : State) (m : Nat) : Bytes :=
  if m = 1 then Config.romMeasurement
  else if m = 2 then s.sec.digest
  else if m = 3 then Config.sha384 (s.flashRd (0x10000 * s.dirOrNone.copy) 64 ++ natLE 2 s.keyStat)
  else if m = 4 then Config.sha384 (natLE 1 s.sec.svnMin ++ natLE 1 s.sec.runSvn)
  else Config.sha384 (natLE 1 s.dbgLevel)

/-- Seed of an alias key: HKDF with the unique device secret over the info string and M1, M2 (R444). -/
def State.aliasSeed (s : State) (alg : String) : Bytes :=
  Config.deriveKey (ascii ("WTRV1 ALIAS " ++ alg) ++ s.measurement 1 ++ s.measurement 2)

/-- The bytes of the hybrid evidence record that are signed (R447). -/
def State.evidence (s : State) (nonce : Bytes) : Bytes :=
  ascii "WHER" ++ natLE 1 1 ++ natLE 3 0 ++ nonce ++ ((upTo 1 5).map s.measurement).flatten ++ natLE 8 s.now

/-- The hybrid evidence record; at debug level 2 nothing is signed (R447, R452). -/
def State.evidenceRec (s : State) (nonce : Bytes) : Bytes :=
  let e := s.evidence nonce
  if s.dbgLevel = 2 then e
  else e ++ Config.edSign (s.aliasSeed "ED25519") e ++ Config.mlSign (s.aliasSeed "MLDSA65") e

/-- A certificate chain: slot 0 Ed25519, slot 1 ML-DSA-65 (R444, R446, R447). -/
def State.chain (s : State) (slot : Nat) : Bytes :=
  Config.certChain slot (s.flashRd 0x2020000 65536) (s.measurement 1) (s.measurement 2)

/-! ### Debug unlock (R452) -/

/-- A fresh nonce is drawn. -/
def State.drawNonce (s : State) : State :=
  let s := (upTo 0 4).foldl (fun (s : State) i => s.setReg (pSEC + Off.SEC_DBG_NONCE + 8 * i) (Config.freeValue (s.free + i))) s
  { s with free := s.free + 4 }

/-- The nonce in SEC_DBG_NONCE. -/
def State.nonce (s : State) : Bytes :=
  ((upTo 0 4).map (fun i => natLE 8 (s.regN (pSEC + Off.SEC_DBG_NONCE + 8 * i)))).flatten

/-- SEC_DBG_NONCE_READ (R452): the read draws the nonce that it answers. -/
def execSecDbgNonceRead (s : State) : Host.Outcome State Fault Refusal :=
  let s := s.drawNonce
  .next { s with rdData := s.nonce, rdPoison := false, rdError := false }

/-- Bytes of a debug token before its signatures, and of the whole token. -/
def tokenHead : Nat := 2032
def tokenSize : Nat := 5405

/-- The token at an address is accepted, but for its signatures and keys (R452). -/
def State.tokenFits (s : State) (b : Bytes) : Bool :=
  let w := fun o n => leNat ((b.drop o).take n)
  decide (b.take 4 = ascii "WDBG") && decide (w 4 1 = 1) && decide (w 5 1 = 1 ∨ w 5 1 = 2) && decide ((b.drop 8).take 32 = s.nonce)
    && decide (w 40 8 = s.regN (pg .devid 0 + Off.DEVID_SERIAL))

/-- The token at an address is accepted (R440, R452). -/
def State.tokenOk (s : State) (a : Nat) : Bool :=
  decide (a % 64 = 0) && s.mappedMem a tokenSize && !s.anyPoison a tokenSize &&
  (let b := s.rdBytes a tokenSize
   let w := fun o n => leNat ((b.drop o).take n)
   let ed := (b.drop 48).take 32
   let ml := (b.drop 80).take 1952
   let d := Config.sha384 (b.take tokenHead)
   s.tokenFits b && keyOk s.sec.edProg s.sec.edRev s.sec.edRoots (w 6 1) ed && keyOk s.sec.mlProg s.sec.mlRev s.sec.mlRoots (w 7 1) ml
     && Config.edVerify ed d ((b.drop tokenHead).take 64) && Config.mlVerify ml d ((b.drop (tokenHead + 64)).take 3309))

/-- SEC_DBG_UNLOCK (R452): GO checks the token; a failed attempt draws a new nonce. -/
def execSecDbgUnlock (s : State) : Host.Outcome State Fault Refusal :=
  let a := s.regN (pSEC + Off.SEC_DBG_TOKEN_ADDR)
  .next (if s.tokenOk a then s.setSecStat 4 3 (s.rdNat (a + 5) 1) else s.drawNonce.logCorr pSEC 0x05)

/-- SEC_DBG_LOCK (R452). -/
def execSecDbgLock (s : State) : Host.Outcome State Fault Refusal := .next (s.setSecStat 4 3 0)

/-! ### Requests (R446, R449, R450) -/

/-- The harbour controller has power. -/
def State.harbourUp (s : State) : Bool := s.pwr.phase != .off && s.pwr.phase != .held

/-- Take the request's packet off a Sundlink channel: a malformed one is discarded and counted; one of another message
type stays (R449, R450). -/
def State.takePacket (s : State) (chan typ : Nat) : State × Bool :=
  match s.mctpIn.find? (fun m => m.chan == chan) with
  | none => (s, false)
  | some m =>
    let b := (m.bytes.drop 2).take (fld m.bytes 1 1)
    let t := { s with mctpIn := s.mctpIn.erase m }
    if b.length < 5 ∨ fld b 0 1 % 16 ≠ 1 then ((t.bump pMGMT Off.MGMT_DROP_CNT 1).logCorr pMGMT 0x01, false)
    else if fld b 4 1 % 128 = typ then (t, true)
    else (s, false)

/-- A request of message type `typ` has come by a channel that serves it (R446, R448, R450). -/
def State.mgmtReq (s : State) (c : MgmtChan) (typ : Nat) : State × Bool :=
  if !s.harbourUp then (s, false)
  else if c.val < 18 then s.takePacket c.val typ
  else if c.val = 18 then (s, true)
  else (s, s.pcieUp 0 && !s.rootMode && (c.val == 19 || typ == 5))

/-- An SPDM request is answered and counted. Recovery serves none (R441, R446). -/
def State.spdm (s : State) (c : MgmtChan) (f : State → SpdmAns) : State :=
  match s.mgmtReq c 5 with
  | (s, true) => if s.recovery then s else (s.bump pMGMT Off.MGMT_SPDM_CNT 1).send (.mgmt (.spdm c.val (f s)))
  | (s, false) => s

/-- SPDM_GET_VERSION (R446): 1.2 and 1.3. -/
def execSpdmGetVersion (c : MgmtChan) (s : State) : Host.Outcome State Fault Refusal :=
  .next (s.spdm c (fun _ => .version [0x12, 0x13]))

/-- SPDM_GET_CAPABILITIES (R446): certificates, challenge and measurements; no sessions. -/
def execSpdmGetCapabilities (c : MgmtChan) (s : State) : Host.Outcome State Fault Refusal :=
  .next (s.spdm c (fun _ => .capabilities))

/-- SPDM_NEGOTIATE_ALGORITHMS (R446): Ed25519 and SHA-384, where the requester offers them. -/
def execSpdmNegotiateAlgorithms (c : MgmtChan) (ed sha : Bool) (s : State) : Host.Outcome State Fault Refusal :=
  .next (s.spdm c (fun _ => .algorithms ed sha))

/-- SPDM_GET_DIGESTS (R446, R447): the digests of the chains in slots 0 and 1. -/
def execSpdmGetDigests (c : MgmtChan) (s : State) : Host.Outcome State Fault Refusal :=
  .next (s.spdm c (fun s => .digests [(0, Config.sha384 (s.chain 0)), (1, Config.sha384 (s.chain 1))]))

/-- SPDM_GET_CERTIFICATE (R446, R447): a portion of the chain of slot 0 or 1. -/
def execSpdmGetCertificate (c : MgmtChan) (slot off len : Nat) (s : State) : Host.Outcome State Fault Refusal :=
  .next (s.spdm c (fun s =>
    let b := s.chain slot
    if 1 < slot then .invalid else .certificate slot ((b.drop off).take len) (b.length - (off + len))))

/-- SPDM_CHALLENGE (R446, R452): signed with the Ed25519 alias key, except at debug level 2. -/
def execSpdmChallenge (c : MgmtChan) (slot : Nat) (nonce : Bytes) (s : State) : Host.Outcome State Fault Refusal :=
  .next (s.spdm c (fun s =>
    let d := Config.sha384 (s.chain 0)
    if slot ≠ 0 then .invalid
    else .challenge slot d (if s.dbgLevel = 2 then none
      else some (Config.edSign (s.aliasSeed "ED25519") (Config.challengeText slot d nonce)))))

/-- SPDM_GET_MEASUREMENTS (R445, R447): one measurement, the hybrid evidence record, or all (0xFF). -/
def execSpdmGetMeasurements (c : MgmtChan) (ix : Nat) (nonce : Bytes) (s : State) : Host.Outcome State Fault Refusal :=
  let nonce := fit 32 0 nonce
  .next (s.spdm c (fun s =>
    let one := fun i => (i, if i = 0xF0 then s.evidenceRec nonce else s.measurement i)
    if ix = 0xFF then .measurements ([1, 2, 3, 4, 5, 0xF0].map one)
    else if ix = 0 then .measurements []
    else if ix ≤ 5 ∨ ix = 0xF0 then .measurements [one ix]
    else .invalid))

/-- SPDM_UNSUPPORTED (R446). -/
def execSpdmUnsupported (c : MgmtChan) (s : State) : Host.Outcome State Fault Refusal :=
  .next (s.spdm c (fun _ => .unsupported))

/-- A PLDM request is answered and counted. -/
def State.pldmAnswer (s : State) (c : MgmtChan) (a : PldmAns) : State :=
  (s.bump pMGMT Off.MGMT_PLDM_CNT 1).send (.mgmt (.pldm c.val a))

/-- The answer to a platform request (R434, R450). -/
def State.platform (s : State) : PldmReq → PldmAns
  | .types => .types [0, 2, 5]
  | .sensor id => match (if 0x100 ≤ id then s.mgmt.sensors[id - 0x100]? else none) with
    | some v => .reading v
    | none => .noSensor
  | .other => .noCommand

/-- PLDM_PLATFORM_REQUEST (R434, R450). Recovery serves none (R441). -/
def execPldmPlatformRequest (c : MgmtChan) (q : PldmReq) (s : State) : Host.Outcome State Fault Refusal :=
  .next (match s.mgmtReq c 1 with
    | (s, true) => if s.recovery then s else s.pldmAnswer c (s.platform q)
    | (s, false) => s)

/-! ### Firmware update (R451) -/

/-- Update bytes go to the slot from `n` on; each sector is erased before its first byte. -/
def State.updateWrite (s : State) (slot n : Nat) (b : Bytes) : State :=
  let s := ((upTo n b.length).filter (fun o => o % 65536 == 0)).foldl (fun (s : State) o => s.flashErase (slotBase slot + o)) s
  s.flashWr (slotBase slot + n) b

/-- The update ends. -/
def State.endUpdate (s : State) (ok : Bool) : State :=
  ({ s with sec := { s.sec with upd := none } }.setSecStat 7 7 0).setSecStat 2 2 (b2n ok)

/-- A step of an update, and its answer; a step out of turn is answered as one that nothing serves. -/
def State.updateStep (s : State) (q : FwStep) : State × PldmAns :=
  match q, s.sec.upd with
  | .request, none => ({ s with sec := { s.sec with upd := some (1 - s.secStat 0 0, 0) } }.setSecStat 7 7 1, .updateStarted)
  | .request, some _ => (s, .alreadyInUpdateMode)
  | .page b, some (slot, n) =>
    if b.length = 0 ∨ 256 < b.length ∨ slotSize < n + b.length then (s, .noCommand)
    else
      let t := s.updateWrite slot n b
      ({ t with sec := { t.sec with upd := some (slot, n + b.length) } }, .transferred (n + b.length))
  | .finish, some (slot, _) =>
    if s.slotOk slot then
      let d := s.dirOrNone
      ((s.writeDir { d with pref := slot, trial := true, tries := 3 }).endUpdate true, .activateSystemReset)
    else ((s.imageBad slot).endUpdate false, .verifyFailed)
  | _, none => (s, .noCommand)

/-- The step programs a page. -/
def fwPage : FwStep → Bool
  | .page _ => true
  | _ => false

/-- PLDM_FIRMWARE_UPDATE (R451): a page waits while a hull record is being written (R430). -/
def execPldmFirmwareUpdate (c : MgmtChan) (q : FwStep) (s : State) : Host.Outcome State Fault Refusal :=
  .next (if fwPage q && s.age.hullBusy.isSome then s
    else match s.mgmtReq c 1 with
      | (s, true) => (s.updateStep q).1.pldmAnswer c (s.updateStep q).2
      | (s, false) => s)

/-! ### The management port (R448, R453) -/

/-- I3C_BROADCAST_TIMEOUT (R448): without an I3C broadcast the port runs as SMBus on its static address. -/
def execI3cBroadcastTimeout (s : State) : Host.Outcome State Fault Refusal :=
  let a := pMGMT + Off.MGMT_STAT
  .next (if s.field a 1 0 = 0 ∧ s.pwr.phase = .ready then
      (s.setField a 1 0 2).setField a 8 2 (0x40 + s.field (pg .devid 0 + Off.DEVID_STRAPS) 3 1)
    else s)

/-- I3C_DYNAMIC_ADDRESS_ASSIGNMENT (R448): the port is an I3C target on the address assigned. -/
def execI3cDynamicAddressAssignment (addr : BitVec 7) (s : State) : Host.Outcome State Fault Refusal :=
  let a := pMGMT + Off.MGMT_STAT
  .next (if s.field a 1 0 = 2 ∨ !s.harbourUp then s else (s.setField a 1 0 1).setField a 8 2 addr.toNat)

/-- MCTP_SET_ENDPOINT_ID (R453). -/
def execMctpSetEndpointId (c : MgmtChan) (eid : BitVec 8) (s : State) : Host.Outcome State Fault Refusal :=
  .next (match s.mgmtReq c 0 with
    | (s, true) => s.setRegN (pMGMT + Off.MGMT_EID) eid.toNat
    | (s, false) => s)

/-- A write of MGMT_CTRL (R453): one over the management port may not clear APER_EN. -/
def State.mgmtCtrl (s : State) (r : Requester) (v : Nat) : State :=
  if r = .mgmt ∧ !bit v 0 then s.logCorr pMGMT 0x02 else s.setRegN (pMGMT + Off.MGMT_CTRL) (v % 4)

/-- MGMT_CTRL_WRITE (R453). -/
def execMgmtCtrlWrite (r : Requester) (v : Word) (s : State) : Host.Outcome State Fault Refusal := .next (s.mgmtCtrl r v.toNat)

end Sys2Proof.Machine
end

