-- ==== Sys2Proof/Machine/Startup.lean ====
section
/-!
DEFINITION. Machine/Startup.lean: the start-up stages, their failure, device reset, and the loss and return of the
supplies (R392, R408–R411, R473, R481).
-/
namespace Sys2Proof.Machine

/-- PWR_STAT.START_STAGE. -/
def State.stage (s : State) : Nat := s.field (pPWR + Off.PWR_STAT) 14 11

/-- Groups of a stage that start one after another (R409). -/
def stageGroups (n : Nat) : Nat :=
  match n with
  | 2 => 2
  | 3 => 12
  | 4 => 32
  | 5 => 5
  | 6 => 2
  | 7 => 6
  | _ => 1

/-- Start-up enters stage `n`. -/
def State.enterStage (s : State) (n : Nat) : State :=
  { s with pwr := { s.pwr with phase := .starting, groups := 0 } }.setPwrStat 14 11 n

/-- START_FAIL: device-fatal; the stage stays shown, FAULT_N asserts, and what VAUX feeds stays in service (R410). -/
def State.startFail (s : State) : State :=
  let s := { s with pwr := { s.pwr with phase := .failed } }.setPwrStat 15 15 1
  s.logErr pPWR 0x08 clsFatal { LogInfo.none with info := s.stage }

/-- What stage S3 found of the LPDDR5X tier is shown, and sets the memory mode (R31, R216). -/
def State.tierTrained (s : State) : Option LpTrain → State
  | none => s
  | some t =>
    if 1 ≤ t.rate ∧ t.rate ≤ 5 ∧ [1, 2, 4, 8].contains t.cap then
      (upTo 0 12).foldl (fun (s : State) c =>
        (s.setRegN (pg .lpdc c + Off.LPDC_STAT) (t.rate + b2n t.lp5 * 8 + t.cap * 256)).setRegN (pg .lpdc c + Off.LPDC_TIER) 1) s
    else s

/-- At READY in ROOT the harbour controller starts server core 0 at the loader that the running image names, if it names
one; at which address it has put the loader is not stated (R291, R438). -/
def State.startLoader (s : State) : State :=
  if !s.rootMode || leNat (((s.imgHeader (s.secStat 0 0)).drop 0x10).take 8) = 0 then s
  else
    let s := s.draw.2.setReg (pSRVC 0 + Off.SRVC_RESET_VEC) (Config.freeValue s.free)
    s.after (execSrvcRun 0 s)

/-- READY (R16, R409, R415). -/
def State.becomeReady (s : State) : State :=
  ({ s with pwr := { s.pwr with phase := .ready } }.setRegN (pPWR + Off.PWR_START_TIME) s.pwr.startMs).startLoader

/-- Stage S1: strap BOOT0 enters recovery with no image booted; otherwise the ROM chooses an image (R440, R441, R473). -/
def State.stageOne (s : State) : State :=
  if bit s.pwr.straps 4 then (s.setSecStat 5 5 1).startFail
  else
    let r := s.bootRom
    if r.2 then r.1.enterStage 2 else r.1.startFail

/-- A PERST_N output, asserted: PCIEB_PERST_N always is one, PERST_N is one in ROOT. It is released once stage S6 is
reached, and asserted again at orderly shutdown and on any reset (R482). -/
def State.perstOut (s : State) (port : Nat) : Option Bool :=
  if port = 0 && !bit s.pwr.straps 0 then none
  else some (match s.pwr.phase with
    | .ready => false
    | .starting => decide (s.stage < 6)
    | _ => true)

/-- A stage has ended (R409). Stage S1 boots or ends in recovery; stage S2 loads the hull record (R431);
stage S8 ends with the tick lock. -/
def State.stageEnd (s : State) (lp : Option LpTrain) : State :=
  match s.stage with
  | 1 => s.stageOne
  | 2 => s.loadHull.enterStage 3
  | 3 => (s.tierTrained lp).enterStage 4
  | 8 => if s.locked then s.enterStage 9 else s
  | 9 => s.becomeReady
  | n => s.enterStage (n + 1)

/-- What a group of a stage leaves when it settles: a group of stage S4 is 8 cores, whose landing buffers are zeroed with
valid check bits (R238, R409). -/
def State.groupDone (s : State) : State :=
  if s.stage = 4 then s.zeroRange (lbBase (8 * s.pwr.groups)) (8 * 0x400000) else s

/-- STARTUP_STAGE_DONE (R409): the group in course has settled after `ms` milliseconds; the next group of the stage
begins, or the stage ends. -/
def execStartupStageDone (lp : Option LpTrain) (ms : Nat) (s : State) : Host.Outcome State Fault Refusal :=
  .next (if s.pwr.phase ≠ .starting then s
    else
      let u := s.groupDone
      let t := { u with pwr := { u.pwr with startMs := u.pwr.startMs + ms, groups := u.pwr.groups + 1 } }
      if s.pwr.groups + 1 < stageGroups s.stage then t else t.stageEnd lp)

/-- START_FAIL (R409, R410): the stage in course fails. S0 holds with FAULT_N; the tier and the links are not needed for
READY; a missing tick lock has its own row. -/
def execStartFail (s : State) : Host.Outcome State Fault Refusal :=
  .next (if s.pwr.phase ≠ .starting then s
    else match s.stage with
      | 0 => { s with pwr := { s.pwr with phase := .failed }, ras := { s.ras with faultN := true } }
      | 1 => s.startFail
      | 2 => s.startFail
      | 4 => s.startFail
      | 5 => s.startFail
      | _ => s)

/-- Start-up begins at S0; the straps are shown (R31, R409, R473). -/
def State.startUp (s : State) : State :=
  ((s.setRegN (pg .devid 0 + Off.DEVID_STRAPS) s.pwr.straps).setField (pg .pcie 0 + Off.PCIE_STAT) 10 10
    (bits s.pwr.straps 0 0)).enterStage 0

/-- SYS_RESET_DEASSERT (R409, R473): the straps are sampled and start-up begins. -/
def execSysResetDeassert (straps : BitVec 6) (s : State) : Host.Outcome State Fault Refusal :=
  .next (if s.pwr.phase ≠ .held then s else { s with pwr := { s.pwr with straps := straps.toNat } }.startUp)

/-- SYS_RESET_ASSERT (R481): the device ends as on a loss of VBUS, and is held in reset. -/
def execSysResetAssert (s : State) : Host.Outcome State Fault Refusal := .next (s.dark .held)

/-- VBUS_LOSS (R408): below 10.0 V every converter goes off, and nothing is kept. -/
def execVbusLoss (mv : BitVec 16) (s : State) : Host.Outcome State Fault Refusal :=
  .next (if 10000 ≤ mv.toNat then s
    else if s.pwr.phase = .held then s
    else (s.dark .off).setPwrStat 10 10 0)

/-- VAUX_LOSS (R408, R481): as the loss of VBUS; start-up then waits for SYS_RESET_N (R409). -/
def execVauxLoss (s : State) : Host.Outcome State Fault Refusal := .next (s.dark .held)

/-- VBUS_RETURN (R408): start-up begins again at S0, with the straps as sampled last; after a dip that the device ran
through, the supply only reads in range again. -/
def execVbusReturn (mv : BitVec 16) (s : State) : Host.Outcome State Fault Refusal :=
  .next (if s.pwr.phase = .off ∧ !s.pwr.thermtrip ∧ 10800 ≤ mv.toNat then
      ((s.setRegN (pPWR + Off.PWR_VBUS) mv.toNat).setPwrStat 10 10 (b2n (decide (mv.toNat ≤ 13200)))).startUp
    else if s.awake && decide (10800 ≤ mv.toNat) then
      (s.setField (pPWR + Off.PWR_VBUS) 15 0 mv.toNat).setPwrStat 10 10 (b2n (decide (mv.toNat ≤ 13200)))
    else s)

/-- Registers that a device reset keeps: identity, security and management, whose firmware goes on, and of the RAS page
the log's pointers and the fields named RAS_FATAL (R392, R451, R452). -/
def keptByReset (off : Nat) : Bool :=
  (match pageOf off with
    | some r => [Blk.devid, .sec, .mgmt].contains r.blk
    | none => false)
  || [Off.RAS_LOG_HEAD, Off.RAS_LOG_TAIL, Off.RAS_FATAL_SRC, Off.RAS_FATAL_CODE, Off.RAS_FATAL_TICK].any (fun o => off == pRAS + o)

/-- The device restarts from stage S2: the RAS log and its fatal fields stay, as does the tick copy in service (R39); no
content of memories, caches or buffers does (R392). -/
def State.deviceReset (s : State) : State :=
  { s.cleared with
    regs := (s.regs.filter (fun e => keptByReset e.1))
    ras := { RasSt.reset with log := s.ras.log }
    pwr := { PwrSt.reset with straps := s.pwr.straps }
    age := { AgeSt.reset with trim := s.age.trim, effFused := s.age.effFused } }.unlocked.setField
      (pg .pcie 0 + Off.PCIE_STAT) 10 10 (bits s.pwr.straps 0 0)
    |>.setField (pTICK + Off.TICK_STAT) 2 1 (s.field (pTICK + Off.TICK_STAT) 2 1) |>.enterStage 2

/-- DEVICE_RESET (R392, R410): with verified firmware, from any phase in which the device is neither down nor off. -/
def execDeviceReset (s : State) : Host.Outcome State Fault Refusal :=
  .next (if s.recovery then s
    else match s.pwr.phase with
      | .ready | .starting | .failed => if s.pwr.phase = .ready ∨ 2 ≤ s.stage then s.deviceReset else s
      | _ => s)

end Sys2Proof.Machine
end

