-- ==== Sys2Proof/Machine/View.lean ====
section
/-!
DEFINITION. Machine/View.lean: what the registers of the aperture read, and the split latches (R387, R454–R463, R489).
-/
namespace Sys2Proof.Machine

/-! ### Where a register is kept -/

/-- The offset at which the register of an aperture offset is kept: the header of a block's page 0 for each of its pages
(R459), and instance 0 for a register that the other instances show (R213, R216, R368, R384). -/
def regHome (off : Nat) : Nat :=
  match pageOf off with
  | none => off
  | some r =>
    if off % 4096 < 0x40 then pg r.blk r.inst + off % 4096
    else match regRow off with
      | some row => if row.acc = .rw0 then pg r.blk 0 + off % 4096 else off
      | none => off

/-- Page 0 of the block that holds an offset, where its header is. -/
def homePage (off : Nat) : Nat :=
  match pageOf off with
  | some r => pg r.blk r.inst
  | none => off / 4096 * 4096

/-! ### Work of a block (R489) -/

/-- A ferry's oldest operation has begun. -/
def State.ferryBusy (s : State) (c f : Nat) : Bool := (s.fq c f).head?.any (·.begun)

/-- A berth operation of core `c` is in progress. -/
def State.slipBusy (s : State) (c : Nat) : Bool :=
  (upTo 0 4).any (fun f => (s.fq c f).any (fun o => o.begun && !o.done && (fld o.slot 0 1 == 0x04 || fld o.slot 0 1 == 0x0A)))

/-- Core `c` is expanding blocks; a coded push of it is compressing. -/
def State.expanding? (s : State) (c : Nat) : Bool := (upTo 0 4).any (fun f => (s.fq c f).any (fun o => !o.jobs.isEmpty))
def State.compressing (s : State) (c : Nat) : Bool :=
  (upTo 0 4).any (fun f => (s.fq c f).any (fun o => o.begun && !o.done && fld o.slot 0 1 == 0x0A && decide ((fSlot o.slot).codec ≠ 0)))

/-- A per-core page's own unit executes an operation; a SEQ that waits for its start tick does not (R489). -/
def State.unitBusy (s : State) (b : Blk) (c f : Nat) : Bool :=
  match b with
  | .seq => !s.seqIdle c && s.seqState c != 2
  | .me => (s.core c).meOps.any (·.begun)
  | .ve => (s.core c).veOps.any (·.begun)
  | .prep => s.prepState c == 1
  | .ferry => s.ferryBusy c f
  | .land => bit (s.regN (pLAND c + Off.LAND_STAT)) 0
  | .slip => s.slipBusy c
  | .rng => (s.core c).veOps.any (fun o => o.begun && decide (0x20 ≤ fld o.slot 0 1 ∧ fld o.slot 0 1 ≤ 0x22))
  | .exp => s.expanding? c || s.compressing c
  | _ => false

/-- The collective operations in the ferry queues whose tree has instance `i` for its master (R489). -/
def State.collOps (s : State) (i : Nat) : List SlotOp :=
  s.cores.flatMap (fun e => e.2.ferries.flatMap (fun l =>
    l.filter (fun o => o.link && isColl o.slot && !o.done && s.treeMaster (lSlot o.slot).port == i)))

/-- Blocks of a training core (R468). -/
def perCore (b : Blk) : Bool := [Blk.core, .seq, .me, .ve, .prep, .ferry, .land, .slip, .rng, .exp].contains b

/-- Work of instance `i` of a block that has started, and work accepted and not started. -/
def State.work (s : State) (b : Blk) (i : Nat) : Bool × Bool :=
  let src := fun q => (s.cmds.any (fun k => k.src == q && !k.closed && k.begun),
    s.cmds.any (fun k => k.src == q && !k.closed) || !(s.queue q).fetched.isEmpty || decide (0 < s.heldCount q))
  match b with
  | .tick => (false, s.tick.cfgPend.isSome)
  | .pwr => (s.pwr.phase == .closing || s.pwr.modeDue.isSome, s.pwr.shutPend)
  | .age => (s.age.hullBusy.isSome, s.age.hullNow || !s.age.hullReq.isEmpty)
  | .ras =>
    let mine := s.cmds.filter (fun k => (k.opcode == 5 || k.opcode == 6) && !k.closed)
    (bit (s.regN (pRAS + Off.RAS_STAT)) 2 || mine.any (·.begun), s.ras.resetPend.isSome || !mine.isEmpty)
  | .sec => (s.sec.fuseTo.isSome || s.sec.upd.isSome, false)
  | .mgmt => (false, !s.mctpIn.isEmpty)
  | .cq => src i
  | .dock => src (64 + i)
  | .slnk => (!(s.port i).replay.isEmpty || s.pstate i == 1 || s.pstate i == 3, false)
  | .coll => (s.colls.any (fun r => s.treeMaster r.tree == i) || (s.collOps i).any (·.issued), !(s.collOps i).isEmpty)
  | .pont => match (s.ponts.lookup i).getD [] with
    | [] => (false, false)
    | _ => (true, true)
  | .home => (s.coh.fifos.any (fun e => homeOf (64 * e.1) == i && e.2.any (·.started)),
      s.coh.fifos.any (fun e => homeOf (64 * e.1) == i && !e.2.isEmpty))
  | .dcache =>
    let mine := fun (t : HomeTx) => match t.agent with
      | .part p => p.val == 32 + i
      | _ => false
    (bit (s.regN (pDCACHE i + Off.DCACHE_STAT)) 0 || s.coh.reqs.any (fun e => mine e.2)
      || s.coh.fifos.any (fun e => e.2.any mine), false)
  | .ctab => (s.tabLoads.any (·.die == i), s.tabRetire.any (·.die == i))
  | .tagr => (s.retag.isSome, false)
  | .srvc => (bit (s.regN (pSRVC i + Off.SRVC_STAT)) 3, false)
  | _ =>
    if perCore b then
      let c := if b = .ferry then i / 4 else i
      let busy := if b = .core then
          [Blk.seq, .me, .ve, .prep, .land, .slip, .rng, .exp].any (fun u => s.unitBusy u c 0) || (upTo 0 4).any (s.ferryBusy c)
        else s.unitBusy b c (i % 4)
      (busy, !s.seqIdle c || (upTo 0 4).any (fun f => !(s.fq c f).isEmpty))
    else (false, false)

/-- QUIESCED: of a core's pages exactly while its SEQ is IDLE and its ferry queues are empty. -/
def State.quiesced (s : State) (b : Blk) (i : Nat) : Bool :=
  if perCore b then !(s.work b i).2 else !(s.work b i).1 && !(s.work b i).2

/-- PG_STAT. -/
def State.pgStat (s : State) (b : Blk) (i : Nat) : Nat :=
  b2n (s.pwr.phase == .ready || s.pwr.phase == .closing) + 2 * b2n ((s.work b i).1 || s.softReset.contains (b, i))
    + 4 * b2n (bit (s.regN (pg b i + Off.PG_ERR_FIRST)) 31) + 8 * b2n (s.quiesced b i)

/-! ### Registers that show other state -/

/-- A record of the RAS log as its 64 bytes (R387). -/
def LogRec.bytesOf (x : LogRec) : Bytes :=
  let b := natLE 8 x.tick ++ natLE 8 x.seq ++ natLE 4 x.source ++ natLE 1 x.code ++ natLE 1 x.cls ++ natLE 2 x.flags ++
    natLE 4 x.item ++ rep 4 0 ++ natLE 8 x.tag ++ natLE 8 x.addr ++ natLE 8 x.info ++ rep 4 0
  b ++ natLE 4 (crc32c b)

/-- The record that RAS_LOG_REC shows; 0 where it is not retained. -/
def State.logShown (s : State) : Bytes :=
  match s.ras.log.find? (fun x => x.seq == s.regN (pRAS + Off.RAS_LOG_SEL)) with
  | some x => x.bytesOf
  | none => rep 64 0

/-- FERRY_STAT. -/
def State.ferryStat (s : State) (c f : Nat) : Nat :=
  let q := s.fq c f
  b2n (s.ferryBusy c f) + 2 * b2n (!q.isEmpty && !s.ferryBusy c f) + 4 * (q.filter (·.ring == 0)).length
    + 0x100 * (if s.ferryBusy c f then (q.head?.map (fun o => fld o.slot 0 1)).getD 0 else 0)

/-- PONT_STAT. -/
def State.pontStat (s : State) (k : Nat) : Nat :=
  match (s.ponts.lookup k).getD [] with
  | [] => 0
  | x :: rest =>
    let ver := match s.upd with
      | some u => u.algo == 3
      | none => false
    let kind := match x.work with
      | .upd => if ver then 1 else 0
      | .gexp .. => 2
      | .dig => 3
      | .fill .. => 4
    1 + 2 * kind + 0x100 * min rest.length 255

/-- What the register kept at `off` reads (R15, R456). Registers the block computes stand here; the others read what
they hold. -/
def State.regView (s : State) (off : Nat) : Nat :=
  match pageOf off, regRow off with
  | some r, some row =>
    let o := off % 4096
    let held := s.regN (regHome off)
    if o < 0x40 then
      if row.acc = .w1s then 0
      else if o = Off.PG_STAT then s.pgStat r.blk r.inst
      else if o = Off.PG_CTRL ∧ r.blk = .lpdc ∧ s.field (pLPDC r.inst + Off.LPDC_STAT) 2 0 = 0 then held / 2 * 2
      else held
    else if row.acc = .wo then 0
    else match r.blk with
      | .core => if o = Off.CORE_IRQ_SUM then
          ((upTo 0 13).map (fun k => b2n (s.pageRequests (off / 65536 * 65536 + 4096 * k)) * 2 ^ k)).foldl (· + ·) 0
        else held
      | .ras => if r.page = 0 ∧ Off.RAS_LOG_REC ≤ o then leNat ((s.logShown.drop (o - Off.RAS_LOG_REC)).take 8) else held
      | .sec =>
        if o = Off.SEC_SVN then s.sec.svnMin + s.sec.runSvn * 256
        else if o = Off.SEC_KEYSTAT then s.keyStat
        else if Off.SEC_MEAS ≤ o then
          leNat (((s.measurement ((o - Off.SEC_MEAS) / 0x40 + 1)).drop ((o - Off.SEC_MEAS) % 0x40)).take 8)
        else held
      | .ferry => if o = Off.FERRY_STAT then s.ferryStat (r.inst / 4) (r.inst % 4) else held
      | .slip => if o = Off.SLIP_STAT then b2n (s.slipBusy r.inst) else held
      | .exp => if o = Off.EXP_STAT then b2n (s.expanding? r.inst) + 2 * b2n (s.compressing r.inst) else held
      | .pont => if o = Off.PONT_STAT then s.pontStat r.inst else held
      | .tick =>
        -- a value written reads back although it takes effect at the tick boundary (R15, R64)
        if o = Off.TICK_CFG then (s.tick.cfgPend.map BitVec.toNat).getD held else held
      | .pwr =>
        -- likewise at the tide boundary (R422)
        if r.page = 0 ∧ o = Off.PWR_CAP then s.pwr.capPend.getD held
        else if r.page = 0 ∧ o = Off.PWR_BURST then s.pwr.burstPend.getD held
        else held
      | .tagr =>
        if o = Off.TAGR_STAT then setBits held 14 8 s.regions.length
        else if 0x100 ≤ o ∧ 0x100 + (o - 0x100) % 0x30 = Off.TAGR_RGEN then (s.rgenPend.lookup ((o - 0x100) / 0x30)).getD held
        else held
      | .coll => if o = Off.COLL_STAT then setBits held 0 0 (b2n (s.work .coll r.inst).1) else held
      | .srvc =>
        -- a reserved core waits in WFI unless the UPDATE_PARAMS in course runs on it (R293)
        if o = Off.SRVC_STAT ∧ s.srvState r.inst = 2 then
          setBits held 2 2 (b2n (!s.upd.any (fun u => u.site == 1 && bit (fld u.ustate 0x20 16) r.inst)))
        else held
      | .pcie => if r.inst = 1 ∧ o = Off.PCIE_STAT then setBits held 10 10 1
        else if r.inst = 1 ∧ (o = Off.PCIE_BAR2_BASE ∨ 0x400 ≤ o) then 0 else held
      | _ => held
  | _, _ => 0

/-! ### Reading -/

/-- Counters of stalls, waits, traffic and retired instructions, whose count no rule of the specification fixes. -/
def looseCounter (b : Blk) (o : Nat) : Bool :=
  match b with
  | .seq => o == Off.SEQ_MISS_CYC
  | .me => o == Off.ME_STALL_CYC
  | .ve => o == Off.VE_STALL_CYC
  | .prep => o == Off.PREP_INSTRET || o == Off.PREP_CYCLE
  | .srvc => o == Off.SRVC_INSTRET
  | .hbmc => o == Off.HBMC_RD_BYTES || o == Off.HBMC_WR_BYTES
  | .lpdc => o == Off.LPDC_RD_BYTES || o == Off.LPDC_WR_BYTES
  | .ferry => o == Off.FERRY_MISS_CYC
  | .land => o == Off.LAND_RD_BYTES || o == Off.LAND_WR_BYTES || o == Off.LAND_RD_WAIT_CYC || o == Off.LAND_WR_WAIT_CYC
  | .exp => o == Off.EXP_LAG_CYC
  | .home => o == Off.HOME_DIR_WAIT_CYC
  | _ => false

/-- A counter is cleared in the present tick. -/
def State.clearLoose (s : State) (off : Nat) : State :=
  { s with looseFrom := (off, s.now) :: s.looseFrom.filter (fun e => e.1 ≠ off) }

/-- What a counter whose count no rule fixes shows: 0 in the tick in which it was cleared, for it counts at the end of a
tick, and afterwards a free value; a frozen page shows what it held when it was frozen (R15, R462; DESIGN CHOICE: log
entry 6). -/
def State.looseShown (s : State) (page off : Nat) (w64 : Bool) : Nat :=
  let since := (s.looseFrom.lookup off).getD 0
  let till := if s.frozen page then (s.looseFrom.lookup (page + Off.PG_CTRL)).getD s.now else s.now
  if since = till ∨ (s.frozen page ∧ till < since) then 0 else Config.counted off since till % (if w64 then 2 ^ 64 else 2 ^ 32)

/-- What a read of the register at `off` shows. -/
def State.look (s : State) (off : Nat) : Nat :=
  match pageOf off, regRow off with
  | some r, some row =>
    if looseCounter r.blk (off % 4096) then s.looseShown (pg r.blk r.inst) off row.w64 else s.regView off
  | _, _ => 0

/-- An RC register is cleared. -/
def State.clearCounter (s : State) (off : Nat) : State :=
  match pageOf off with
  | some r => if looseCounter r.blk (off % 4096) then s.clearLoose off else s.setRegN off 0
  | none => s

/-- A read of a register that begins at `off`: an RC register is cleared unless its page is frozen (R457, R462), and
the debug nonce is drawn afresh (R452). -/
def State.readReg (s : State) (off : Nat) : State × Nat :=
  match pageOf off, regRow off with
  | some r, some row =>
    let s := if r.blk = .sec ∧ off % 4096 = Off.SEC_DBG_NONCE then s.drawNonce else s
    (if row.acc = .rc ∧ !s.frozen (pg r.blk r.inst) then s.clearCounter off else s, s.look off)
  | _, _ => (s, 0)

/-- The 64-bit register whose half a 4-byte access at `off` names, and whether it is the high half. -/
def halfOf (off : Nat) : Option (Nat × Bool) :=
  match regRow off with
  | some row => if row.w64 then some (off, false) else none
  | none =>
    if off % 8 = 4 then match regRow (off - 4) with
      | some row => if row.w64 then some (off - 4, true) else none
      | none => none
    else none

/-! ### Split latches (R457) -/

/-- A latch of a requester and page: register, word, and whether it holds a write. -/
def State.latch (s : State) (r : Requester) (p : Nat) : Option (Nat × Word × Bool) :=
  (s.latches.find? (fun l => l.1 == r && l.2.1 == p)).map (fun l => l.2.2)

/-- The requester's latch of the page is freed. -/
def State.dropLatch (s : State) (r : Requester) (p : Nat) : State :=
  { s with latches := s.latches.filter (fun l => !(l.1 == r && l.2.1 == p)) }

/-- An access that uses no latch frees it; a held low half is lost and logged. -/
def State.freeLatch (s : State) (r : Requester) (off : Nat) : State :=
  match s.latch r (off / 4096) with
  | some (_, _, true) => (s.dropLatch r (off / 4096)).logCorr (homePage off) 0xF2
  | some (_, _, false) => s.dropLatch r (off / 4096)
  | none => s

/-- A latch is taken. -/
def State.setLatch (s : State) (r : Requester) (off : Nat) (w : Word) (write : Bool) : State :=
  { s.dropLatch r (off / 4096) with latches := (r, off / 4096, off, w, write) :: (s.dropLatch r (off / 4096)).latches }

/-- A 4-byte read of a half of the 64-bit register at `off`. -/
def State.readHalf (s : State) (r : Requester) (off : Nat) (high : Bool) : State × Nat :=
  if high then
    match s.latch r (off / 4096) with
    | some (a, w, false) =>
      if a = off then (s.dropLatch r (off / 4096), w.toNat) else (s.freeLatch r off, s.look off / 2 ^ 32)
    | _ => (s.freeLatch r off, s.look off / 2 ^ 32)
  else
    let x := (s.freeLatch r off).readReg off
    (x.1.setLatch r off (BitVec.ofNat 32 (x.2 / 2 ^ 32)) false, x.2 % 2 ^ 32)

/-- A 4-byte read at `off` (R455–R457). -/
def State.readWord (s : State) (r : Requester) (off : Nat) : State × Nat :=
  match halfOf off with
  | some (a, high) => s.readHalf r a high
  | none =>
    let x := (s.freeLatch r off).readReg off
    (x.1, x.2 % 2 ^ 32)

/-- A read of 4 or 8 bytes: of two 32-bit registers, the lower first (R454). -/
def State.readAt (s : State) (r : Requester) (off : Nat) (wide : Bool) : State × Nat :=
  if !wide then s.readWord r off
  else match halfOf off with
    | some _ => (s.freeLatch r off).readReg off
    | none =>
      let x := s.readWord r off
      let y := x.1.readWord r (off + 4)
      (y.1, x.2 + y.2 * 2 ^ 32)

end Sys2Proof.Machine
end

