-- ==== Sys2Proof/Machine/Aperture.lean ====
section
/-!
DEFINITION. Machine/Aperture.lean: writes to the register aperture: the common header, the block registers, and the
rows of the access rules (R449, R454–R464, and the register rules of the chapters).
-/
namespace Sys2Proof.Machine

/-! ### The common header (R459–R464) -/

/-- A write of PG_VER.LEVEL (R460). -/
def State.levelWrite (s : State) (p v : Nat) : State :=
  if v % 256 ≠ 1 then s.logCorr p 0xF1
  else if !s.noJob then s.logCorr p 0xF0
  else s.setField (p + Off.PG_VER) 7 0 1

/-- A write of PG_CTRL.FREEZE (R462). -/
def State.freezeWrite (s : State) (p : Nat) (v : Bool) : State :=
  (if v && !s.frozen p then s.clearLoose (p + Off.PG_CTRL) else s).setField (p + Off.PG_CTRL) 2 2 (b2n v)

/-- The pending source of the prep core that a per-core page's ERROR cause raises (R137). -/
def prepPend : Blk → Nat → Option Nat
  | .seq, _ => some 0
  | .me, _ => some 1
  | .ve, _ => some 2
  | .ferry, i => some (3 + i % 4)
  | .exp, _ => some 7
  | .rng, _ => some 8
  | _, _ => none

/-- A write of 1s to PG_IRQ_STAT clears causes; a core page's cleared ERROR cause is no longer pending in its prep core
(R137, R463). -/
def State.irqClear (s : State) (b : Blk) (i v : Nat) : State :=
  let p := pg b i
  let s := s.setRegN (p + Off.PG_IRQ_STAT) (without (s.regN (p + Off.PG_IRQ_STAT)) v)
  match prepPend b i with
  | some u => if bit v 0 then s.setField (pPREP (if b = .ferry then i / 4 else i) + Off.PREP_IRQ_PEND) u u 0 else s
  | none => s

/-- A write of 1 to PG_ERR_FIRST.VALID (R464). -/
def State.errClear (s : State) (p : Nat) : State :=
  (s.setRegN (p + Off.PG_ERR_FIRST) 0).setRegN (p + Off.PG_ERR_TICK) 0

/-- Every RC register of a block is cleared (R461). -/
def State.clearRc (s : State) (b : Blk) (i : Nat) : State :=
  (upTo 0 b.place.pages).foldl (fun (s : State) q =>
    ((b.rows q).filter (fun r => r.acc == .rc)).foldl (fun (s : State) r =>
      r.offs.foldl (fun (s : State) o => s.clearCounter (pg b i + 4096 * q + o)) s) s) s

/-- The chapter adds an action to the block's soft reset (R90, R179, R384). -/
def resetActs (b : Blk) (i : Nat) : Bool := b == .me || b == .slip || (b == .coll && i == 0)

/-- A write of 1 to PG_CTRL.SOFT_RESET: at once, or where the chapter adds an action at the next tick boundary (R461). -/
def State.softResetWrite (s : State) (b : Blk) (i : Nat) : State :=
  if !resetActs b i then s.clearRc b i
  else if s.softReset.contains (b, i) then s
  else { s with softReset := s.softReset ++ [(b, i)] }

/-- A soft reset with an action is due: it acts while the core's SEQ is IDLE, or for COLL page 0 while no job runs, and is
otherwise ignored and logged (R90, R179, R384, R461). -/
def State.softResetDue (s : State) (b : Blk) (i : Nat) : State :=
  if !(if b = .coll then s.noJob else s.seqIdle i) then s.logCorr (pg b i) 0xF0
  else
    let s := s.clearRc b i
    match b with
    | .me => s.discardSets i
    | .slip => (upTo 0 32).foldl (fun (s : State) q => (s.setField (slipAt i q Off.SLIP_BCTRL) 0 0 0).emptySegment i q) s
    | _ => s.clearAcc

/-- A write of a header register of instance `i` of block `b`. -/
def State.writeHeader (s : State) (b : Blk) (i o v : Nat) : State :=
  let p := pg b i
  if o = Off.PG_VER then s.levelWrite p v
  else if o = Off.PG_CTRL then
    let s := s.freezeWrite p (bit v 2)
    if bit v 1 then s.softResetWrite b i else s
  else if o = Off.PG_IRQ_STAT then s.irqClear b i v
  else if o = Off.PG_IRQ_EN then s.irqEdge p (fun s => s.setRegN (p + Off.PG_IRQ_EN) (v % 4))
  else if o = Off.PG_IRQ_FORCE then s.raiseIrq p (v % 4)
  else if o = Off.PG_ERR_FIRST then (if bit v 31 then s.errClear p else s)
  else s

/-! ### Block registers without a rule of their own -/

/-- The writable bits of a register are replaced. -/
def State.writePlain (s : State) (a mask v : Nat) : State :=
  s.setRegN a (without (s.regN a) mask + (v % 2 ^ 64 &&& mask))

/-- A write takes effect only under a condition, and is otherwise logged. -/
def State.writeIf (s : State) (ok : Bool) (p code a mask v : Nat) : State :=
  if ok then s.writePlain a mask v else s.logCorr p code

/-! ### The blocks -/

/-- TICK (R64). -/
def State.writeTick (s : State) (o v : Nat) : State :=
  if o = Off.TICK_CFG then s.after (execTickCfgWrite (BitVec.ofNat 32 v) s) else s.writePlain (pTICK + o) 0xFFFFFFFF v

/-- SEQ (R51, R65). -/
def State.writeSeq (s : State) (c o v : Nat) : State :=
  if o = Off.SEQ_FLAG_SET then s.after (execSeqFlagSet ⟨c % 256, by omega⟩ (BitVec.ofNat 64 v) s)
  else if o = Off.SEQ_FLAG_CLR then s.after (execSeqFlagClr ⟨c % 256, by omega⟩ (BitVec.ofNat 64 v) s)
  else s

/-- RNG (R132, R138). -/
def State.writeRng (s : State) (c o v : Nat) : State :=
  if o = Off.RNG_SEED then s.after (execRngSeedWrite ⟨c % 256, by omega⟩ (BitVec.ofNat 64 v) s)
  else if o = Off.RNG_RESTORE_STEP then s.after (execRngRestoreStepWrite ⟨c % 256, by omega⟩ (BitVec.ofNat 64 v) s)
  else s.writePlain (pRNG c + o) (2 ^ 64 - 1) v

/-- PREP (R133). -/
def State.writePrep (s : State) (c o v : Nat) : State :=
  let k : CoreIx := ⟨c % 256, by omega⟩
  if o = Off.PREP_CTRL then
    let s := s.after (if bit v 0 then execPrepRun k s else execPrepHalt k s)
    if bit v 1 then s.after (execPrepReset k s) else s
  else s.writePlain (pPREP c + o) (2 ^ 64 - 1) v

/-- SLIP (R179). -/
def State.writeSlip (s : State) (c o v : Nat) : State :=
  let b := (o - 0x100) / 0x40
  let a := pSLIP c + o
  if (o - 0x100) % 0x40 = 0x30 then
    let s := if bit v 1 = s.sSpill c b then s
      else if s.sOn c b then s.slipLog c b 0x09 else s.setField a 1 1 (bits v 1 1)
    if bit v 0 then s.slipEnable c b else s.slipDisable c b
  else if s.sOn c b then s.slipLog c b 0x09
  else (s.writePlain a (2 ^ 64 - 1) v).setBerth c b (s.berth c b)

/-- HBMC and LPDC (R213, R217, R219). -/
def State.writeHbmc (s : State) (k o v : Nat) : State :=
  if o = Off.HBMC_MAP then s.after (execHbmcMapWrite (BitVec.ofNat 32 v) s) else s.writePlain (pHBMC k + o) 0xFFFFFFFF v
def State.writeLpdc (s : State) (k o v : Nat) : State :=
  if o = Off.LPDC_TIER then s.after (execLpdcTierWrite (BitVec.ofNat 32 v) s) else s.writePlain (pLPDC k + o) 0xFFFFFFFF v

/-- FERRY (R236). -/
def State.writeFerry (s : State) (c f o v : Nat) : State :=
  let k : CoreIx := ⟨c % 256, by omega⟩
  let g : FerryIx := ⟨f % 4, by omega⟩
  if o = Off.FERRY_QTAIL then s.after (execFerryQtailWrite k g (BitVec.ofNat 32 v) s)
  else s.after (execFerryQcfgWrite k g (o == Off.FERRY_QSIZE) (BitVec.ofNat 64 v) s)

/-- CTAB (R256, R257). -/
def State.writeCtab (s : State) (d o v : Nat) : State :=
  let k : DieIx := ⟨d % 4, by omega⟩
  if o = Off.CTAB_LOAD_CTRL then
    let s := s.setRegN (pCTAB d + o) (bits v 3 1 * 2)
    if bit v 0 then s.after (execCtabLoadGo k ⟨bits v 3 1 % 8, by omega⟩ s) else s
  else if o = Off.CTAB_RETIRE then s.after (execCtabRetire k (BitVec.ofNat 8 v) s)
  else s.writePlain (pCTAB d + o) (2 ^ 64 - 1) v

/-- TAGR (R240, R242, R258). -/
def State.writeTagr (s : State) (o v : Nat) : State :=
  if o = Off.TAGR_RETAG_CTRL then
    let s := s.setRegN (pTAGR + o) (bits v 13 8 * 256)
    if bit v 0 then s.after (execTagrRetag ⟨bits v 13 8 % 64, by omega⟩ s) else s
  else if o < 0x100 then s.writePlain (pTAGR + o) (2 ^ 64 - 1) v
  else
    let r := (o - 0x100) / 0x30
    let w := 0x100 + (o - 0x100) % 0x30
    if w = Off.TAGR_RGEN then s.after (execTagrRgenWrite ⟨r % 64, by omega⟩ (BitVec.ofNat 16 v) s)
    else if !s.noJob then s.tagIgnored
    else if w = Off.TAGR_RCTRL then
      let s := s.writePlain (pTAGR + o) (if bit v 0 then 0xFFF6 else 0xFFF7) v
      if bit v 0 then s.after (execTagrRegionEnable ⟨r % 64, by omega⟩ s) else s
    else s.writePlain (pTAGR + o) (2 ^ 64 - 1) v

/-- DCACHE (R275, R284). -/
def State.writeDcache (s : State) (d o v : Nat) : State :=
  let t : DieIx := ⟨d % 4, by omega⟩
  let s := s.writePlain (pDCACHE d + o) 4 v
  let s := if bit v 0 then s.after (execDcacheFlush t s) else s
  if bit v 1 then s.after (execDcachePredClr t s) else s

/-- Command queues and docks (R294–R298, R317, R318, R338, R341); `mask` holds the writable bits of the register. -/
def State.writeQueue (s : State) (q o mask v : Nat) : State :=
  let a := qPage q + o
  if o = Off.CQ_CTRL then
    let s := s.writePlain a (mask - 1) v
    if bit v 0 then s.qEnable q else if s.qEnabled q then s.qDisable q else s
  else if o = Off.CQ_TAIL then s.doorbell q s.busCycle v
  else if o = Off.CQ_CPL_HEAD then
    if q < 64 ∧ (!s.qEnabled q || s.qDetached q) then s.logCorr (qPage q) 0x01 else s.returnSlots q v
  else if 64 ≤ q ∧ o = Off.DOCK_MSI then s.writePlain a mask v
  else if s.qEnabled q then s.qIgnored q
  else s.writePlain a mask v

/-- SRVC (R275, R288, R291, R293, R308). -/
def State.writeSrvc (s : State) (k o v : Nat) : State :=
  let n : ServerIx := ⟨k % 128, by omega⟩
  let ctrl := fun (s : State) i => bit (s.regN (pSRVC k + Off.SRVC_CTRL)) i
  if o = Off.SRVC_CTRL then
    let s := s.writePlain (pSRVC k + o) 4 v
    let s := if bit v 1 && !ctrl s 1 then s.after (execSrvcReserve n s)
      else if !bit v 1 && ctrl s 1 then s.after (execSrvcRelease n s) else s
    let s := if bit v 0 && !ctrl s 0 then s.after (execSrvcRun n s)
      else if !bit v 0 && ctrl s 0 then s.after (execSrvcStop n s) else s
    let s := if bit v 3 then s.after (execSrvcPredClr n s) else s
    if bit v 4 then s.after (execSrvcL2Flush n s) else s
  else if o = Off.SRVC_CLK then s.after (execSrvcClkWrite n (BitVec.ofNat 12 v) s)
  else s.writePlain (pSRVC k + o) (2 ^ 64 - 1) v

/-- PCIE (R316, R336, R340). -/
def State.writePcie (s : State) (p o v : Nat) : State :=
  if o = Off.PCIE_CTRL then s.after (execPcieCtrlWrite ⟨p % 2, by omega⟩ (BitVec.ofNat 32 v) s)
  else if p ≠ 0 then s
  else if o = Off.PCIE_BAR2_BASE then s.after (execPcieBar2BaseWrite (BitVec.ofNat 64 v) s)
  else s.writePlain (pPCIE 0 + o) 0x3FF v

/-- SLNK_CTRL (R365, R366, R368): a field with a value it does not accept keeps its own. -/
def State.writeSlnkCtrl (s : State) (p v : Nat) : State :=
  let a := pSLNK p + Off.SLNK_CTRL
  let k : PortIx := ⟨p % 18, by omega⟩
  let s := s.setField a 1 1 (bits v 1 1)
  let s := if bits v 3 2 = 3 then s.logCorr (pSLNK p) 0x12 else s.setField a 3 2 (bits v 3 2)
  let s := if bits v 15 8 = 0 then s.logCorr (pSLNK p) 0x12 else s.setField a 15 8 (bits v 15 8)
  let s := s.setField a 0 0 (bits v 0 0)
  let s := if bit v 0 then s else s.after (execPortDown k false s)
  let s := if bit v 4 then s.after (execSlnkRetrainWrite k s) else s
  if bit v 5 then s.after (execSlnkQuarClr k s) else s

/-- SLNK (R356, R363, R368). -/
def State.writeSlnk (s : State) (p o v : Nat) : State :=
  let a := pSLNK p + o
  let job := fun ok mask => s.writeIf (s.noJob && ok) (pSLNK p) 0x12 a mask v
  if o = Off.SLNK_CTRL then s.writeSlnkCtrl p v
  else if o = Off.SLNK_NODE then s.after (execSlnkNodeWrite (BitVec.ofNat 15 v) s)
  else if o = Off.SLNK_PIN then job true 0xFFFF
  else if o = Off.SLNK_ROUTE_BASE then job (v % 65536 == 0) (2 ^ 64 - 1)
  else if o = Off.SLNK_ETH_NBR_BASE then job (v % 4096 == 0) (2 ^ 64 - 1)
  else if o = Off.SLNK_MSG_TIMEOUT then job (v != 0) 0xFFFFFFFF
  else if o = Off.SLNK_ROUTE_RELOAD then (if p = 0 ∧ bit v 0 then s.after (execSlnkRouteReload s) else s)
  else if o = Off.SLNK_ETH_MTU then s.writeIf (decide (1518 ≤ v ∧ v ≤ 9216)) (pSLNK p) 0x12 a 0xFFFFFFFF v
  else if o = Off.SLNK_ETH_MAC then s.writePlain a 0xFFFFFFFFFFFF v
  else s.writePlain a 0x1FFFFFFF v

/-- COLL page 0 (R384). -/
def State.writeColl (s : State) (o v : Nat) : State :=
  if o = Off.COLL_FLOOD_TREE then s.writeIf s.noJob (pCOLL 0) 0x0A (pCOLL 0 + o) 7 v
  else s.treeWrite ((o - Off.COLL_TREE) / 8) v

/-- RAS (R388, R390, R392, R393, R405). -/
def State.writeRas (s : State) (o v : Nat) : State :=
  if o = Off.RAS_CTRL then
    let old := s.field (pRAS + o) 3 0
    let s := if bits v 3 0 = old then s else s.writeIf s.noJob pRAS 0x12 (pRAS + o) 0xF v
    let s := if bit v 4 && !s.left then { s with ras := { s.ras with resetPend := some (s.ras.resetPend.getD s.now) } } else s
    if bit v 5 then s.after (execDeviceReset s) else s
  else if o = Off.RAS_LOG_TAIL then s.after (execRasLogTailWrite (BitVec.ofNat 64 v) s)
  else if o = Off.RAS_SNAP_LEAD then s.writeIf (s.noJob && v != 0) pRAS 0x12 (pRAS + o) 0xFFFFFFFF v
  else if o = Off.RAS_SNAP_GAP then s.writeIf s.noJob pRAS 0x12 (pRAS + o) 0xFFFFFFFF v
  else s.writePlain (pRAS + o) (2 ^ 64 - 1) v

/-- PWR (R421, R422). -/
def State.writePwr (s : State) (o v : Nat) : State :=
  if o = Off.PWR_CTRL then
    let s := s.after (execPwrModeReqWrite (BitVec.ofNat 2 v) s)
    if bit v 2 then s.after (execPwrShutdown s) else s
  else s.after (execPwrCapWrite (o == Off.PWR_BURST) (BitVec.ofNat 16 v) s)

/-- AGE (R430, R435). -/
def State.writeAge (s : State) (v : Nat) : State :=
  let s := if bits v 5 0 = s.field (pAGE + Off.AGE_CTRL) 5 0 then s
    else s.writeIf s.noJob pAGE 0x07 (pAGE + Off.AGE_CTRL) 0x3F v
  if bit v 8 then s.after (execHullNow s) else s

/-- SEC (R442, R443, R452). -/
def State.writeSec (s : State) (o v : Nat) : State :=
  if o = Off.SEC_CTRL then
    let s := if bit v 0 then s.after (execSecConfirm s) else s
    if bit v 1 then s.after (execSecSvnCommit s) else s
  else if o = Off.SEC_REVOKE then s.after (execSecRevoke (BitVec.ofNat 32 v) s)
  else if o = Off.SEC_DBG_CTRL then
    let s := if bit v 0 then s.after (execSecDbgUnlock s) else s
    if bit v 1 then s.after (execSecDbgLock s) else s
  else s.writePlain (pSEC + o) (2 ^ 64 - 1) v

/-- MGMT (R453). -/
def State.writeMgmt (s : State) (r : Requester) (o v : Nat) : State :=
  if o = Off.MGMT_CTRL then s.mgmtCtrl r v else s.writePlain (pMGMT + o) 0xFF v

/-- A write of a block register that takes writes: page `x`, offset `o`, writable bits `mask`. -/
def State.writeBlock (s : State) (r : Requester) (x : PageRef) (o mask v : Nat) : State :=
  match x.blk with
  | .tick => s.writeTick o v
  | .seq => s.writeSeq x.inst o v
  | .rng => s.writeRng x.inst o v
  | .prep => s.writePrep x.inst o v
  | .slip => s.writeSlip x.inst o v
  | .hbmc => s.writeHbmc x.inst o v
  | .lpdc => s.writeLpdc x.inst o v
  | .ferry => s.writeFerry (x.inst / 4) (x.inst % 4) o v
  | .land => if bit v 0 then s.after (execLandClear ⟨x.inst % 256, by omega⟩ s) else s
  | .ctab => s.writeCtab x.inst o v
  | .tagr => s.writeTagr o v
  | .home => s.after (execHomeCfgWrite ⟨x.inst % 8, by omega⟩ (BitVec.ofNat 32 v) s)
  | .dcache => s.writeDcache x.inst o v
  | .cq => s.writeQueue x.inst o mask v
  | .dock => s.writeQueue (64 + x.inst) o mask v
  | .srvc => s.writeSrvc x.inst o v
  | .pcie => s.writePcie x.inst o v
  | .slnk => s.writeSlnk x.inst o v
  | .coll => s.writeColl o v
  | .ras => s.writeRas o v
  | .pwr => s.writePwr o v
  | .age => s.writeAge v
  | .sec => s.writeSec o v
  | .mgmt => s.writeMgmt r o v
  | _ => s

/-- A write of the whole register that begins at `off` (R456, R458). -/
def State.writeReg (s : State) (r : Requester) (off v : Nat) : State :=
  match pageOf off, regRow off with
  | some x, some row =>
    if off % 4096 < 0x40 then s.writeHeader x.blk x.inst (off % 4096) v
    else if row.writable x.inst then s.writeBlock r x (off % 4096) row.mask v
    else s
  | _, _ => s

/-! ### Accesses (R454, R455, R457) -/

/-- A 4-byte write of a half of the 64-bit register at `off`: the low half is held, the high half writes both. -/
def State.writeHalf (s : State) (r : Requester) (off : Nat) (high : Bool) (v : Word) : State :=
  if !high then (s.freeLatch r off).setLatch r off v true
  else
    let low := s.regN (regHome off) % 2 ^ 32
    match s.latch r (off / 4096) with
    | some (a, w, true) =>
      if a = off then (s.dropLatch r (off / 4096)).writeReg r off (w.toNat + v.toNat * 2 ^ 32)
      else (s.freeLatch r off).writeReg r off (low + v.toNat * 2 ^ 32)
    | _ => (s.freeLatch r off).writeReg r off (low + v.toNat * 2 ^ 32)

/-- A 4-byte write at `off`. -/
def State.writeWord (s : State) (r : Requester) (off : Nat) (v : Word) : State :=
  match halfOf off with
  | some (a, high) => s.writeHalf r a high v
  | none => (s.freeLatch r off).writeReg r off v.toNat

/-- A write of 4 or 8 bytes: to two 32-bit registers, the lower first (R454). -/
def State.writeAt (s : State) (r : Requester) (off : Nat) (wide : Bool) (v : DWord) : State :=
  if !wide then s.writeWord r off (v.setWidth 32)
  else match halfOf off with
    | some _ => (s.freeLatch r off).writeReg r off v.toNat
    | none => (s.writeWord r off (v.setWidth 32)).writeWord r (off + 4) ((v >>> 32).setWidth 32)

/-- A refused access is logged, counted and shown on the PGDIR page (R454, R455). -/
def State.badAccess (s : State) (code off : Nat) : State :=
  let p := pg .pgdir 0
  ((s.bump p Off.PGDIR_BAD_CNT 1).setRegN (p + Off.PGDIR_LAST_BAD) (off % 2 ^ 26)).logCorr p code

/-- Pages the access can reach: the harbour controller's while it has power, the others' while the package has. Port A in
D3hot refuses memory requests (R311). -/
def State.reachable (s : State) (r : Requester) (off : Nat) : Bool :=
  s.harbourUp && !(r == .portA && s.pcie.d3) && (harbourPage off || (pageOf off).isNone || s.pwr.phase != .down)

/-- Bytes of the aperture (R211). -/
def aperSize : Nat := 0x4000000

/-- An access of 4 or 8 bytes is aligned to its size (R454). -/
def aligned (off : Nat) (wide : Bool) : Bool := if wide then off % 8 == 0 else off % 4 == 0

/-- A write of 4 or 8 bytes (R454, R455). -/
def State.aperWrite (s : State) (r : Requester) (off : Nat) (wide : Bool) (v : DWord) : State :=
  if !s.reachable r off then s
  else if !aligned off wide then s.badAccess 0x01 off
  else if (pageOf off).isNone then s.badAccess 0x02 off
  else s.writeAt r off wide v

/-- A read of 4 or 8 bytes answers in `busRead` (R454, R455). -/
def State.aperRead (s : State) (r : Requester) (off : Nat) (wide : Bool) : State :=
  if !s.reachable r off then { s with busRead := 0 }
  else if !aligned off wide then { s.badAccess 0x01 off with busRead := 0 }
  else if (pageOf off).isNone then { s with busRead := 0 }
  else
    let x := s.readAt r off wide
    { x.1 with busRead := BitVec.ofNat 64 x.2 }

/-- A write of BAR4 by the host: not in D3hot, and only of port A as an endpoint (R311, R313, R315). An 8-byte write is its
two words, the lower first. -/
def State.bar4Write (s : State) (off : Nat) (wide : Bool) (v : DWord) (cyc : Nat) : State :=
  if s.rootMode || s.pcie.d3 || decide (0x20000 ≤ off) || off % 4 != 0 then s
  else
    let s := s.bar4Word off (v.toNat % 2 ^ 32) cyc
    if wide then s.bar4Word (off + 4) (v.toNat / 2 ^ 32) cyc else s

/-- REGISTER_WRITE (R311, R313, R315, R458): a write of 4 or 8 bytes to a register by a requester;
BAR4 and the configuration space are the host's. -/
def execRegisterWrite (r : Requester) (at_ : RegAddr) (wide : Bool) (v : BusWord) (s : State) : Host.Outcome State Fault Refusal :=
  .next (match at_ with
    | .aperture off => if aperSize ≤ off then s else ({ s with busCycle := v.cyc } : State).aperWrite r off wide v.v
    | .bar4 off => if r = .portA then s.bar4Write off wide v.v v.cyc else s
    | .config c => if r = .portA ∧ !s.rootMode then s.configWrite c v.v.toNat else s)

/-- The access is of a size or alignment that the aperture does not take (R454). -/
def badShape (off size : Nat) : Bool := !((size == 4 && off % 4 == 0) || (size == 8 && off % 8 == 0))

/-- APER_BAD_ACCESS (R454): the access is not performed and is logged; a read answers 0. -/
def execAperBadAccess (r : Requester) (off size : Nat) (write : Bool) (s : State) : Host.Outcome State Fault Refusal :=
  .next (if aperSize ≤ off ∨ size = 0 ∨ !badShape off size then s
  else
    let t := if s.harbourUp && !(r == .portA && s.pcie.d3) then s.badAccess 0x01 off else s
    if write then t else { t with busRead := 0 })

/-- APER_ABSENT (R455): a write to an offset that lies in no page is dropped and logged. -/
def execAperAbsent (r : Requester) (off : Nat) (s : State) : Host.Outcome State Fault Refusal :=
  .next (if aperSize ≤ off ∨ (pageOf off).isSome then s
    else if s.harbourUp && !(r == .portA && s.pcie.d3) then s.badAccess 0x02 off else s)

/-- APER_SPLIT_ACCESS (R457): a 4-byte access of a half of a 64-bit register. -/
def execAperSplitAccess (r : Requester) (off : Nat) (write : Bool) (v : Word) (s : State) : Host.Outcome State Fault Refusal :=
  .next (if aperSize ≤ off ∨ (halfOf off).isNone then s
    else if write then s.aperWrite r off false (v.setWidth 64) else s.aperRead r off false)

/-- A header row's access to a page: it takes no latch, and has no effect on a page without power. -/
def State.header (s : State) (r : Requester) (b : Blk) (i : Nat) (f : State → State) : Host.Outcome State Fault Refusal :=
  .next (if b.count ≤ i then s
    else if s.reachable r (pg b i) then f (s.freeLatch r (pg b i)) else s)

/-- PG_SOFT_RESET (R461). -/
def execPgSoftReset (r : Requester) (b : Blk) (i : Nat) (s : State) : Host.Outcome State Fault Refusal :=
  s.header r b i (fun s => s.softResetWrite b i)

/-- PG_FREEZE_WRITE (R462). -/
def execPgFreezeWrite (r : Requester) (b : Blk) (i : Nat) (v : Bool) (s : State) : Host.Outcome State Fault Refusal :=
  s.header r b i (fun s => s.freezeWrite (pg b i) v)

/-- PG_LEVEL_WRITE (R460). -/
def execPgLevelWrite (r : Requester) (b : Blk) (i : Nat) (v : BitVec 8) (s : State) : Host.Outcome State Fault Refusal :=
  s.header r b i (fun s => s.levelWrite (pg b i) v.toNat)

/-- PG_IRQ_STAT_CLEAR (R463). -/
def execPgIrqStatClear (r : Requester) (b : Blk) (i : Nat) (v : Word) (s : State) : Host.Outcome State Fault Refusal :=
  s.header r b i (fun s => s.irqClear b i v.toNat)

/-- PG_IRQ_FORCE (R463). -/
def execPgIrqForce (r : Requester) (b : Blk) (i : Nat) (v : Word) (s : State) : Host.Outcome State Fault Refusal :=
  s.header r b i (fun s => s.raiseIrq (pg b i) (v.toNat % 4))

/-- PG_ERR_FIRST_CLEAR (R464). -/
def execPgErrFirstClear (r : Requester) (b : Blk) (i : Nat) (s : State) : Host.Outcome State Fault Refusal :=
  s.header r b i (fun s => s.errClear (pg b i))

/-- The access names the SEC page. -/
def namesSec (off : Nat) : Bool :=
  match pageOf off with
  | some x => x.blk == .sec
  | none => false

/-- MCTP_APERTURE_ACCESS (R449): a vendor-defined message reads or writes the aperture; it is refused with an error
answer at debug level 2 on the SEC page, and while APER_EN is 0. -/
def execMctpApertureAccess (c : MgmtChan) (write : Bool) (off : Nat) (wide : Bool) (v : BusWord) (s : State) :
    Host.Outcome State Fault Refusal :=
  .next (match s.mgmtReq c 0x7E with
    | (s, false) => s
    | (s, true) =>
      if (s.dbgLevel == 2 && namesSec off) || !bit (s.regN (pMGMT + Off.MGMT_CTRL)) 0 || decide (aperSize ≤ off) then s.send (.mgmt (.aper c.val none))
      else if write then (({ s with busCycle := v.cyc } : State).aperWrite .mgmt off wide v.v).send (.mgmt (.aper c.val (some 0)))
      else
        let t := s.aperRead .mgmt off wide
        t.send (.mgmt (.aper c.val (some t.busRead))))

end Sys2Proof.Machine
end

