-- ==== Sys2Proof/Machine/Boundary.lean ====
section
/-!
DEFINITION. Machine/Boundary.lean: the boundary of a tick and of a data-plane tide. What has a row of its own at a boundary
is that row's effect and is not repeated here (R40, R42, R44, R45, R56–R61, R90, R135, R175, R232, R240, R408, R415, R416,
R419–R434, R461, R488).
-/
namespace Sys2Proof.Machine

/-! ### Late sailings (R45, R56–R59) -/

/-- The sailings of core `c` that are late at the end of the present tick. -/
def State.lateSailings (s : State) (c : Nat) : List SailingRun :=
  (s.core c).sailings.filter (fun x => decide (x.last ≤ s.now) && !s.sailingDone x)

/-- The ME operation of a sailing is a FIRST-COME MERGE that still misses a partial (R101). -/
def State.mergeShort (s : State) (c : Nat) (x : SailingRun) : Bool :=
  match (s.core c).meOps.find? (·.recIx == x.recIx) with
  | none => false
  | some o =>
    let m := meSlot o.slot
    o.begun && !o.done && m.op == 2 && m.first && (upTo 0 m.parts).any (fun p => !bit (s.seenFlags c) (m.flag0 + p))

/-- The engines show no operation of a sailing that is ended, and no mask is bound for them. -/
def State.clearEngines (s : State) (c : Nat) (x : SailingRun) : State :=
  let mine := fun (l : List SlotOp) => l.head?.any (fun o => o.recIx == x.recIx && o.begun)
  let me := mine (s.core c).meOps
  let ve := mine (s.core c).veOps
  let s := if me then (s.setField (pME c + Off.ME_STAT) 9 8 0).setField (pME c + Off.ME_STAT) 26 16 0 else s
  let s := if ve then (s.setField (pVE c + Off.VE_STAT) 2 0 0).setField (pVE c + Off.VE_STAT) 15 8 0 else s
  let y := s.core c
  let gone := fun (m : MaskBind) => m.recIx == x.recIx || y.meOps.any (fun o => o.recIx == x.recIx && o.first == m.recIx)
  s.setCore c { y with masks := y.masks.filter (fun m => !gone m) }

/-- A late sailing is ended: its item fails with FAIL_TICK_OVERRUN, its unfinished operations and the core's accumulators
are discarded, and its signals are posted with the poison bit set (R57, R90). -/
def State.overrun (s : State) (c : Nat) (x : SailingRun) : State :=
  let li := s.itemInfo x.cmd x.item
  let s := if s.mergeShort c x then
      (s.setRegN (pME c + Off.ME_LAST_ERR) (0x02 + x.item % 2 ^ 24 * 256)).logErr (pME c) 0x02 clsItem li
    else s
  let s := s.failItem x.cmd x.item Status.TICK_OVERRUN
  ((s.clearEngines c x).discardSets c).endSailing c { x with hollow := true } true

/-- A core at a boundary: a sailing late in STRICT, or late again after its stretched tick, is ended; one late for the
first time in ELASTIC runs on. Newly late sailings are an overrun of the core. -/
def State.lateCore (s : State) (c : Nat) : State × Bool :=
  let late := s.lateSailings c
  let fresh := (late.filter (fun x => !x.extended)).length
  let s := (late.filter (fun x => !s.elastic || x.extended)).foldl (fun (s : State) x => s.overrun c x) s
  let y := s.core c
  let s := s.setCore c { y with sailings := y.sailings.map (fun z => if late.any (·.recIx == z.recIx) then { z with extended := true } else z) }
  if fresh = 0 then (s, false)
  else ((s.setRegN (pSEQ c + Off.SEQ_LAST_OVERRUN) s.now).bump (pSEQ c) Off.SEQ_OVERRUN_CNT fresh, true)

/-- Every core in use at a boundary, and whether one is newly late. -/
def lateCores : List Nat → State → State × Bool
  | [], s => (s, false)
  | c :: cs, s =>
    let x := s.lateCore c
    let y := lateCores cs x.1
    (y.1, x.2 || y.2)

/-- At most one late notice is raised for the tick that ends: for a late sailing or a governor request (R56). A device that
has left asserts none (R391). -/
def State.notice (s : State) (late : Bool) : State :=
  let gov := s.tick.govReq
  let up := late || gov
  let s := { s with tick := { s.tick with govReq := false, govUnit := gov, asserting := up && !s.left } }
  if up then
    ((s.setRegN (pTICK + Off.TICK_LAST_LATE) s.now).bump pTICK Off.TICK_OVERRUN_CNT 1).ev (fun e => { e with notices := e.notices + 1 })
  else s

/-! ### The new tick (R60, R135, R240, R461) -/

/-- A notice received on a link lengthens the tick H after the one it names by one stretch unit, credited to the governor. -/
def State.linkStretch (s : State) : State := s.addStretch.govCredit

/-- The notices due in the tick that begins take effect. -/
def State.dueNotices (s : State) : State :=
  let due := s.tick.notices.filter (fun n => n + s.horizon == s.now)
  let s := due.foldl (fun (s : State) _ => s.linkStretch) s
  let rest := s.tick.notices.filter (fun n => decide (s.now < n + s.horizon))
  { s with tick := { s.tick with notices := rest } }.setTickStat 3 (!rest.isEmpty)

/-- PTICKCMP of a prep core has been reached: its machine timer interrupt is pending (R135). -/
def State.prepTimer (s : State) (c : Nat) : State :=
  if (s.core c).prep.tickCmp ≤ s.now then s.prepIrq c else s

/-- Soft resets that waited for the boundary (R461). -/
def State.softResets (s : State) : State :=
  s.softReset.foldl (fun (s : State) e => s.softResetDue e.1 e.2) { s with softReset := [] }

/-- Commands with records still due. -/
def State.openCmds (s : State) : List Cmd := s.cmds.filter (fun k => !k.closed)

/-- An orderly shutdown begins: every accepted item ends, records go out, and the hull log is to be written (R421). -/
def State.shutDown (s : State) : State :=
  let s := if s.left then s else s.openCmds.foldl (fun (s : State) k => s.failAll k.id Status.ABORTED) s
  let s := s.stopCores.stopUnits.emptyCores.clearAcc
  let s := (s.openCmds.foldl (fun (s : State) k => s.flushRecs k) s).askHull 1
  { s with pwr := { s.pwr with phase := .closing, shutPend := false } }

/-- The tick timer runs: the grid is locked and the package has power. -/
def State.ticking (s : State) : Bool := s.locked && (s.pwr.phase == .ready || s.pwr.phase == .closing)

/-- The tick in course ends: its late sailings are dealt with, its notice is raised, and the counters take the next number. -/
def State.endTick (s : State) : State :=
  let x := lateCores (s.cores.map (·.1)) s
  let s := (x.1.notice x.2).setNow (s.now + 1)
  { s with tick := { s.tick with stretch := 0, strayLogged := false } }

/-- What waited for a core's next tick takes effect: hand-offs, its timer, the segments of failed items, and its ferries'
operations of failed items. -/
def State.beginCores (s : State) : State :=
  let cs := s.cores.map (·.1)
  cs.foldl State.dropFailed (cs.foldl State.slipFailEmpty (cs.foldl State.prepTimer (cs.foldl State.handOver s)))

/-- TICK_BOUNDARY (R44): tick n ends with its late sailings and notice, and tick n + 1 begins with what was due in it. -/
def execTickBoundary (s : State) : Host.Outcome State Fault Refusal :=
  .next (if !s.ticking then s
    else
      let s := s.endTick.dueNotices.softResets.applyRgen.beginCores
      if s.pwr.shutPend then s.shutDown else s)

/-! ### The tide (R40, R42, R422–R434) -/

/-- The neighbours checked in the tide that ends are weighed, and the counts start anew (R42). -/
def State.tideCheck (s : State) : State :=
  let bad := decide (s.tick.checked ≠ [] ∧ s.tick.checked.length < 2 * s.tick.disagree.length)
  let s := { s with tick := { s.tick with checked := [], disagree := [] } }
  if bad then s.logErr pTICK 0x05 clsFatal LogInfo.none else s

/-- The TIDE record of the boundary goes to every trained neighbour (R42, R351). -/
def State.sendTide (s : State) : State :=
  let n := s.now
  let b := natLE 1 1 ++ natLE 1 0 ++ natLE 1 (b2n s.rooted) ++ rep 5 0 ++ natLE 8 n ++ natLE 8 (s.settled n) ++ rep 216 0
  s.trainedPorts.foldl (fun (s : State) p => s.queueFlit p { typ := 0x0A, vc := 4, payload := b, owner := none }) s

/-- The rails settle at the codes planned for the tide that begins (R426, R428). -/
def State.settleRails (s : State) : State :=
  (upTo 0 domains).foldl (fun (s : State) i => s.setField (domRail i) 6 0 (s.field (domRail i) 14 8)) s

/-- Eye heights, link errors, memory temperatures and the supply as measured over the tide (R408, R423). -/
def State.showMeas (s : State) (m : TideMeas) : State :=
  let lane := fun (s : State) i =>
    s.setRegN (pSLNK (i / 4) + Off.SLNK_LANE + 8 * (i % 4)) (m.eye.getD i 0 % 4096 + min (m.ber.getD i 0) 0xFFFFFFFF * 65536)
  let s := (upTo 0 72).foldl lane s
  let s := (upTo 0 20).foldl (fun (s : State) k => s.setRegN (pHBMC k + Off.HBMC_TEMP) (unsext 8 (m.hbm.getD k 0))) s
  (s.setRegN (pPWR + Off.PWR_VBUS) (m.mv % 65536 + m.da % 65536 * 65536)).setPwrStat 10 10 (b2n (decide (10800 ≤ m.mv ∧ m.mv ≤ 13200)))

/-- What the ageing side keeps of a tide's measurements (R425, R429, R432). -/
def State.ageMeas (s : State) (m : TideMeas) : State :=
  let a := s.age
  let low := (upTo 0 72).any (fun i => s.pup (i / 4) && decide (m.eye.getD i 0 < 30))
  { s with age := { a with
      effNow := m.eff
      effLow := List.zipWith min a.effLow m.eff
      eyeLow := List.zipWith min a.eyeLow m.eye
      berHigh := List.zipWith max a.berHigh (m.ber.map (min 0xFFFFFFFF))
      hist := List.zipWith (fun (h : List Nat) (t : Int) => h.set (tjBin t) (h.getD (tjBin t) 0 + 1)) a.hist a.dieHot
      life := a.life + 1
      cur := { a.cur with lowEye := low } } }.setRegN (pAGE + Off.AGE_LIFE_TIDES) (a.life + 1)

/-- The sensors that follow the tide (R434). -/
def State.tideSensors (s : State) : State :=
  let big := ((upTo 0 domains).map s.delta).foldl max 0
  let v := [s.field (pAGE + Off.AGE_HEADROOM) 7 0, s.marginCap, s.regN (pAGE + Off.AGE_LIFE_USED), big,
    s.regN (pPWR + Off.PWR_TIDE_ENERGY) / 1000]
  { s with mgmt := { s.mgmt with sensors := s.mgmt.sensors.take 2 ++ v.map Int.ofNat } }

/-- What is counted or logged once per tide starts anew (R218, R364, R365, R388, R408, R426, R432). -/
def State.newTide (s : State) : State :=
  let a := s.age
  let s := { s with
    ras := { s.ras with tideCnt := [] }
    pwr := { s.pwr with lowLogged := false, hot := hottest a.dieTj }
    ceLogged := []
    ports := (s.ports.map (fun e => (e.1, { e.2 with rsvdLogged := false }))).filter (fun e => e.2 ≠ PortSt.reset)
    age := { a with
      past := (a.cur :: a.past).take 86400, cur := TideEv.zero, exhLogged := []
      dieHot := a.dieTj, planHot := a.dieTj, planSent := (upTo 0 192).map (fun j => s.regN (ageSent j)) } }
  (upTo 0 18).foldl (fun (s : State) p => s.setRegN (pSLNK p + Off.SLNK_VIOL_TIDE) 0) s

/-- The hull records that a tide asks for: every 1,024 tides, and after a write of HULL_NOW (R430). -/
def State.tideHull (s : State) : State :=
  let s := if s.tide % 1024 = 0 then s.askHull 0 else s
  if s.age.hullNow then { s.askHull 2 with age := { (s.askHull 2).age with hullNow := false } } else s

/-- The measurements have their numbers of dies, lanes and stacks, and temperatures that a sensor can show. -/
def tideMeasOk (m : TideMeas) : Bool :=
  m.energy.length == 6 && m.eff.length == 6 && m.eye.length == 72 && m.ber.length == 72 && m.hbm.length == 20
    && m.hbm.all (fun t => decide (-128 ≤ t ∧ t ≤ 127))

/-- Measurements of those numbers. -/
def fitMeas (m : TideMeas) : TideMeas :=
  { m with energy := fit 6 0 m.energy, eff := fit 6 0 m.eff, eye := fit 72 0 m.eye, ber := fit 72 0 m.ber, hbm := fitTemps 20 m.hbm }

/-- The mode that the registers ask for at the boundary is due in the tide's first tick (R29, R412). -/
def State.modeFalls (s : State) : State :=
  { s with pwr := { s.pwr with modeDue := if s.targetMode = s.pmode then none else some s.targetMode } }

/-- The effects of a tide boundary. -/
def State.newTideAt (s : State) (m : TideMeas) : State :=
  let s := (s.tideCheck.tideEnergy m.energy).tideThermal.tideCaps
  let s := (((s.tideAgeing.ageMeas m).showLife).showMeas m).settleRails
  let s := (s.setAllowances s.pmode).tideSensors
  let s := s.newTide.sendTide.tideHull.modeFalls
  { s with tick := { s.tick with tideSeen := some s.tide } }

/-- TIDE_BOUNDARY (R40): a data-plane tide begins; the tide that ends is evaluated with what was measured over it. The mode
follows in its own row (R412). -/
def execTideBoundary (m : TideMeas) (s : State) : Host.Outcome State Fault Refusal :=
  .next (if s.ticking && s.now % 1000000 == 0 && s.tick.tideSeen != some s.tide then s.newTideAt (fitMeas m) else s)

end Sys2Proof.Machine
end

