-- ==== Sys2Proof/Machine/Dispatch.lean ====
section
/-! DEFINITION. The meaning of every command of the table: one arm per constructor of Instr, each one direct call. -/
namespace Sys2Proof.Machine

def exec (i : Instr) (s : State) : Host.Outcome State Fault Refusal :=
  match i with
  | .tmarkPulse width onGrid => Sys2Proof.Machine.execTmarkPulse width onGrid s
  | .tmarkMissing => Sys2Proof.Machine.execTmarkMissing s
  | .tmarkMissLimit => Sys2Proof.Machine.execTmarkMissLimit s
  | .gridLock => Sys2Proof.Machine.execGridLock s
  | .tickLockWaitTimeout => Sys2Proof.Machine.execTickLockWaitTimeout s
  | .tlateSample cycle low => Sys2Proof.Machine.execTlateSample cycle low s
  | .tickCopyCompare grid now phase => Sys2Proof.Machine.execTickCopyCompare grid now phase s
  | .tickSourceLoss => Sys2Proof.Machine.execTickSourceLoss s
  | .tickFailover => Sys2Proof.Machine.execTickFailover s
  | .tickBoundary => Sys2Proof.Machine.execTickBoundary s
  | .tideBoundary m => Sys2Proof.Machine.execTideBoundary m s
  | .tideRecordRx p => Sys2Proof.Machine.execTideRecordRx p s
  | .joinRecordRx p => Sys2Proof.Machine.execJoinRecordRx p s
  | .tickRejoin => Sys2Proof.Machine.execTickRejoin s
  | .tickCfgWrite v => Sys2Proof.Machine.execTickCfgWrite v s
  | .tickCfgApply => Sys2Proof.Machine.execTickCfgApply s
  | .runTimetable cmd => Sys2Proof.Machine.execRunTimetable cmd s
  | .timetableLoadCheck c => Sys2Proof.Machine.execTimetableLoadCheck c s
  | .sailingIssue c => Sys2Proof.Machine.execSailingIssue c s
  | .engineStart c e => Sys2Proof.Machine.execEngineStart c e s
  | .sailingComplete c cyc => Sys2Proof.Machine.execSailingComplete c cyc s
  | .signalArrival c => Sys2Proof.Machine.execSignalArrival c s
  | .itemEnd cmd item => Sys2Proof.Machine.execItemEnd cmd item s
  | .seqFlagSet c v => Sys2Proof.Machine.execSeqFlagSet c v s
  | .seqFlagClr c v => Sys2Proof.Machine.execSeqFlagClr c v s
  | .meMma c => Sys2Proof.Machine.execMeMma c s
  | .meMmaF3 c => Sys2Proof.Machine.execMeMmaF3 c s
  | .meMmaD c => Sys2Proof.Machine.execMeMmaD c s
  | .meMerge c => Sys2Proof.Machine.execMeMerge c s
  | .meMergePartial c => Sys2Proof.Machine.execMeMergePartial c s
  | .meMergeD c => Sys2Proof.Machine.execMeMergeD c s
  | .meDrain c => Sys2Proof.Machine.execMeDrain c s
  | .meDscan c => Sys2Proof.Machine.execMeDscan c s
  | .meDslice c => Sys2Proof.Machine.execMeDslice c s
  | .meOpComplete c => Sys2Proof.Machine.execMeOpComplete c s
  | .veAdd c => Sys2Proof.Machine.execVeAdd c s
  | .veSub c => Sys2Proof.Machine.execVeSub c s
  | .veMul c => Sys2Proof.Machine.execVeMul c s
  | .veFma c => Sys2Proof.Machine.execVeFma c s
  | .veMax2 c => Sys2Proof.Machine.execVeMax2 c s
  | .veMin2 c => Sys2Proof.Machine.execVeMin2 c s
  | .veScale c => Sys2Proof.Machine.execVeScale c s
  | .veConvert c => Sys2Proof.Machine.execVeConvert c s
  | .veDiv c => Sys2Proof.Machine.execVeDiv c s
  | .veSqrt c => Sys2Proof.Machine.execVeSqrt c s
  | .veExp2 c => Sys2Proof.Machine.execVeExp2 c s
  | .veExp c => Sys2Proof.Machine.execVeExp c s
  | .veLog2 c => Sys2Proof.Machine.execVeLog2 c s
  | .veRcp c => Sys2Proof.Machine.execVeRcp c s
  | .veRsqrt c => Sys2Proof.Machine.execVeRsqrt c s
  | .veAct c => Sys2Proof.Machine.execVeAct c s
  | .veRsum c => Sys2Proof.Machine.execVeRsum c s
  | .veRmax c => Sys2Proof.Machine.execVeRmax c s
  | .veRmin c => Sys2Proof.Machine.execVeRmin c s
  | .veRargmax c => Sys2Proof.Machine.execVeRargmax c s
  | .veRsumsq c => Sys2Proof.Machine.execVeRsumsq c s
  | .veRmeanvar c => Sys2Proof.Machine.execVeRmeanvar c s
  | .veSoftmax c => Sys2Proof.Machine.execVeSoftmax c s
  | .veLayernorm c => Sys2Proof.Machine.execVeLayernorm c s
  | .veRmsnorm c => Sys2Proof.Machine.execVeRmsnorm c s
  | .veDropout c => Sys2Proof.Machine.execVeDropout c s
  | .veUniform c => Sys2Proof.Machine.execVeUniform c s
  | .veNormal c => Sys2Proof.Machine.execVeNormal c s
  | .veTranspose c => Sys2Proof.Machine.execVeTranspose c s
  | .veMxRelayout c => Sys2Proof.Machine.execVeMxRelayout c s
  | .veHazardClear c => Sys2Proof.Machine.execVeHazardClear c s
  | .veOpComplete c => Sys2Proof.Machine.execVeOpComplete c s
  | .veWconv c => Sys2Proof.Machine.execVeWconv c s
  | .veMaxpool c => Sys2Proof.Machine.execVeMaxpool c s
  | .veAvgpool c => Sys2Proof.Machine.execVeAvgpool c s
  | .veWconvBwdData c => Sys2Proof.Machine.execVeWconvBwdData c s
  | .veWconvBwdWeight c => Sys2Proof.Machine.execVeWconvBwdWeight c s
  | .veMaxpoolBwd c => Sys2Proof.Machine.execVeMaxpoolBwd c s
  | .veAvgpoolBwd c => Sys2Proof.Machine.execVeAvgpoolBwd c s
  | .veUpsampleNearest c => Sys2Proof.Machine.execVeUpsampleNearest c s
  | .veUpsampleBilinear c => Sys2Proof.Machine.execVeUpsampleBilinear c s
  | .veUpsampleNearestBwd c => Sys2Proof.Machine.execVeUpsampleNearestBwd c s
  | .veUpsampleBilinearBwd c => Sys2Proof.Machine.execVeUpsampleBilinearBwd c s
  | .vePadFold c => Sys2Proof.Machine.execVePadFold c s
  | .veGmask c => Sys2Proof.Machine.execVeGmask c s
  | .veSoftmaxBwd c => Sys2Proof.Machine.execVeSoftmaxBwd c s
  | .veLayernormBwd c => Sys2Proof.Machine.execVeLayernormBwd c s
  | .veRmsnormBwd c => Sys2Proof.Machine.execVeRmsnormBwd c s
  | .veActBwd c => Sys2Proof.Machine.execVeActBwd c s
  | .rngSeedWrite c v => Sys2Proof.Machine.execRngSeedWrite c v s
  | .rngRestoreStepWrite c v => Sys2Proof.Machine.execRngRestoreStepWrite c v s
  | .prepRun c => Sys2Proof.Machine.execPrepRun c s
  | .prepHalt c => Sys2Proof.Machine.execPrepHalt c s
  | .prepReset c => Sys2Proof.Machine.execPrepReset c s
  | .ptflagset c v => Sys2Proof.Machine.execPtflagset c v s
  | .ptickcmpIrq c cmp => Sys2Proof.Machine.execPtickcmpIrq c cmp s
  | .prepBusError c cause epc addr => Sys2Proof.Machine.execPrepBusError c cause epc addr s
  | .prepDoubleTrap c cause epc tval => Sys2Proof.Machine.execPrepDoubleTrap c cause epc tval s
  | .unitErrorIrq c u => Sys2Proof.Machine.execUnitErrorIrq c u s
  | .ferryEnqueue c f => Sys2Proof.Machine.execFerryEnqueue c f s
  | .ferryOpStart c f => Sys2Proof.Machine.execFerryOpStart c f s
  | .ferryCopyIn c f => Sys2Proof.Machine.execFerryCopyIn c f s
  | .ferryGather c f => Sys2Proof.Machine.execFerryGather c f s
  | .ferryGatherT c f => Sys2Proof.Machine.execFerryGatherT c f s
  | .ferryHalo c f => Sys2Proof.Machine.execFerryHalo c f s
  | .ferryIndexIn c f => Sys2Proof.Machine.execFerryIndexIn c f s
  | .ferryMxtIn c f => Sys2Proof.Machine.execFerryMxtIn c f s
  | .ferryQrun c f => Sys2Proof.Machine.execFerryQrun c f s
  | .ferryCopyOut c f => Sys2Proof.Machine.execFerryCopyOut c f s
  | .ferryIndexOut c f => Sys2Proof.Machine.execFerryIndexOut c f s
  | .ferryPfill c f => Sys2Proof.Machine.execFerryPfill c f s
  | .ferryPeerGet c f => Sys2Proof.Machine.execFerryPeerGet c f s
  | .ferryPeerPut c f => Sys2Proof.Machine.execFerryPeerPut c f s
  | .ferryOpComplete c f => Sys2Proof.Machine.execFerryOpComplete c f s
  | .slipPush c f => Sys2Proof.Machine.execSlipPush c f s
  | .slipPop c f => Sys2Proof.Machine.execSlipPop c f s
  | .slipTrailerReread c f => Sys2Proof.Machine.execSlipTrailerReread c f s
  | .slipEnable c b => Sys2Proof.Machine.execSlipEnable c b s
  | .slipDisable c b => Sys2Proof.Machine.execSlipDisable c b s
  | .updateParamsAdamw cmd => Sys2Proof.Machine.execUpdateParamsAdamw cmd s
  | .updateParamsLamb cmd => Sys2Proof.Machine.execUpdateParamsLamb cmd s
  | .updateParamsSgd cmd => Sys2Proof.Machine.execUpdateParamsSgd cmd s
  | .updateParamsVerify cmd => Sys2Proof.Machine.execUpdateParamsVerify cmd s
  | .updShardItem cmd item => Sys2Proof.Machine.execUpdShardItem cmd item s
  | .updExponentMove cmd => Sys2Proof.Machine.execUpdExponentMove cmd s
  | .pontGexp k => Sys2Proof.Machine.execPontGexp k s
  | .pontDig k => Sys2Proof.Machine.execPontDig k s
  | .pontFill k => Sys2Proof.Machine.execPontFill k s
  | .hbmcScrubPass k ce ue => Sys2Proof.Machine.execHbmcScrubPass k ce ue s
  | .lpdcScrubPass l ce ue => Sys2Proof.Machine.execLpdcScrubPass l ce ue s
  | .memoryReadError a kind => Sys2Proof.Machine.execMemoryReadError a kind s
  | .hbmcMapWrite v => Sys2Proof.Machine.execHbmcMapWrite v s
  | .lpdcTierWrite v => Sys2Proof.Machine.execLpdcTierWrite v s
  | .landClear c => Sys2Proof.Machine.execLandClear c s
  | .landClearDone c => Sys2Proof.Machine.execLandClearDone c s
  | .deckLbAccess c off n wr data => Sys2Proof.Machine.execDeckLbAccess c off n wr data s
  | .ferryQcfgWrite c f size v => Sys2Proof.Machine.execFerryQcfgWrite c f size v s
  | .ferryQtailWrite c f v => Sys2Proof.Machine.execFerryQtailWrite c f v s
  | .tagRefetch c f => Sys2Proof.Machine.execTagRefetch c f s
  | .expBlockExpand c f => Sys2Proof.Machine.execExpBlockExpand c f s
  | .expRefetch c f => Sys2Proof.Machine.execExpRefetch c f s
  | .loadDecodeTable cmd => Sys2Proof.Machine.execLoadDecodeTable cmd s
  | .ctabLoadGo d slot => Sys2Proof.Machine.execCtabLoadGo d slot s
  | .ctabRetire d v => Sys2Proof.Machine.execCtabRetire d v s
  | .ctabSlotLive d slot => Sys2Proof.Machine.execCtabSlotLive d slot s
  | .ctabSlotDraining d slot => Sys2Proof.Machine.execCtabSlotDraining d slot s
  | .ctabSlotFree d slot => Sys2Proof.Machine.execCtabSlotFree d slot s
  | .tagrRegionEnable r => Sys2Proof.Machine.execTagrRegionEnable r s
  | .tagrRgenWrite r v => Sys2Proof.Machine.execTagrRgenWrite r v s
  | .tagrRetag r => Sys2Proof.Machine.execTagrRetag r s
  | .tagrRetagDone => Sys2Proof.Machine.execTagrRetagDone s
  | .homeRdShared p core a => Sys2Proof.Machine.execHomeRdShared p core a s
  | .homeRdOwn p core a => Sys2Proof.Machine.execHomeRdOwn p core a s
  | .homeUpgrade p core a => Sys2Proof.Machine.execHomeUpgrade p core a s
  | .homeRdOnce g a => Sys2Proof.Machine.execHomeRdOnce g a s
  | .homeBulkRd g a n => Sys2Proof.Machine.execHomeBulkRd g a n s
  | .homeWrLine g a data => Sys2Proof.Machine.execHomeWrLine g a data s
  | .homeBulkWr g a data => Sys2Proof.Machine.execHomeBulkWr g a data s
  | .homeWrPart g a mask data => Sys2Proof.Machine.execHomeWrPart g a mask data s
  | .homeWb p a => Sys2Proof.Machine.execHomeWb p a s
  | .homeEvict p a => Sys2Proof.Machine.execHomeEvict p a s
  | .homeAmoFar p core op wide a v => Sys2Proof.Machine.execHomeAmoFar p core op wide a v s
  | .homeRecall g a n => Sys2Proof.Machine.execHomeRecall g a n s
  | .homeTransactionServe a => Sys2Proof.Machine.execHomeTransactionServe a s
  | .homeSnoopAnswer p a => Sys2Proof.Machine.execHomeSnoopAnswer p a s
  | .snoopResend p a => Sys2Proof.Machine.execSnoopResend p a s
  | .cohSnoopTimeout p a => Sys2Proof.Machine.execCohSnoopTimeout p a s
  | .snpInv p a left => Sys2Proof.Machine.execSnpInv p a left s
  | .snpShare p a left => Sys2Proof.Machine.execSnpShare p a left s
  | .backInv p a left => Sys2Proof.Machine.execBackInv p a left s
  | .gntReceive p a => Sys2Proof.Machine.execGntReceive p a s
  | .gntUp p a => Sys2Proof.Machine.execGntUp p a s
  | .dataOnce g a => Sys2Proof.Machine.execDataOnce g a s
  | .wrDone g a => Sys2Proof.Machine.execWrDone g a s
  | .amoRsp p a => Sys2Proof.Machine.execAmoRsp p a s
  | .wbAck p a => Sys2Proof.Machine.execWbAck p a s
  | .bollardHoldEnd p a => Sys2Proof.Machine.execBollardHoldEnd p a s
  | .atomicOp core op form a v => Sys2Proof.Machine.execAtomicOp core op form a v s
  | .dcacheFlush t => Sys2Proof.Machine.execDcacheFlush t s
  | .dcachePredClr t => Sys2Proof.Machine.execDcachePredClr t s
  | .dcPoisonConsumed c epc a => Sys2Proof.Machine.execDcPoisonConsumed c epc a s
  | .homeCfgWrite h v => Sys2Proof.Machine.execHomeCfgWrite h v s
  | .srvcRun k => Sys2Proof.Machine.execSrvcRun k s
  | .srvcStop k => Sys2Proof.Machine.execSrvcStop k s
  | .srvcReserve k => Sys2Proof.Machine.execSrvcReserve k s
  | .srvcRelease k => Sys2Proof.Machine.execSrvcRelease k s
  | .srvcPredClr k => Sys2Proof.Machine.execSrvcPredClr k s
  | .srvcL2Flush k => Sys2Proof.Machine.execSrvcL2Flush k s
  | .srvcClkWrite k mhz => Sys2Proof.Machine.execSrvcClkWrite k mhz s
  | .srvPoisonConsumed k fetch epc a => Sys2Proof.Machine.execSrvPoisonConsumed k fetch epc a s
  | .srvCacheError k a kind => Sys2Proof.Machine.execSrvCacheError k a kind s
  | .dockEnable d => Sys2Proof.Machine.execDockEnable d s
  | .dockDisable d => Sys2Proof.Machine.execDockDisable d s
  | .dockTailWrite d v cyc => Sys2Proof.Machine.execDockTailWrite d v cyc s
  | .dockCplHeadWrite d v => Sys2Proof.Machine.execDockCplHeadWrite d v s
  | .dockEntryRead d => Sys2Proof.Machine.execDockEntryRead d s
  | .dockCompletion d cmd => Sys2Proof.Machine.execDockCompletion d cmd s
  | .commandAccept => Sys2Proof.Machine.execCommandAccept s
  | .cqEntryFetch q => Sys2Proof.Machine.execCqEntryFetch q s
  | .cqTailWrite q v cyc => Sys2Proof.Machine.execCqTailWrite q v cyc s
  | .cqCplHeadWrite q v => Sys2Proof.Machine.execCqCplHeadWrite q v s
  | .cqEnable q => Sys2Proof.Machine.execCqEnable q s
  | .cqDisable q => Sys2Proof.Machine.execCqDisable q s
  | .writeInline cmd => Sys2Proof.Machine.execWriteInline cmd s
  | .copy cmd => Sys2Proof.Machine.execCopy cmd s
  | .copyItem cmd => Sys2Proof.Machine.execCopyItem cmd s
  | .fence cmd => Sys2Proof.Machine.execFence cmd s
  | .nop cmd => Sys2Proof.Machine.execNop cmd s
  | .query cmd => Sys2Proof.Machine.execQuery cmd s
  | .queryPlace => Sys2Proof.Machine.execQueryPlace s
  | .queryResultCollect => Sys2Proof.Machine.execQueryResultCollect s
  | .completionRecordWrite cmd => Sys2Proof.Machine.execCompletionRecordWrite cmd s
  | .pcieLinkTrain p gen width => Sys2Proof.Machine.execPcieLinkTrain p gen width s
  | .pcieRetrain p => Sys2Proof.Machine.execPcieRetrain p s
  | .pcieLinkLoss p loss => Sys2Proof.Machine.execPcieLinkLoss p loss s
  | .hostDetachAbort => Sys2Proof.Machine.execHostDetachAbort s
  | .bar2Access off n wr data fault => Sys2Proof.Machine.execBar2Access off n wr data fault s
  | .outboundAccess a n wr data xl => Sys2Proof.Machine.execOutboundAccess a n wr data xl s
  | .pcieUnexpCpl p => Sys2Proof.Machine.execPcieUnexpCpl p s
  | .pcieCplTimeout p cmd item => Sys2Proof.Machine.execPcieCplTimeout p cmd item s
  | .pciePoisonedTlp p item a n => Sys2Proof.Machine.execPciePoisonedTlp p item a n s
  | .pcieBar2BaseWrite v => Sys2Proof.Machine.execPcieBar2BaseWrite v s
  | .pcieCtrlWrite p v => Sys2Proof.Machine.execPcieCtrlWrite p v s
  | .flitGrant p => Sys2Proof.Machine.execFlitGrant p s
  | .flitCrcError p b uncorrectable => Sys2Proof.Machine.execFlitCrcError p b uncorrectable s
  | .flitAccept p b => Sys2Proof.Machine.execFlitAccept p b s
  | .ackRx p b => Sys2Proof.Machine.execAckRx p b s
  | .nakRx p b => Sys2Proof.Machine.execNakRx p b s
  | .ackTimer p => Sys2Proof.Machine.execAckTimer p s
  | .replayTimeout p => Sys2Proof.Machine.execReplayTimeout p s
  | .replayExhausted p => Sys2Proof.Machine.execReplayExhausted p s
  | .creditSyncRx p b => Sys2Proof.Machine.execCreditSyncRx p b s
  | .nullFlitRx p b => Sys2Proof.Machine.execNullFlitRx p b s
  | .sdataRx p => Sys2Proof.Machine.execSdataRx p s
  | .slNoRecv p => Sys2Proof.Machine.execSlNoRecv p s
  | .linkSend c => Sys2Proof.Machine.execLinkSend c s
  | .linkRecv c => Sys2Proof.Machine.execLinkRecv c s
  | .rreqRx p => Sys2Proof.Machine.execRreqRx p s
  | .bulkRx p => Sys2Proof.Machine.execBulkRx p s
  | .rackRx p => Sys2Proof.Machine.execRackRx p s
  | .slMsgTimeout msg => Sys2Proof.Machine.execSlMsgTimeout msg s
  | .mgmtFlitRx p => Sys2Proof.Machine.execMgmtFlitRx p s
  | .slnkRouteReload => Sys2Proof.Machine.execSlnkRouteReload s
  | .portTrain p => Sys2Proof.Machine.execPortTrain p s
  | .trainRateStep p => Sys2Proof.Machine.execTrainRateStep p s
  | .trainFlitTx p => Sys2Proof.Machine.execTrainFlitTx p s
  | .trainFlitRx p b acks => Sys2Proof.Machine.execTrainFlitRx p b acks s
  | .trainTimeout p => Sys2Proof.Machine.execTrainTimeout p s
  | .portRetrain p => Sys2Proof.Machine.execPortRetrain p s
  | .fecLockLoss p => Sys2Proof.Machine.execFecLockLoss p s
  | .portQuarantine p => Sys2Proof.Machine.execPortQuarantine p s
  | .portDown p lanesLost => Sys2Proof.Machine.execPortDown p lanesLost s
  | .slnkRetrainWrite p => Sys2Proof.Machine.execSlnkRetrainWrite p s
  | .slnkQuarClr p => Sys2Proof.Machine.execSlnkQuarClr p s
  | .slnkNodeWrite v => Sys2Proof.Machine.execSlnkNodeWrite v s
  | .ethFrameRx p b => Sys2Proof.Machine.execEthFrameRx p b s
  | .ethFrameResend p => Sys2Proof.Machine.execEthFrameResend p s
  | .collReduce c => Sys2Proof.Machine.execCollReduce c s
  | .collBcast c => Sys2Proof.Machine.execCollBcast c s
  | .collBarrier c => Sys2Proof.Machine.execCollBarrier c s
  | .collSummary c => Sys2Proof.Machine.execCollSummary c s
  | .cdataRx p => Sys2Proof.Machine.execCdataRx p s
  | .collChildTimeout c => Sys2Proof.Machine.execCollChildTimeout c s
  | .collTreeEnable g v => Sys2Proof.Machine.execCollTreeEnable g v s
  | .floodSnapshotAt p => Sys2Proof.Machine.execFloodSnapshotAt p s
  | .floodGlobalReset p => Sys2Proof.Machine.execFloodGlobalReset p s
  | .floodRequest p => Sys2Proof.Machine.execFloodRequest p s
  | .deviceFatalFault b ix code item addr => Sys2Proof.Machine.execDeviceFatalFault b ix code item addr s
  | .leaveStop => Sys2Proof.Machine.execLeaveStop s
  | .leaveRecords => Sys2Proof.Machine.execLeaveRecords s
  | .mbHalt => Sys2Proof.Machine.execMbHalt s
  | .localReset => Sys2Proof.Machine.execLocalReset s
  | .deviceReset => Sys2Proof.Machine.execDeviceReset s
  | .snapshot cmd => Sys2Proof.Machine.execSnapshot cmd s
  | .snapshotFreeze => Sys2Proof.Machine.execSnapshotFreeze s
  | .snapshotItemDone item => Sys2Proof.Machine.execSnapshotItemDone item s
  | .updHoldRelease => Sys2Proof.Machine.execUpdHoldRelease s
  | .restoreVerifyStored cmd item => Sys2Proof.Machine.execRestoreVerifyStored cmd item s
  | .restoreVerifyReplica cmd item => Sys2Proof.Machine.execRestoreVerifyReplica cmd item s
  | .restoreVerifyServe cmd item => Sys2Proof.Machine.execRestoreVerifyServe cmd item s
  | .rasLogTailWrite v => Sys2Proof.Machine.execRasLogTailWrite v s
  | .rasLogAppend b ix code item addr info => Sys2Proof.Machine.execRasLogAppend b ix code item addr info s
  | .sysResetDeassert straps => Sys2Proof.Machine.execSysResetDeassert straps s
  | .startupStageDone lp ms => Sys2Proof.Machine.execStartupStageDone lp ms s
  | .startFail => Sys2Proof.Machine.execStartFail s
  | .sysResetAssert => Sys2Proof.Machine.execSysResetAssert s
  | .vbusLow mv => Sys2Proof.Machine.execVbusLow mv s
  | .vbusLoss mv => Sys2Proof.Machine.execVbusLoss mv s
  | .vauxLoss => Sys2Proof.Machine.execVauxLoss s
  | .pwrOvercurrent da => Sys2Proof.Machine.execPwrOvercurrent da s
  | .governorDecision => Sys2Proof.Machine.execGovernorDecision s
  | .powerModeChange => Sys2Proof.Machine.execPowerModeChange s
  | .tjSample tj => Sys2Proof.Machine.execTjSample tj s
  | .pwrShutdown => Sys2Proof.Machine.execPwrShutdown s
  | .pwrModeReqWrite v => Sys2Proof.Machine.execPwrModeReqWrite v s
  | .pwrCapWrite burst v => Sys2Proof.Machine.execPwrCapWrite burst v s
  | .oscSample f => Sys2Proof.Machine.execOscSample f s
  | .sentinelSample codes => Sys2Proof.Machine.execSentinelSample codes s
  | .marginReplan => Sys2Proof.Machine.execMarginReplan s
  | .healthScore => Sys2Proof.Machine.execHealthScore s
  | .hullWrite => Sys2Proof.Machine.execHullWrite s
  | .hullNow => Sys2Proof.Machine.execHullNow s
  | .secConfirm => Sys2Proof.Machine.execSecConfirm s
  | .secSvnCommit => Sys2Proof.Machine.execSecSvnCommit s
  | .secRevoke v => Sys2Proof.Machine.execSecRevoke v s
  | .secDbgNonceRead => Sys2Proof.Machine.execSecDbgNonceRead s
  | .secDbgUnlock => Sys2Proof.Machine.execSecDbgUnlock s
  | .secDbgLock => Sys2Proof.Machine.execSecDbgLock s
  | .spdmGetVersion c => Sys2Proof.Machine.execSpdmGetVersion c s
  | .spdmGetCapabilities c => Sys2Proof.Machine.execSpdmGetCapabilities c s
  | .spdmNegotiateAlgorithms c ed sha => Sys2Proof.Machine.execSpdmNegotiateAlgorithms c ed sha s
  | .spdmGetDigests c => Sys2Proof.Machine.execSpdmGetDigests c s
  | .spdmGetCertificate c slot off len => Sys2Proof.Machine.execSpdmGetCertificate c slot off len s
  | .spdmChallenge c slot nonce => Sys2Proof.Machine.execSpdmChallenge c slot nonce s
  | .spdmGetMeasurements c ix nonce => Sys2Proof.Machine.execSpdmGetMeasurements c ix nonce s
  | .spdmUnsupported c => Sys2Proof.Machine.execSpdmUnsupported c s
  | .pldmPlatformRequest c q => Sys2Proof.Machine.execPldmPlatformRequest c q s
  | .pldmFirmwareUpdate c q => Sys2Proof.Machine.execPldmFirmwareUpdate c q s
  | .mctpApertureAccess c write off wide v => Sys2Proof.Machine.execMctpApertureAccess c write off wide v s
  | .i3cBroadcastTimeout => Sys2Proof.Machine.execI3cBroadcastTimeout s
  | .mgmtCtrlWrite r v => Sys2Proof.Machine.execMgmtCtrlWrite r v s
  | .aperBadAccess r off size write => Sys2Proof.Machine.execAperBadAccess r off size write s
  | .aperAbsent r off => Sys2Proof.Machine.execAperAbsent r off s
  | .aperSplitAccess r off write v => Sys2Proof.Machine.execAperSplitAccess r off write v s
  | .pgSoftReset r b ix => Sys2Proof.Machine.execPgSoftReset r b ix s
  | .pgFreezeWrite r b ix v => Sys2Proof.Machine.execPgFreezeWrite r b ix v s
  | .pgLevelWrite r b ix v => Sys2Proof.Machine.execPgLevelWrite r b ix v s
  | .pgIrqStatClear r b ix v => Sys2Proof.Machine.execPgIrqStatClear r b ix v s
  | .pgIrqForce r b ix v => Sys2Proof.Machine.execPgIrqForce r b ix v s
  | .pgErrFirstClear r b ix => Sys2Proof.Machine.execPgErrFirstClear r b ix s
  | .registerWrite r at_ wide v => Sys2Proof.Machine.execRegisterWrite r at_ wide v s
  | .lanesLocked p => Sys2Proof.Machine.execLanesLocked p s
  | .creditReturn p b => Sys2Proof.Machine.execCreditReturn p b s
  | .atsInvalidation a n => Sys2Proof.Machine.execAtsInvalidation a n s
  | .pcieD3hotExit => Sys2Proof.Machine.execPcieD3hotExit s
  | .vbusReturn mv => Sys2Proof.Machine.execVbusReturn mv s
  | .hullWriteDone ok => Sys2Proof.Machine.execHullWriteDone ok s
  | .fusingDone => Sys2Proof.Machine.execFusingDone s
  | .dcacheFlushDone t => Sys2Proof.Machine.execDcacheFlushDone t s
  | .l2FlushDone k => Sys2Proof.Machine.execL2FlushDone k s
  | .globalResetDone => Sys2Proof.Machine.execGlobalResetDone s
  | .offReady => Sys2Proof.Machine.execOffReady s
  | .i3cDynamicAddressAssignment addr => Sys2Proof.Machine.execI3cDynamicAddressAssignment addr s
  | .mctpSetEndpointId c eid => Sys2Proof.Machine.execMctpSetEndpointId c eid s
  | .cacheEviction p a => Sys2Proof.Machine.execCacheEviction p a s

end Sys2Proof.Machine
end

