-- ==== Sys2Proof/Machine/Step.lean ====
section
/-!
DEFINITION. Machine/Step.lean: one step: the command at the front of the queue runs on the state with
the queue's rest; on an empty queue the block idles.
-/
namespace Sys2Proof.Machine

/-- The state with its queue replaced. -/
def State.withPending (s : State) (l : List Instr) : State := { s with pending := l }

/-- One step. Idling on an empty queue changes nothing: what the manual lets a clock do alone is a row of
the table (TICK_BOUNDARY and its like; DESIGN CHOICE, safe: log entry 1). -/
def step (s : State) : Host.Outcome State Fault Refusal :=
  match s.pending with
  | [] => .next s
  | i :: rest => exec i (s.withPending rest)

/-- The state with the command that a word spells at the front of its queue; no word spells one. -/
def State.withFetchWord (s : State) (nbits w : Nat) : State :=
  match decodeTableWord nbits w with
  | some i => s.withPending (i :: s.pending)
  | none => s

end Sys2Proof.Machine
end

