-- ==== Sys2Proof/Safety.lean ====
section
/-!
DEFINITION. Safety.lean: what counts as a well-kept state: every sparse map in its canonical form, and the fuses
consistent with a commit in progress; and the terms in which the statements speak of engines at work and of what a command
leaves alone.
-/
namespace Sys2Proof.Machine

/-- The memory list is in canonical form: addresses strictly rising, no listed byte 0. -/
def Memory.wf (m : List Host.Cell) : Bool := smWf (fun _ => (0 : Byte)) m

/-- The register list is in canonical form: offsets strictly rising, no entry at its reset value. -/
def Regs.wf (m : List (Nat × DWord)) : Bool := smWf regReset m

/-- Every sparse map of the state is in canonical form, so that equal contents are equal data. -/
structure State.Wf (s : State) : Prop where
  mem : Memory.wf s.mem = true
  regs : Regs.wf s.regs = true
  poison : smWf (fun _ => false) s.poison = true
  flash : smWf (fun _ => (0xFF : Byte)) s.flash = true
  cores : smWf (fun _ => CoreSt.reset) s.cores = true
  ports : smWf (fun _ => PortSt.reset) s.ports = true
  queues : smWf (fun _ => QueueSt.reset) s.queues = true
  servers : smWf (fun _ => SrvSt.reset) s.servers = true
  berths : smWf (fun _ => []) s.berths = true
  tables : smWf (fun _ => []) s.tables = true

/-- A commit of SVN_MIN in progress blows fuses upward (R442). -/
def SecSt.fuseOk (x : SecSt) : Bool :=
  match x.fuseTo with
  | some t => decide (x.svnMin ≤ t)
  | none => true

/-- The fuses of `y` are those of `x` or more of them blown: SVN_MIN has not fallen, no revocation is undone, and root
slots are as they were made (R439, R442, R443). -/
structure SecSt.Grown (x y : SecSt) : Prop where
  svn : x.svnMin ≤ y.svnMin
  edRev : ∀ i, bit x.edRev i = true → bit y.edRev i = true
  mlRev : ∀ i, bit x.mlRev i = true → bit y.mlRev i = true
  edProg : y.edProg = x.edProg
  mlProg : y.mlProg = x.mlProg
  edRoots : y.edRoots = x.edRoots
  mlRoots : y.mlRoots = x.mlRoots

/-! ### Terms of the statements -/

/-- `t` differs from `s` in no register but those listed, and in nothing but registers. -/
structure State.OnlyRegs (s t : State) (l : List Nat) : Prop where
  rest : t = { s with regs := t.regs }
  others : ∀ o, o ∉ l → t.reg o = s.reg o

/-- The ME of core `c` has begun operation `o` and not ended it, and no line that it reads is poisoned. -/
structure State.MeRuns (s : State) (c : Nat) (o : SlotOp) : Prop where
  first : (s.core c).meOps.head? = some o
  begun : o.begun = true
  open_ : o.done = false
  works : o.hollow = false
  clean : s.poisonIn c (meSlot o.slot).spans.1 = none

/-- The state in which the ME's operation `o` writes its results: only its end is outstanding, and its item counts it as an
operation that made something (R143). -/
def State.meAt (s : State) (c : Nat) (o : SlotOp) : State :=
  (s.setMeOp c { o with done := true }).updCmd o.cmd (·.make o.item)

/-- The VE of core `c` has begun operation `o` and not ended it, and no line of the ranges `rs` that it reads is poisoned. -/
structure State.VeRuns (s : State) (c : Nat) (o : SlotOp) (rs : List Span) : Prop where
  first : (s.core c).veOps.head? = some o
  begun : o.begun = true
  open_ : o.done = false
  works : o.hollow = false
  clean : s.poisonIn c rs = none

/-- The state in which the VE's operation `o` writes its results. -/
def State.veAt (s : State) (c : Nat) (o : SlotOp) : State :=
  (s.setVeOp c { o with done := true }).updCmd o.cmd (·.make o.item)

/-- A load of `n` bytes at `a` finds its data (R228): the range is memory, its link up and its lines ready, nothing of it is
poisoned, and every tag that guards it holds. -/
structure State.Fetchable (s : State) (o : SlotOp) (a n : Nat) : Prop where
  mapped : s.mappedMem a n = true
  up : s.outDown a = false
  ready : s.cohReady [(a, n)] = true
  clean : (s.unitsIn a n).find? s.poisoned = none
  tags : ∀ g ∈ s.guarded [(a, n)], s.checkTag g.1 (genAt o.rgen g.1) g.2 = .ok

/-- The commands on keys, fuses, debug and the management port, but for the aperture access that one of its messages makes. -/
def guardCommand : Instr → Bool
  | .secConfirm | .secSvnCommit | .fusingDone | .secRevoke _ | .secDbgNonceRead | .secDbgUnlock | .secDbgLock => true
  | .spdmGetVersion _ | .spdmGetCapabilities _ | .spdmNegotiateAlgorithms _ _ _ | .spdmGetDigests _ | .spdmGetCertificate _ _ _ _
  | .spdmChallenge _ _ _ | .spdmGetMeasurements _ _ _ | .spdmUnsupported _ => true
  | .pldmPlatformRequest _ _ | .pldmFirmwareUpdate _ _ | .mctpSetEndpointId _ _ | .i3cBroadcastTimeout
  | .i3cDynamicAddressAssignment _ | .mgmtCtrlWrite _ _ => true
  | _ => false

/-- Commands on the tick unit, flags, page headers, power requests and oscillators that store nothing to memory. -/
def storelessCommand : Instr → Bool
  | .tmarkPulse _ _ | .tmarkMissing | .tmarkMissLimit | .tickCopyCompare _ _ _ | .tickSourceLoss | .tickFailover | .tlateSample _ _
  | .tickCfgWrite _ | .tickCfgApply | .seqFlagSet _ _ | .seqFlagClr _ _ => true
  | .pgFreezeWrite _ _ _ _ | .pgLevelWrite _ _ _ _ | .pgIrqStatClear _ _ _ _ | .pgIrqForce _ _ _ _ | .pgErrFirstClear _ _ _ => true
  | .pwrModeReqWrite _ | .pwrCapWrite _ _ | .pwrShutdown | .oscSample _ | .sentinelSample _ | .hullNow | .rasLogTailWrite _ => true
  | _ => false

end Sys2Proof.Machine
end

