-- ==== Sys2Proof/WellFormed.lean ====
section
/-!
DEFINITION. WellFormed.lean: which operands name something the block has. Every command has its meaning on every operand: one
whose operands name nothing changes nothing, and a list of the wrong length is cut or filled up with zeros (DESIGN CHOICE:
log entries 2 and 3).
-/
namespace Sys2Proof
open Sys2Proof.Machine

/-- A flit is 256 bytes (R343). -/
def flitSized (b : Bytes) : Bool := b.length == 256

/-- Bytes that an access moves: what is written, or as many as are read. -/
def accessLen (n : Nat) (wr : Bool) (data : Bytes) : Nat := if wr then data.length else n

/-- The operands of a command name something the block has. -/
def Instr.wellFormed : Instr → Bool
  | .tmarkPulse width _ => width != 0
  | .tideBoundary m => tideMeasOk m
  | .deckLbAccess _ off n wr data =>
    [1, 2, 4, 8, 16, 32, 64].contains n && off % n == 0 && decide (off + n ≤ 0x400000) && (!wr || data.length == n)
  | .homeBulkRd _ a n => bulkOk a n
  | .homeWrLine _ _ data => data.length == 64
  | .homeBulkWr _ a data => bulkOk a (data.length / 64) && data.length % 64 == 0
  | .homeWrPart _ _ _ data => data.length == 64
  | .homeAmoFar _ _ _ wide a _ => a % amoBytes wide == 0
  | .homeRecall _ a n => bulkOk a n
  | .atomicOp core op form a _ => atomKnown core op form.size && a % atomBytes form.size == 0
  | .pcieLinkTrain _ gen width => gen != 0 && widthOk width
  | .bar2Access _ n wr data _ => accessLen n wr data != 0 && decide (accessLen n wr data ≤ 4096)
  | .outboundAccess a n wr data _ => accessLen n wr data != 0 && decide (0xE000000000000 ≤ a ∧ a < 0xF000000000000)
  | .flitCrcError _ b _ => flitSized b
  | .flitAccept _ b => flitSized b
  | .ackRx _ b => flitSized b
  | .nakRx _ b => flitSized b
  | .creditSyncRx _ b => flitSized b
  | .nullFlitRx _ b => flitSized b
  | .creditReturn _ b => flitSized b
  | .trainFlitRx _ b _ => flitSized b
  | .ethFrameRx _ b => b.length == 20 + 248 * fld b 2 1
  | .deviceFatalFault b i code _ _ => (errClass b code).any (fun c => decide (i < b.count ∧ c.1 = clsFatal))
  | .rasLogAppend b i code _ _ _ => (errClass b code).isSome && decide (i < b.count)
  | .tjSample tj => tj.length == 6 && tj.all (fun t => decide (-128 ≤ t ∧ t ≤ 127))
  | .oscSample f => f.length == domains
  | .sentinelSample codes => codes.length == 192
  | .spdmGetMeasurements _ _ nonce => nonce.length == 32
  | .pldmFirmwareUpdate _ (.page b) => decide (0 < b.length ∧ b.length ≤ 256)
  | .mctpApertureAccess _ _ off _ _ => decide (off < aperSize)
  | .aperBadAccess _ off size _ => decide (off < aperSize) && size != 0 && badShape off size
  | .aperAbsent _ off => decide (off < aperSize) && (pageOf off).isNone
  | .aperSplitAccess _ off _ _ => decide (off < aperSize) && (halfOf off).isSome
  | .pgSoftReset _ b i => decide (i < b.count)
  | .pgFreezeWrite _ b i _ => decide (i < b.count)
  | .pgLevelWrite _ b i _ => decide (i < b.count)
  | .pgIrqStatClear _ b i _ => decide (i < b.count)
  | .pgIrqForce _ b i _ => decide (i < b.count)
  | .pgErrFirstClear _ b i => decide (i < b.count)
  | .registerWrite _ (.aperture off) _ _ => decide (off < aperSize)
  | .registerWrite r (.bar4 off) _ _ => r == .portA && decide (off < 0x20000)
  | .registerWrite r (.config _) _ _ => r == .portA
  | _ => true

end Sys2Proof
end

