-- ==== Sys2Proof/Certificates/Slice0/Obligations.lean ====
section
/-!
DEFINITION. Certificates/Slice0/Obligations.lean: the statements for the provers. Each says which commands it is about;
`exec c s = .next t` is the answer of command `c` on state `s`. An equation for `t` names every change that the command
makes: what it does not name is as it was.
-/
open Sys2Proof Sys2Proof.Machine

/-! ## The machine -/

/-- A step takes the command at the front of the queue and runs it on the state with the queue's rest; with no command waiting the
block idles (DESIGN CHOICE, log entry 1). -/
def Obligations.StepRunsFrontCommand : Prop :=
  (∀ (c : Instr) (l : List Instr) (s : State), step (s.withPending (c :: l)) = exec c (s.withPending l))
  ∧ (∀ s : State, step (s.withPending []) = .next (s.withPending []))

/-- Right after reset every sparse map is in canonical form, no commit of fuses is in progress, the queue is empty and
nothing has left the block. -/
def Obligations.ResetIsWellKept : Prop :=
  State.reset.Wf ∧ State.reset.sec.fuseOk = true ∧ State.reset.pending = [] ∧ State.reset.out = []

/-- Every step keeps every sparse map of the state (memory, registers, poison, boot flash, cores, ports, queues, servers,
berths, decode tables) in canonical form. -/
def Obligations.EveryStepKeepsCanonicalForm : Prop :=
  ∀ s t : State, s.Wf → step s = .next t → t.Wf

/-- No step undoes a fuse: SVN_MIN never falls, no revocation is lifted, programmed root slots and their hashes stay; and
a commit in progress still leads upward. Power loss, device reset and failed updates are steps like any other. -/
def Obligations.FusesOnlyGrow : Prop :=
  ∀ s t : State, s.sec.fuseOk = true → step s = .next t → t.sec.fuseOk = true ∧ s.sec.Grown t.sec

/-- No command touches the queue behind it, and what has left the block stays at the end of its output. -/
def Obligations.QueueAndOutputAreKept : Prop :=
  ∀ (c : Instr) (s t : State), exec c s = .next t → t.pending = s.pending ∧ s.out <:+ t.out ∧ s.free ≤ t.free

/-- Every command, well formed or not, answers a next state on every state: none ends in a fault and none is refused; and
whatever it does, it leaves the queue behind it alone and only adds to the output. -/
def Obligations.WellFormedCommandsComplete : Prop :=
  ∀ (c : Instr) (s : State), ∃ t, exec c s = .next t ∧ t.pending = s.pending ∧ s.out <:+ t.out

/-! ## Ticks, tick records and timetables (chapter 02) -/

/-- TMARK decoding (R35, R37): a pulse on the grid resets the count of missing marks and advances TICK_GRID; a tide mark
in the wrong tick is device-fatal; a malformed, missing or stray pulse is logged; and TMARK_MISS_LIMIT missing marks lose
the lock. -/
def Obligations.TmarkDecoding : Prop :=
  ∀ s : State,
    let u : State := { s with tick := { s.tick with miss := 0 } }
    let m : State := { s with tick := { s.tick with miss := s.tick.miss + 1 } }
    let due : Prop := (s.grid + 1) % 2 ^ 64 % 1000000 = 0
    (s.locked = true → ¬due → exec (.tmarkPulse 1 true) s = .next u.gridUp)
    ∧ (s.locked = true → due → exec (.tmarkPulse 3 true) s = .next u.gridUp)
    ∧ (s.locked = true → ¬due → exec (.tmarkPulse 3 true) s = .next (u.logErr pTICK 0x04 clsFatal LogInfo.none))
    ∧ (s.locked = true → due → exec (.tmarkPulse 1 true) s = .next (u.gridUp.tickEvent 0x03))
    ∧ (∀ w, s.locked = true → w = 2 ∨ 4 ≤ w → exec (.tmarkPulse w true) s = .next (u.gridUp.tickEvent 0x03))
    ∧ (∀ w, s.locked = true → 1 ≤ w → exec (.tmarkPulse w false) s = .next (s.tickEvent 0x02))
    ∧ (∀ w b, s.locked = false → 1 ≤ w → exec (.tmarkPulse w b) s = .next s)
    ∧ (s.locked = true → exec .tmarkMissing s = .next (m.gridUp.tickEvent 0x01))
    ∧ (s.locked = true → s.field (pTICK + Off.TICK_CFG) 23 16 ≤ s.tick.miss →
        exec .tmarkMissLimit s = .next (s.logErr pTICK 0x06 clsFatal LogInfo.none))

/-- A grid mark that is no tide mark counts in TICK_GRID and changes nothing else: every other register, every unit's state
and every byte of memory is as it was, but that the count of missing marks is 0 (R35, R37). -/
def Obligations.GridMarkCountsAndChangesNothingElse : Prop :=
  ∀ s : State, s.Wf → s.locked = true → (s.grid + 1) % 2 ^ 64 % 1000000 ≠ 0 →
    ∃ t, exec (.tmarkPulse 1 true) s = .next t ∧ t.grid = (s.grid + 1) % 2 ^ 64 ∧ t.tick.miss = 0
      ∧ t = { s with regs := t.regs, tick := { s.tick with miss := 0 } }
      ∧ (∀ o, o ≠ pTICK + Off.TICK_GRID → t.reg o = s.reg o) ∧ ∀ a, t.rd8 a = s.rd8 a

/-- The two copies of the tick unit (R39): a difference while both are in service is device-fatal, a loss in one copy makes
the other take over at the next boundary, and the loss of the last copy loses the lock.
TLATE (R38, R57): STRICT mode counts a sampled notice and changes nothing else; a low level at any other edge but that of
cycle 0 is one stray a tick; a level at the edge of cycle 0 is neither acted on nor logged. -/
def Obligations.TickCopiesAndTlateLevels : Prop :=
  (∀ s : State,
      let single := bit (s.regN (pTICK + Off.TICK_STAT)) 2
      (∀ g n p, single = false → s.tick.failover = false →
        ¬(g = s.reg (pTICK + Off.TICK_GRID) ∧ n = s.reg (pTICK + Off.TICK_NOW) ∧ p = s.phase) →
        exec (.tickCopyCompare g n p) s = .next (s.logErr pTICK 0x05 clsFatal LogInfo.none))
      ∧ (∀ g n p, single = true → exec (.tickCopyCompare g n p) s = .next s)
      ∧ (single = false → exec .tickSourceLoss s = .next { s with tick := { s.tick with failover := true } })
      ∧ (single = true → exec .tickSourceLoss s = .next (s.logErr pTICK 0x06 clsFatal LogInfo.none))
      ∧ (s.tick.failover = true → exec .tickFailover s = .next ((((
          { s with tick := { s.tick with failover := false } }).setTickStat 1 true).setTickStat 2 true).logCorr pTICK 0x07)))
  ∧ (∀ s : State,
      (s.elastic = false → exec (.tlateSample 1 true) s = .next (s.bump pTICK Off.TICK_EVENT_CNT 1))
      ∧ (s.elastic = true → s.tick.applied.contains (s.now - 1) = false → ∃ t, exec (.tlateSample 1 true) s = .next t
          ∧ t.tick.applied = (s.now - 1) :: s.tick.applied ∧ t.tick.stretch = s.tick.stretch + 1
          ∧ t.tick.lag = s.tick.lag + (stretchRef s.pmode : Int))
      ∧ (∀ k, 2 ≤ k → s.tick.strayLogged = false →
          exec (.tlateSample k true) s = .next (({ s with tick := { s.tick with strayLogged := true } }).tickEvent 0x08))
      ∧ (∀ k, 2 ≤ k → s.tick.strayLogged = true → exec (.tlateSample k true) s = .next s)
      ∧ exec (.tlateSample 0 true) s = .next s)

/-- Lock at start-up (R36, R41): a root device, or one with no trained port, loads TICK_GRID and TICK_NOW with
1,000,000 · TICK_TIDE_SET and is rooted exactly with ROOT; any other loads a neighbour's JOIN record and is rooted exactly
when that neighbour is; and without a tide mark in time start-up ends with TICK_LOCK_LOST.
TIDE and JOIN records (R42, R43): a record between two rooted devices is checked, and its sender counts once among the
neighbours checked in the tide; a malformed one is a violation; before lock a JOIN record is kept for the tide mark; a
rooted one is kept while every SEQ is IDLE; and at its mark an unrooted device adopts it.
TICK_CFG (R64): a write waits for the boundary; there it takes effect if every SEQ is IDLE and is otherwise ignored and
logged; a HORIZON or TMARK_MISS_LIMIT of 0 keeps the field's value and is logged. -/
def Obligations.GridIsLockedCheckedAndConfigured : Prop :=
  (∀ s : State, s.locked = false →
      (s.powered 3 = true → bit (s.regN (pTICK + Off.TICK_CFG)) 1 = true ∨ s.trainedPorts = [] →
        let n := 1000000 * s.regN (pTICK + Off.TICK_TIDE_SET)
        let u : State := (s.setRegN (pTICK + Off.TICK_GRID) n).setNow n
        let u : State := { u with tick := { u.tick with lag := 0, miss := 0, tideSeen := some u.tide, join := none } }
        exec .gridLock s = .next ((u.setTickStat 0 true).setTickStat 4 (bit (s.regN (pTICK + Off.TICK_CFG)) 1)).tideMark)
      ∧ (∀ j, s.powered 3 = true → bit (s.regN (pTICK + Off.TICK_CFG)) 1 = false → s.trainedPorts ≠ [] → s.tick.join = some j →
        exec .gridLock s = .next (((s.loadJoin j).setTickStat 0 true).setTickStat 4 j.rooted).tideMark)
      ∧ (s.pwr.phase = .starting →
        exec .tickLockWaitTimeout s = .next (({ s.logErr pTICK 0x06 clsFatal LogInfo.none with
          pwr := { s.pwr with phase := .failed } } : State).setPwrStat 15 15 1)))
  ∧ (∀ (s : State) (p : PortIx),
      (∀ f, s.firstRx p 0x0A = some f → leNat ((f.payload.drop 0).take 1) = 1 → leNat ((f.payload.drop 1).take 1) = 0 →
        leNat ((f.payload.drop 2).take 1) = 1 → leNat ((f.payload.drop 3).take 5) = 0 → allZero (f.payload.drop 0x18) = true →
        s.rooted = true →
        exec (.tideRecordRx p) s = .next (((s.dropRx p f).notePeer p true).checked p
          (s.tideDisagrees f.tick (leNat ((f.payload.drop 8).take 8)) (leNat ((f.payload.drop 0x10).take 8)))))
      ∧ (∀ f, s.firstRx p 0x0A = some f → leNat ((f.payload.drop 0).take 1) ≠ 1 →
        exec (.tideRecordRx p) s = .next ((s.dropRx p f).viol p 0x09 4))
      ∧ (∀ f j, s.firstRx p 0x09 = some f → parseJoin f.payload = some j → s.locked = false →
        exec (.joinRecordRx p) s = .next { (s.dropRx p f).notePeer p j.rooted with
          tick := { ((s.dropRx p f).notePeer p j.rooted).tick with join := some j } })
      ∧ (∀ f, s.firstRx p 0x09 = some f → parseJoin f.payload = none → exec (.joinRecordRx p) s = .next ((s.dropRx p f).viol p 0x09 4))
      ∧ (∀ f j, s.firstRx p 0x09 = some f → parseJoin f.payload = some j → s.locked = true → s.rooted = true → j.rooted = true →
        exec (.joinRecordRx p) s = .next (((s.dropRx p f).notePeer p true).checked p (s.joinDisagrees j)))
      ∧ (∀ j, s.tick.join = some j → s.locked = true → s.rooted = false → j.rooted = true →
        exec .tickRejoin s = .next (((s.loadJoin j).setTickStat 4 true).logCorr pTICK 0x0B)))
  ∧ (∀ s : State,
      (∀ v : Word, bits v.toNat 15 8 ≠ 0 → bits v.toNat 23 16 ≠ 0 → exec (.tickCfgWrite v) s = .next { s with tick := { s.tick with
        cfgPend := some (BitVec.ofNat 32 (bits v.toNat 1 0 + bits v.toNat 15 8 * 0x100 + bits v.toNat 23 16 * 0x10000)) } })
      ∧ (∀ v : Word, bits v.toNat 15 8 = 0 → bits v.toNat 23 16 = 0 → exec (.tickCfgWrite v) s = .next (({ s with tick := { s.tick with
        cfgPend := some (BitVec.ofNat 32 (bits v.toNat 1 0 + bits (s.regN (pTICK + Off.TICK_CFG)) 15 8 * 0x100 +
          bits (s.regN (pTICK + Off.TICK_CFG)) 23 16 * 0x10000)) } } : State).logCorr pTICK 0x0A))
      ∧ (∀ v : Word, s.tick.cfgPend = some v → s.allIdle = true →
        exec .tickCfgApply s = .next (((({ s with tick := { s.tick with cfgPend := none } } : State).setRegN (pTICK + Off.TICK_CFG) v.toNat)
          ).setTickStat 4 (bit v.toNat 1 || s.tick.adopted)))
      ∧ (∀ v : Word, s.tick.cfgPend = some v → s.allIdle = false →
        exec .tickCfgApply s = .next (({ s with tick := { s.tick with cfgPend := none } }).logCorr pTICK 0x0A)))

/-- A tick boundary (R44): the tick in course ends, with its late sailings and notice, and the next begins with the notices,
soft resets, region generations and hand-offs that were due in it, and with the orderly shutdown where one was asked for.
In a device with no core in use TICK_NOW grows by one, TIDE_NOW is its number of whole tides, and memory is as it was (R40). -/
def Obligations.TickBoundaryBeginsNextTick : Prop :=
  ∀ s : State, s.ticking = true →
    (exec .tickBoundary s = .next (let u := s.endTick.dueNotices.softResets.applyRgen.beginCores
      if u.pwr.shutPend then u.shutDown else u))
    ∧ (s.Wf → s.cores = [] → s.tick.govReq = false → s.tick.notices = [] → s.softReset = [] →
      s.rgenPend = [] → s.pwr.shutPend = false →
      ∃ t, exec .tickBoundary s = .next t ∧ t.now = (s.now + 1) % 2 ^ 64
        ∧ t.tide = (s.now + 1) % 2 ^ 64 / 1000000 % 2 ^ 32 ∧ t.mem = s.mem)

/-- RUN_TIMETABLE (R323): on a correct command whose named cores are IDLE each named SEQ goes to VERIFY with its own
timetable. The load check (R47, R48) reads it once and decides when every named core has read.
SAILING_ISSUE (R49, R50, R58): the record in course issues in its tick: SEQ_POS names it, SEQ_STATE shows its item and RUN,
or DRAIN after the last issue of the last record; the first issue makes its sailing, and after the last of its issues the
next record is in course.
The end of an item (R323, R143): once no named core has work left for an item of a timetable, the item ends with the
status that its operations give; with the command's last item its timetables end on every core. -/
def Obligations.TimetablesAreReadIssuedAndEnded : Prop :=
  (∀ (s : State),
      (∀ cmd k, s.fresh cmd 0x0001 = some k → s.outDown k.table = false →
        s.anyPoison k.table (16 * (s.ttEntries k.table k.cargo).length) = false →
        s.ttCmdOk k.table k.cargo = true → (s.ttEntries k.table k.cargo).all (fun e => s.seqIdle e.1) = true →
        exec (.runTimetable cmd) s = .next ((s.ttEntries k.table k.cargo).foldl (fun (u : State) e =>
          ((u.setCore e.1 { u.core e.1 with tt := some {
            cmd := cmd, bytes := [], poisoned := false, start := k.start, first := 0, pos := 0, issues := 0, enq := [],
            lastTick := none, read := false, refused := none, checked := false } }).setRegN (pSEQ e.1 + Off.SEQ_TT_ADDR) e.2).setRegN
            (pSEQ e.1 + Off.SEQ_STATE) 1) (s.beginCmd cmd)))
      ∧ (∀ (c : CoreIx) t k a, (s.core c).tt = some t → t.read = false → s.cmd? t.cmd = some k → a = s.regN (pSEQ c + Off.SEQ_TT_ADDR) →
        s.loadCheck c a k.items = none →
        exec (.timetableLoadCheck c) s = .next ((s.setCore c { s.core c with
          tt := some { t with bytes := s.rdBytes a (64 + 256 * ttCount (s.rdBytes a 64)), read := true, refused := none } }).ttDecide t.cmd)))
  ∧ (∀ (s : State) (c : CoreIx) t, (s.core c).tt = some t → t.checked = true → t.pos < ttCount t.bytes → t.nextTick ≤ s.now →
      t.lastTick ≠ some s.now → s.recFailed t t.pos = false →
      (if t.issues = 0 then (s.core c).sailings.any (fun x => x.recIx == t.pos) = false else s.issueHollow c t = false) →
      let u := if t.issues = 0 then s.firstIssue c t else s
      let last := decide (recRepeat (ttRec t.bytes t.pos) ≤ t.issues + 1)
      let t' := { t with pos := if last then t.pos + 1 else t.pos, issues := if last then 0 else t.issues + 1, lastTick := some s.now }
      exec (.sailingIssue c) s = .next ((((u.setCore c { u.core c with tt := some t' }).setRegN (pSEQ c + Off.SEQ_POS) t.pos).setRegN
        (pSEQ c + Off.SEQ_STATE) ((if ttCount t.bytes ≤ t'.pos then 5 else 3) + recItem (ttRec t.bytes t.pos) * 256)).checkWaits c))
  ∧ (∀ (s : State) (cmd item : Nat) k, s.cmd? cmd = some k → k.opcode = 1 → k.begun = true → k.itemEnded item = false → item < k.items →
      (s.ttCores cmd).isEmpty = false → (s.ttCores cmd).any (fun e => s.itemBusy item e.1 e.2) = false →
      let u := s.endItem cmd item (s.ttStatus k item)
      exec (.itemEnd cmd item) s = .next
        (if (u.cmd? cmd).any (·.allEnded) then (u.ttCores cmd).foldl (fun (s : State) e => s.ttEnd e.1) u else u))

/-- Engines take their first operation once its sailing's flags are seen and its data has landed (R52, R54, R91, R119); the
oldest sailing whose work has retired leaves and posts its signals (R45, R51), poisoned when it is hollow or its item has
failed (R58).
Flags (R51, R65): a signal from another die sets its flag; SEQ_FLAG_SET posts clean the flags that bits [63:32] name and
no other, for the tick that follows (R30); SEQ_FLAG_CLR clears the flags named and their poison bits. -/
def Obligations.EnginesStartSailingsCompleteFlagsPost : Prop :=
  (∀ (s : State) (c : CoreIx),
      (∀ o x rest, (s.core c).meOps = o :: rest → s.sailing c o.first = some x → o.begun = false → x.waited = true → x.hollow = false →
        s.maskReady c o = true → s.engineClear c { o.todo with unit := 0 } = true →
        exec (.engineStart c .me) s = .next (s.meBegin c o))
      ∧ (∀ o x rest e u, (s.core c).veOps = o :: rest → s.sailing c o.recIx = some x → o.begun = false → x.waited = true → x.hollow = false →
        (e = Engine.ve0 ∧ u = 0 ∨ e = Engine.ve1 ∧ u = 1) → o.unit = u →
        s.engineClear c { o.todo with unit := 1 + u } = true → s.veHazard c o = false →
        exec (.engineStart c e) s = .next (s.veBegin c o))
      ∧ (∀ o x rest, (s.core c).veOps = o :: rest → s.sailing c o.recIx = some x → o.begun = false → x.waited = true → x.hollow = false →
        bit (s.regN (pVE c + Off.VE_STAT)) 2 = true → s.veHazard c o = false →
        s.engineClear c { o.todo with unit := 1 + o.unit } = true →
        exec (.veHazardClear c) s = .next (s.veBegin c o))
      ∧ (∀ x k cyc, (s.core c).sailings.find? s.sailingDone = some x → x.hollow = false → s.cmd? x.cmd = some k →
        exec (.sailingComplete c cyc) s =
          .next ((s.raiseTo (pSEQ c) Off.SEQ_COST_MAX (min cyc 0xFFFFFFFF)).endSailing c x (k.itemFailed x.item)))
      ∧ (∀ x cyc, (s.core c).sailings.find? s.sailingDone = some x → x.hollow = true →
        exec (.sailingComplete c cyc) s = .next (s.endSailing c x true)))
  ∧ (∀ (s : State) (c : CoreIx),
      (∀ m, s.signals.find? (fun m => m.core == c.val) = some m →
        exec (.signalArrival c) s = .next (({ s with signals := s.signals.erase m }).postFlags c (2 ^ m.flag) m.poison))
      ∧ (∀ v : DWord, exec (.seqFlagSet c v) s = .next (s.handFlags c (v.toNat / 2 ^ 32 * 2 ^ 32)))
      ∧ (∀ v : DWord, s.Wf → ∃ t, exec (.seqFlagClr c v) s = .next t
        ∧ t.flags c = without (s.flags c) v.toNat ∧ t.flagPoison c = without (s.flagPoison c) v.toNat
        ∧ t = { s with regs := t.regs, cores := t.cores }
        ∧ ∀ o, o ≠ pg .seq c + Off.SEQ_FLAGS → o ≠ pg .seq c + Off.SEQ_POISON → t.reg o = s.reg o))

/-! ## The matrix engine (chapter 04) -/

/-- Every operation of the ME, once begun, writes its results and then has only its end outstanding: the native and F3
products (R96, R97, R102, R106), the D-mode product (R110), MERGE in FIXED order, or in FIRST-COME order once every partial
is in (R101, R111), DRAIN (R102, R105), DSCAN (R108) and DSLICE (R109). -/
def Obligations.MatrixOperationsWriteTheirResults : Prop :=
  ∀ (s : State) (c : CoreIx) (o : SlotOp), s.MeRuns c o →
    let x := meSlot o.slot
    let t := s.meAt c o
    (x.op = 1 → x.arith = 0 → exec (.meMma c) s = .next (t.mmaRun c x))
    ∧ (x.op = 1 → x.arith = 1 → exec (.meMmaF3 c) s = .next (t.mmaRun c x))
    ∧ (x.op = 1 → x.dmode = true → exec (.meMmaD c) s = .next (t.mmaDRun c x))
    ∧ (x.op = 2 → x.dmode = false → x.first = false → exec (.meMerge c) s = .next ((t.mergePart c x 0).mergeEnd c x))
    ∧ (x.op = 2 → x.dmode = false → x.first = true → (s.core c).allMerged x = true →
        exec (.meMerge c) s = .next ((t.bump (pME c) Off.ME_FC_CNT 1).mergeEnd c x))
    ∧ (x.op = 2 → x.dmode = true → x.first = false → exec (.meMergeD c) s = .next (t.mergeDRun c x))
    ∧ (x.op = 2 → x.dmode = true → x.first = true → (s.core c).allMerged x = true →
        exec (.meMergeD c) s = .next (t.mergeDRun c x))
    ∧ (x.op = 3 → exec (.meDrain c) s = .next (t.drainRun c x))
    ∧ (x.op = 4 → exec (.meDscan c) s = .next (t.dscanRun c x))
    ∧ (x.op = 5 → exec (.meDslice c) s = .next (t.dsliceRun c x))

/-- An ME operation that reads a poisoned line makes no result: its item fails with FAIL_MEM_UE and the engine has only its
end outstanding (R220).
MERGE_PARTIAL (R101): in FIRST-COME order the partial whose flag was set first is added and counted as merged; one whose
flag was set with poison makes the operation hollow and fails its item with FAIL_ABORTED (R58).
The end of an engine operation (R91, R119): the operation leaves, the engine shows itself idle, an operation that ran is
counted, and its sailings no longer wait for it. -/
def Obligations.EngineOperationsFailMergeAndEnd : Prop :=
  (∀ (s : State) (c : CoreIx) (o : SlotOp) (rest : List SlotOp) (a : Nat), (s.core c).meOps = o :: rest → o.begun = true →
      o.done = false → o.hollow = false → (meSlot o.slot).op = 1 → (meSlot o.slot).arith = 0 →
      s.poisonIn c (meSlot o.slot).spans.1 = some a →
      exec (.meMma c) s = .next ((s.setMeOp c { o with done := true }).landUE c o a))
  ∧ (∀ (s : State) (c : CoreIx) (o : SlotOp) (p : Nat), (s.core c).meOps.head? = some o → o.begun = true → o.done = false →
      o.hollow = false → (meSlot o.slot).op = 2 → (meSlot o.slot).first = true → (s.core c).nextPartial (meSlot o.slot) = some p →
      let x := meSlot o.slot
      let u := s.setCore c { s.core c with merged := (s.core c).merged ++ [p] }
      (bit (s.flagPoison c) (x.flag0 + p) = false → x.dmode = true → exec (.meMergePartial c) s = .next u)
      ∧ (bit (s.flagPoison c) (x.flag0 + p) = false → x.dmode = false → s.poisonIn c [(x.a + 65536 * p * x.nb, 65536 * x.nb)] = none →
          exec (.meMergePartial c) s = .next (u.mergePart c x p))
      ∧ (bit (s.flagPoison c) (x.flag0 + p) = true →
          exec (.meMergePartial c) s = .next ((s.failItem o.cmd o.item Status.ABORTED).setMeOp c { o with done := true, hollow := true })))
  ∧ (∀ (s : State) (c : CoreIx) (o : SlotOp) (rest : List SlotOp), o.done = true → o.hollow = false →
      ((s.core c).meOps = o :: rest →
        let u := (s.setCore c { s.core c with
          meOps := rest, masks := (s.core c).masks.filter (·.recIx ≠ o.first), merged := [], dstore := [] }).settleSets c
        exec (.meOpComplete c) s = .next ((((u.setField (pME c + Off.ME_STAT) 9 8 0).setField (pME c + Off.ME_STAT) 26 16 0).bump
          (pME c) Off.ME_OP_CNT 1).opEnded c o true 0))
      ∧ ((s.core c).veOps = o :: rest →
        let u := s.setCore c { s.core c with veOps := rest }
        exec (.veOpComplete c) s = .next ((((u.setField (pVE c + Off.VE_STAT) 1 0 0).setField (pVE c + Off.VE_STAT) 15 8 0).bump
          (pVE c) Off.VE_OP_CNT 1).opEnded c o false o.unit)))

/-- An INT32 accumulator saturates and says so (R97): the value added is the exact sum where that fits, and otherwise the
nearer bound of the range. -/
def Obligations.IntegerAccumulatorsSaturate : Prop :=
  ∀ v : Int,
    (-(2 ^ 31 : Int) ≤ v → v ≤ 2 ^ 31 - 1 → sat32 v = (v, false))
    ∧ (v < -(2 ^ 31 : Int) → sat32 v = (-(2 ^ 31 : Int), true)) ∧ (2 ^ 31 - 1 < v → sat32 v = (2 ^ 31 - 1, true))

/-! ## The vector engine, random numbers and prep cores (chapters 05 to 07) -/

/-- Each elementwise operation of the VE (R116, R118, R122, R168), once begun, writes the converted value of every element
and counts the cycles in which its chunks entered the lanes (R127). -/
def Obligations.ElementwiseOperationsWriteEveryElement : Prop :=
  ∀ (s : State) (c : CoreIx) (o : SlotOp), s.VeRuns c o (veSlot o.slot).spans.1 →
    let x := veSlot o.slot
    let t := s.veAt c o
    let out := fun (n : Nat) (f : Nat → Nat → FVal) => Host.Outcome.next (φ := Fault) (ρ := Refusal)
      ((t.veOut c x (fun i => (upTo 0 x.outCols).map (f i))).veBusy c (x.rows * n * x.ch))
    let a := t.a32 c x
    let b := fun i k => enc32 (t.veB c x i k)
    (x.op = 0x01 → exec (.veAdd c) s = out 1 (t.ewise c x))
    ∧ (x.op = 0x02 → exec (.veSub c) s = out 1 (t.ewise c x))
    ∧ (x.op = 0x03 → exec (.veMul c) s = out 1 (t.ewise c x))
    ∧ (x.op = 0x04 → exec (.veFma c) s = out 1 (t.ewise c x))
    ∧ (x.op = 0x05 → exec (.veMax2 c) s = out 1 (t.ewise c x))
    ∧ (x.op = 0x06 → exec (.veMin2 c) s = out 1 (t.ewise c x))
    ∧ (x.op = 0x07 → exec (.veScale c) s = out 1 (fun i k => dec32 (mul32 (a i k) x.imm)))
    ∧ (x.op = 0x08 → exec (.veConvert c) s = out 1 (t.veA c x))
    ∧ (x.op = 0x09 → exec (.veDiv c) s = out 4 (fun i k => dec32 (div32 (a i k) (b i k))))
    ∧ (x.op = 0x0A → exec (.veSqrt c) s = out 4 (fun i k => dec32 (sqrt32 (a i k))))
    ∧ (x.op = 0x0B → exec (.veExp2 c) s = out 2 (fun i k => dec32 (fnExp2 (a i k))))
    ∧ (x.op = 0x0C → exec (.veExp c) s = out 2 (fun i k => dec32 (fnExp (a i k))))
    ∧ (x.op = 0x0D → exec (.veLog2 c) s = out 2 (fun i k => dec32 (fnLog2 (a i k))))
    ∧ (x.op = 0x0E → exec (.veRcp c) s = out 2 (fun i k => dec32 (fnRcp (a i k))))
    ∧ (x.op = 0x0F → exec (.veRsqrt c) s = out 2 (fun i k => dec32 (fnRsqrt (a i k))))
    ∧ (x.op = 0x10 → exec (.veAct c) s = out 2 (fun i k => dec32 (actFn (x.aux % 16) (a i k) x.imm)))
    ∧ (x.op = 0x44 → exec (.veActBwd c) s = out 2 (fun i k => dec32 (actBwd (x.aux % 16) (a i k) (b i k) x.imm)))

/-- Each reduction, normalisation and transpose of the VE (R116, R121, R123–R126, R166), and GMASK (R161, R162), once begun,
writes its result. -/
def Obligations.RowOperationsWriteTheirResults : Prop :=
  ∀ (s : State) (c : CoreIx) (o : SlotOp), s.VeRuns c o (veSlot o.slot).spans.1 →
    let x := veSlot o.slot
    let t := s.veAt c o
    let red := fun (init : Nat → Nat) (step merge : Nat → Nat → Nat) => Host.Outcome.next (φ := Fault) (ρ := Refusal)
      ((t.redOut c x (t.reduceAll c x (fun e => init e.1) (fun v e => step v e.1) merge)).veBusy c (redCyc x 1))
    (x.op = 0x11 → exec (.veRsum c) s = red id add32 add32)
    ∧ (x.op = 0x12 → exec (.veRmax c) s = red id max32 max32)
    ∧ (x.op = 0x13 → exec (.veRmin c) s = red id min32 min32)
    ∧ (x.op = 0x15 → exec (.veRsumsq c) s = red (fun v => mul32 v v) (fun v w => fma32 w w v) add32)
    ∧ (x.op = 0x14 → exec (.veRargmax c) s = .next (t.rargmaxRun c x))
    ∧ (x.op = 0x16 → exec (.veRmeanvar c) s = .next (t.rmeanvarRun c x))
    ∧ (x.op = 0x18 → exec (.veSoftmax c) s = .next (t.softmaxRun c x))
    ∧ (x.op = 0x19 → exec (.veLayernorm c) s = .next (t.layernormRun c x))
    ∧ (x.op = 0x1A → exec (.veRmsnorm c) s = .next (t.rmsnormRun c x))
    ∧ (x.op = 0x28 → exec (.veTranspose c) s = .next (t.transposeRun c x))
    ∧ (x.op = 0x29 → exec (.veMxRelayout c) s = .next (t.mxRelayoutRun c x))
    ∧ (x.op = 0x41 → exec (.veSoftmaxBwd c) s = .next (t.softmaxBwdRun c x))
    ∧ (x.op = 0x42 → (normDesc (s.lbRd c x.aux 64) true).ok = true →
        exec (.veLayernormBwd c) s = .next (t.normBwdRun c x (normDesc (s.lbRd c x.aux 64) true) true))
    ∧ (x.op = 0x43 → (normDesc (s.lbRd c x.aux 64) false).ok = true →
        exec (.veRmsnormBwd c) s = .next (t.normBwdRun c x (normDesc (s.lbRd c x.aux 64) false) false))
    ∧ (x.op = 0x40 → exec (.veGmask c) s = .next ((s.setVeOp c { o with done := true }).gmaskRun c o x))

/-- The random operations (R130–R132): on a stream below 0xFF00, and for DROPOUT with a probability in [0, 1), they write
their result, RNG_POS shows the position after it and the words are counted.
A reserved stream fails the item of a random operation, and the position stays (R130).
The job seed and the restored position (R132, R138): while the SEQ is IDLE the seed is what was written; a restored step
that differs from the position is kept, counted and logged, and the position becomes (step, 0); while the SEQ is not IDLE
both writes are ignored and logged. -/
def Obligations.RandomStreamsAdvanceAndRestore : Prop :=
  (∀ (s : State) (c : CoreIx) (o : SlotOp), s.VeRuns c o (veSlot o.slot).spans.1 →
      let x := veSlot o.slot
      let t := s.veAt c o
      let d := s.rngDesc c x
      d.1 < 0xFF00 →
      (x.op = 0x20 → (dec32 x.imm).isNaN = false → (dec32 x.imm).lt (.fin false 0 0) = false → (dec32 x.imm).lt oneV = true →
          exec (.veDropout c) s = .next ((t.dropoutRun c x).rngAfter c 1 1 d x))
      ∧ (x.op = 0x21 → exec (.veUniform c) s = .next ((t.uniformRun c x).rngAfter c 1 1 d x))
      ∧ (x.op = 0x22 → exec (.veNormal c) s = .next ((t.normalRun c x).rngAfter c 2 2 d x)))
  ∧ (∀ (s : State) (c : CoreIx) (o : SlotOp), s.VeRuns c o (veSlot o.slot).spans.1 → (veSlot o.slot).op = 0x21 →
      0xFF00 ≤ (s.rngDesc c (veSlot o.slot)).1 →
      exec (.veUniform c) s = .next ((s.veAt c o).veErr c 0x01 o))
  ∧ (∀ (s : State) (c : CoreIx) (v : DWord),
      let p := pRNG c
      let pos := v.toNat % 2 ^ 40 * 2 ^ 24
      (s.seqIdle c = true → exec (.rngSeedWrite c v) s = .next (s.setReg (p + Off.RNG_SEED) v))
      ∧ (s.seqIdle c = false → exec (.rngSeedWrite c v) s = .next (s.logCorr p 0x02))
      ∧ (s.seqIdle c = true → s.regN (p + Off.RNG_POS) ≠ pos → exec (.rngRestoreStepWrite c v) s =
          .next ((((s.setReg (p + Off.RNG_MISMATCH) (s.reg (p + Off.RNG_POS))).bump p Off.RNG_MISMATCH_CNT 1).logCorr p 0x01).setRegN
            (p + Off.RNG_POS) pos))
      ∧ (s.seqIdle c = true → s.regN (p + Off.RNG_POS) = pos → exec (.rngRestoreStepWrite c v) s = .next s)
      ∧ (s.seqIdle c = false → exec (.rngRestoreStepWrite c v) s = .next (s.logCorr p 0x02)))

/-- The window operations (R139–R155): with a correct descriptor, an operation that is not empty and a box within its bound
each row of the result is written. -/
def Obligations.WindowOperationsWriteTheirRows : Prop :=
  ∀ (s : State) (c : CoreIx) (o : SlotOp), s.VeRuns c o (winSpans (veSlot o.slot) (winDesc (s.lbRd c (veSlot o.slot).aux 128))).1 →
    let x := veSlot o.slot
    let d := winDesc (s.lbRd c x.aux 128)
    let t := s.setVeOp c { o with done := true }
    x.window = true → winOk x d = true → (winBound x.op d).contains 0 = false → boxOk (winBound x.op d) d = true →
    (x.op = 0x30 → exec (.veWconv c) s = .next (t.winWrite c 0x30 o x d (t.wconvRow c x d) (wconvCyc d)))
    ∧ (x.op = 0x31 → exec (.veMaxpool c) s = .next (t.winWrite c 0x31 o x d (t.maxpoolRow c x d) (maxpoolCyc d)))
    ∧ (x.op = 0x32 → exec (.veAvgpool c) s = .next (t.winWrite c 0x32 o x d (t.avgpoolRow c x d) (avgpoolCyc d)))
    ∧ (x.op = 0x33 → exec (.veWconvBwdData c) s = .next (t.winWrite c 0x33 o x d (t.wconvBwdDataRow c x d) (wconvBwdDataCyc d)))
    ∧ (x.op = 0x34 → exec (.veWconvBwdWeight c) s = .next (t.winWrite c 0x34 o x d (t.wconvBwdWeightRow c x d) (wconvBwdWeightCyc d)))
    ∧ (x.op = 0x35 → exec (.veMaxpoolBwd c) s = .next (t.winWrite c 0x35 o x d (t.maxpoolBwdRow c x d) (maxpoolBwdCyc d)))
    ∧ (x.op = 0x36 → exec (.veAvgpoolBwd c) s = .next (t.winWrite c 0x36 o x d (t.avgpoolBwdRow c x d) (avgpoolBwdCyc d)))
    ∧ (x.op = 0x38 → d.sourcesIn false = true →
        exec (.veUpsampleNearest c) s = .next (t.winWrite c 0x38 o x d (t.upsampleNearestRow c x d) (upsampleNearestCyc d)))
    ∧ (x.op = 0x39 → d.sourcesIn true = true →
        exec (.veUpsampleBilinear c) s = .next (t.winWrite c 0x39 o x d (t.upsampleBilinearRow c x d) (upsampleBilinearCyc d)))
    ∧ (x.op = 0x3A → d.sourcesIn false = true →
        exec (.veUpsampleNearestBwd c) s = .next (t.winWrite c 0x3A o x d (t.upsampleNearestBwdRow c x d) (upsampleNearestBwdCyc d)))
    ∧ (x.op = 0x3B → d.sourcesIn true = true →
        exec (.veUpsampleBilinearBwd c) s = .next (t.winWrite c 0x3B o x d (t.upsampleBilinearBwdRow c x d) (upsampleBilinearBwdCyc d)))
    ∧ (x.op = 0x3D → d.foldOk = true → exec (.vePadFold c) s = .next (t.winWrite c 0x3D o x d (t.padFoldRow c x d) (padFoldCyc d)))

/-- Run control of a prep core (R133): a core in reset or halted starts at PREP_RESET_VEC, the rest of its state kept; a
running one halts; a reset clears what it holds, and starts it again where RUN is set (DESIGN CHOICE, log entry 32).
What a prep core does to its own block (R134–R137): it posts flags 0 to 31 clean, for the tick that follows (R30), and
nothing while it is halted; a post that a sailing already waits on is counted; its tick timer interrupts, an access to an
unmapped address traps and is logged, a trap in a trap halts it, and an error of a unit of its core interrupts it. -/
def Obligations.PrepCoresRunPostAndTrap : Prop :=
  (∀ (s : State) (c : CoreIx),
      let p := pPREP c
      ((s.prepState c = 0 ∨ s.prepState c = 2) →
        let u := s.setField (p + Off.PREP_CTRL) 0 0 1
        exec (.prepRun c) s = .next ((u.setRegN (p + Off.PREP_STAT) 1).setHart c
          { (s.core c).prep.hart with pc := s.regN (p + Off.PREP_RESET_VEC) }))
      ∧ ((s.prepState c = 1 ∨ s.prepState c = 3) →
        exec (.prepHalt c) s = .next ((s.setField (p + Off.PREP_CTRL) 0 0 0).setPrepState c 2))
      ∧ (bit (s.regN (p + Off.PREP_CTRL)) 0 = false →
        exec (.prepReset c) s = .next ((s.setPrep c PrepSt.reset).setRegN (p + Off.PREP_STAT) 0))
      ∧ (bit (s.regN (p + Off.PREP_CTRL)) 0 = true →
        let u := (s.setPrep c PrepSt.reset).setRegN (p + Off.PREP_STAT) 0
        exec (.prepReset c) s = .next ((u.setPrepState c 1).setHart c { HartSt.reset with pc := s.regN (p + Off.PREP_RESET_VEC) })))
  ∧ (∀ (s : State) (c : CoreIx),
      let p := pPREP c
      (∀ v : DWord, s.prepUp c = true → (s.core c).sailings = [] →
        exec (.ptflagset c v) s = .next (s.handFlags c (v.toNat % 2 ^ 32)))
      ∧ (∀ (v : DWord) x rest, s.prepUp c = true → (s.core c).sailings = x :: rest → x.waited = false → x.tick ≤ s.now →
        recWait x.bytes &&& (v.toNat % 2 ^ 32) ≠ 0 →
        exec (.ptflagset c v) s = .next ((s.bump p Off.PREP_LATE_POST 1).handFlags c (v.toNat % 2 ^ 32)))
      ∧ (∀ v : DWord, s.prepUp c = false → exec (.ptflagset c v) s = .next s)
      ∧ (∀ cmp : DWord, cmp.toNat ≤ s.now →
        exec (.ptickcmpIrq c cmp) s = .next ((s.setPrep c { (s.core c).prep with tickCmp := cmp.toNat }).prepIrq c))
      ∧ (∀ cmp : DWord, s.now < cmp.toNat →
        exec (.ptickcmpIrq c cmp) s = .next (s.setPrep c { (s.core c).prep with tickCmp := cmp.toNat }))
      ∧ (∀ cause epc addr : DWord, s.prepUp c = true → (cause = 1 ∨ cause = 5 ∨ cause = 7) → s.region addr.toNat = none →
        exec (.prepBusError c cause epc addr) s = .next ((s.prepTrap c cause epc addr).logAddr p 0x02 (addr.toNat % 2 ^ 52)))
      ∧ (∀ cause epc tval : DWord, s.prepUp c = true →
        exec (.prepDoubleTrap c cause epc tval) s =
          .next (((s.prepTrap c cause epc tval).setRegN (p + Off.PREP_STAT) 6).logCorr p 0x01))
      ∧ (∀ u : Fin 9, bit (s.regN (prepSource c u + Off.PG_IRQ_STAT)) 0 = true →
        exec (.unitErrorIrq c u) s = .next ((s.setField (p + Off.PREP_IRQ_PEND) u u 1).prepIrq c)))

/-- A trap of a prep core shows its cause, program counter and value on the core's own page, takes its hart into machine mode
at its trap vector (PRESUMED, log entry 65), and touches no register of any other page, no memory and no queue (R134, R137). -/
def Obligations.PrepTrapShowsItsCause : Prop :=
  ∀ (s : State) (c : CoreIx) (cause epc tval : DWord), s.Wf →
    let t := s.prepTrap c cause epc tval
    t.reg (pPREP c + Off.PREP_MCAUSE) = cause ∧ t.reg (pPREP c + Off.PREP_MEPC) = epc ∧ t.reg (pPREP c + Off.PREP_MTVAL) = tval
    ∧ (t.core c).prep.hart = (s.core c).prep.hart.trapM cause.toNat epc.toNat tval.toNat ∧ t = { s with regs := t.regs, cores := t.cores }
    ∧ ∀ o, o ≠ pPREP c + Off.PREP_MCAUSE → o ≠ pPREP c + Off.PREP_MEPC → o ≠ pPREP c + Off.PREP_MTVAL → t.reg o = s.reg o

/-! ## Ferries, slipway and coded blocks (chapters 06 and 08) -/

/-- A ferry runs the operation at its turn: COPY_IN, INDEX_IN, MXT_IN and the window gathers land rows, COPY_OUT and
INDEX_OUT store them in ascending order, PEER_GET and PEER_PUT serve their own node directly (R144, R145, R147, R224, R230),
and PFILL queues its fill at the stack's pontoon (R487). -/
def Obligations.FerriesMoveTheirRows : Prop :=
  ∀ (s : State) (c : CoreIx) (f : FerryIx) (o : SlotOp) (x : FSlot),
    let d := winDesc (s.lbRd c x.lb 128)
    let ready := s.poisonIn c [(x.lb, 128)] = none ∧ d.ferryOk = true ∧ d.outs.contains 0 = false
    (s.ferryOp c f 0x01 = some (o, x) → exec (.ferryCopyIn c f) s =
      .next (s.loadRows c f o ((upTo 0 x.rows).map (fun i => (x.mem + i * x.mpitch, x.rowB, x.lb + i * x.rowB)))))
    ∧ (s.ferryOp c f 0x03 = some (o, x) → s.poisonIn c [(x.arg, 4 * x.rows)] = none → exec (.ferryIndexIn c f) s =
      .next (s.loadRows c f o ((upTo 0 x.rows).map (fun i =>
        (x.mem + s.rdNat (lbBase c + x.arg + 4 * i) 4 * x.rowB, x.rowB, x.lb + i * x.rowB)))))
    ∧ (s.ferryOp c f 0x02 = some (o, x) → ready → d.op = 1 →
      exec (.ferryGather c f) s = .next (s.winLand c f o d ((upTo d.mBase d.mCount).map d.gatherRow)))
    ∧ (s.ferryOp c f 0x02 = some (o, x) → ready → d.op = 2 →
      exec (.ferryGatherT c f) s = .next (s.winLand c f o d ((upTo d.mBase d.mCount).map d.gatherTRow)))
    ∧ (s.ferryOp c f 0x02 = some (o, x) → ready → d.op = 3 → boxOk d.outs d = true →
      exec (.ferryHalo c f) s = .next (s.winLand c f o d ((boxOf d.tiles).map d.haloRow)))
    ∧ (s.ferryOp c f 0x05 = some (o, x) →
      let n := arrBytes (bits x.arg 7 0) x.rows (32 * x.units)
      s.Fetchable o x.mem n →
      exec (.ferryMxtIn c f) s = .next (((((State.wrRows (lbBase c + x.lb) (bits x.arg 15 8) (32 * x.units) x.rows 0 0
        ((upTo 0 (32 * x.units)).map (fun k => (upTo 0 x.rows).map (fun i =>
          s.rdVal x.mem (bits x.arg 7 0) x.rows (32 * x.units) 0 i k))) s).moved c f o n).tagsChecked
          (s.guarded [(x.mem, n)]).length).ferryAccess (coreDie c) false [(x.mem, n)]).opDone c f o))
    ∧ (s.ferryOp c f 0x08 = some (o, x) → exec (.ferryCopyOut c f) s =
      .next (s.storeRows c f o ((upTo 0 x.rows).map (fun i => (x.lb + i * x.rowB, x.rowB, x.mem + i * x.mpitch)))))
    ∧ (s.ferryOp c f 0x09 = some (o, x) → s.poisonIn c [(x.arg, 4 * x.rows)] = none → exec (.ferryIndexOut c f) s =
      .next (s.storeRows c f o ((upTo 0 x.rows).map (fun i =>
        (x.lb + i * x.rowB, x.rowB, x.mem + s.rdNat (lbBase c + x.arg + 4 * i) 4 * x.rowB)))))
    ∧ (s.ferryOp c f 0x10 = some (o, x) → x.node = s.node → s.served x.mem (x.rows * x.rowB) = true →
      exec (.ferryPeerGet c f) s = .next (s.loadRows c f o [(x.mem, x.rows * x.rowB, x.lb)]))
    ∧ (s.ferryOp c f 0x11 = some (o, x) → x.node = s.node → s.served x.mem (x.rows * x.rowB) = true →
      exec (.ferryPeerPut c f) s = .next (s.storeRows c f o [(x.lb, x.rows * x.rowB, x.mem)]))
    ∧ (∀ k, s.ferryOp c f 0x0B = some (o, x) → s.localStack x.mem (max (4096 * x.shape) 1) = some k → exec (.ferryPfill c f) s =
      .next ((s.setPont k (s.pont k ++ [{ cmd := o.cmd, item := o.item, work := .fill x.mem (4096 * x.shape) x.arg c o.recIx o.ring }])).putOp
        c f { o with issued := true }))

/-- A ferry's queue (R226–R229, R232–R234, R236): a slot enters in its tick while fewer than 16 wait, the oldest that may
start starts, a finished one leaves, is counted and posts its signal; QRUN takes the next published entry, which runs as an
operation of its own; the ring is set up only while the SEQ is IDLE, its tail no more than a ring ahead, and a new tail is
seen from the next tick; and a pontoon's fill recalls the range, writes it and ends the ferry's operation. -/
def Obligations.FerryQueueEntersStartsAndLeaves : Prop :=
  ∀ (s : State) (c : CoreIx) (f : FerryIx) (o : SlotOp),
    let p := pFERRY c f
    (∀ t w i u, (s.core c).tt = some t → (sortSlots (t.waiting f)).head? = some (w, i, u) → t.checked = true → w ≤ s.now →
      (u = 4 → fld (recUnit (ttRec t.bytes i) u) 0 1 ≠ 0x02) →
      s.recFailed t i = false → ((s.fq c f).filter (·.ring == 0)).length < 16 →
      let v := s.noteEnq c i u
      exec (.ferryEnqueue c f) s = .next ((v.useSlots (coreDie c) (s.liveSlots (coreDie c)) true).setFq c f
        (v.fq c f ++ [s.mkOp c t i u false])))
    ∧ (nextStart (s.fq c f) = some o → s.opFailed o = false → o.hollow = false → s.waitMet c o.unit o.slot = true →
      s.ferryClear c o.todo = true → exec (.ferryOpStart c f) s = .next (s.putOp c f { o with begun := true }))
    ∧ (∀ rest, s.fq c f = o :: rest → o.done = true → o.unit ≠ 4 → o.ring = 0 → o.signalled = false →
      let v := ((s.setFq c f rest).bump p Off.FERRY_OP_CNT 1).useSlots (coreDie c) o.live false
      exec (.ferryOpComplete c f) s = .next (v.postSlot c o.slot (s.opFailed o || o.voided)))
    ∧ (∀ x, s.ferryOp c f 0x06 = some (o, x) → s.regN (p + Off.FERRY_QHEAD) ≠ s.qTail c f →
      let off := s.qEntry c f (s.regN (p + Off.FERRY_QHEAD))
      let b := s.lbRd c off 32
      let v := s.setRegN (p + Off.FERRY_QHEAD) ((s.regN (p + Off.FERRY_QHEAD) + 1) % (2 * s.qSize c f))
      s.poisonIn c [(off, 32)] = none →
      (entryOk b f = false → exec (.ferryQrun c f) s = .next (v.ferryErr c f o 0x05 Status.BAD_COMMAND (lbBase c + off)))
      ∧ (entryOk b f = true → s.waitMet c f.val (b.take 24) = true → s.ferryClear c { o.todo with ring := o.step + 1, slot := b.take 24 } = true →
        exec (.ferryQrun c f) s = .next (v.takeEntry c f o (b.take 24))))
    ∧ (∀ v : DWord, s.seqIdle c = true → 16 ≤ v.toNat → v.toNat ≤ 4096 → 2 ^ Nat.log2 v.toNat = v.toNat → exec (.ferryQcfgWrite c f true v) s =
      .next (((s.setRegN (p + Off.FERRY_QSIZE) v.toNat).setRegN (p + Off.FERRY_QHEAD) 0).setRegN (p + Off.FERRY_QTAIL) 0))
    ∧ (∀ v : DWord, s.seqIdle c = true → exec (.ferryQcfgWrite c f false v) s =
      .next (((s.setRegN (p + Off.FERRY_QBASE) (bits v.toNat 21 6 * 64)).setRegN (p + Off.FERRY_QHEAD) 0).setRegN (p + Off.FERRY_QTAIL) 0))
    ∧ (∀ b (v : DWord), s.seqIdle c = false → exec (.ferryQcfgWrite c f b v) s = .next (s.logCorr p 0x09))
    ∧ (∀ v : Word,
      let q := s.qSize c f
      ((v.toNat % (2 * q) + 2 * q - s.regN (p + Off.FERRY_QHEAD)) % (2 * q) ≤ q → ((s.core c).tailOld.lookup f.val).isSome = false →
        exec (.ferryQtailWrite c f v) s = .next ((s.setCore c { s.core c with
          tailOld := (f.val, s.regN (p + Off.FERRY_QTAIL)) :: (s.core c).tailOld }).setRegN (p + Off.FERRY_QTAIL) (v.toNat % (2 * q))))
      ∧ (q < (v.toNat % (2 * q) + 2 * q - s.regN (p + Off.FERRY_QHEAD)) % (2 * q) →
        exec (.ferryQtailWrite c f v) s = .next (s.logCorr p 0x08)))
    ∧ (∀ (k : StackIx) rest a n v, s.cohReady [(a, n)] = true →
      s.pont k = { cmd := o.cmd, item := o.item, work := .fill a n v c o.recIx o.ring } :: rest →
      let u := (State.fillWords v (n / 64) a (s.homeRecall [(a, n)])).pontDone k n (ceilDiv n 2048)
      exec (.pontFill k) s = .next
        (match (u.fq c 2).find? (fun y => y.recIx == o.recIx && y.unit == 2 && y.ring == o.ring && !y.done) with
        | some y => (u.moved c 2 y n).opDone c 2 y
        | none => u))

/-- The slipway (R170–R173, R179): enabling a sound segment resets its tops, disabling one while the SEQ is IDLE empties it,
SLIP_PUSH pushes its tiles in ascending order, SLIP_POP pops them in descending order, and a trailer that fails its CRC is
read once more. -/
def Obligations.SlipwayPushesAndPops : Prop :=
  ∀ (s : State) (c : CoreIx) (f : FerryIx) (b : BerthIx) (o : SlotOp) (x : FSlot),
    (s.sOn c b = false → s.segmentOk c b = true →
      exec (.slipEnable c b) s = .next ((s.setField (slipAt c b Off.SLIP_BCTRL) 0 0 1).emptySegment c b))
    ∧ (s.sOn c b = false → s.segmentOk c b = false → exec (.slipEnable c b) s = .next (s.slipLog c b 0x06))
    ∧ (s.sOn c b = true → s.seqIdle c = true →
      let u := (s.setField (slipAt c b Off.SLIP_BCTRL) 0 0 0).emptySegment c b
      exec (.slipDisable c b) s = .next (if (s.berth c b).isEmpty = true then u else u.slipLog c b 0x07))
    ∧ (s.sOn c b = true → s.seqIdle c = false → exec (.slipDisable c b) s = .next (s.slipLog c b 0x09))
    ∧ (s.ferryOp c f 0x0A = some (o, x) → s.berthClear c o.todo = true → s.sOn c x.berth = true → x.codec ≠ 2 →
      exec (.slipPush c f) s = .next (State.pushTiles c f x (x.count - o.step) o.step o s))
    ∧ (s.ferryOp c f 0x0A = some (o, x) → s.berthClear c o.todo = true → s.sOn c x.berth = false →
      exec (.slipPush c f) s = .next (s.slipErr c f o 0x05 Status.BAD_COMMAND))
    ∧ (s.ferryOp c f 0x04 = some (o, x) → s.berthClear c o.todo = true → s.sOn c x.berth = true →
      exec (.slipPop c f) s = .next (State.popTiles c f (x.count - o.step) o x s))
    ∧ (∀ a, s.refetching c f = some (o, .trailer a) → exec (.slipTrailerReread c f) s =
      .next (if trailerCrc (s.rdBytes a 64) = true then s.refetchOk c f o (.trailer a)
        else s.slipErr c f o 0x04 Status.TILE_CHECK))

/-- A tile that fits its segment is pushed (R171, R172): it goes to the home top, which rises to its end, and is the
segment's first entry; beside what its write does at the die cache and the homes no register but the top and the two that
show it changes, and no byte of storage outside the tile changes. -/
def Obligations.PushedTileLiesAtTheTop : Prop :=
  ∀ (s : State) (c : CoreIx) (b : BerthIx) (bytes : Bytes) (e : BerthEntry), s.Wf → e.spill = false →
    s.sStop c b = s.sSbase c b → s.sHtop c b + bytes.length ≤ s.sLimit c b →
    let t := s.place c b (s.sHtop c b) bytes e
    s.placeAt c b bytes.length = some (s.sHtop c b, false)
      ∧ t.sHtop c b = s.sHtop c b + bytes.length ∧ t.berth c b = e :: s.berth c b
      ∧ (∀ r, r ≠ slipAt c b Off.SLIP_HTOP → r ≠ slipAt c b Off.SLIP_BSTAT → r ≠ slipAt c b Off.SLIP_TOP_ID →
        t.reg r = (s.ferryAccess (coreDie c) true [(s.sHtop c b, bytes.length)]).reg r)
      ∧ ∀ a, (∀ j, j < bytes.length → s.loc a ≠ s.loc (s.sHtop c b + j)) → t.rd8 a = s.rd8 a

/-- Coded blocks and tags on a load (R243, R244, R253): a block that passes its checks lands and its counters rise; one that
fails to decode or its CRC is fetched once more; a second failure, and a granule whose tag fails twice, fails the item. -/
def Obligations.CodedBlocksAreCheckedAndExpanded : Prop :=
  ∀ (s : State) (c : CoreIx) (f : FerryIx) (o : SlotOp) (j : ExpJob) (js : List ExpJob),
    (s.expanding c f = some (o, j, js) → o.refetch = none →
      (∀ raw, s.expandJob c j = .ok raw → exec (.expBlockExpand c f) s = .next (s.landBlock c f o j js raw))
      ∧ (∀ code st again, blkErr (s.expandJob c j) = some (code, st, again) → (again && !o.retried.contains (.block j.addr)) = true →
        exec (.expBlockExpand c f) s = .next (s.putOp c f { o with refetch := some (.block j.addr) }))
      ∧ (∀ code st again, blkErr (s.expandJob c j) = some (code, st, again) → (again && !o.retried.contains (.block j.addr)) = false →
        exec (.expBlockExpand c f) s = .next (s.expErr c f o code st j.addr)))
    ∧ (∀ a y, s.refetching c f = some (o, .block a) → s.expanding c f = some (y, j, js) →
      let u := (s.bump (pEXP c) Off.EXP_REFETCH_CNT 1).ev (fun e => { e with refetch := e.refetch + 1 })
      (blkErr (s.expandJob c j) = none → exec (.expRefetch c f) s = .next (u.refetchOk c f o (.block a)))
      ∧ (∀ code st again, blkErr (s.expandJob c j) = some (code, st, again) →
        exec (.expRefetch c f) s = .next (u.expErr c f o code st j.addr)))
    ∧ (∀ g r (t : DieIx), s.refetching c f = some (o, .granule g) → t.val = coreDie c →
      (fld o.slot 0 1 ≠ 0x04 → s.regionOf g = some r →
        let u := s.refetchTag [t] c g 4096
        exec (.tagRefetch c f) s = .next (if (u.checkTag r (genAt o.rgen r) g == .ok) = true then u.refetchOk c f o (.granule g)
          else u.ferryTagErr c f o 0x01 Status.TILE_CHECK g))
      ∧ (∀ top, fld o.slot 0 1 = 0x04 → s.segTop c (fSlot o.slot).berth = some top →
        let u := s.refetchTag [t] c g (top - g)
        exec (.tagRefetch c f) s = .next (if u.entryTagOk top (u.rdBytes (top - 64) 64) = true then u.refetchOk c f o (.granule g)
          else u.ferryTagErr c f o 0x01 Status.TILE_CHECK g)))

/-! ## Optimiser updates, memory, tags and decode tables (chapters 07, 08) -/

/-- UPDATE_PARAMS (R186, R189, R190, R205, R207): under each of its four rows a command whose turn it is and that no
snapshot holds makes its checks and its decision; an update the snapshot holds sets HOLD, which clears once none is held.
Shard items and the exponent move (R188, R199–R207, R233): an item that has begun takes its next write step; a sound one
begins at its pontoon's turn; once every item has ended without failure the update state record is written, and each pontoon
moves the bucket exponents of its own range. -/
def Obligations.UpdatesAreDecidedAndApplied : Prop :=
  (∀ (s : State) (cmd : Nat) (k : Cmd), s.fresh cmd 0x0004 = some k → s.earlierUpd cmd = false →
      (s.updHeld k = false → s.holdBit = false →
        (caAlgo k.cargo = 0 → exec (.updateParamsAdamw cmd) s = .next (s.updBegin k))
        ∧ (caAlgo k.cargo = 1 → exec (.updateParamsLamb cmd) s = .next (s.updBegin k))
        ∧ (caAlgo k.cargo = 2 → exec (.updateParamsSgd cmd) s = .next (s.updBegin k))
        ∧ (caAlgo k.cargo = 3 → exec (.updateParamsVerify cmd) s = .next (s.updBegin k)))
      ∧ (s.updHeld k = true → caAlgo k.cargo = 0 →
        exec (.updateParamsAdamw cmd) s = .next (s.setField (pg .ras 0 + Off.RAS_SNAP_STAT) 3 3 1))
      ∧ ((∀ y ∈ s.cmds, s.updHeld y = false) → exec .updHoldRelease s = .next (s.setField (pg .ras 0 + Off.RAS_SNAP_STAT) 3 3 0)))
  ∧ (∀ (s : State) (cmd item : Nat) (k : Cmd) (r : UpdRun), s.upd = some r → s.cmd? cmd = some k → r.cmd = cmd →
      let d := shardOf (s.shardBytes k item)
      let st := s.updStack r d
      let ua := caUstate k.cargo
      let rs := stepRanges r d item
      (k.itemEnded item = false → item < k.items →
        (∀ it, r.items.find? (·.item == item) = some it → s.pontTurn k item st = true → s.cohReady rs = true →
          exec (.updShardItem cmd item) s = .next (((s.homeRecall rs).updNext k r d it st).updCount k item st))
        ∧ (r.items.find? (·.item == item) = none → s.anyPoison (k.table + 128 * item) 128 = false →
            shardOk (s.shardBytes k item) (r.algo == 2) = true → s.sharedCommit k item = false → s.placed d r.site r.algo = true →
            s.pontTurn k item st = true → s.cohReady rs = true → s.anyPoison d.commit 64 = false →
            let v := (s.homeRecall rs).updCmd cmd (·.run item)
            exec (.updShardItem cmd item) s =
              .next ((if r.algo = 3 then v.verifyItem k d item st else v.updStart k r d item).updCount k item st)))
      ∧ (r.algo ≠ 3 → r.moved = false → k.allEnded = true → k.failed = [] → k.whole = none → r.last ≠ r.step →
          let m := moveRule r.status (fld r.ustate 4 4) (fld r.ustate 2 2)
          (m.2 = none → exec (.updExponentMove cmd) s = .next ((s.wrBytes ua (ustateAfter r.ustate r.step r.status m.1)).setUpd
            { r with moved := true }))
          ∧ (∀ up, m.2 = some up → r.site ≠ 1 → r.queued = false →
            exec (.updExponentMove cmd) s = .next ((upTo 0 k.items).foldl (fun (s' : State) j =>
              let e := shardOf (s.shardBytes k j)
              match s'.localStack e.gscale e.buckets with
              | some t => s'.setPont t (s'.pont t ++ [{ cmd := cmd, item := j, work := .gexp e.gscale e.buckets up }])
              | none => s') (s.setUpd { r with queued := true }))))
      ∧ (∀ (p : StackIx) a n up rest, s.pont p = { work := .gexp a n up, cmd := cmd, item := item } :: rest → s.localStack a n = some p.val →
          s.cohReady [(a, n)] = true → s.anyPoison a n = false →
          exec (.pontGexp p) s = .next (((s.homeRecall [(a, n)]).moveRange a n up).pontDone p (2 * n) (ceilDiv n 2048))))

/-- A bucket exponent moves by one and stays an 8-bit two's-complement number: it never passes 127 or −128 (R79). -/
def Obligations.BucketExponentsStayInRange : Prop :=
  ∀ (up : Bool) (b : Nat), b < 256 → moveExp up b < 256
    ∧ sext 8 (moveExp up b) = if up = true then min 127 (sext 8 b + 1) else max (-128) (sext 8 b - 1)

/-- Memory errors and scrubs (R218–R220): a corrected read is counted and logged, an uncorrectable one poisons its line, and
a scrub pass that is due does so for every line it finds, and sets when the next is due; scrubbing may be off.
The map, the tier and the landing buffers (R213, R217, R221, R237): while no job runs HBMC_MAP takes a LOCAL_GIB up to 48
and LPDC_TIER a trained tier; a landing buffer is cleared while its SEQ is IDLE, and is then all zero; and a deck core reads and
writes up to 64 aligned bytes of it, poison and a log record where an uncorrectable word is among them. -/
def Obligations.MemoryErrorsMapAndTier : Prop :=
  (∀ (s : State) (a : Nat),
      (s.region a = some .hbm ∨ s.region a = some .tier →
        exec (.memoryReadError a .corrected) s = .next (s.memCorrected a)
        ∧ exec (.memoryReadError a .uncorrectable) s = .next (s.memUncorrectable a false))
      ∧ (s.region a = some .land → exec (.memoryReadError a .uncorrectable) s =
          .next ((s.setRegN (pLAND ((a - lbBase 0) / 0x400000) + Off.LAND_LAST_ERR) ((a - lbBase 0) % 0x400000 / 8 * 8)).setPoison a true))
      ∧ (∀ (k : StackIx) ce ue, s.scrubDue k (s.regN (pHBMC k + Off.HBMC_SCRUB)) = true →
          exec (.hbmcScrubPass k ce ue) s = .next { s.scrub k ce ue with scrubbed := smSet (fun _ => 0) s.scrubbed k s.tide })
      ∧ (∀ (k : StackIx) ce ue, s.regN (pHBMC k + Off.HBMC_SCRUB) = 0 → exec (.hbmcScrubPass k ce ue) s = .next s)
      ∧ (∀ (l : LpIx) ce ue, s.scrubDue (20 + l) (s.regN (pLPDC l + Off.LPDC_SCRUB)) = true → s.tiered = true →
          exec (.lpdcScrubPass l ce ue) s =
            .next { s.scrub (20 + l) ce ue with scrubbed := smSet (fun _ => 0) s.scrubbed (20 + l) s.tide }))
  ∧ (∀ (s : State),
      (∀ v : Word, s.noJob = true →
        let u := s.setField (pHBMC 0 + Off.HBMC_MAP) 6 6 (bits v.toNat 6 6)
        exec (.hbmcMapWrite v) s =
        .next (if bits v.toNat 5 0 ≤ 48 then u.setField (pHBMC 0 + Off.HBMC_MAP) 5 0 (bits v.toNat 5 0) else u.logCorr (pHBMC 0) 0x04))
      ∧ (∀ v : Word, s.noJob = false → exec (.hbmcMapWrite v) s = .next (s.logCorr (pHBMC 0) 0x04)
          ∧ exec (.lpdcTierWrite v) s = .next (s.logCorr (pLPDC 0) 0x05))
      ∧ (∀ v : Word, s.noJob = true → bit v.toNat 0 = true → s.field (pLPDC 0 + Off.LPDC_STAT) 2 0 ≠ 0 →
          exec (.lpdcTierWrite v) s = .next (s.setRegN (pLPDC 0 + Off.LPDC_TIER) (v.toNat % 4)))
      ∧ (∀ v : Word, s.noJob = true → bit v.toNat 0 = false → s.anySpill = false →
          exec (.lpdcTierWrite v) s = .next (s.setRegN (pLPDC 0 + Off.LPDC_TIER) (v.toNat % 4)))
      ∧ (∀ c : CoreIx, exec (.landClear c) s =
          .next (if s.seqIdle c = true then s.setRegN (pLAND c + Off.LAND_STAT) 1 else s.logCorr (pLAND c) 0x03))
      ∧ (∀ c : CoreIx, bit (s.regN (pLAND c + Off.LAND_STAT)) 0 = true →
          exec (.landClearDone c) s = .next ((s.zeroRange (lbBase c) 0x400000).setRegN (pLAND c + Off.LAND_STAT) 0))
      ∧ (∀ (c : CoreIx) off n data, n ∈ [1, 2, 4, 8, 16, 32, 64] → off % n = 0 → off + n ≤ 0x400000 →
          (data.length = n → exec (.deckLbAccess c off n true data) s = .next (s.lbWr c off data))
          ∧ (s.poisonIn c [(off, n)] = none → exec (.deckLbAccess c off n false data) s = .next (s.answer (s.lbRd c off n) false))
          ∧ (∀ o, s.poisonIn c [(off, n)] = some o →
            exec (.deckLbAccess c off n false data) s = .next ((s.landRead c o).answer (s.lbRd c off n) true))))

/-- A deck core's write of a landing buffer changes the bytes it names and no other byte of storage, and no register (R221). -/
def Obligations.DeckWriteChangesItsBytesOnly : Prop :=
  ∀ (s : State) (c : CoreIx) (off n : Nat) (data : Bytes), n ∈ [1, 2, 4, 8, 16, 32, 64] → off % n = 0 → off + n ≤ 0x400000 →
    data.length = n → ∃ t, exec (.deckLbAccess c off n true data) s = .next t ∧ t = { s with mem := t.mem, poison := t.poison }
      ∧ ∀ a, (∀ j, j < n → s.loc a ≠ s.loc (lbBase c + off + j)) → t.rd8 a = s.rd8 a

/-- Tagged regions (R240, R242, R258): a sound descriptor goes into service while no job runs; a generation waits for the
boundary; a retag of whole tiles of an enabled region marks the engine busy, and its end rebuilds the tags and signals.
Decode-table slots (R256, R257): a sound image goes into a FREE slot and is LIVE in a later tick; a retired slot drains,
and is FREE, keeping its generation, in a tick after its count reached 0; LOAD_DECODE_TABLE does so for each die it names. -/
def Obligations.TaggedRegionsAndDecodeTables : Prop :=
  (∀ (s : State) (r : Fin 64),
      (s.noJob = true → s.rOn r = false → exec (.tagrRegionEnable r) s = .next (s.enableRegion r))
      ∧ (s.noJob = false → exec (.tagrRegionEnable r) s = .next (s.logCorr pTAGR 0x06))
      ∧ (∀ v : BitVec 16, exec (.tagrRgenWrite r v) s =
          .next { s with
            rgenPend := (r.val, v.toNat) :: s.rgenPend.filter (·.1 ≠ r.val) })
      ∧ (let a := s.regN (pTAGR + Off.TAGR_RETAG_ADDR)
         let n := s.regN (pTAGR + Off.TAGR_RETAG_LEN)
         let t := 4096 * s.rTile r
         s.rOn r = true → s.retag = none → (s.rCoded r = true → a ≠ s.rBase r ∨ n = 0) → s.rBase r ≤ a →
         a + n ≤ s.rBase r + s.rSize r → (a - s.rBase r) % t = 0 → n % t = 0 →
           exec (.tagrRetag r) s = .next (({ s with retag := some (r.val, a, n) } : State).setField (pTAGR + Off.TAGR_STAT) 1 0 1))
      ∧ (∀ a n, s.retag = some (r.val, a, n) →
          let u := (granules a n).foldl (fun (s : State) g => s.writeTag r (s.rGen r) g) s
          let v : State := { u with retag := none }
          exec .tagrRetagDone s = .next ((v.setField (pTAGR + Off.TAGR_STAT) 0 0 0).raiseEvent pTAGR)))
  ∧ (∀ (s : State) (d : DieIx) (q : Fin 8),
      let a := s.regN (pCTAB d + Off.CTAB_LOAD_ADDR)
      (s.loadBad d q (s.rdBytes a 64) = none → s.mappedMem a 64 = true → s.anyPoison a 64 = false →
        exec (.ctabLoadGo d q) s = .next ((s.setField (pCTAB d + Off.CTAB_STAT) 1 1 0).startLoad d q (s.rdBytes a 64) none))
      ∧ (∀ e, s.loadBad d q (s.rdBytes a 64) = some e →
        exec (.ctabLoadGo d q) s = .next ((s.setField (pCTAB d + Off.CTAB_STAT) 1 1 1).logCorr (pCTAB d) e))
      ∧ (∀ v : BitVec 8, s.namesLoading d v.toNat = true → exec (.ctabRetire d v) s = .next (s.logCorr (pCTAB d) 0x02))
      ∧ (∀ v : BitVec 8, s.namesLoading d v.toNat = false → exec (.ctabRetire d v) s = .next { s with
          tabRetire := s.tabRetire ++ ((upTo 0 8).filter (bit v.toNat)).map (fun q => { die := d, slot := q, tick := s.now, owner := none }) })
      ∧ (∀ l : TabLoad, s.tabLoads.find? (fun l => l.die == d.val && l.slot == q.val && decide (l.tick < s.now)) = some l →
          (∀ x ∈ s.tabLoads.erase l, x.die ≠ d.val) → l.owner = none →
          let u : State := { s with tabLoads := s.tabLoads.erase l, tables := smSet (fun _ => []) s.tables (8 * d.val + q.val) l.image }
          exec (.ctabSlotLive d q) s = .next ((u.setRegN (ctabSlot d q) (setBits (setBits (setBits (u.regN (ctabSlot d q)) 1 0 2) 15 8
            (tabElem l.image)) 23 16 (tabGen l.image))).setField (pCTAB d + Off.CTAB_STAT) 0 0 0))
      ∧ (∀ l, s.tabRetire.find? (fun l => l.die == d.val && l.slot == q.val && decide (l.tick < s.now)) = some l → l.owner = none →
          s.tabState d q = 2 →
          let u : State := { s with tabRetire := s.tabRetire.erase l }
          exec (.ctabSlotDraining d q) s = .next ((u.setField (ctabSlot d q) 1 0 3).noteZero d q))
      ∧ (∀ t, s.tabZero.lookup (8 * d.val + q.val) = some t → t < s.now → s.tabState d q = 3 →
          let u : State := { s with
            tabZero := s.tabZero.filter (·.1 ≠ 8 * d.val + q.val)
            tables := smSet (fun _ => []) s.tables (8 * d.val + q.val) [] }
          exec (.ctabSlotFree d q) s = .next (u.setRegN (ctabSlot d q) (u.field (ctabSlot d q) 23 16 * 2 ^ 24)))
      ∧ (∀ cmd k, s.fresh cmd 0x0007 = some k → fld k.cargo 0 1 = 1 →
          let dies := (upTo 0 4).filter (bit (fld k.cargo 1 1))
          exec (.loadDecodeTable cmd) s = .next ((dies.zip (upTo 0 dies.length)).foldl
            (fun (s : State) (e : Nat × Nat) => s.tabCmdItem cmd e.2 e.1 k.cargo) (s.beginCmd cmd))))

/-! ## Coherence and the server cores (chapters 09 and 10) -/

/-- The home of a physical address (R260): exclusive-or of the three-bit groups from bit 12 up. The specification's worked
example, 0x12_3456_7890, has home 6; all lines of a page have one home, which is one of the eight slices. -/
def Obligations.HomeOfAnAddress : Prop :=
  homeOf 0x1234567890 = 6 ∧ ∀ a, homeOf a = (upTo 0 14).foldl (fun h g => h ^^^ a % 2 ^ 52 / 2 ^ (3 * g + 12) % 8) 0 ∧ homeOf a < 8 ∧ homeOf (a / 4096 * 4096) = homeOf a ∧ homeOf (a + 2 ^ 52) = homeOf a

/-- A request for a line of device memory enters that line's FIFO (R264–R267, R276); a die cache's own is counted as a miss;
a bulk request enters the FIFOs of all its lines, those that lie in the page of the first. (Here no request of the line is on
its way already.) -/
def Obligations.RequestsEnterTheLineFifo : Prop :=
  ∀ (s : State) (a : Nat), s.coh.reqs = [] → s.devMem (a / 64 * 64) 64 = true →
    let miss := fun (g : CohAgent) => match agentPart g with
      | some p => if classA p = true then s.bump64 (pDCACHE (p - 32)) Off.DCACHE_MISS_CNT 1 else s
      | none => s
    let bulk := fun (n : Nat) (k : TxKind) (g : CohAgent) (data : Bytes) =>
      (upTo 0 (pageLines a n)).foldl (fun (s' : State) i => s'.enter (a / 64 + i)
        { mkTx k g 0 ((data.drop (64 * i)).take 64) with bulk := some (s.coh.nextBulk, a / 64) })
        (s.setCoh { s.coh with nextBulk := s.coh.nextBulk + 1 })
    let inMem := fun (n : Nat) => 0 < n ∧ s.devMem (64 * (a / 64)) (64 * pageLines a n) = true
    (∀ (p : PartIx) (core : Fin 64),
      exec (.homeRdShared p core a) s = .next ((miss (.part p)).enter (a / 64) (mkTx .rdShared (.part p) core []))
      ∧ exec (.homeRdOwn p core a) s = .next ((miss (.part p)).enter (a / 64) (mkTx .rdOwn (.part p) core []))
      ∧ (classA p = false → exec (.homeUpgrade p core a) s = .next (s.enter (a / 64) (mkTx .upgrade (.part p) core [])))
      ∧ (classA p = true → exec (.homeUpgrade p core a) s = .next (s.cohProtocol (a / 64)))
      ∧ ∀ op wide (v : DWord), a % amoBytes wide = 0 → exec (.homeAmoFar p core op wide a v) s =
          .next ((miss (.part p)).enter (a / 64) (mkTx (.amo op wide a v.toNat) (.part p) core [])))
    ∧ (∀ g, exec (.homeRdOnce g a) s = .next ((miss g).enter (a / 64) (mkTx .rdOnce g 0 [])))
    ∧ (∀ g data, data.length = 64 → exec (.homeWrLine g a data) s = .next ((miss g).enter (a / 64) (mkTx .wrLine g 0 data)))
    ∧ (∀ (m : DWord) data, data.length = 64 →
        exec (.homeWrPart .host a m data) s = .next (s.enter (a / 64) (mkTx (.wrPart m.toNat) .host 0 data)))
    ∧ (∀ c f n, inMem n → exec (.homeBulkRd (.ferry c f) a n) s = .next (bulk n .bulkRd (.ferry c f) []))
    ∧ (∀ c f data, inMem (data.length / 64) →
        exec (.homeBulkWr (.ferry c f) a data) s = .next (bulk (data.length / 64) .bulkWr (.ferry c f) data))
    ∧ (∀ k n, inMem n → exec (.homeRecall (.pont k) a n) s = .next (bulk n .recall (.pont k) []))

/-- A home serves the head of a line's FIFO (R265, R267–R271): with nobody to snoop it completes, otherwise the snoops go out;
where its directory set is full the least recently allocated line with an empty FIFO is invalidated first; the last answer
completes it; a HOLD has the snoop sent again; a write-back that crosses its snoop is the answer; a snoop unanswered in time,
and an answer nobody asked for, is device-fatal.
What completing a request does (R262–R265, R272, R277): a read to own makes its participant the line's only sharer and
grants M when a snoop brought dirty data and E otherwise; a shared read grants E where nobody else holds the line, and a die
cache data to use once where somebody does; a line written by others is in no cache any more and holds the written bytes; a
write-back frees its place in the directory and is acknowledged. -/
def Obligations.HomesServeAndRequestsComplete : Prop :=
  (∀ (s : State) (a : Nat) (p : PartIx) (t : HomeTx) (rest : List HomeTx),
      let l := a / 64
      let full := s.coh.setOf l
      let fits : Prop := needsEntry t = false ∨ (s.coh.entry l).isSome = true ∨ full.length < 12
      (s.fifo l = t :: rest → t.started = false → fits → (s.coh.targets l t).2 = [] →
        exec (.homeTransactionServe a) s = .next (s.cohFinish l))
      ∧ (s.fifo l = t :: rest → t.started = false → fits → ∀ k q ps, s.coh.targets l t = (k, q :: ps) →
        exec (.homeTransactionServe a) s = .next ((s.setFifo l ({ t with
          started := true
          contended := true
          waits := (q :: ps).map (fun p => { part := p, kind := k, resend := none, dif := false }) } :: rest)).sendSnoops l k (q :: ps)))
      ∧ (∀ v, s.fifo l = t :: rest → t.started = false → needsEntry t = true → s.coh.entry l = none → 12 ≤ full.length →
        full.any (fun e => (s.fifo e.line).any (·.kind == .backInv)) = false → full.find? (fun e => (s.fifo e.line).isEmpty) = some v →
        exec (.homeTransactionServe a) s =
          .next ((s.enter v.line (mkTx .backInv .host 0 [])).bump64 (linePage l) Off.HOME_BACKINV_CNT 1))
      ∧ (∀ w x r, s.coh.takeAnswer p l = some (some (x, r)) → x.rsp = .i → headWait (s.fifo l) p = some w →
        queuedLeave (s.fifo l) p .evict = false →
        exec (.homeSnoopAnswer p a) s = .next (((s.setCoh { s.coh with answers := r }).dirDrop l p).settle l p false))
      ∧ (∀ w x r n, s.coh.takeAnswer p l = some (some (x, r)) → x.rsp = .hold n → headWait (s.fifo l) p = some w →
        exec (.homeSnoopAnswer p a) s = .next (((s.setCoh { s.coh with answers := r }).bump (linePage l) Off.HOME_HOLD_CNT 1).updHead l (fun t =>
          { t with contended := true, waits := t.waits.map (fun x => if x.part = p.val then { x with resend := some n } else x) })))
      ∧ (s.coh.takeAnswer p l = none → exec (.homeSnoopAnswer p a) s = .next (s.cohProtocol l))
      ∧ (∀ w n, headWait (s.fifo l) p = some w → w.resend = some n →
        let u := s.updHead l (fun t =>
          { t with waits := t.waits.map (fun x => if x.part = p.val then { x with resend := none } else x) })
        exec (.snoopResend p a) s = .next ((u.setCoh { u.coh with
          snoops := u.coh.snoops ++ [{ part := p, line := l, kind := w.kind, again := true }] }).bump64 (linePage l) Off.HOME_SNOOP_CNT 1))
      ∧ (∀ w, headWait (s.fifo l) p = some w → w.resend = none → exec (.cohSnoopTimeout p a) s = .next (s.cohFatal l 0x01))
      ∧ (∀ x r, s.leave p l .evict = some (some (x, r)) →
        let u := s.setCoh { s.coh with reqs := r }
        exec (.homeEvict p a) s = .next (if (s.coh.sharers l).contains p.val = true then u.enter l x.2
          else (u.sendAck p l).bump (linePage l) Off.HOME_DIF_CNT 1))
      ∧ (∀ x r, s.leave p l .wb = some (some (x, r)) → (s.coh.sharers l).contains p.val = true →
        let u := s.setCoh { s.coh with reqs := r }
        exec (.homeWb p a) s = .next (if (headWait (s.fifo l) p).any (·.dif) = true then (u.sendAck p l).crossing l p
          else u.enter l x.2)))
  ∧ (∀ (s : State) (l : Nat) (t : HomeTx) (rest : List HomeTx) (p : PartIx), s.fifo l = t :: rest →
      let u := s.setFifo l rest
      let others := (s.coh.sharers l).filter (· ≠ p.val)
      (t.kind = .rdOwn → t.agent = .part p → s.cohFinish l =
        (((u.countReq l t).ownTo l p).reply t l (if t.dirty = true then .gntM else .gntE) (s.rdBytes (64 * l) 64)))
      ∧ (t.kind = .wrLine → s.cohFinish l = (((u.homeLeft l).wrBytes (64 * l) t.data).countReq l t).writeDone l t)
      ∧ (t.kind = .wb → t.agent = .part p → s.cohFinish l = (u.dirDrop l p).reply t l .wbAck [])
      ∧ (t.kind = .rdShared → t.agent = .part p → others = [] → (classA p = false ∨ t.dirty = false) →
        s.cohFinish l = ((u.countReq l t).ownTo l p).reply t l .gntE (s.rdBytes (64 * l) 64))
      ∧ (t.kind = .rdShared → t.agent = .part p → classA p = true → others ≠ [] →
        s.cohFinish l = (u.countReq l t).reply t l .dataOnce (s.rdBytes (64 * l) 64)))

/-- Participants (R262–R264, R266, R268–R271, R277, R287): a snoop is answered by what the copy is, or held, once no grant of
the line is on its way; a grant enters its state and starts the hold unless it is S; a completion is consumed; and an eviction
sends back a dirty line and drops a shared one. -/
def Obligations.ParticipantsAnswerAndReceive : Prop :=
  ∀ (s : State) (p : PartIx) (a : Nat),
    let l := a / 64
    let empty := fun (st : LineState) (hold : Bool) => ({ part := p, line := l, st := st, held := hold, cores := [], l2 := [] } : CacheCopy)
    let granted := fun (k : ReplyKind) => match k with
      | .gntS => some LineState.s
      | .gntE => some LineState.e
      | .gntM => some LineState.m
      | _ => none
    (∀ k r rs (left : Fin 64), s.coh.takeSnoop p l k = some (some (r, rs)) → s.coh.granting p l = false →
      let u := s.setCoh { s.coh with snoops := rs }
      let answer := fun (t : State) => (k = .inv → exec (.snpInv p a left) s = .next t) ∧ (k = .share → exec (.snpShare p a left) s = .next t)
        ∧ (k = .back → exec (.backInv p a left) s = .next t)
      (s.coh.copy p l = none → answer (u.ansSnoop p l .i))
      ∧ (∀ c, s.coh.copy p l = some c → (c.held = false ∨ r.again = true) →
          (c.st = .wbp → answer (u.ansSnoop p l .dif))
          ∧ (c.st = .m → k ≠ .share → answer ((u.setCoh (u.coh.dropCopy p l)).ansSnoop p l .data))
          ∧ (c.st = .m → k = .share → classA p = false →
              answer ((u.setCoh (u.coh.setCopy { c with st := .s, held := false })).ansSnoop p l .data))
          ∧ ((c.st = .e ∨ c.st = .s) → k ≠ .share → answer ((u.setCoh (u.coh.dropCopy p l)).ansSnoop p l .i)))
      ∧ (∀ c, s.coh.copy p l = some c → c.held = true → r.again = false → classA p = false →
          answer (u.ansSnoop p l (.hold left))))
    ∧ (∀ r rs, s.coh.takeReply (.part p) l (fun k => (granted k).isSome) = some (some (r, rs)) →
        let u := (s.setCoh { s.coh with replies := rs }).makeRoom p r.core
        (r.kind = .gntS → exec (.gntReceive p a) s = .next (u.setCoh (u.coh.setCopy ((empty .s false).heldBy r.core true))))
        ∧ (∀ x, (r.kind = .gntE ∧ x = LineState.e ∨ r.kind = .gntM ∧ x = LineState.m) → exec (.gntReceive p a) s =
          .next ((u.setCoh (u.coh.setCopy ((empty x true).heldBy r.core true))).atomsGranted p l r.core r.contended)))
    ∧ (∀ r rs c, s.coh.takeReply (.part p) l (· == .gntUp) = some (some (r, rs)) → s.coh.copy p l = some c → c.st = .s →
        let u := s.setCoh { s.coh.setCopy ({ c with st := .e }.heldBy r.core true) with replies := rs }
        exec (.gntUp p a) s = .next (u.atomsGranted p l r.core r.contended))
    ∧ (∀ r rs g, s.coh.takeReply g l (· == .dataOnce) = some (some (r, rs)) →
        let u := (s.setCoh { s.coh with replies := rs }).answer r.data r.poison
        (agentPart g = none → exec (.dataOnce g a) s = .next u)
        ∧ (∀ d : DieIx, agentPart g = some (32 + d) → exec (.dataOnce g a) s = .next (u.bump64 (pDCACHE d) Off.DCACHE_ONCE_CNT 1)))
    ∧ (∀ r rs g, s.coh.takeReply g l (· == .wrDone) = some (some (r, rs)) →
        exec (.wrDone g a) s = .next (s.setCoh { s.coh with replies := rs }))
    ∧ (∀ r rs, s.coh.takeReply (.part p) l (· == .wbAck) = some (some (r, rs)) →
        let u := s.setCoh { s.coh with replies := rs }
        (s.coh.evs.contains (p.val, l) = true → exec (.wbAck p a) s =
          .next (u.setCoh { u.coh with evs := s.coh.evs.erase (p.val, l) }))
        ∧ (s.coh.evs.contains (p.val, l) = false → (s.coh.copy p l).any (·.st == .wbp) = true →
          exec (.wbAck p a) s = .next (u.setCoh (u.coh.dropCopy p l))))
    ∧ (∀ r rs old w x, s.coh.takeReply (.part p) l (fun k => (amoOld k).isSome) = some (some (r, rs)) → r.kind = .amoRsp old w →
        s.coh.atoms.find? (fun x => x.far && atomPart x.core == p.val && x.a / 64 == l && atomIx x.core == r.core) = some x →
        exec (.amoRsp p a) s = .next ((s.setCoh (({ s.coh with
          replies := rs
          atoms := s.coh.atoms.erase x }).train (atomCache x.core) l r.contended)).answer (natLE (amoBytes w) old) r.poison))
    ∧ (∀ c, s.coh.copy p l = some c → c.held = true →
        exec (.bollardHoldEnd p a) s = .next (s.setCoh (s.coh.setCopy { c with held := false })))
    ∧ (∀ c, s.coh.copy p l = some c → c.st = .s → exec (.cacheEviction p a) s = .next (s.setCoh (s.coh.dropCopy p l)))
    ∧ (∀ c, s.coh.copy p l = some c → c.st = .e → exec (.cacheEviction p a) s = .next (s.setCoh { s.coh.dropCopy p l with
          reqs := (s.coh.dropCopy p l).reqs ++ [(l, mkTx .evict (.part p) 0 [])]
          evs := (s.coh.dropCopy p l).evs ++ [(p.val, l)] }))

/-- Atomics and the die caches (R274, R275, R278, R283–R286): an atomic of a line that its core holds in E or M is done in
place; a misaligned one of a running server core takes the address-misaligned exception; flushes and predictor clears act while the die is idle; a load of a poisoned line traps; HOME_CFG is written while no
job runs. -/
def Obligations.AtomicsAndDieCachesAct : Prop :=
  ∀ (s : State),
    (∀ core op size aq rl a (v : BitVec 128) c, atomKnown core op size = true → a % atomBytes size = 0 →
      s.devMem (a / 64 * 64) 64 = true → s.coh.atoms = [] → s.coh.copy (atomPart core) (a / 64) = some c → (c.st = .e ∨ c.st = .m) →
      c.cores.contains (atomIx core) = true →
      exec (.atomicOp core op ⟨size, aq, rl⟩ a v) s =
        .next (s.atomNear { core := core, op := op, size := size, aq := aq, a := a, v := v.toNat, far := false }))
    ∧ (∀ (k : ServerIx) op size aq rl a (v : BitVec 128), atomKnown (.server k) op size = true → a % atomBytes size ≠ 0 → s.srvState k = 1 →
      exec (.atomicOp (.server k) op ⟨size, aq, rl⟩ a v) s =
        .next (s.serverTrap k (if op = .lr then 4 else 6) (s.server k).hart.pc a))
    ∧ (∀ (t : DieIx), s.dieIdle t = true → (s.coh.copies.filter (·.part == 32 + t.val)) = [] →
      exec (.dcacheFlush t) s = .next (s.setRegN (pDCACHE t + Off.DCACHE_STAT) 1)
      ∧ exec (.dcacheFlushDone t) s = .next (s.setRegN (pDCACHE t + Off.DCACHE_STAT) 0))
    ∧ (∀ (t : DieIx), s.dieIdle t = false → exec (.dcacheFlush t) s = .next (s.logCorr (pDCACHE t) 0x04))
    ∧ (∀ (t : DieIx), exec (.dcachePredClr t) s =
      .next (if s.dieIdle t = true then s.setCoh (s.coh.clearPreds (128 + t)) else s.logCorr (pDCACHE t) 0x04))
    ∧ (∀ (c : CoreIx) (epc : DWord) a, s.prepUp c = true → s.poisoned a = true → exec (.dcPoisonConsumed c epc a) s =
      .next (((s.prepTrap c 5 epc (BitVec.ofNat 64 a)).setRegN (pDCACHE (c / 64) + Off.DCACHE_ERR_ADDR) (a / 64 * 64)).logAddr
        (pDCACHE (c / 64)) 0x03 a))
    ∧ (∀ (h : SliceIx) (v : Word), s.noJob = true → 64 ≤ v.toNat % 65536 →
      exec (.homeCfgWrite h v) s = .next (s.setRegN (pHOME h + Off.HOME_CFG) (v.toNat % 65536)))
    ∧ (∀ (h : SliceIx) (v : Word), v.toNat % 65536 < 64 → exec (.homeCfgWrite h v) s = .next (s.logCorr (pHOME h) 0x07))

/-- The server cores (R275, R288–R293, R308): run, stop and reservation by state, a reserved core ignoring RUN and STOP; clocks
in range on 100 MHz steps; and errors of the caches counted, poisoned or trapped. -/
def Obligations.ServerCoresRunStopAndFail : Prop :=
  ∀ (s : State) (k : ServerIx),
    let p := pSRVC k
    (s.srvState k = 0 → exec (.srvcRun k) s = .next (((s.setField (p + Off.SRVC_CTRL) 0 0 1).setField (p + Off.SRVC_STAT) 2 0 1).setSrvHart k
        { HartSt.reset with pc := s.regN (p + Off.SRVC_RESET_VEC) })
      ∧ exec (.srvcReserve k) s = .next ((s.setField (p + Off.SRVC_CTRL) 1 1 1).setField (p + Off.SRVC_STAT) 2 0 6))
    ∧ (s.srvState k = 2 → exec (.srvcRun k) s = .next (s.logCorr p 0x04) ∧ exec (.srvcStop k) s = .next (s.logCorr p 0x04))
    ∧ (s.srvState k = 1 → exec (.srvcReserve k) s = .next (s.logCorr p 0x05) ∧
        let u := ((s.setField (p + Off.SRVC_CTRL) 0 0 0).setField (p + Off.SRVC_STAT) 2 0 0).setServer k SrvSt.reset
        exec (.srvcStop k) s = .next (u.setCoh { u.coh with resv := u.coh.resv.filter (·.1 ≠ .server k) }))
    ∧ (s.srvState k = 2 → s.updating = false →
        exec (.srvcRelease k) s = .next (((s.setField (p + Off.SRVC_CTRL) 1 1 0).setField (p + Off.SRVC_STAT) 2 0 0).flushCore k))
    ∧ (exec (.srvcPredClr k) s = .next (if s.srvState k = 1 then s.logCorr p 0x05 else s.setCoh (s.coh.clearPreds k)))
    ∧ (exec (.srvcL2Flush k) s =
        .next (if s.srvState k = 1 then s.logCorr p 0x05 else (s.flushCore k).setField (p + Off.SRVC_STAT) 3 3 1))
    ∧ (exec (.l2FlushDone k) s = .next (s.setField (p + Off.SRVC_STAT) 3 3 0))
    ∧ (∀ m : BitVec 12, 1000 ≤ m.toNat → m.toNat ≤ serverMax s.pmode → m.toNat % 100 = 0 →
        exec (.srvcClkWrite k m) s = .next ((s.setField (p + Off.SRVC_CLK) 11 0 m.toNat).setCluster (k / 4)))
    ∧ (∀ m : BitVec 12, (m.toNat < 1000 ∨ serverMax s.pmode < m.toNat ∨ m.toNat % 100 ≠ 0) →
        exec (.srvcClkWrite k m) s = .next (s.logCorr p 0x05))
    ∧ (∀ fetch (epc : DWord) a, s.srvState k ≠ 0 → s.poisoned a = true → exec (.srvPoisonConsumed k fetch epc a) s =
        .next ((((s.serverTrap k (if fetch = true then 1 else 5) epc.toNat a).bump p Off.SRVC_POISON_CNT 1).setRegN
          (p + Off.SRVC_ERR_ADDR) a).logAddr p 0x03 a))
    ∧ (∀ a, exec (.srvCacheError k a .corrected) s = .next ((((s.bump p Off.SRVC_CE_CNT 1).ev (fun e => { e with ce := e.ce + 1 })).setRegN
          (p + Off.SRVC_ERR_ADDR) a).logAddr p 0x01 a)
        ∧ exec (.srvCacheError k a .clean) s = .next s
        ∧ exec (.srvCacheError k a .dirty) s = .next (((((s.setPoison a true).bump p Off.SRVC_UE_CNT 1).ev (fun e => { e with ue := e.ue + 1 })).setRegN
          (p + Off.SRVC_ERR_ADDR) a).logAddr p 0x02 a))

/-! ## Command queues, docks and commands (chapters 10 and 11) -/

/-- Queues and docks (R294–R298, R317, R318, R329, R339, R341): one with sound rings is enabled with its indices 0, and disabled
with nothing in flight; a doorbell within the ring is stamped, one beyond it is a range error; returned slots are taken; entries
are read once; and records go out in order.
A completion record for an address that can be reached is written there, after the flushes that its command's writes
owe (R328, R332), and the record after it of the same command follows at the next 32 bytes. A record is 32 bytes. -/
def Obligations.QueuesServeRingsAndWriteRecords : Prop :=
  (∀ (s : State) (q : QueueIx) (d : DockIx),
      let enabled := fun (q : Nat) => s.qEnabled q = true ∧ s.qDetached q = false
      (s.qDetached q = false → s.qEnabled q = false → s.ringsOk q = true → exec (.cqEnable q) s =
        .next (((s.setQStat q 0 true).setField (qPage q + Off.CQ_CTRL) 0 0 1).zeroIndices q))
      ∧ (s.qDetached (64 + d) = false → s.qEnabled (64 + d) = false → s.ringsOk (64 + d) = true → exec (.dockEnable d) s =
        .next (((s.setQStat (64 + d) 0 true).setField (qPage (64 + d) + Off.CQ_CTRL) 0 0 1).zeroIndices (64 + d)))
      ∧ (s.qDetached q = false → s.qEnabled q = false → s.ringsOk q = false → exec (.cqEnable q) s = .next (s.logCorr (qPage q) 0x02))
      ∧ (s.qDetached q = true → s.pcieUp 0 = true → (s.qEnabled q = true ∨ s.ringsOk q = true) →
        exec (.cqEnable q) s = .next (((s.setQStat q 0 true).setField (qPage q + Off.CQ_CTRL) 0 0 1).reattach q))
      ∧ (s.inflight q = 0 → s.heldCount q = 0 → (s.queue q).overflow = none → exec (.cqDisable q) s =
        .next ((((s.setQStat q 0 false).setField (qPage q + Off.CQ_CTRL) 0 0 0).setQStat q 4 false).setQueue q QueueSt.reset))
      ∧ (s.inflight q ≠ 0 → exec (.cqDisable q) s = .next (s.qIgnored q))
      ∧ (s.inflight (64 + d) = 0 → s.heldCount (64 + d) = 0 → (s.queue (64 + d)).overflow = none → exec (.dockDisable d) s =
        .next (((s.setQStat (64 + d) 0 false).setField (qPage (64 + d) + Off.CQ_CTRL) 0 0 0).setQueue (64 + d) QueueSt.reset))
      ∧ (∀ (v : Word) cyc, enabled q → let n := s.qReg q Off.CQ_RING_SIZE
          exec (.cqTailWrite q v cyc) s = .next (if n < ringDist n (s.qReg q Off.CQ_HEAD) (v.toNat % (2 * n)) then s.qRange q
            else (s.setQReg q Off.CQ_TAIL (v.toNat % (2 * n))).setQueue q { s.queue q with
              bells := (s.queue q).bells ++ [{ tick := s.now, cycle := cyc, tail := v.toNat % (2 * n) }] }))
      ∧ (∀ (v : Word) cyc, enabled (64 + d) → let n := s.qReg (64 + d) Off.CQ_RING_SIZE
          exec (.dockTailWrite d v cyc) s = .next (if n < ringDist n (s.qReg (64 + d) Off.CQ_HEAD) (v.toNat % (2 * n)) then s.qRange (64 + d)
            else (s.setQReg (64 + d) Off.CQ_TAIL (v.toNat % (2 * n))).setQueue (64 + d) { s.queue (64 + d) with
              bells := (s.queue (64 + d)).bells ++ [{ tick := s.now, cycle := cyc, tail := v.toNat % (2 * n) }] }))
      ∧ (∀ v : Word, enabled q → exec (.cqCplHeadWrite q v) s = .next (s.returnSlots q v.toNat))
      ∧ (∀ v : Word, exec (.dockCplHeadWrite d v) s = .next (s.returnSlots (64 + d) v.toNat))
      ∧ (enabled q → s.fetchReady q = true → exec (.cqEntryFetch q) s = .next
          (State.fetchEntries q (ringDist (s.qReg q Off.CQ_RING_SIZE) (s.queue q).fetchIx (s.qReg q Off.CQ_TAIL)) s))
      ∧ (∀ b e, ((s.queue (64 + d)).bells.filter (fun b => decide (b.tick < s.now))).getLast? = some b → s.qEnabled (64 + d) = true →
          (s.queue (64 + d)).fetched = [] → s.fetchReady (64 + d) = true → s.Wf →
          e = (s.engineRead (s.qReg (64 + d) Off.CQ_RING_BASE + 128 * ((s.queue (64 + d)).fetchIx % s.qReg (64 + d) Off.CQ_RING_SIZE)) 128).2.1 →
          1 + entExt e ≤ ringDist (s.qReg (64 + d) Off.DOCK_RING_SIZE) (s.queue (64 + d)).fetchIx b.tail →
          let u := State.fetchEntries (64 + d) (entExt e) (s.fetchEntry (64 + d))
          exec (.dockEntryRead d) s = .next (u.setQReg (64 + d) Off.DOCK_HEAD (u.queue (64 + d)).fetchIx))
      ∧ (∀ cmd k, s.cmd? cmd = some k → k.src = q.val → k.closed = false → exec (.completionRecordWrite cmd) s = .next (s.nextRec k))
      ∧ (∀ cmd k, s.cmd? cmd = some k → k.src = 64 + d.val → k.closed = false → exec (.dockCompletion d cmd) s = .next (s.nextRec k)))
  ∧ ((∀ r : CplRec, r.bytesOf.length = 32)
    ∧ ∀ (s : State) (cmd : Nat) (k : Cmd) (r : CplRec), s.cmd? cmd = some k → k.src < 64 → k.closed = false → k.cpl ≠ 0 →
      k.due[k.recsOut]? = some r → bit r.flags 0 = false → k.fenceAll = false → s.qDetached k.src = false → (s.queue k.src).owed = 0 →
      (s.queue k.src).owedOv = false →
      let a := k.cpl + 32 * k.recsOut
      s.reaches a = true → s.cohReady [(a, 32), (a, 32)] = true →
      exec (.completionRecordWrite cmd) s = .next ((((s.flushes k a).recBytes a r.bytesOf).updCmd k.id (fun k =>
        { k with recsOut := k.recsOut + 1, closed := false })).qShow k.src))

/-- Acceptance (R295, R318, R321): of the commands at the heads of their sources whose doorbell's tick is past the first in
the acceptance order that need not wait is accepted, unless one before it is still to be read; the checks run in their order, poison before VERSION before the other rules. -/
def Obligations.CommandsAreAcceptedInOrder : Prop :=
  ∀ (s : State) (h : HeadCmd),
    ((((upTo 0 192).filterMap s.headOf).mergeSort HeadCmd.before).find? (fun x => !s.mustWait x) = some h →
      (∀ x ∈ (upTo 0 192).filterMap s.headOf, s.mustWait x = false) → (∀ x ∈ (upTo 0 192).filterMap s.unread, x.before h = false) →
      exec .commandAccept s = .next (s.accept h))
    ∧ (∀ x, x ∈ (upTo 0 192).filterMap s.unread → x.before h = true → (upTo 0 192).filterMap s.headOf = [h] → s.mustWait h = false →
      exec .commandAccept s = .next s)
    ∧ ((upTo 0 192).filterMap s.headOf = [h] → s.mustWait h = true → h.src < 64 → exec .commandAccept s = .next (s.setQStat h.src 3 true))
    ∧ ((upTo 0 192).filterMap s.headOf = [] → exec .commandAccept s = .next s)
    ∧ (h.poison = true → s.entryCheck h = some (Status.MEM_UE, some 0x03))
    ∧ (h.poison = false → fld h.bytes 2 1 ≠ 1 → s.entryCheck h = some (Status.VERSION_MISMATCH, none))
    ∧ (h.poison = false → fld h.bytes 2 1 = 1 → entOp h.bytes = 0 → s.entryCheck h = some (Status.BAD_COMMAND, some 0x08))

/-- The commands of the copy engine and the queues' own (R302–R307, R324–R326): WRITE_INLINE writes its data, COPY's items run in
ascending index, FENCE ends after what came before it, NOP ends at a boundary after START, and a QUERY is checked, placed for its
admission tick and its result delivered when it is due. -/
def Obligations.CommandsAct : Prop :=
  ∀ (s : State) (cmd : Nat) (k : Cmd),
    (s.fresh cmd 0x0002 = some k → let a := fld k.cargo 0 8
      let n := fld k.cargo 8 2
      1 ≤ n → n ≤ 448 → s.mappedMem a n = true → s.outDown a = false → s.cohReady [(a, n)] = true →
      let u := s.updCmd cmd (fun k => { k with begun := true, running := [0] })
      exec (.writeInline cmd) s =
        .next (((u.engineWrite cmd a ((k.cargo.drop 16).take n)).updCmd cmd (·.addBytes 0 n)).endItem cmd 0 Status.DONE))
    ∧ (s.fresh cmd 0x0003 = some k → exec (.copy cmd) s = .next (s.beginCmd cmd))
    ∧ (s.cmd? cmd = some k → k.opcode = 3 → k.begun = true → k.allEnded = false → k.running.length < k.items → s.copyBusy < 8 →
      k.itemEnded k.running.length = false → k.id = cmd →
      exec (.copyItem cmd) s = .next (s.copyItem k k.running.length)
      ∧ (let j := k.running.length
        let t := k.table + 32 * j
        let b := s.rdBytes t 32
        let src := fld b 0 8
        let dst := fld b 8 8
        let n := fld b 16 8
        s.outDown t = false → s.anyPoison t 32 = false → 0 < n → n ≤ 2 ^ 40 → fld b 24 4 = s.node → s.node < 0x7FFF →
        s.mappedMem src n = true → s.mappedMem dst n = true → overlap (src, n) (dst, n) = false → s.outDown src = false →
        s.outDown dst = false → s.anyPoison src n = false → s.cohReady [(t, 32)] = true → s.cohReady [(src, n), (dst, n)] = true →
        exec (.copyItem cmd) s = .next (((((s.homeRead [(t, 32)]).updCmd k.id (·.run j)).homeRead [(src, n)]).engineWrite k.id dst
          (s.rdBytes src n)).updCmd k.id (·.addBytes j n) |>.endItem k.id j Status.DONE)))
    ∧ (s.fresh cmd 0x0009 = some k → (∀ x ∈ s.cmds, x.id < cmd → x.src = k.src ∨ k.fenceAll = true → s.recWritten x = true) →
      exec (.fence cmd) s = .next ((s.beginCmd cmd).endItem cmd 0 Status.DONE))
    ∧ (∀ x, s.fresh cmd 0x0009 = some k → x ∈ s.cmds → x.id < cmd → x.src = k.src → s.recWritten x = false → exec (.fence cmd) s = .next s)
    ∧ (s.fresh cmd 0x000A = some k → k.start < s.now → k.accTick < s.now →
      exec (.nop cmd) s = .next ((s.beginCmd cmd).endItem cmd 0 Status.DONE))
    ∧ (s.fresh cmd 0x0008 = some k → s.cohReady [(k.table, 64)] = true → s.outDown k.table = false → s.anyPoison k.table 64 = false →
      queryOk k = true → svcOk (s.rdBytes k.table 64) = true →
      exec (.query cmd) s = .next (((s.homeRead [(k.table, 64)]).beginCmd cmd).updCmd cmd (fun c => { c with desc := s.rdBytes k.table 64 })))
    ∧ (s.cmds.filter (fun k => k.opcode == 8 && !k.allEnded && !s.queries.any (·.cmd == k.id)) = [k] → k.begun = true →
      s.queryWaits k = false →
      exec .queryPlace s = .next ((s.queries.foldl (fun (t : State) x => t.writeSlot x) s).placeQuery k))
    ∧ (∀ x, s.queries.find? (fun x => decide (x.due ≤ s.now)) = some x → s.cmd? x.cmd = some k → k.itemEnded 0 = false →
      s.queryStatus x = Status.DONE → s.anyPoison (lbBase x.core + x.out) x.len = false → s.mappedMem (k.cpl + 64) x.len = true →
      s.outDown (k.cpl + 64) = false → s.cohReady [(k.cpl + 64, x.len)] = true →
      let u : State := { s with queries := s.queries.erase x }
      exec .queryResultCollect s = .next (((u.engineWrite x.cmd (k.cpl + 64) (s.lbRd x.core x.out x.len)).updCmd x.cmd
        (·.addBytes 0 x.len)).endItem x.cmd 0 Status.DONE))

/-! ## PCIe and Sundlink (chapters 11 and 12) -/

/-- The PCIe ports (R310–R314, R334–R336, R339, R340): a link trains and retrains, and its loss fails the items that need the
host, detaches every queue of an endpoint and makes the detach policy due; accesses through BAR2 and the outbound window move
their bytes or answer poison; errors are counted; and settings wait for no job. -/
def Obligations.PciePortsCarryAndLoseTheHost : Prop :=
  ∀ (s : State) (p : PcieIx),
    let q := pPCIE p
    (∀ gen w, gen ≠ 0 → widthOk w = true → s.pcieUp p = false → s.pcie.d3 = false → s.powered 6 = true → exec (.pcieLinkTrain p gen w) s =
      .next (s.setRegN (q + Off.PCIE_STAT) (setBits (s.regN (q + Off.PCIE_STAT)) 9 0
        (1 + trainedGen gen * 2 + w * 16 + b2n (decide (6 ≤ gen)) * 512))))
    ∧ (s.pcieUp p = true → exec (.pcieRetrain p) s = .next ((s.bump q Off.PCIE_RETRAIN_CNT 1).logCorr q 0x01))
    ∧ (∀ why cut, s.pcieUp p = true → p.val = 1 → exec (.pcieLinkLoss p ⟨why, cut⟩) s =
      .next (((s.setField (q + Off.PCIE_STAT) 9 0 0).bump q Off.PCIE_DOWN_CNT 1).logCorr q 0x02))
    ∧ (∀ why, s.Wf → s.pcieUp p = true → why ≠ .d3hot → p.val = 0 → s.rootMode = false →
      let u : State := { s.setField (q + Off.PCIE_STAT) 9 0 0 with pcie := { s.pcie with d3 := false } }
      let u := (u.bump q Off.PCIE_DOWN_CNT 1).logCorr q 0x02
      let v := (upTo 0 64).foldl (fun (s : State) q => s.detach q) u.failHostItems
      let w := (v.setField (q + Off.PCIE_STAT) 11 11 1).resetCfg
      exec (.pcieLinkLoss p ⟨why, none⟩) s = .next { w with pcie := { w.pcie with
        abort := if bit (w.regN (pPCIE 0 + Off.PCIE_CTRL)) 0 = true then none else some w.now } })
    ∧ (s.pcie.d3 = true → exec .pcieD3hotExit s = .next { s.setField (pPCIE 0 + Off.PCIE_STAT) 0 0 1 with pcie := { s.pcie with d3 := false } })
    ∧ (∀ t, s.pcie.abort = some t → t < s.now → exec .hostDetachAbort s = .next
      ((s.cmds.filter (fun k => decide (k.src < 64) && !k.closed)).foldl (fun (s : State) k => s.stopCmd k Status.ABORTED)
        { s with pcie := { s.pcie with abort := none } }))
    ∧ (∀ off n data, let a := s.regN (pPCIE 0 + Off.PCIE_BAR2_BASE) + off
      s.rootMode = false → s.pcieUp 0 = true → 1 ≤ n → n ≤ 4096 → off + n ≤ 2 ^ s.pcie.bar2 → s.devMem a n = true → s.cohReady [(a, n)] = true →
      (exec (.bar2Access off n false data .none) s =
        .next (((s.homeRead [(a, n)]).bump64 (pPCIE 0) Off.PCIE_TX_BYTES n).answered (s.rdBytes a n) (s.anyPoison a n) false))
      ∧ (data.length = n → exec (.bar2Access off 0 true data .none) s =
        .next (((s.homeWrite [(a, n)]).wrBytes a data).bump64 (pPCIE 0) Off.PCIE_RX_BYTES n)))
    ∧ (∀ a n, 1 ≤ n → 0xE000000000000 ≤ a → a < 0xF000000000000 → (s.rangeRegion a n).isSome = true →
      (s.outDown a = true → exec (.outboundAccess a n false [] none) s = .next ((s.logDown a).answered (rep n 0) true false))
      ∧ (s.outDown a = false → exec (.outboundAccess a n false [] none) s =
        .next ((s.bump64 (pPCIE (outPort a)) Off.PCIE_RX_BYTES n).answered (s.rdBytes a n) (s.anyPoison a n) false))
      ∧ (∀ data : Bytes, data.length = n → s.outDown a = false → exec (.outboundAccess a 0 true data none) s =
        .next ((s.wrBytes a data).bump64 (pPCIE (outPort a)) Off.PCIE_TX_BYTES n)))
    ∧ (∀ a n, exec (.atsInvalidation a n) s = .next { s with
        pcie := { s.pcie with atc := s.pcie.atc.filter (fun x => !overlap (x.addr, x.len) (a, n)) } })
    ∧ (exec (.pcieUnexpCpl p) s = .next (((s.bump q Off.PCIE_UNEXP_CPL_CNT 1).bump q Off.PCIE_AER_CNT 1).logCorr q 0x03))
    ∧ (∀ cmd j k, s.cmd? cmd = some k → k.closed = false → k.itemEnded j = false → j < k.items →
      exec (.pcieCplTimeout p cmd j) s = .next (((s.bump q Off.PCIE_AER_CNT 1).logErr q 0x04 clsItem (s.itemInfo cmd j)).stopItem k j
        Status.HOST_LINK_LOST))
    ∧ (∀ a n, s.devMem a (max n 1) = true → s.cohReady [(a, max n 1)] = true →
      exec (.pciePoisonedTlp p none a n) s = .next (((s.bump q Off.PCIE_AER_CNT 1).homeWrite [(a, n)]).poisonRange a n))
    ∧ (∀ v : DWord, exec (.pcieBar2BaseWrite v) s = .next (if v.toNat % 2 ^ s.pcie.bar2 = 0 then
        s.setReg (pPCIE 0 + Off.PCIE_BAR2_BASE) v else s.logCorr (pPCIE 0) 0x08))
    ∧ (∀ v : Word, p.val = 0 → s.noJob = true → exec (.pcieCtrlWrite p v) s = .next (s.setRegN (q + Off.PCIE_CTRL) (bits v.toNat 1 0)))

/-- The Sundlink data link (R347–R350, R364): the expected flit is accepted and delivered, a bad one and a gap are answered with a
NAK, an ACK frees what it covers, a NAK replays, the timers acknowledge and replay, and credits return. A flit has 256 bytes. -/
def Obligations.FlitsAreAcceptedAcknowledgedAndReplayed : Prop :=
  ∀ (s : State) (p : PortIx) (b : Bytes), b.length = 256 → s.trained p = true →
    let x := s.port p
    let good := fun (typ : Nat) => flitOk b = true ∧ flitType b = typ
    let link := fun (typ : Nat) => good typ ∧ flitVC b = 0 ∧ flitLate b = false ∧ flitRsvd b = 0 ∧ flitCrN b = 0
    (∀ typ vc, good typ → isLink typ = false → typ ≠ 0x08 → vc = flitVC b → flitSeq b = x.rxSeq → (vc < 6 → x.rxFree vc ≠ 0) →
      let u := s.acceptSeq p b
      let u := if flitLate b = true then u.lateRx p (fullTick u.now (flitStamp b)) else u
      let st := if flitLate b = true then u.now else fullTick u.now (flitStamp b)
      let v := if (typ = 0x10 ∨ typ = 0x18) ∧ u.stampOut st = true then u.logCorr (pSLNK p) 0x07 else u
      (seqVC typ = some vc → exec (.flitAccept p b) s = .next (v.setPort p { v.port p with
        rxq := (v.port p).rxq ++ [{ typ := typ, vc := vc, payload := flitPayload b, stamp := st, tick := v.now }] }))
      ∧ (seqVC typ ≠ some vc → exec (.flitAccept p b) s = .next ((u.freed p vc).viol p 0x03 vc)))
    ∧ (good 0x08 → flitSeq b = x.rxSeq → flitVC b = 4 → flitLate b = true →
      exec (.nullFlitRx p b) s = .next ((s.acceptSeq p b).lateRx p (fullTick (s.acceptSeq p b).now (flitStamp b))))
    ∧ (flitOk b = false → exec (.flitCrcError p b false) s = .next ((s.bump (pSLNK p) Off.SLNK_CRC_CNT 1).sendLink p 0x02 x.rxSeq []))
    ∧ (flitOk b = true → isLink (flitType b) = false → flitSeq b ≠ x.rxSeq → 512 < seqDist x.rxSeq (flitSeq b) →
      exec (.flitCrcError p b false) s = .next ((s.bump (pSLNK p) Off.SLNK_REPLAY_CNT 1).sendLink p 0x02 x.rxSeq []))
    ∧ (link 0x01 → x.outstanding (flitSeq b) = true →
      let y := x.ackUpTo (flitSeq b)
      exec (.ackRx p b) s =
        .next ((s.setPort p y).sendsAcked ((x.replay.take (x.replay.length - y.replay.length)).map (·.owner))))
    ∧ (link 0x02 → x.outstanding (flitSeq b) = true →
      let q := (flitSeq b + 4095) % 4096
      let y := (if x.outstanding q = true then x.ackUpTo q else x).syncCredits
      exec (.nakRx p b) s = .next (((s.setPort p y).sendsAcked
        ((x.replay.take (x.replay.length - y.replay.length)).map (·.owner))).startReplay p))
    ∧ (link 0x03 → exec (.creditSyncRx p b) s = .next (s.setPort p { x with sync := some ((upTo 0 6).map (fun v => fld b (8 + 2 * v) 2)) }))
    ∧ (good 0x00 → flitVC b = 0 → flitLate b = false → flitRsvd b = 0 → exec (.creditReturn p b) s = .next (s.takeCredits p b))
    ∧ (good 0x00 → flitVC b ≠ 0 → exec (.creditReturn p b) s = .next (s.viol p 0x03 (flitVC b)))
    ∧ (0 < x.unacked → exec (.ackTimer p) s = .next ((s.setPort p { x with unacked := 0 }).sendLink p 0x01 (x.rxSeq + 4095) []))
    ∧ (x.unacked = 0 → x.owed.any (fun n => decide (0 < n)) = true → exec (.ackTimer p) s = .next (s.sendLink p 0x00 0 []))
    ∧ (exec (.replayTimeout p) s = .next (s.startReplay p))
    ∧ (8 ≤ x.stuck → exec (.replayExhausted p) s = .next (s.beginRetrain p))
    ∧ (exec (.flitGrant p) s = .next (s.grantNext p))

/-- A port in Ethernet mode (R362, R363) sends its flits in frames, sends those not acknowledged again, takes no Sundlink flit,
and drops what a frame acknowledges. -/
def Obligations.EthernetPortsCarryFrames : Prop :=
  ∀ (s : State) (p : PortIx) (b : Bytes), s.pup p = true → s.peth p = true →
    exec (.flitGrant p) s = .next (s.grantFrame p)
    ∧ exec (.ethFrameResend p) s = .next ((s.port p).frames.foldl (fun (s : State) f => s.sendFrame p false f) s)
    ∧ exec (.flitAccept p b) s = .next s
    ∧ (b.length = 20 + 248 * fld b 2 1 → fld b 0 1 = 1 → bit (fld b 1 1) 0 = true →
      exec (.ethFrameRx p b) s = .next (s.setPort p { s.port p with
        frames := (s.port p).frames.filter (fun f => !(f.dest == fld b 4 4 && decide (f.fseq < fld b 16 4))) }))

/-- A flit is 256 bytes that carry its fields and payload, and its CRC is good (R343–R345): what is sent is what is received. -/
def Obligations.FlitsCarryTheirFields : Prop :=
  ∀ (typ vc seq cv cn stamp : Nat) (late : Bool) (payload : Bytes), typ < 64 → vc < 8 → seq < 4096 → cv < 8 → cn < 8192 → stamp < 65536 →
    payload.length ≤ 240 →
    let b := mkFlit typ vc seq cv cn late stamp payload
    b.length = 256 ∧ flitOk b = true ∧ flitType b = typ ∧ flitVC b = vc ∧ flitSeq b = seq ∧ flitCrVC b = cv ∧ flitCrN b = cn
      ∧ flitLate b = late ∧ flitStamp b = stamp ∧ flitRsvd b = 0 ∧ flitPayload b = payload ++ rep (240 - payload.length) 0

/-- Ports train, retrain and leave (R356, R358–R360, R365–R368): training steps down its rates, exchanges records and ends; a port
that is UP retrains and locks again; too many violations quarantine it; and the node ID is set only with every port DOWN. -/
def Obligations.PortsTrainRetrainAndLeave : Prop :=
  ∀ (s : State) (p : PortIx),
    let q := pSLNK p
    let locked := s.field (q + Off.SLNK_STAT) 9 6 = 15
    (s.powered 7 = true → s.mayTrain p = true → (s.pstate p = 0 ∨ s.pstate p = 5) → exec (.portTrain p) s = .next (s.beginTrain p))
    ∧ (s.pstate p = 1 → ¬locked → exec (.trainRateStep p) s = .next (if s.field (q + Off.SLNK_STAT) 4 3 < 2 then
        s.setField (q + Off.SLNK_STAT) 4 3 (s.field (q + Off.SLNK_STAT) 4 3 + 1) else s.portIdle p 5))
    ∧ (s.pstate p = 1 → locked → (s.port p).eth = false → exec (.trainFlitTx p) s =
        .next ((s.setPort p { s.port p with sentTrain := true }).sendLink p 0x04 0 (s.capRecord p)))
    ∧ (∀ b, b.length = 256 → flitOk b = true → flitType b = 0x04 → flitVC b = 0 → s.pstate p = 1 → locked →
        (s.port p).sentTrain = true →
        let u := s.setPort p { s.port p with partner := some (flitPayload b), acked := true }
        exec (.trainFlitRx p b true) s = .next (u.trainDecide p (flitPayload b)))
    ∧ (s.pstate p = 1 → exec (.trainTimeout p) s = .next (s.portIdle p 5))
    ∧ (s.pstate p = 1 →
        let u := s.setField (q + Off.SLNK_STAT) 9 6 15
        exec (.lanesLocked p) s = .next (if (s.port p).eth = true then (u.setPstate p 2).setField (q + Off.SLNK_STAT) 5 5 1 else u))
    ∧ (s.pstate p = 3 →
        let u := ((s.setField (q + Off.SLNK_STAT) 9 6 15).setField (q + Off.SLNK_STAT) 13 10 1).setPstate p 2
        exec (.lanesLocked p) s = .next (u.setPort p { u.port p with
          resend := (u.port p).replay.length
          stuck := 0 }))
    ∧ (s.pup p = true → exec (.portRetrain p) s = .next (s.beginRetrain p) ∧ exec (.fecLockLoss p) s = .next (s.beginRetrain p)
        ∧ exec (.slnkRetrainWrite p) s = .next (s.beginRetrain p))
    ∧ (s.field (q + Off.SLNK_CTRL) 15 8 < s.regN (q + Off.SLNK_VIOL_TIDE) → (s.pstate p = 2 ∨ s.pstate p = 3) →
        exec (.portQuarantine p) s = .next (s.portLeave p 4 0x10 Status.PEER_PROTOCOL))
    ∧ (s.pstate p = 4 → s.mayTrain p = true → exec (.slnkQuarClr p) s = .next (s.beginTrain p))
    ∧ (s.pstate p = 2 → exec (.portDown p false) s = .next (s.portLeave p 0 0x13 Status.PEER_LINK_LOST))
    ∧ (s.pstate p = 3 → exec (.portDown p true) s = .next (s.portLeave p 5 0x11 Status.PEER_LINK_LOST))
    ∧ (∀ v : BitVec 15, (∀ k, k < 18 → s.pstate k = 0) → exec (.slnkNodeWrite v) s = .next (s.setRegN (pSLNK 0 + Off.SLNK_NODE) v.toNat))
    ∧ (∀ v : BitVec 15, (∃ k, k < 18 ∧ s.pstate k ≠ 0) → exec (.slnkNodeWrite v) s = .next (s.logCorr (pSLNK 0) 0x12))
    ∧ (exec .slnkRouteReload s = .next { s with routes := s.rdBytes (s.regN (pSLNK 0 + Off.SLNK_ROUTE_BASE)) 65536 })

/-- Messages and streams over the links (R353–R357, R364, R372, R450): a flit for this node is served, one for another is
forwarded, one with a bad destination is refused; the link ferry sends and lands scheduled data; unclaimed data is discarded;
and an unanswered message fails its item. -/
def Obligations.MessagesAndStreamsAreServed : Prop :=
  ∀ (s : State) (p : PortIx) (c : CoreIx) (fl : RxFlit),
    let b := fl.payload
    let u := s.dropRx p fl
    let here : Prop := rtBadDest b = false ∧ bits (rtDest b) 14 0 = s.node
    let seen := fun (typ : Nat) => if rtRsvd b = true then u.rsvd p (routedVC typ) else u
    let row := fun (typ : Nat) (t : State) => (typ = 0x20 → exec (.rreqRx p) s = .next t) ∧ (typ = 0x21 → exec (.rackRx p) s = .next t)
      ∧ (typ = 0x28 → rtLen b ≤ 216 → exec (.bulkRx p) s = .next t)
    (∀ typ, s.firstRx p typ = some fl → rtBadDest b = false → bits (rtDest b) 14 0 ≠ s.node → s.answers b = none →
      row typ ((seen typ).forward p typ b))
    ∧ (∀ typ, s.firstRx p typ = some fl → rtBadDest b = true → s.rreqWaits b = false → s.bulkWaits b = false →
      row typ (((seen typ).viol p 0x08 (routedVC typ)).sendRack (bits (rtSrc b) 14 0) (rtMsg b) (rtAddr b) 3))
    ∧ (s.firstRx p 0x20 = some fl → here → s.rreqWaits b = false →
      let r := (seen 0x20).serveRead (rtAddr b) (fld (rtData b) 0 8)
      exec (.rreqRx p) s = .next (match r.2 with
        | .error k => r.1.sendRack (bits (rtSrc b) 14 0) (rtMsg b) (rtAddr b) k
        | .ok d => (bulkFlits (bits (rtSrc b) 14 0) r.1.node (rtMsg b) 0 false (d.length / 216 + 1) (rtAddr b) d).foldl
            (fun (s : State) x => s.sendRouted 0x28 x none) r.1))
    ∧ (∀ m, s.firstRx p 0x28 = some fl → here → s.bulkWaits b = false → rtLen b ≤ 216 → s.answers b = some m →
      exec (.bulkRx p) s = .next ((seen 0x28).takeAnswer m (rtAddr b) (rtBulk b)))
    ∧ (s.firstRx p 0x28 = some fl → here → s.bulkWaits b = false → rtLen b ≤ 216 → s.answers b = none →
      (rtBulk b).length < 216 → s.inMsgs = [] →
      exec (.bulkRx p) s = .next ((seen 0x28).finishIn
        { node := bits (rtSrc b) 14 0, msg := rtMsg b, tagw := rtTagw b, parts := [(rtAddr b, rtBulk b)], bad := none } (rtAddr b)))
    ∧ (s.firstRx p 0x21 = some fl → here →
      exec (.rackRx p) s = .next ((seen 0x21).takeRack (bits (rtSrc b) 14 0) (rtMsg b) (rtKind b)))
    ∧ (∀ n m, s.msgs.find? (·.msg == n) = some m → m.sent + s.regN (pSLNK 0 + Off.SLNK_MSG_TIMEOUT) ≤ s.now → m.use = .copy →
      let w := s.itemErrAt (pSLNK 0) 0x0B m.cmd m.item Status.PEER_LINK_LOST m.remote
      exec (.slMsgTimeout n) s = .next (({ w with msgs := w.msgs.filter (· ≠ m) } : State).endItem m.cmd m.item Status.PEER_LINK_LOST))
    ∧ (s.firstRx p 0x30 = some fl → bit (s.regN (pg .mgmt 0 + Off.MGMT_CTRL)) 1 = true →
      exec (.mgmtFlitRx p) s = .next (if mgmtFlitOk b = true then { u with mctpIn := u.mctpIn ++ [{ chan := p.val, bytes := b }] }
        else u.viol p 0x09 5))
    ∧ (∀ o x, s.linkOp c 0x02 = some (o, x) → s.schedPort x.port = true → exec (.linkRecv c) s =
      .next (State.landHeld c (s.port x.port).rxq (s.putOp c 3 { o with issued := true }) { o with issued := true }))
    ∧ (∀ o x, s.linkOp c 0x01 = some (o, x) → s.schedPort x.port = true →
      let off := 232 * o.step
      let n := min 232 (x.bytes - off)
      s.poisonIn c [(x.lb + off, n)] = none →
      let w := s.queueFlit x.port {
        typ := 0x10
        vc := 0
        owner := some (c.val, o.recIx)
        payload := mkSdata x.stream n false (decide (x.bytes ≤ off + n)) off (s.lbRd c (x.lb + off) n) }
      exec (.linkSend c) s = .next ((w.moved c 3 o n).putOp c 3 { o with
        step := o.step + 1
        moved := o.moved + n
        issued := decide (x.bytes ≤ off + n) }))
    ∧ (∀ e o, (s.port p).rxq.find? (fun f => f.typ == 0x10 && (s.recvFor p (fld f.payload 0 2)).isSome) = some fl →
      s.recvFor p (fld b 0 2) = some (e, o) → exec (.sdataRx p) s = .next (u.landSdata e o b).1)
    ∧ ((s.port p).rxq.find? (s.unclaimed p) = some fl → exec (.slNoRecv p) s = .next (u.logCorr (pSLNK p) 0x0D))

/-- Collective operations (R369–R379): the operation that the link ferry has taken starts, and the core's run goes as far as its
inputs allow; received data reach the run they belong to; a child that is late is void, and fails a BARRIER. -/
def Obligations.CollectivesStartAdvanceAndTimeOut : Prop :=
  ∀ (s : State) (c : CoreIx) (r : CollRun),
    let runs := fun (op : Nat) (t : State) => t.colls.filter (fun r => r.core == c.val && r.op == op)
    let row := fun (op : Nat) (t : State) =>
      (op = 0x10 → exec (.collReduce c) s = .next t) ∧ (op = 0x11 → exec (.collBcast c) s = .next t)
      ∧ (op = 0x12 → exec (.collBarrier c) s = .next t) ∧ (op = 0x13 → exec (.collSummary c) s = .next t)
    (∀ op o x, s.linkOp c op = some (o, x) →
      let u := s.collStart c o x
      row op ((runs op u).foldl (fun (s : State) r => s.collAdvance r) u))
    ∧ (∀ op, s.linkOp c op = none → runs op s = [r] → row op (s.collAdvance r))
    ∧ (r.op = 0x12 → r.sent = false → r.kids = [] → s.treeParent r.tree ≠ 31 → s.collAdvance r =
        (s.sendStream [s.treeParent r.tree] r.stream 0 0 0 [] none).putColl { r with sent := true })
    ∧ (r.op = 0x12 → r.sent = false → r.kids = [] → s.treeParent r.tree = 31 → s.collAdvance r =
        (s.sendStream (s.treeKids r.tree) r.stream 4 0 0 [] none).collFinish r false)
    ∧ (∀ (p : PortIx) fl, (s.port p).rxq.find? (fun f => f.typ == 0x18 && (s.collRestOf p f.payload || (s.cdataFor p f.payload).isSome)) = some fl →
        s.collRestOf p fl.payload = false → s.cdataFor p fl.payload = some r → bits (fld fl.payload 3 1) 7 6 = 0 →
        let u := (s.dropRx p fl).bump64 (pCOLL (s.treeMaster r.tree)) Off.COLL_BYTES (min (fld fl.payload 2 1) 224)
        let y : CollRun := { r with kids := r.kids.map (fun k => if k.port = p.val then k.take fl.payload else k) }
        (bit (fld fl.payload 3 1) 2 = true → exec (.cdataRx p) s = .next (u.takeDown r fl.payload))
        ∧ (bit (fld fl.payload 3 1) 2 = false → exec (.cdataRx p) s = .next ((u.putColl y).collAdvance y)))
    ∧ (s.colls.find? (fun r => r.core == c.val && !r.kids.all (·.ended) && decide (r.tick + bits (s.tree r.tree) 39 32 ≤ s.now)) = some r →
        let p := pCOLL (s.treeMaster r.tree)
        let open_ := r.kids.filter (fun k => !k.ended)
        let u := (s.bump p Off.COLL_TIMEOUT_CNT open_.length).logErr p 0x05 clsCorr (s.itemInfo r.cmd r.item)
        (r.op = 0x12 → exec (.collChildTimeout c) s = .next (u.collAbort r))
        ∧ (r.op ≠ 0x12 →
          let late := open_.map (fun k => (k.port, r.stream))
          let y : CollRun := { r with kids := r.kids.map (fun k => if k.ended = true then k else { k with closed := true }) }
          exec (.collChildTimeout c) s = .next ((({ u with
            collRest := s.collRest.filter (fun e => !late.contains e) ++ late } : State).putColl y).collAdvance y)))
    ∧ (∀ (g : Fin 8) (v : DWord),
        let a := pCOLL 0 + Off.COLL_TREE + 8 * g
        let keep := v.toNat &&& 0xFF1FFFFF1F
        (s.noJob = false ∨ bits v.toNat 39 32 = 0 → exec (.collTreeEnable g v) s = .next (s.logCorr (pCOLL 0) 0x0A))
        ∧ (s.noJob = true → bits v.toNat 39 32 ≠ 0 → bit v.toNat 29 = false →
          exec (.collTreeEnable g v) s = .next (s.setRegN a (keep + s.field a 30 30 * 2 ^ 30)))
        ∧ (s.noJob = true → bits v.toNat 39 32 ≠ 0 → bit v.toNat 29 = true → s.treeCheck v.toNat = 0 →
          exec (.collTreeEnable g v) s = .next (s.setRegN a (keep + 2 ^ 29))))

/-! ## Errors, leaving, snapshots and resets (chapter 13) -/

/-- Errors and the fleet's reactions (R380, R385–R393, R401, R405): an event is logged with the consequence of its class, after a
device-fatal fault the units stop and every record goes out, floods are forwarded and acted on, and a local reset or HALT ends
what runs. -/
def Obligations.ErrorsStopHaltAndReset : Prop :=
  ∀ (s : State) (b : Blk) (i code : Nat) (c : Nat × Nat) (item : Option (Nat × Nat)) (addr : Option Nat) (p : PortIx),
    (errClass b code = some c → i < b.count → ∀ info, exec (.rasLogAppend b i code item addr info) s = .next (s.pageError b i code c item addr info))
    ∧ (errClass b code = some c → i < b.count → c.1 = clsFatal →
        exec (.deviceFatalFault b i code item addr) s = .next (s.pageError b i code c item addr 0))
    ∧ (∀ v : DWord, exec (.rasLogTailWrite v) s = .next (if s.regN (pRAS + Off.RAS_LOG_HEAD) < v.toNat then s.logCorr pRAS 0x12
        else s.setReg (pRAS + Off.RAS_LOG_TAIL) v))
    ∧ (s.ras.leavePend = true → s.regN (pRAS + Off.RAS_FATAL_TICK) < s.now → ∃ t, exec .leaveStop s = .next t
        ∧ t.ras = { t.ras with leavePend := false, haltPend := none, resetPend := none } ∧ t.tick.asserting = false ∧ t.tick.notices = []
        ∧ (s.Wf → s.cmds = [] → (∀ k, k < 18 → s.pstate k = 0) → t.msgs = [] ∧ t.colls = [] ∧ t.upd = none ∧ t.snap = none
          ∧ ∀ c, (t.core c).tt = none))
    ∧ (s.left = true → s.ras.leavePend = false →
        let u := (s.cmds.filter (fun k => !k.closed)).foldl (fun (s : State) k => s.leaveCmd k) s
        exec .leaveRecords s = .next ((u.cmds.filter (fun k => !k.closed)).foldl (fun (s : State) k => s.flushRecs k) u))
    ∧ (∀ t, s.ras.resetPend = some t → t < s.now → exec .localReset s = .next s.localReset)
    ∧ (s.left = false → s.localReset.ras.resetPend = none ∧ s.localReset.ras.haltPend = none)
    ∧ (bit (s.regN (pRAS + Off.RAS_STAT)) 2 = true →
        exec .globalResetDone s = .next ((s.setField (pRAS + Off.RAS_STAT) 2 2 0).logCorr pRAS 0x04))
    ∧ (∀ t, s.ras.haltPend = some t → t < s.now → s.left = false →
        let u : State := { s with ras := { s.ras with haltPend := none } }
        let v := (s.cmds.filter (fun k => k.opcode == 1 && !k.closed && k.whole.isNone)).foldl
          (fun (s : State) k => s.stopCmd k Status.ABORTED) u
        let w := ((v.setField (pRAS + Off.RAS_STAT) 1 0 1).logCorr pRAS 0x02).raiseEvent pRAS
        exec .mbHalt s = .next (if bit (w.regN (pRAS + Off.RAS_CTRL)) 1 = true then w.request3 2 else w))
    ∧ (∀ f, s.firstRx p 0x0B = some f → floodOk f.payload = true →
        let u := s.dropRx p f
        let v := u.floodDown f.payload
        (fld f.payload 1 1 = 1 → exec (.floodSnapshotAt p) s =
          .next (if fld f.payload 8 8 ≤ v.now + 1 then v.logCorr (pCOLL 0) 0x09 else v.takeSnapAt (fld f.payload 8 8)))
        ∧ (fld f.payload 1 1 = 2 → exec (.floodGlobalReset p) s =
          .next (if v.left = true then v else { v with ras := { v.ras with resetPend := some (v.ras.resetPend.getD v.now) } }))
        ∧ (fld f.payload 1 1 = 3 → exec (.floodRequest p) s = .next (if u.jobRoot = true then u.answerReq (fld f.payload 2 1)
          else u.sendFlood (u.treeParent u.jobTree) f.payload)))

/-- Snapshots and restores (R233, R394–R403): a sound SNAPSHOT takes its T and its bad entries end at once; at T the step freezes;
a pontoon digests its shard; the next item's image goes out in ascending index; and a restore serves, copies back or asks its
partner, each item ending when its body has the right digests. -/
def Obligations.SnapshotsFreezeCopyAndRestore : Prop :=
  ∀ (s : State) (cmd item : Nat) (k : Cmd) (n : SnapRun),
    (s.fresh cmd 0x0005 = some k → fld k.cargo 0x10 8 % 64 = 0 → s.devMem (fld k.cargo 0x10 8) 64 = true →
      (s.snapBusy = true → exec (.snapshot cmd) s = .next (s.snapRefuse k 0x05))
      ∧ (s.snapBusy = false → fld k.cargo 8 8 ≠ 0 → fld k.cargo 8 8 ≤ k.accTick → exec (.snapshot cmd) s = .next (s.snapRefuse k 0x06))
      ∧ (s.snapBusy = false → k.accTick < fld k.cargo 8 8 → bit (fld k.cargo 1 1) 0 = false →
          let u := ({ s.beginCmd cmd with snap := some {
            cmd := cmd, t := some (fld k.cargo 8 8), frozen := false, fstep := 0, ustate := [], held := [], digs := [] } } : State).setRegN
              (pRAS + Off.RAS_SNAP_T) (fld k.cargo 8 8)
          exec (.snapshot cmd) s = .next (((upTo 0 k.items).foldl (fun (s : State) j =>
            if s.anyPoison (k.table + 32 * j) 32 = true then s.endItem cmd j Status.MEM_UE
            else if s.snapEntryOk k j = true then s
            else (s.itemErr pRAS 0x08 cmd j Status.BAD_COMMAND).endItem cmd j Status.BAD_COMMAND) u).showSnap 1)))
    ∧ (∀ t, s.snap = some n → n.t = some t → s.cmd? n.cmd = some k → n.frozen = false → t ≤ s.now →
      (∀ x ∈ s.cmds, x.opcode = 4 → x.accTick < t → s.recWritten x = true) → k.items = 0 →
      let u := s.rdBytes (fld k.cargo 0x10 8) 64
      exec .snapshotFreeze s = .next (({ s.setRegN (pRAS + Off.RAS_SNAP_FSTEP) (fld u 8 8) with
        snap := some { n with
          frozen := true
          fstep := fld u 8 8
          ustate := u
          held := [] } }).showSnap 3))
    ∧ (∀ (p : StackIx) rest d, s.pont p = { work := .dig, cmd := cmd, item := item } :: rest → s.cmd? cmd = some k → s.digShard k item = some d →
      s.digStack d = some p.val → s.cohReady d.parts = true → s.bodyPoison d = false →
      exec (.pontDig p) s = .next (((s.homeRecall d.parts).keepDigs cmd item (digests (s.shardBody d))).pontDone p d.bodyLen (ceilDiv d.bodyLen 1024)))
    ∧ (∀ l, s.snap = some n → s.cmd? n.cmd = some k → n.frozen = true → k.itemEnded item = false → item < k.items →
      (upTo 0 item).all k.itemEnded = true →
      let d := shardOf (s.entryShard k item)
      let dst := fld (s.entryOf k item) 8 8
      let img := imageHeader d n.fstep s.node (n.t.getD 0) ++ n.ustate ++ s.shardBody d ++ rep (roundUp d.bodyLen 64 - d.bodyLen) 0 ++
        (l.map (natLE 8)).flatten
      (n.digs.lookup item = some l ∨ n.digs.lookup item = none ∧ s.digStack d = none ∧ l = digests (s.shardBody d)) →
      s.cohReady ((dst, d.imageLen) :: d.parts) = true → d.imageLen ≤ fld (s.entryOf k item) 0x10 8 → s.bodyPoison d = false →
      s.outDown dst = false → exec (.snapshotItemDone item) s =
        .next ((((s.engineWrite k.id dst img).updCmd k.id (·.addBytes item img.length)).endItem k.id item Status.DONE).showSnap 4))
    ∧ (∀ d, s.cmd? cmd = some k → k.opcode = 6 → k.allEnded = false → (k.start ≤ s.now ∨ k.begun = true) → item < k.items →
      k.itemEnded item = false → s.rvCargoOk k = true → s.rvShard k item = some d →
      let u := (s.beginCmd cmd).updCmd cmd (·.run item)
      let mine := fun (r : RvRun) => r.cmd == cmd && r.item == item
      (rvMode k = 2 →
        let a := fld (s.entryOf k item) 0x18 8
        let c := s.rdBytes d.commit 64
        a % 64 = 0 → s.devMem a (64 + 8 * d.digBlocks) = true → s.bodyPoison d = false → commitOk c = true → (commitOf c).commit = rvStep k →
        (commitOf c).phase = 0 →
        let rest := s.rvs.filter (fun r => !mine r)
        let serve := fun (l : Bytes) =>
          let t := ((({ u with rvs := rest } : State).wrBytes a (digHeader 0 (rvStep k) d.digBlocks)).wrBytes (a + 64) l).updCmd cmd
            (·.addBytes item (128 + l.length))
          (t.wrBytes a (digHeader 1 (rvStep k) d.digBlocks)).endItem cmd item Status.DONE
        (s.digStack d = none → exec (.restoreVerifyServe cmd item) s = .next (serve ((digests (s.shardBody d)).map (natLE 8)).flatten))
        ∧ (∀ p, s.digStack d = some p → s.rvs.find? mine = none → exec (.restoreVerifyServe cmd item) s =
          .next (({ u with rvs := rest ++ [{ cmd := cmd, item := item, stage := 1, start := s.now, parts := [], desc := [], digs := [], bad := [] }] } : State).setPont
            p (s.pont p ++ [{ cmd := cmd, item := item, work := .dig }])))
        ∧ (∀ p r, s.digStack d = some p → s.rvs.find? mine = some r → r.stage = 2 → exec (.restoreVerifyServe cmd item) s = .next (serve r.digs)))
      ∧ (rvMode k = 0 →
        let img := fld (s.entryOf k item) 8 8
        let want := s.rdBytes (img + 128 + roundUp d.bodyLen 64) (8 * d.digBlocks)
        let t := (u.copyBody d img).updCmd cmd (·.addBytes item d.bodyLen)
        s.imageRead img d.imageLen = none → imageOk (s.rdBytes img 64) (rvStep k) d = true →
        exec (.restoreVerifyStored cmd item) s =
          .next (if (badBlocks (t.shardBody d) want).isEmpty = true then t.rvDone k item d else t.rvErr k item 0x0E Status.SHARD_INCONSISTENT))
      ∧ (rvMode k = 1 → k.itemFailed item = false → s.msgs.any (fun m => m.cmd == cmd && m.item == item && !m.write) = false →
        s.rvs.find? mine = none → exec (.restoreVerifyReplica cmd item) s =
          .next ((u.putRv { cmd := cmd, item := item, stage := 1, start := s.now, parts := [], desc := [], digs := [], bad := [] }).rvAsk k item
            true (fld (s.entryOf k item) 0x10 8) 0 128)))

/-! ## Power, start-up and ageing (chapters 14 and 15) -/

/-- Start-up and the supplies (R391, R392, R408–R411, R418, R421, R473, R481): stages end one after another, a failing one shows and
is device-fatal, and a loss of power keeps of the device fuses and boot flash alone.
Power modes and the governor (R412–R415, R422, R426): the mode becomes the highest of the four values at the first tick of a
tide, the governor sets every die's balance for the coming tick, and requests in range are taken. -/
def Obligations.StartUpSupplyLossAndPowerModes : Prop :=
  (∀ (s : State),
      (∀ lp ms, s.pwr.phase = .starting →
          let u : State := { s.groupDone with pwr := { s.groupDone.pwr with
            startMs := s.groupDone.pwr.startMs + ms
            groups := s.groupDone.pwr.groups + 1 } }
          exec (.startupStageDone lp ms) s = .next (if s.pwr.groups + 1 < stageGroups s.stage then u else u.stageEnd lp))
      ∧ (s.pwr.phase = .starting → s.stage = 0 → exec .startFail s = .next { s with
            pwr := { s.pwr with phase := .failed }
            ras := { s.ras with faultN := true } })
      ∧ (s.pwr.phase = .starting → s.stage ∈ [1, 2, 4, 5] → exec .startFail s = .next s.startFail)
      ∧ (∀ x : BitVec 6, s.pwr.phase = .held →
          exec (.sysResetDeassert x) s = .next (({ s with pwr := { s.pwr with straps := x.toNat } } : State).startUp))
      ∧ (exec .sysResetAssert s = .next (s.dark .held) ∧ exec .vauxLoss s = .next (s.dark .held))
      ∧ (∀ mv : BitVec 16, mv.toNat < 10000 → s.pwr.phase ≠ .held → exec (.vbusLoss mv) s = .next ((s.dark .off).setPwrStat 10 10 0))
      ∧ (∀ mv : BitVec 16, s.pwr.phase = .off → s.pwr.thermtrip = false → 10800 ≤ mv.toNat → exec (.vbusReturn mv) s =
          .next (((s.setRegN (pPWR + Off.PWR_VBUS) mv.toNat).setPwrStat 10 10 (b2n (decide (mv.toNat ≤ 13200)))).startUp))
      ∧ (∀ mv : BitVec 16, s.awake = true → s.pwr.phase ≠ .off → 10800 ≤ mv.toNat → exec (.vbusReturn mv) s =
          .next ((s.setField (pPWR + Off.PWR_VBUS) 15 0 mv.toNat).setPwrStat 10 10 (b2n (decide (mv.toNat ≤ 13200)))))
      ∧ (∀ mv : BitVec 16, s.awake = true → mv.toNat < 10800 → exec (.vbusLow mv) s = .next (s.vbusLow mv.toNat))
      ∧ (∀ da : BitVec 16, s.awake = true → 3450 < da.toNat → exec (.pwrOvercurrent da) s =
          .next ((s.setField (pPWR + Off.PWR_VBUS) 31 16 da.toNat).logErr pPWR 0x04 clsFatal LogInfo.none))
      ∧ (s.recovery = false → s.pwr.phase = .ready ∨ (s.pwr.phase = .starting ∨ s.pwr.phase = .failed) ∧ 2 ≤ s.stage →
          exec .deviceReset s = .next s.deviceReset)
      ∧ (s.pwr.phase = .ready → exec .pwrShutdown s = .next { s with pwr := { s.pwr with shutPend := true } })
      ∧ (s.pwr.phase = .closing → s.age.hullReq = [] → s.age.hullBusy = none →
          exec .offReady s = .next ((({ s with pwr := { s.pwr with phase := .down } } : State).unpower.setPwrStat 9 9 1).send (.mgmt (.event .offReady))))
      ∧ (∀ ph, let t := s.dark ph
          t.mem = s.mem.filter hostCell ∧ t.poison = [] ∧ t.cores = [] ∧ t.cmds = [] ∧ t.flash = s.flash ∧ t.sec.edRoots = s.sec.edRoots
          ∧ t.sec.edRev = s.sec.edRev ∧ s.sec.svnMin ≤ t.sec.svnMin))
  ∧ (∀ (s : State),
      (∀ m, s.pwr.modeDue = some m →
          let u : State := { s with pwr := { s.pwr with modeDue := none } }
          (s.now % 1000000 = 0 → exec .powerModeChange s = .next (u.setMode m))
          ∧ (s.now % 1000000 ≠ 0 → exec .powerModeChange s = .next u))
      ∧ (s.pwr.modeDue = none → exec .powerModeChange s = .next s)
      ∧ s.modeFalls.pwr.modeDue = (if s.targetMode = s.pmode then none else some s.targetMode)
      ∧ ((∀ t, t < 4 → s.plan t (s.now + 1) ≤ s.gov t + s.allow t) →
          exec .governorDecision s = .next ((upTo 0 4).foldl (fun u t => u.setGov t (min (s.gov t + s.allow t - s.plan t (s.now + 1)) s.burst)) s))
      ∧ (∀ v : BitVec 2, exec (.pwrModeReqWrite v) s =
          .next (if v.toNat = 3 then s.logCorr pPWR 0x09 else s.setField (pPWR + Off.PWR_CTRL) 1 0 v.toNat))
      ∧ (∀ v : BitVec 16, 1000 ≤ v.toNat → v.toNat ≤ 3600 →
          exec (.pwrCapWrite false v) s = .next { s with pwr := { s.pwr with capPend := some v.toNat } })
      ∧ (∀ v : BitVec 16, 1 ≤ v.toNat → v.toNat ≤ 450 →
          exec (.pwrCapWrite true v) s = .next { s with pwr := { s.pwr with burstPend := some v.toNat } })
      ∧ (∀ v : BitVec 16, v.toNat < 1000 ∨ 3600 < v.toNat → exec (.pwrCapWrite false v) s = .next (s.logCorr pPWR 0x09))
      ∧ (∀ avail plan unit burst, (govDie avail plan unit burst true).1 ≤ burst
          ∧ ((govDie avail plan unit burst false).2.2 = true ↔ avail < plan)))

/-- Ageing and the tide (R40, R408, R423–R433): samples are kept, once per tide the margin is planned anew and the tide scored, hull
records are written in turn and read back, and at a tide boundary what was measured is evaluated. -/
def Obligations.AgeingSamplesPlansAndRecords : Prop :=
  ∀ (s : State),
    (∀ m, s.ticking = true → s.now % 1000000 = 0 → s.tick.tideSeen ≠ some s.tide →
        exec (.tideBoundary m) s = .next (s.newTideAt (fitMeas m)))
    ∧ (∀ m, tideMeasOk m = true → fitMeas m = m)
    ∧ (∀ tj : List Int, s.awake = true → exec (.tjSample tj) s = .next (s.tjSample (fitTemps 6 tj)))
    ∧ (∀ tj : List Int, tj.length = 6 → (∀ t ∈ tj, -128 ≤ t ∧ t ≤ 127) → fitTemps 6 tj = tj)
    ∧ (∀ f : List (Nat × Nat), ∃ t, exec (.oscSample f) s = .next t ∧ t = { s with age := { s.age with samples := t.age.samples } }
        ∧ t.age.samples.length = domains)
    ∧ (∀ codes : List (BitVec 7), codes.length = 192 →
        let t := (codes.zip (upTo 0 192)).foldl (fun (s : State) e => s.setRegN (ageSent e.2) e.1.toNat) s
        (s.planWindow = false → exec (.sentinelSample codes) s = .next t)
        ∧ (s.planWindow = true → exec (.sentinelSample codes) s = .next { t with age := { t.age with planSent := codes.map (·.toNat) } }))
    ∧ (s.planWindow = false → s.age.planned ≠ some s.tide → s.pwr.phase = .ready →
        exec .marginReplan s = .next { s.replan with age := { s.replan.age with planned := some s.tide } })
    ∧ (∀ b bs, s.age.hullBusy = none → s.age.hullReq = b :: bs →
        exec .hullWrite s = .next (({ s with age := { s.age with hullReq := bs } } : State).beginHull
          (hullSeqd b ((s.age.hullSeq.map (fun n => (n + 1) % 2 ^ 64)).getD 0)) s.age.hullNext false))
    ∧ (∀ slot b again, s.age.hullBusy = some (slot, b, again) →
        let u := ({ s with age := { s.age with hullBusy := none } } : State).setField (pAGE + Off.AGE_STAT) 7 7 0
        let seq := leNat ((b.drop 8).take 8)
        let v := ((u.flashWr (hullSlot slot + 0xFFC) (natLE 4 (crc32c b))).setRegN (pAGE + Off.AGE_HULL_SEQ) seq).setRegN
          (pAGE + Off.AGE_HULL_TIDE) (leNat ((b.drop 0x18).take 4))
        exec (.hullWriteDone true) s = .next { v with age := { v.age with hullSeq := some seq } }
        ∧ (again = false → exec (.hullWriteDone false) s = .next (u.beginHull b s.age.hullNext true))
        ∧ (again = true → exec (.hullWriteDone false) s = .next (u.logCorr pAGE 0x05)))
    ∧ (exec .hullNow s = .next { s with age := { s.age with hullNow := true } })
    ∧ (s.age.scored ≠ some s.tide → s.age.past ≠ [] → s.pwr.phase = .ready → (s.components.foldl (· + ·) 0) = 0 →
        s.field (pAGE + Off.AGE_STAT) 8 8 = 0 → ∃ t, exec .healthScore s = .next t ∧ t.age.scored = some s.tide)
    ∧ (baseCode 0 = 80 ∧ baseCode 1 = 60 ∧ baseCode 2 = 40 ∧ tempTerm 24 = 2 ∧ tempTerm 25 = 0 ∧ tempTerm 85 = 1 ∧ tempTerm 95 = 2)

/-! ## Security and management (chapter 16) -/

/-- Keys, fuses and debug (R440, R442, R443, R452): a trial is confirmed, the running image's SVN is blown into the fuses, keys are
revoked but never the last or the running one, and a token that fits the nonce sets the level which LOCK takes back. -/
def Obligations.FusesKeysAndDebugLevels : Prop :=
  ∀ (s : State) (v : Word),
    (s.dirTrial = true → exec .secConfirm s = .next ((s.writeDir { s.dirOrNone with trial := false }).setSecStat 1 1 0))
    ∧ (s.dirTrial = false → exec .secConfirm s = .next s)
    ∧ (s.dirTrial = true ∨ s.sec.runSvn ≤ s.sec.svnMin → exec .secSvnCommit s = .next (s.logCorr pSEC 0x04))
    ∧ (s.dirTrial = false → s.sec.svnMin < s.sec.runSvn → s.sec.fuseTo = none →
        exec .secSvnCommit s = .next ({ s with sec := { s.sec with fuseTo := some s.sec.runSvn } }.setSecStat 6 6 1))
    ∧ (∀ m, s.sec.fuseTo = some m → exec .fusingDone s = .next ({ s with
        sec := { s.sec with
          svnMin := m
          fuseTo := none } }.setSecStat 6 6 0))
    ∧ (s.dirTrial = false → s.recovery = false → bit (bits v.toNat 3 0) s.sec.edSlot = false → bit (bits v.toNat 7 4) s.sec.mlSlot = false →
        (∃ i ∈ upTo 0 4, bit s.sec.edProg i = true ∧ bit s.sec.edRev i = false ∧ bit (bits v.toNat 3 0) i = false) →
        (∃ i ∈ upTo 0 4, bit s.sec.mlProg i = true ∧ bit s.sec.mlRev i = false ∧ bit (bits v.toNat 7 4) i = false) →
        exec (.secRevoke v) s = .next { s with
          sec := { s.sec with
            edRev := s.sec.edRev ||| bits v.toNat 3 0
            mlRev := s.sec.mlRev ||| bits v.toNat 7 4 } })
    ∧ (s.dirTrial = true
        ∨ (s.recovery = false ∧ (bit (bits v.toNat 3 0) s.sec.edSlot = true ∨ bit (bits v.toNat 7 4) s.sec.mlSlot = true))
        ∨ (∀ i ∈ upTo 0 4, bit s.sec.edProg i = true → bit s.sec.edRev i = true ∨ bit (bits v.toNat 3 0) i = true)
        ∨ (∀ i ∈ upTo 0 4, bit s.sec.mlProg i = true → bit s.sec.mlRev i = true ∨ bit (bits v.toNat 7 4) i = true) →
        exec (.secRevoke v) s = .next (s.logCorr pSEC 0x04))
    ∧ exec .secDbgNonceRead s = .next { s.drawNonce with
        rdData := s.drawNonce.nonce
        rdPoison := false
        rdError := false }
    ∧ (∀ a, a = s.regN (pSEC + Off.SEC_DBG_TOKEN_ADDR) →
        (s.tokenOk a = true → exec .secDbgUnlock s = .next (s.setSecStat 4 3 (s.rdNat (a + 5) 1)))
        ∧ (s.tokenOk a = false → exec .secDbgUnlock s = .next (s.drawNonce.logCorr pSEC 0x05)))
    ∧ exec .secDbgLock s = .next (s.setSecStat 4 3 0)

/-- SPDM (R441, R445–R447, R452): an SPDM request of a served channel is counted and answered, measurements with the hybrid evidence
record among them; at debug level 2 nothing is signed, and the recovery firmware answers none. -/
def Obligations.SpdmRequestsAreAnswered : Prop :=
  ∀ (s : State) (c : MgmtChan), (s.mgmtReq c 5).2 = true →
    let u := (s.mgmtReq c 5).1
    let r := fun (a : SpdmAns) =>
      (.next ((u.bump pMGMT Off.MGMT_SPDM_CNT 1).send (.mgmt (.spdm c.val a))) : Host.Outcome State Fault Refusal)
    (s.recovery = true → exec (.spdmGetVersion c) s = .next u ∧ exec (.spdmUnsupported c) s = .next u)
    ∧ (s.recovery = false →
      exec (.spdmGetVersion c) s = r (.version [0x12, 0x13])
      ∧ exec (.spdmGetCapabilities c) s = r .capabilities
      ∧ (∀ ed sha, exec (.spdmNegotiateAlgorithms c ed sha) s = r (.algorithms ed sha))
      ∧ exec (.spdmGetDigests c) s = r (.digests [(0, Config.sha384 (u.chain 0)), (1, Config.sha384 (u.chain 1))])
      ∧ (∀ slot off len, slot < 2 → exec (.spdmGetCertificate c slot off len) s =
          r (.certificate slot (((u.chain slot).drop off).take len) ((u.chain slot).length - (off + len))))
      ∧ (∀ nonce, s.dbgLevel = 2 → exec (.spdmChallenge c 0 nonce) s = r (.challenge 0 (Config.sha384 (u.chain 0)) none))
      ∧ (∀ nonce, s.dbgLevel ≠ 2 → exec (.spdmChallenge c 0 nonce) s = r (.challenge 0 (Config.sha384 (u.chain 0))
          (some (Config.edSign (u.aliasSeed "ED25519") (Config.challengeText 0 (Config.sha384 (u.chain 0)) nonce)))))
      ∧ (∀ ix nonce, 1 ≤ ix → ix ≤ 5 → nonce.length = 32 → exec (.spdmGetMeasurements c ix nonce) s = r (.measurements [(ix, u.measurement ix)]))
      ∧ (∀ nonce, nonce.length = 32 → exec (.spdmGetMeasurements c 0xF0 nonce) s = r (.measurements [(0xF0, u.evidenceRec nonce)]))
      ∧ (∀ nonce, nonce.length = 32 → exec (.spdmGetMeasurements c 0xFF nonce) s = r (.measurements [
          (1, u.measurement 1), (2, u.measurement 2), (3, u.measurement 3), (4, u.measurement 4), (5, u.measurement 5), (0xF0, u.evidenceRec nonce)]))
      ∧ exec (.spdmUnsupported c) s = r .unsupported)

/-- The management port (R430, R434, R448–R451, R453): platform requests and updates over PLDM, aperture accesses and the endpoint
ID over MCTP, and the mode of the port; a write over the port may not clear APER_EN. -/
def Obligations.ManagementPortServes : Prop :=
  ∀ (s : State) (c : MgmtChan),
    (∀ q, (s.mgmtReq c 1).2 = true → s.recovery = false → exec (.pldmPlatformRequest c q) s = .next ((s.mgmtReq c 1).1.pldmAnswer c (s.platform q)))
    ∧ (∀ id x, id < 0x100 → s.platform (.sensor id) = .noSensor ∧ (s.mgmt.sensors[id]? = some x → s.platform (.sensor (0x100 + id)) = .reading x))
    ∧ (∀ slot n, (s.mgmtReq c 1).2 = true → s.sec.upd = some (slot, n) →
      let u := (s.mgmtReq c 1).1
      (∀ b, 0 < b.length → b.length ≤ 256 → n + b.length ≤ slotSize → s.age.hullBusy = none →
        let w := u.updateWrite slot n b
        exec (.pldmFirmwareUpdate c (.page b)) s =
          .next (({ w with sec := { w.sec with upd := some (slot, n + b.length) } } : State).pldmAnswer c (.transferred (n + b.length))))
      ∧ (s.slotOk slot = true → exec (.pldmFirmwareUpdate c .finish) s = .next (((u.writeDir { u.dirOrNone with
          pref := slot
          trial := true
          tries := 3 }).endUpdate true).pldmAnswer c .activateSystemReset))
      ∧ (s.slotOk slot = false → exec (.pldmFirmwareUpdate c .finish) s = .next (((u.imageBad slot).endUpdate false).pldmAnswer c .verifyFailed)))
    ∧ ((s.mgmtReq c 1).2 = true → s.sec.upd = none →
      let u := (s.mgmtReq c 1).1
      exec (.pldmFirmwareUpdate c .request) s = .next ((({ u with sec := { u.sec with upd := some (1 - s.secStat 0 0, 0) } } : State).setSecStat
        7 7 1).pldmAnswer c .updateStarted))
    ∧ (∀ b, s.age.hullBusy.isSome = true → exec (.pldmFirmwareUpdate c (.page b)) s = .next s)
    ∧ (∀ w off wide v cyc, off < aperSize → (s.mgmtReq c 0x7E).2 = true →
      let u := (s.mgmtReq c 0x7E).1
      (bit (s.regN (pMGMT + Off.MGMT_CTRL)) 0 = false ∨ (s.dbgLevel = 2 ∧ namesSec off = true) →
        exec (.mctpApertureAccess c w off wide ⟨v, cyc⟩) s = .next (u.send (.mgmt (.aper c.val none))))
      ∧ (bit (s.regN (pMGMT + Off.MGMT_CTRL)) 0 = true → s.dbgLevel ≠ 2 ∨ namesSec off = false →
        exec (.mctpApertureAccess c w off wide ⟨v, cyc⟩) s =
          .next (if w = true then (({ u with busCycle := cyc } : State).aperWrite .mgmt off wide v).send (.mgmt (.aper c.val (some 0)))
            else (u.aperRead .mgmt off wide).send (.mgmt (.aper c.val (some (u.aperRead .mgmt off wide).busRead))))))
    ∧ (∀ eid, (s.mgmtReq c 0).2 = true →
      exec (.mctpSetEndpointId c eid) s = .next ((s.mgmtReq c 0).1.setRegN (pMGMT + Off.MGMT_EID) eid.toNat))
    ∧ (∀ (r : Requester) (v : DWord) cyc, s.reachable r (pMGMT + Off.MGMT_EID) = true →
      exec (.registerWrite r (.aperture (pMGMT + Off.MGMT_EID)) false ⟨v, cyc⟩) s =
        .next ((({ s with busCycle := cyc } : State).freeLatch r (pMGMT + Off.MGMT_EID)).writePlain (pMGMT + Off.MGMT_EID) 0xFF (v.setWidth 32).toNat))
    ∧ (s.field (pMGMT + Off.MGMT_STAT) 1 0 = 0 → s.pwr.phase = .ready → exec .i3cBroadcastTimeout s =
      .next ((s.setField (pMGMT + Off.MGMT_STAT) 1 0 2).setField (pMGMT + Off.MGMT_STAT) 8 2 (0x40 + s.field (pg .devid 0 + Off.DEVID_STRAPS) 3 1)))
    ∧ (∀ x : BitVec 7, s.field (pMGMT + Off.MGMT_STAT) 1 0 ≠ 2 → s.harbourUp = true → exec (.i3cDynamicAddressAssignment x) s =
      .next ((s.setField (pMGMT + Off.MGMT_STAT) 1 0 1).setField (pMGMT + Off.MGMT_STAT) 8 2 x.toNat))
    ∧ (∀ r v, (r = .mgmt → bit v.toNat 0 = true) → exec (.mgmtCtrlWrite r v) s = .next (s.setRegN (pMGMT + Off.MGMT_CTRL) (v.toNat % 4)))
    ∧ (∀ v, bit v.toNat 0 = false → exec (.mgmtCtrlWrite .mgmt v) s = .next (s.logCorr pMGMT 0x02))

/-! ## The registers (chapter 17) -/

/-- The aperture (R311, R315, R454, R455, R457, R458): an aligned write in a page is performed, a misaligned one and one outside every
page are logged and recorded; the halves of a 64-bit register, low first, take effect together; and the host's writes of BAR4 and
of the configuration space go there. -/
def Obligations.ApertureTakesAlignedAccesses : Prop :=
  ∀ (s : State) (r : Requester) (off : Nat) (v : DWord) (cyc : Nat), off < aperSize → s.reachable r off = true →
    let u : State := { s with busCycle := cyc }
    (∀ wide, aligned off wide = true → (pageOf off).isSome = true →
      exec (.registerWrite r (.aperture off) wide ⟨v, cyc⟩) s = .next (u.writeAt r off wide v))
    ∧ (∀ wide, aligned off wide = false → exec (.registerWrite r (.aperture off) wide ⟨v, cyc⟩) s = .next (u.badAccess 0x01 off))
    ∧ (∀ wide, aligned off wide = true → pageOf off = none →
      exec (.registerWrite r (.aperture off) wide ⟨v, cyc⟩) s = .next (u.badAccess 0x02 off))
    ∧ (r = .portA → s.rootMode = false →
      (∀ wide, off < 0x20000 → off % 4 = 0 → exec (.registerWrite r (.bar4 off) wide ⟨v, cyc⟩) s =
        .next (if wide = true then (s.bar4Word off (v.toNat % 2 ^ 32) cyc).bar4Word (off + 4) (v.toNat / 2 ^ 32) cyc
          else s.bar4Word off (v.toNat % 2 ^ 32) cyc))
      ∧ ∀ wide x, exec (.registerWrite r (.config x) wide ⟨v, cyc⟩) s = .next (s.configWrite x v.toNat))
    ∧ (∀ size write, 0 < size → badShape off size = true →
      exec (.aperBadAccess r off size write) s = .next (if write = true then s.badAccess 0x01 off else { s.badAccess 0x01 off with busRead := 0 }))
    ∧ (pageOf off = none → exec (.aperAbsent r off) s = .next (s.badAccess 0x02 off))
    ∧ (∀ a, off = a → halfOf off = some (a, false) → off % 4 = 0 → (pageOf off).isSome = true → ∀ w : Word,
      exec (.aperSplitAccess r off true w) s = .next ((s.freeLatch r a).setLatch r a w true))
    ∧ (∀ a low, halfOf off = some (a, true) → off % 4 = 0 → (pageOf off).isSome = true → s.latch r (a / 4096) = some (a, low, true) → ∀ w : Word,
      exec (.aperSplitAccess r off true w) s = .next ((s.dropLatch r (a / 4096)).writeReg r a (low.toNat + w.toNat * 2 ^ 32)))
    ∧ (off % 4 = 0 → (pageOf off).isSome = true → (halfOf off).isSome = true → ∀ w : Word,
      exec (.aperSplitAccess r off false w) s = .next { (s.readAt r off false).1 with busRead := BitVec.ofNat 64 (s.readAt r off false).2 })

/-- The page header (R459–R464): SOFT_RESET clears the RC registers, or is due at the boundary where it has an action; FREEZE holds;
LEVEL 1 alone is taken, while no job runs; causes are cleared, in the prep core too, and forced; and the first error's capture is
cleared. -/
def Obligations.PageHeadersAct : Prop :=
  ∀ (s : State) (r : Requester) (b : Blk) (i : Nat), i < b.count → s.reachable r (pg b i) = true →
    let u := s.freeLatch r (pg b i)
    (resetActs b i = false → exec (.pgSoftReset r b i) s = .next (u.clearRc b i))
    ∧ (resetActs b i = true → exec (.pgSoftReset r b i) s =
        .next (if s.softReset.contains (b, i) = true then u else { u with softReset := s.softReset ++ [(b, i)] }))
    ∧ (∀ v : Bool, exec (.pgFreezeWrite r b i v) s = .next ((if v = true ∧ s.frozen (pg b i) = false then u.clearLoose (pg b i + Off.PG_CTRL)
        else u).setField (pg b i + Off.PG_CTRL) 2 2 (b2n v)))
    ∧ (exec (.pgLevelWrite r b i 1) s = .next (if u.noJob = true then u.setField (pg b i + Off.PG_VER) 7 0 1 else u.logCorr (pg b i) 0xF0))
    ∧ (∀ v, v ≠ 1 → exec (.pgLevelWrite r b i v) s = .next (u.logCorr (pg b i) 0xF1))
    ∧ (∀ v, let t := u.setRegN (pg b i + Off.PG_IRQ_STAT) (without (u.regN (pg b i + Off.PG_IRQ_STAT)) v.toNat)
        (bit v.toNat 0 = false ∨ prepPend b i = none → exec (.pgIrqStatClear r b i v) s = .next t)
        ∧ ∀ n, bit v.toNat 0 = true → prepPend b i = some n → exec (.pgIrqStatClear r b i v) s =
          .next (t.setField (pPREP (if b = .ferry then i / 4 else i) + Off.PREP_IRQ_PEND) n n 0))
    ∧ (∀ v, exec (.pgIrqForce r b i v) s = .next (u.raiseIrq (pg b i) (v.toNat % 4)))
    ∧ exec (.pgErrFirstClear r b i) s = .next ((u.setRegN (pg b i + Off.PG_ERR_FIRST) 0).setRegN (pg b i + Off.PG_ERR_TICK) 0)

/-! ## Frames -/

/-- A page that logs an error counts it, captures it if it is the first since VALID was cleared, and sets its ERROR cause (R463, R464); a
soft reset leaves the count. Of correctable records of one code at most 16 a tide enter the log; a full log drops a correctable record, and overwrites its oldest
unread correctable one with any other (R388). Unless the fault is device-fatal, nothing changes but the page's header, the log with
its two counts, and what carries the interrupt: messages on their way out, vectors pending, the APLIC and the interrupt files. -/
def Obligations.ErrorsAreCapturedAndLogged : Prop :=
  ∀ (s : State) (page code cls : Nat) (li : LogInfo), s.Wf → page % 4096 = 0 →
    let t := s.logErr page code cls li
    let full : Prop := 4096 ≤ s.regN (pRAS + Off.RAS_LOG_HEAD) - s.regN (pRAS + Off.RAS_LOG_TAIL)
    t.regN (page + Off.PG_ERR_CNT) = min (s.regN (page + Off.PG_ERR_CNT) + 1) 0xFFFFFFFF
    ∧ (bit (s.regN (page + Off.PG_ERR_FIRST)) 31 = false →
        t.regN (page + Off.PG_ERR_FIRST) = code % 256 + cls % 8 * 256 + 0x80000000 ∧ t.regN (page + Off.PG_ERR_TICK) = s.now)
    ∧ (bit (s.regN (page + Off.PG_ERR_FIRST)) 31 = true →
        t.regN (page + Off.PG_ERR_FIRST) = s.regN (page + Off.PG_ERR_FIRST) ∧ t.regN (page + Off.PG_ERR_TICK) = s.regN (page + Off.PG_ERR_TICK))
    ∧ bit (t.regN (page + Off.PG_IRQ_STAT)) 0 = true
    ∧ (∀ b i, i < b.count → page = pg b i → (t.clearRc b i).regN (page + Off.PG_ERR_CNT) = t.regN (page + Off.PG_ERR_CNT))
    ∧ (cls = clsCorr → 16 ≤ s.ras.cnt page code → t.ras = s.ras)
    ∧ ((cls = clsCorr → s.ras.cnt page code < 16) → ¬full → t.ras.log.getLast? =
        some { mkLog s page code cls li with seq := s.regN (pRAS + Off.RAS_LOG_HEAD) })
    ∧ (cls = clsCorr → s.ras.cnt page code < 16 → full → t.ras.log = s.ras.log
        ∧ (s.frozen pRAS = false → t.regN (pRAS + Off.RAS_DROP_CNT) = (s.regN (pRAS + Off.RAS_DROP_CNT) + 1) % 2 ^ 32))
    ∧ (cls ≠ clsCorr → full → t.ras.log = (replaceOldest (s.regN (pRAS + Off.RAS_LOG_TAIL)) (mkLog s page code cls li) s.ras.log).getD s.ras.log
        ∧ (replaceOldest (s.regN (pRAS + Off.RAS_LOG_TAIL)) (mkLog s page code cls li) s.ras.log = none → s.frozen pRAS = false →
          t.regN (pRAS + Off.RAS_DROP_CNT) = (s.regN (pRAS + Off.RAS_DROP_CNT) + 1) % 2 ^ 32))
    ∧ (cls ≠ clsFatal → t = { s with
            regs := t.regs, ras := t.ras, out := t.out, aplic := t.aplic, servers := t.servers, pcie := { s.pcie with pba := t.pcie.pba } }
        ∧ (∀ k, (t.server k).hart = (s.server k).hart)
        ∧ ∀ o, o ∉ [page + Off.PG_ERR_CNT, page + Off.PG_ERR_FIRST, page + Off.PG_ERR_TICK, page + Off.PG_IRQ_STAT, pRAS + Off.RAS_LOG_HEAD,
            pRAS + Off.RAS_DROP_CNT] → t.reg o = s.reg o)

/-- The commands on keys, fuses, debug and the management port touch no memory, core, command, port or cache, no register but
those of the SEC, MGMT and RAS pages, and of the server cores only the interrupt files. -/
def Obligations.SecurityLeavesTheDataPlane : Prop :=
  ∀ (c : Instr) (s t : State), guardCommand c = true → exec c s = .next t →
    t.mem = s.mem ∧ t.poison = s.poison ∧ t.cores = s.cores ∧ t.cmds = s.cmds ∧ t.ports = s.ports ∧ t.coh = s.coh
      ∧ (s.Wf → ∀ k, (t.server k).hart = (s.server k).hart) ∧ t.tick = s.tick ∧ t.pwr = s.pwr
      ∧ ∀ o, o / 4096 ≠ pSEC / 4096 → o / 4096 ≠ pMGMT / 4096 → o / 4096 ≠ pRAS / 4096 → t.reg o = s.reg o

/-- Commands on the tick unit, flags, page headers, power requests, oscillators and the log's tail store nothing: every byte of memory
reads as before, and no line's poison changes. -/
def Obligations.RegisterCommandsStoreNothing : Prop :=
  ∀ (c : Instr) (s t : State), storelessCommand c = true → exec c s = .next t →
    t.mem = s.mem ∧ t.poison = s.poison ∧ ∀ a, t.rd8 a = s.rd8 a
end

