-- ==== Sys2Proof/Laws/Exec.lean ====
section
/-!
SUPPORT. Laws/Exec.lean: what `exec` answers for each command: that command's meaning.
-/
namespace Sys2Proof.Machine

theorem exec_tmarkPulse (a0 : Nat) (a1 : Bool) (s : State) :
    exec (.tmarkPulse a0 a1) s = execTmarkPulse a0 a1 s := rfl

theorem exec_tmarkMissing (s : State) :
    exec .tmarkMissing s = execTmarkMissing s := rfl

theorem exec_tmarkMissLimit (s : State) :
    exec .tmarkMissLimit s = execTmarkMissLimit s := rfl

theorem exec_gridLock (s : State) :
    exec .gridLock s = execGridLock s := rfl

theorem exec_tickLockWaitTimeout (s : State) :
    exec .tickLockWaitTimeout s = execTickLockWaitTimeout s := rfl

theorem exec_tlateSample (a0 : Nat) (a1 : Bool) (s : State) :
    exec (.tlateSample a0 a1) s = execTlateSample a0 a1 s := rfl

theorem exec_tickCopyCompare (a0 : DWord) (a1 : DWord) (a2 : Nat) (s : State) :
    exec (.tickCopyCompare a0 a1 a2) s = execTickCopyCompare a0 a1 a2 s := rfl

theorem exec_tickSourceLoss (s : State) :
    exec .tickSourceLoss s = execTickSourceLoss s := rfl

theorem exec_tickFailover (s : State) :
    exec .tickFailover s = execTickFailover s := rfl

theorem exec_tickBoundary (s : State) :
    exec .tickBoundary s = execTickBoundary s := rfl

theorem exec_tideBoundary (a0 : TideMeas) (s : State) :
    exec (.tideBoundary a0) s = execTideBoundary a0 s := rfl

theorem exec_tideRecordRx (a0 : PortIx) (s : State) :
    exec (.tideRecordRx a0) s = execTideRecordRx a0 s := rfl

theorem exec_joinRecordRx (a0 : PortIx) (s : State) :
    exec (.joinRecordRx a0) s = execJoinRecordRx a0 s := rfl

theorem exec_tickRejoin (s : State) :
    exec .tickRejoin s = execTickRejoin s := rfl

theorem exec_tickCfgWrite (a0 : Word) (s : State) :
    exec (.tickCfgWrite a0) s = execTickCfgWrite a0 s := rfl

theorem exec_tickCfgApply (s : State) :
    exec .tickCfgApply s = execTickCfgApply s := rfl

theorem exec_runTimetable (a0 : Nat) (s : State) :
    exec (.runTimetable a0) s = execRunTimetable a0 s := rfl

theorem exec_timetableLoadCheck (a0 : CoreIx) (s : State) :
    exec (.timetableLoadCheck a0) s = execTimetableLoadCheck a0 s := rfl

theorem exec_sailingIssue (a0 : CoreIx) (s : State) :
    exec (.sailingIssue a0) s = execSailingIssue a0 s := rfl

theorem exec_engineStart (a0 : CoreIx) (a1 : Engine) (s : State) :
    exec (.engineStart a0 a1) s = execEngineStart a0 a1 s := rfl

theorem exec_sailingComplete (a0 : CoreIx) (a1 : Nat) (s : State) :
    exec (.sailingComplete a0 a1) s = execSailingComplete a0 a1 s := rfl

theorem exec_signalArrival (a0 : CoreIx) (s : State) :
    exec (.signalArrival a0) s = execSignalArrival a0 s := rfl

theorem exec_itemEnd (a0 : Nat) (a1 : Nat) (s : State) :
    exec (.itemEnd a0 a1) s = execItemEnd a0 a1 s := rfl

theorem exec_seqFlagSet (a0 : CoreIx) (a1 : DWord) (s : State) :
    exec (.seqFlagSet a0 a1) s = execSeqFlagSet a0 a1 s := rfl

theorem exec_seqFlagClr (a0 : CoreIx) (a1 : DWord) (s : State) :
    exec (.seqFlagClr a0 a1) s = execSeqFlagClr a0 a1 s := rfl

theorem exec_meMma (a0 : CoreIx) (s : State) :
    exec (.meMma a0) s = execMeMma a0 s := rfl

theorem exec_meMmaF3 (a0 : CoreIx) (s : State) :
    exec (.meMmaF3 a0) s = execMeMmaF3 a0 s := rfl

theorem exec_meMmaD (a0 : CoreIx) (s : State) :
    exec (.meMmaD a0) s = execMeMmaD a0 s := rfl

theorem exec_meMerge (a0 : CoreIx) (s : State) :
    exec (.meMerge a0) s = execMeMerge a0 s := rfl

theorem exec_meMergePartial (a0 : CoreIx) (s : State) :
    exec (.meMergePartial a0) s = execMeMergePartial a0 s := rfl

theorem exec_meMergeD (a0 : CoreIx) (s : State) :
    exec (.meMergeD a0) s = execMeMergeD a0 s := rfl

theorem exec_meDrain (a0 : CoreIx) (s : State) :
    exec (.meDrain a0) s = execMeDrain a0 s := rfl

theorem exec_meDscan (a0 : CoreIx) (s : State) :
    exec (.meDscan a0) s = execMeDscan a0 s := rfl

theorem exec_meDslice (a0 : CoreIx) (s : State) :
    exec (.meDslice a0) s = execMeDslice a0 s := rfl

theorem exec_meOpComplete (a0 : CoreIx) (s : State) :
    exec (.meOpComplete a0) s = execMeOpComplete a0 s := rfl

theorem exec_veAdd (a0 : CoreIx) (s : State) :
    exec (.veAdd a0) s = execVeAdd a0 s := rfl

theorem exec_veSub (a0 : CoreIx) (s : State) :
    exec (.veSub a0) s = execVeSub a0 s := rfl

theorem exec_veMul (a0 : CoreIx) (s : State) :
    exec (.veMul a0) s = execVeMul a0 s := rfl

theorem exec_veFma (a0 : CoreIx) (s : State) :
    exec (.veFma a0) s = execVeFma a0 s := rfl

theorem exec_veMax2 (a0 : CoreIx) (s : State) :
    exec (.veMax2 a0) s = execVeMax2 a0 s := rfl

theorem exec_veMin2 (a0 : CoreIx) (s : State) :
    exec (.veMin2 a0) s = execVeMin2 a0 s := rfl

theorem exec_veScale (a0 : CoreIx) (s : State) :
    exec (.veScale a0) s = execVeScale a0 s := rfl

theorem exec_veConvert (a0 : CoreIx) (s : State) :
    exec (.veConvert a0) s = execVeConvert a0 s := rfl

theorem exec_veDiv (a0 : CoreIx) (s : State) :
    exec (.veDiv a0) s = execVeDiv a0 s := rfl

theorem exec_veSqrt (a0 : CoreIx) (s : State) :
    exec (.veSqrt a0) s = execVeSqrt a0 s := rfl

theorem exec_veExp2 (a0 : CoreIx) (s : State) :
    exec (.veExp2 a0) s = execVeExp2 a0 s := rfl

theorem exec_veExp (a0 : CoreIx) (s : State) :
    exec (.veExp a0) s = execVeExp a0 s := rfl

theorem exec_veLog2 (a0 : CoreIx) (s : State) :
    exec (.veLog2 a0) s = execVeLog2 a0 s := rfl

theorem exec_veRcp (a0 : CoreIx) (s : State) :
    exec (.veRcp a0) s = execVeRcp a0 s := rfl

theorem exec_veRsqrt (a0 : CoreIx) (s : State) :
    exec (.veRsqrt a0) s = execVeRsqrt a0 s := rfl

theorem exec_veAct (a0 : CoreIx) (s : State) :
    exec (.veAct a0) s = execVeAct a0 s := rfl

theorem exec_veRsum (a0 : CoreIx) (s : State) :
    exec (.veRsum a0) s = execVeRsum a0 s := rfl

theorem exec_veRmax (a0 : CoreIx) (s : State) :
    exec (.veRmax a0) s = execVeRmax a0 s := rfl

theorem exec_veRmin (a0 : CoreIx) (s : State) :
    exec (.veRmin a0) s = execVeRmin a0 s := rfl

theorem exec_veRargmax (a0 : CoreIx) (s : State) :
    exec (.veRargmax a0) s = execVeRargmax a0 s := rfl

theorem exec_veRsumsq (a0 : CoreIx) (s : State) :
    exec (.veRsumsq a0) s = execVeRsumsq a0 s := rfl

theorem exec_veRmeanvar (a0 : CoreIx) (s : State) :
    exec (.veRmeanvar a0) s = execVeRmeanvar a0 s := rfl

theorem exec_veSoftmax (a0 : CoreIx) (s : State) :
    exec (.veSoftmax a0) s = execVeSoftmax a0 s := rfl

theorem exec_veLayernorm (a0 : CoreIx) (s : State) :
    exec (.veLayernorm a0) s = execVeLayernorm a0 s := rfl

theorem exec_veRmsnorm (a0 : CoreIx) (s : State) :
    exec (.veRmsnorm a0) s = execVeRmsnorm a0 s := rfl

theorem exec_veDropout (a0 : CoreIx) (s : State) :
    exec (.veDropout a0) s = execVeDropout a0 s := rfl

theorem exec_veUniform (a0 : CoreIx) (s : State) :
    exec (.veUniform a0) s = execVeUniform a0 s := rfl

theorem exec_veNormal (a0 : CoreIx) (s : State) :
    exec (.veNormal a0) s = execVeNormal a0 s := rfl

theorem exec_veTranspose (a0 : CoreIx) (s : State) :
    exec (.veTranspose a0) s = execVeTranspose a0 s := rfl

theorem exec_veMxRelayout (a0 : CoreIx) (s : State) :
    exec (.veMxRelayout a0) s = execVeMxRelayout a0 s := rfl

theorem exec_veHazardClear (a0 : CoreIx) (s : State) :
    exec (.veHazardClear a0) s = execVeHazardClear a0 s := rfl

theorem exec_veOpComplete (a0 : CoreIx) (s : State) :
    exec (.veOpComplete a0) s = execVeOpComplete a0 s := rfl

theorem exec_veWconv (a0 : CoreIx) (s : State) :
    exec (.veWconv a0) s = execVeWconv a0 s := rfl

theorem exec_veMaxpool (a0 : CoreIx) (s : State) :
    exec (.veMaxpool a0) s = execVeMaxpool a0 s := rfl

theorem exec_veAvgpool (a0 : CoreIx) (s : State) :
    exec (.veAvgpool a0) s = execVeAvgpool a0 s := rfl

theorem exec_veWconvBwdData (a0 : CoreIx) (s : State) :
    exec (.veWconvBwdData a0) s = execVeWconvBwdData a0 s := rfl

theorem exec_veWconvBwdWeight (a0 : CoreIx) (s : State) :
    exec (.veWconvBwdWeight a0) s = execVeWconvBwdWeight a0 s := rfl

theorem exec_veMaxpoolBwd (a0 : CoreIx) (s : State) :
    exec (.veMaxpoolBwd a0) s = execVeMaxpoolBwd a0 s := rfl

theorem exec_veAvgpoolBwd (a0 : CoreIx) (s : State) :
    exec (.veAvgpoolBwd a0) s = execVeAvgpoolBwd a0 s := rfl

theorem exec_veUpsampleNearest (a0 : CoreIx) (s : State) :
    exec (.veUpsampleNearest a0) s = execVeUpsampleNearest a0 s := rfl

theorem exec_veUpsampleBilinear (a0 : CoreIx) (s : State) :
    exec (.veUpsampleBilinear a0) s = execVeUpsampleBilinear a0 s := rfl

theorem exec_veUpsampleNearestBwd (a0 : CoreIx) (s : State) :
    exec (.veUpsampleNearestBwd a0) s = execVeUpsampleNearestBwd a0 s := rfl

theorem exec_veUpsampleBilinearBwd (a0 : CoreIx) (s : State) :
    exec (.veUpsampleBilinearBwd a0) s = execVeUpsampleBilinearBwd a0 s := rfl

theorem exec_vePadFold (a0 : CoreIx) (s : State) :
    exec (.vePadFold a0) s = execVePadFold a0 s := rfl

theorem exec_veGmask (a0 : CoreIx) (s : State) :
    exec (.veGmask a0) s = execVeGmask a0 s := rfl

theorem exec_veSoftmaxBwd (a0 : CoreIx) (s : State) :
    exec (.veSoftmaxBwd a0) s = execVeSoftmaxBwd a0 s := rfl

theorem exec_veLayernormBwd (a0 : CoreIx) (s : State) :
    exec (.veLayernormBwd a0) s = execVeLayernormBwd a0 s := rfl

theorem exec_veRmsnormBwd (a0 : CoreIx) (s : State) :
    exec (.veRmsnormBwd a0) s = execVeRmsnormBwd a0 s := rfl

theorem exec_veActBwd (a0 : CoreIx) (s : State) :
    exec (.veActBwd a0) s = execVeActBwd a0 s := rfl

theorem exec_rngSeedWrite (a0 : CoreIx) (a1 : DWord) (s : State) :
    exec (.rngSeedWrite a0 a1) s = execRngSeedWrite a0 a1 s := rfl

theorem exec_rngRestoreStepWrite (a0 : CoreIx) (a1 : DWord) (s : State) :
    exec (.rngRestoreStepWrite a0 a1) s = execRngRestoreStepWrite a0 a1 s := rfl

theorem exec_prepRun (a0 : CoreIx) (s : State) :
    exec (.prepRun a0) s = execPrepRun a0 s := rfl

theorem exec_prepHalt (a0 : CoreIx) (s : State) :
    exec (.prepHalt a0) s = execPrepHalt a0 s := rfl

theorem exec_prepReset (a0 : CoreIx) (s : State) :
    exec (.prepReset a0) s = execPrepReset a0 s := rfl

theorem exec_ptflagset (a0 : CoreIx) (a1 : DWord) (s : State) :
    exec (.ptflagset a0 a1) s = execPtflagset a0 a1 s := rfl

theorem exec_ptickcmpIrq (a0 : CoreIx) (a1 : DWord) (s : State) :
    exec (.ptickcmpIrq a0 a1) s = execPtickcmpIrq a0 a1 s := rfl

theorem exec_prepBusError (a0 : CoreIx) (a1 : DWord) (a2 : DWord) (a3 : DWord) (s : State) :
    exec (.prepBusError a0 a1 a2 a3) s = execPrepBusError a0 a1 a2 a3 s := rfl

theorem exec_prepDoubleTrap (a0 : CoreIx) (a1 : DWord) (a2 : DWord) (a3 : DWord) (s : State) :
    exec (.prepDoubleTrap a0 a1 a2 a3) s = execPrepDoubleTrap a0 a1 a2 a3 s := rfl

theorem exec_unitErrorIrq (a0 : CoreIx) (a1 : Fin 9) (s : State) :
    exec (.unitErrorIrq a0 a1) s = execUnitErrorIrq a0 a1 s := rfl

theorem exec_ferryEnqueue (a0 : CoreIx) (a1 : FerryIx) (s : State) :
    exec (.ferryEnqueue a0 a1) s = execFerryEnqueue a0 a1 s := rfl

theorem exec_ferryOpStart (a0 : CoreIx) (a1 : FerryIx) (s : State) :
    exec (.ferryOpStart a0 a1) s = execFerryOpStart a0 a1 s := rfl

theorem exec_ferryCopyIn (a0 : CoreIx) (a1 : FerryIx) (s : State) :
    exec (.ferryCopyIn a0 a1) s = execFerryCopyIn a0 a1 s := rfl

theorem exec_ferryGather (a0 : CoreIx) (a1 : FerryIx) (s : State) :
    exec (.ferryGather a0 a1) s = execFerryGather a0 a1 s := rfl

theorem exec_ferryGatherT (a0 : CoreIx) (a1 : FerryIx) (s : State) :
    exec (.ferryGatherT a0 a1) s = execFerryGatherT a0 a1 s := rfl

theorem exec_ferryHalo (a0 : CoreIx) (a1 : FerryIx) (s : State) :
    exec (.ferryHalo a0 a1) s = execFerryHalo a0 a1 s := rfl

theorem exec_ferryIndexIn (a0 : CoreIx) (a1 : FerryIx) (s : State) :
    exec (.ferryIndexIn a0 a1) s = execFerryIndexIn a0 a1 s := rfl

theorem exec_ferryMxtIn (a0 : CoreIx) (a1 : FerryIx) (s : State) :
    exec (.ferryMxtIn a0 a1) s = execFerryMxtIn a0 a1 s := rfl

theorem exec_ferryQrun (a0 : CoreIx) (a1 : FerryIx) (s : State) :
    exec (.ferryQrun a0 a1) s = execFerryQrun a0 a1 s := rfl

theorem exec_ferryCopyOut (a0 : CoreIx) (a1 : FerryIx) (s : State) :
    exec (.ferryCopyOut a0 a1) s = execFerryCopyOut a0 a1 s := rfl

theorem exec_ferryIndexOut (a0 : CoreIx) (a1 : FerryIx) (s : State) :
    exec (.ferryIndexOut a0 a1) s = execFerryIndexOut a0 a1 s := rfl

theorem exec_ferryPfill (a0 : CoreIx) (a1 : FerryIx) (s : State) :
    exec (.ferryPfill a0 a1) s = execFerryPfill a0 a1 s := rfl

theorem exec_ferryPeerGet (a0 : CoreIx) (a1 : FerryIx) (s : State) :
    exec (.ferryPeerGet a0 a1) s = execFerryPeerGet a0 a1 s := rfl

theorem exec_ferryPeerPut (a0 : CoreIx) (a1 : FerryIx) (s : State) :
    exec (.ferryPeerPut a0 a1) s = execFerryPeerPut a0 a1 s := rfl

theorem exec_ferryOpComplete (a0 : CoreIx) (a1 : FerryIx) (s : State) :
    exec (.ferryOpComplete a0 a1) s = execFerryOpComplete a0 a1 s := rfl

theorem exec_slipPush (a0 : CoreIx) (a1 : FerryIx) (s : State) :
    exec (.slipPush a0 a1) s = execSlipPush a0 a1 s := rfl

theorem exec_slipPop (a0 : CoreIx) (a1 : FerryIx) (s : State) :
    exec (.slipPop a0 a1) s = execSlipPop a0 a1 s := rfl

theorem exec_slipTrailerReread (a0 : CoreIx) (a1 : FerryIx) (s : State) :
    exec (.slipTrailerReread a0 a1) s = execSlipTrailerReread a0 a1 s := rfl

theorem exec_slipEnable (a0 : CoreIx) (a1 : BerthIx) (s : State) :
    exec (.slipEnable a0 a1) s = execSlipEnable a0 a1 s := rfl

theorem exec_slipDisable (a0 : CoreIx) (a1 : BerthIx) (s : State) :
    exec (.slipDisable a0 a1) s = execSlipDisable a0 a1 s := rfl

theorem exec_updateParamsAdamw (a0 : Nat) (s : State) :
    exec (.updateParamsAdamw a0) s = execUpdateParamsAdamw a0 s := rfl

theorem exec_updateParamsLamb (a0 : Nat) (s : State) :
    exec (.updateParamsLamb a0) s = execUpdateParamsLamb a0 s := rfl

theorem exec_updateParamsSgd (a0 : Nat) (s : State) :
    exec (.updateParamsSgd a0) s = execUpdateParamsSgd a0 s := rfl

theorem exec_updateParamsVerify (a0 : Nat) (s : State) :
    exec (.updateParamsVerify a0) s = execUpdateParamsVerify a0 s := rfl

theorem exec_updShardItem (a0 : Nat) (a1 : Nat) (s : State) :
    exec (.updShardItem a0 a1) s = execUpdShardItem a0 a1 s := rfl

theorem exec_updExponentMove (a0 : Nat) (s : State) :
    exec (.updExponentMove a0) s = execUpdExponentMove a0 s := rfl

theorem exec_pontGexp (a0 : StackIx) (s : State) :
    exec (.pontGexp a0) s = execPontGexp a0 s := rfl

theorem exec_pontDig (a0 : StackIx) (s : State) :
    exec (.pontDig a0) s = execPontDig a0 s := rfl

theorem exec_pontFill (a0 : StackIx) (s : State) :
    exec (.pontFill a0) s = execPontFill a0 s := rfl

theorem exec_hbmcScrubPass (a0 : StackIx) (a1 : List Nat) (a2 : List Nat) (s : State) :
    exec (.hbmcScrubPass a0 a1 a2) s = execHbmcScrubPass a0 a1 a2 s := rfl

theorem exec_lpdcScrubPass (a0 : LpIx) (a1 : List Nat) (a2 : List Nat) (s : State) :
    exec (.lpdcScrubPass a0 a1 a2) s = execLpdcScrubPass a0 a1 a2 s := rfl

theorem exec_memoryReadError (a0 : Nat) (a1 : ReadErr) (s : State) :
    exec (.memoryReadError a0 a1) s = execMemoryReadError a0 a1 s := rfl

theorem exec_hbmcMapWrite (a0 : Word) (s : State) :
    exec (.hbmcMapWrite a0) s = execHbmcMapWrite a0 s := rfl

theorem exec_lpdcTierWrite (a0 : Word) (s : State) :
    exec (.lpdcTierWrite a0) s = execLpdcTierWrite a0 s := rfl

theorem exec_landClear (a0 : CoreIx) (s : State) :
    exec (.landClear a0) s = execLandClear a0 s := rfl

theorem exec_landClearDone (a0 : CoreIx) (s : State) :
    exec (.landClearDone a0) s = execLandClearDone a0 s := rfl

theorem exec_deckLbAccess (a0 : CoreIx) (a1 : Nat) (a2 : Nat) (a3 : Bool) (a4 : Bytes) (s : State) :
    exec (.deckLbAccess a0 a1 a2 a3 a4) s = execDeckLbAccess a0 a1 a2 a3 a4 s := rfl

theorem exec_ferryQcfgWrite (a0 : CoreIx) (a1 : FerryIx) (a2 : Bool) (a3 : DWord) (s : State) :
    exec (.ferryQcfgWrite a0 a1 a2 a3) s = execFerryQcfgWrite a0 a1 a2 a3 s := rfl

theorem exec_ferryQtailWrite (a0 : CoreIx) (a1 : FerryIx) (a2 : Word) (s : State) :
    exec (.ferryQtailWrite a0 a1 a2) s = execFerryQtailWrite a0 a1 a2 s := rfl

theorem exec_tagRefetch (a0 : CoreIx) (a1 : FerryIx) (s : State) :
    exec (.tagRefetch a0 a1) s = execTagRefetch a0 a1 s := rfl

theorem exec_expBlockExpand (a0 : CoreIx) (a1 : FerryIx) (s : State) :
    exec (.expBlockExpand a0 a1) s = execExpBlockExpand a0 a1 s := rfl

theorem exec_expRefetch (a0 : CoreIx) (a1 : FerryIx) (s : State) :
    exec (.expRefetch a0 a1) s = execExpRefetch a0 a1 s := rfl

theorem exec_loadDecodeTable (a0 : Nat) (s : State) :
    exec (.loadDecodeTable a0) s = execLoadDecodeTable a0 s := rfl

theorem exec_ctabLoadGo (a0 : DieIx) (a1 : Fin 8) (s : State) :
    exec (.ctabLoadGo a0 a1) s = execCtabLoadGo a0 a1 s := rfl

theorem exec_ctabRetire (a0 : DieIx) (a1 : BitVec 8) (s : State) :
    exec (.ctabRetire a0 a1) s = execCtabRetire a0 a1 s := rfl

theorem exec_ctabSlotLive (a0 : DieIx) (a1 : Fin 8) (s : State) :
    exec (.ctabSlotLive a0 a1) s = execCtabSlotLive a0 a1 s := rfl

theorem exec_ctabSlotDraining (a0 : DieIx) (a1 : Fin 8) (s : State) :
    exec (.ctabSlotDraining a0 a1) s = execCtabSlotDraining a0 a1 s := rfl

theorem exec_ctabSlotFree (a0 : DieIx) (a1 : Fin 8) (s : State) :
    exec (.ctabSlotFree a0 a1) s = execCtabSlotFree a0 a1 s := rfl

theorem exec_tagrRegionEnable (a0 : Fin 64) (s : State) :
    exec (.tagrRegionEnable a0) s = execTagrRegionEnable a0 s := rfl

theorem exec_tagrRgenWrite (a0 : Fin 64) (a1 : BitVec 16) (s : State) :
    exec (.tagrRgenWrite a0 a1) s = execTagrRgenWrite a0 a1 s := rfl

theorem exec_tagrRetag (a0 : Fin 64) (s : State) :
    exec (.tagrRetag a0) s = execTagrRetag a0 s := rfl

theorem exec_tagrRetagDone (s : State) :
    exec .tagrRetagDone s = execTagrRetagDone s := rfl

theorem exec_homeRdShared (a0 : PartIx) (a1 : (Fin 64)) (a2 : Nat) (s : State) :
    exec (.homeRdShared a0 a1 a2) s = execHomeRdShared a0 a1 a2 s := rfl

theorem exec_homeRdOwn (a0 : PartIx) (a1 : (Fin 64)) (a2 : Nat) (s : State) :
    exec (.homeRdOwn a0 a1 a2) s = execHomeRdOwn a0 a1 a2 s := rfl

theorem exec_homeUpgrade (a0 : PartIx) (a1 : (Fin 64)) (a2 : Nat) (s : State) :
    exec (.homeUpgrade a0 a1 a2) s = execHomeUpgrade a0 a1 a2 s := rfl

theorem exec_homeRdOnce (a0 : CohAgent) (a1 : Nat) (s : State) :
    exec (.homeRdOnce a0 a1) s = execHomeRdOnce a0 a1 s := rfl

theorem exec_homeBulkRd (a0 : CohAgent) (a1 : Nat) (a2 : Nat) (s : State) :
    exec (.homeBulkRd a0 a1 a2) s = execHomeBulkRd a0 a1 a2 s := rfl

theorem exec_homeWrLine (a0 : CohAgent) (a1 : Nat) (a2 : Bytes) (s : State) :
    exec (.homeWrLine a0 a1 a2) s = execHomeWrLine a0 a1 a2 s := rfl

theorem exec_homeBulkWr (a0 : CohAgent) (a1 : Nat) (a2 : Bytes) (s : State) :
    exec (.homeBulkWr a0 a1 a2) s = execHomeBulkWr a0 a1 a2 s := rfl

theorem exec_homeWrPart (a0 : CohAgent) (a1 : Nat) (a2 : DWord) (a3 : Bytes) (s : State) :
    exec (.homeWrPart a0 a1 a2 a3) s = execHomeWrPart a0 a1 a2 a3 s := rfl

theorem exec_homeWb (a0 : PartIx) (a1 : Nat) (s : State) :
    exec (.homeWb a0 a1) s = execHomeWb a0 a1 s := rfl

theorem exec_homeEvict (a0 : PartIx) (a1 : Nat) (s : State) :
    exec (.homeEvict a0 a1) s = execHomeEvict a0 a1 s := rfl

theorem exec_homeAmoFar (a0 : PartIx) (a1 : (Fin 64)) (a2 : AmoOp) (a3 : Bool) (a4 : Nat) (a5 : DWord) (s : State) :
    exec (.homeAmoFar a0 a1 a2 a3 a4 a5) s = execHomeAmoFar a0 a1 a2 a3 a4 a5 s := rfl

theorem exec_homeRecall (a0 : CohAgent) (a1 : Nat) (a2 : Nat) (s : State) :
    exec (.homeRecall a0 a1 a2) s = execHomeRecall a0 a1 a2 s := rfl

theorem exec_homeTransactionServe (a0 : Nat) (s : State) :
    exec (.homeTransactionServe a0) s = execHomeTransactionServe a0 s := rfl

theorem exec_homeSnoopAnswer (a0 : PartIx) (a1 : Nat) (s : State) :
    exec (.homeSnoopAnswer a0 a1) s = execHomeSnoopAnswer a0 a1 s := rfl

theorem exec_snoopResend (a0 : PartIx) (a1 : Nat) (s : State) :
    exec (.snoopResend a0 a1) s = execSnoopResend a0 a1 s := rfl

theorem exec_cohSnoopTimeout (a0 : PartIx) (a1 : Nat) (s : State) :
    exec (.cohSnoopTimeout a0 a1) s = execCohSnoopTimeout a0 a1 s := rfl

theorem exec_snpInv (a0 : PartIx) (a1 : Nat) (a2 : (Fin 64)) (s : State) :
    exec (.snpInv a0 a1 a2) s = execSnpInv a0 a1 a2 s := rfl

theorem exec_snpShare (a0 : PartIx) (a1 : Nat) (a2 : (Fin 64)) (s : State) :
    exec (.snpShare a0 a1 a2) s = execSnpShare a0 a1 a2 s := rfl

theorem exec_backInv (a0 : PartIx) (a1 : Nat) (a2 : (Fin 64)) (s : State) :
    exec (.backInv a0 a1 a2) s = execBackInv a0 a1 a2 s := rfl

theorem exec_gntReceive (a0 : PartIx) (a1 : Nat) (s : State) :
    exec (.gntReceive a0 a1) s = execGntReceive a0 a1 s := rfl

theorem exec_gntUp (a0 : PartIx) (a1 : Nat) (s : State) :
    exec (.gntUp a0 a1) s = execGntUp a0 a1 s := rfl

theorem exec_dataOnce (a0 : CohAgent) (a1 : Nat) (s : State) :
    exec (.dataOnce a0 a1) s = execDataOnce a0 a1 s := rfl

theorem exec_wrDone (a0 : CohAgent) (a1 : Nat) (s : State) :
    exec (.wrDone a0 a1) s = execWrDone a0 a1 s := rfl

theorem exec_amoRsp (a0 : PartIx) (a1 : Nat) (s : State) :
    exec (.amoRsp a0 a1) s = execAmoRsp a0 a1 s := rfl

theorem exec_wbAck (a0 : PartIx) (a1 : Nat) (s : State) :
    exec (.wbAck a0 a1) s = execWbAck a0 a1 s := rfl

theorem exec_bollardHoldEnd (a0 : PartIx) (a1 : Nat) (s : State) :
    exec (.bollardHoldEnd a0 a1) s = execBollardHoldEnd a0 a1 s := rfl

theorem exec_atomicOp (a0 : AtomCore) (a1 : AtomOp) (a2 : AtomForm) (a3 : Nat) (a4 : BitVec 128) (s : State) :
    exec (.atomicOp a0 a1 a2 a3 a4) s = execAtomicOp a0 a1 a2 a3 a4 s := rfl

theorem exec_dcacheFlush (a0 : DieIx) (s : State) :
    exec (.dcacheFlush a0) s = execDcacheFlush a0 s := rfl

theorem exec_dcachePredClr (a0 : DieIx) (s : State) :
    exec (.dcachePredClr a0) s = execDcachePredClr a0 s := rfl

theorem exec_dcPoisonConsumed (a0 : CoreIx) (a1 : DWord) (a2 : Nat) (s : State) :
    exec (.dcPoisonConsumed a0 a1 a2) s = execDcPoisonConsumed a0 a1 a2 s := rfl

theorem exec_homeCfgWrite (a0 : SliceIx) (a1 : Word) (s : State) :
    exec (.homeCfgWrite a0 a1) s = execHomeCfgWrite a0 a1 s := rfl

theorem exec_srvcRun (a0 : ServerIx) (s : State) :
    exec (.srvcRun a0) s = execSrvcRun a0 s := rfl

theorem exec_srvcStop (a0 : ServerIx) (s : State) :
    exec (.srvcStop a0) s = execSrvcStop a0 s := rfl

theorem exec_srvcReserve (a0 : ServerIx) (s : State) :
    exec (.srvcReserve a0) s = execSrvcReserve a0 s := rfl

theorem exec_srvcRelease (a0 : ServerIx) (s : State) :
    exec (.srvcRelease a0) s = execSrvcRelease a0 s := rfl

theorem exec_srvcPredClr (a0 : ServerIx) (s : State) :
    exec (.srvcPredClr a0) s = execSrvcPredClr a0 s := rfl

theorem exec_srvcL2Flush (a0 : ServerIx) (s : State) :
    exec (.srvcL2Flush a0) s = execSrvcL2Flush a0 s := rfl

theorem exec_srvcClkWrite (a0 : ServerIx) (a1 : (BitVec 12)) (s : State) :
    exec (.srvcClkWrite a0 a1) s = execSrvcClkWrite a0 a1 s := rfl

theorem exec_srvPoisonConsumed (a0 : ServerIx) (a1 : Bool) (a2 : DWord) (a3 : Nat) (s : State) :
    exec (.srvPoisonConsumed a0 a1 a2 a3) s = execSrvPoisonConsumed a0 a1 a2 a3 s := rfl

theorem exec_srvCacheError (a0 : ServerIx) (a1 : Nat) (a2 : CacheErr) (s : State) :
    exec (.srvCacheError a0 a1 a2) s = execSrvCacheError a0 a1 a2 s := rfl

theorem exec_dockEnable (a0 : DockIx) (s : State) :
    exec (.dockEnable a0) s = execDockEnable a0 s := rfl

theorem exec_dockDisable (a0 : DockIx) (s : State) :
    exec (.dockDisable a0) s = execDockDisable a0 s := rfl

theorem exec_dockTailWrite (a0 : DockIx) (a1 : Word) (a2 : Nat) (s : State) :
    exec (.dockTailWrite a0 a1 a2) s = execDockTailWrite a0 a1 a2 s := rfl

theorem exec_dockCplHeadWrite (a0 : DockIx) (a1 : Word) (s : State) :
    exec (.dockCplHeadWrite a0 a1) s = execDockCplHeadWrite a0 a1 s := rfl

theorem exec_dockEntryRead (a0 : DockIx) (s : State) :
    exec (.dockEntryRead a0) s = execDockEntryRead a0 s := rfl

theorem exec_dockCompletion (a0 : DockIx) (a1 : Nat) (s : State) :
    exec (.dockCompletion a0 a1) s = execDockCompletion a0 a1 s := rfl

theorem exec_commandAccept (s : State) :
    exec .commandAccept s = execCommandAccept s := rfl

theorem exec_cqEntryFetch (a0 : QueueIx) (s : State) :
    exec (.cqEntryFetch a0) s = execCqEntryFetch a0 s := rfl

theorem exec_cqTailWrite (a0 : QueueIx) (a1 : Word) (a2 : Nat) (s : State) :
    exec (.cqTailWrite a0 a1 a2) s = execCqTailWrite a0 a1 a2 s := rfl

theorem exec_cqCplHeadWrite (a0 : QueueIx) (a1 : Word) (s : State) :
    exec (.cqCplHeadWrite a0 a1) s = execCqCplHeadWrite a0 a1 s := rfl

theorem exec_cqEnable (a0 : QueueIx) (s : State) :
    exec (.cqEnable a0) s = execCqEnable a0 s := rfl

theorem exec_cqDisable (a0 : QueueIx) (s : State) :
    exec (.cqDisable a0) s = execCqDisable a0 s := rfl

theorem exec_writeInline (a0 : Nat) (s : State) :
    exec (.writeInline a0) s = execWriteInline a0 s := rfl

theorem exec_copy (a0 : Nat) (s : State) :
    exec (.copy a0) s = execCopy a0 s := rfl

theorem exec_copyItem (a0 : Nat) (s : State) :
    exec (.copyItem a0) s = execCopyItem a0 s := rfl

theorem exec_fence (a0 : Nat) (s : State) :
    exec (.fence a0) s = execFence a0 s := rfl

theorem exec_nop (a0 : Nat) (s : State) :
    exec (.nop a0) s = execNop a0 s := rfl

theorem exec_query (a0 : Nat) (s : State) :
    exec (.query a0) s = execQuery a0 s := rfl

theorem exec_queryPlace (s : State) :
    exec .queryPlace s = execQueryPlace s := rfl

theorem exec_queryResultCollect (s : State) :
    exec .queryResultCollect s = execQueryResultCollect s := rfl

theorem exec_completionRecordWrite (a0 : Nat) (s : State) :
    exec (.completionRecordWrite a0) s = execCompletionRecordWrite a0 s := rfl

theorem exec_pcieLinkTrain (a0 : PcieIx) (a1 : Nat) (a2 : Nat) (s : State) :
    exec (.pcieLinkTrain a0 a1 a2) s = execPcieLinkTrain a0 a1 a2 s := rfl

theorem exec_pcieRetrain (a0 : PcieIx) (s : State) :
    exec (.pcieRetrain a0) s = execPcieRetrain a0 s := rfl

theorem exec_pcieLinkLoss (a0 : PcieIx) (a1 : LinkEnd) (s : State) :
    exec (.pcieLinkLoss a0 a1) s = execPcieLinkLoss a0 a1 s := rfl

theorem exec_hostDetachAbort (s : State) :
    exec .hostDetachAbort s = execHostDetachAbort s := rfl

theorem exec_bar2Access (a0 : Nat) (a1 : Nat) (a2 : Bool) (a3 : Bytes) (a4 : TlpFault) (s : State) :
    exec (.bar2Access a0 a1 a2 a3 a4) s = execBar2Access a0 a1 a2 a3 a4 s := rfl

theorem exec_outboundAccess (a0 : Nat) (a1 : Nat) (a2 : Bool) (a3 : Bytes) (a4 : Option (Nat × Nat)) (s : State) :
    exec (.outboundAccess a0 a1 a2 a3 a4) s = execOutboundAccess a0 a1 a2 a3 a4 s := rfl

theorem exec_pcieUnexpCpl (a0 : PcieIx) (s : State) :
    exec (.pcieUnexpCpl a0) s = execPcieUnexpCpl a0 s := rfl

theorem exec_pcieCplTimeout (a0 : PcieIx) (a1 : Nat) (a2 : Nat) (s : State) :
    exec (.pcieCplTimeout a0 a1 a2) s = execPcieCplTimeout a0 a1 a2 s := rfl

theorem exec_pciePoisonedTlp (a0 : PcieIx) (a1 : Option (Nat × Nat)) (a2 : Nat) (a3 : Nat) (s : State) :
    exec (.pciePoisonedTlp a0 a1 a2 a3) s = execPciePoisonedTlp a0 a1 a2 a3 s := rfl

theorem exec_pcieBar2BaseWrite (a0 : DWord) (s : State) :
    exec (.pcieBar2BaseWrite a0) s = execPcieBar2BaseWrite a0 s := rfl

theorem exec_pcieCtrlWrite (a0 : PcieIx) (a1 : Word) (s : State) :
    exec (.pcieCtrlWrite a0 a1) s = execPcieCtrlWrite a0 a1 s := rfl

theorem exec_flitGrant (a0 : PortIx) (s : State) :
    exec (.flitGrant a0) s = execFlitGrant a0 s := rfl

theorem exec_flitCrcError (a0 : PortIx) (a1 : Bytes) (a2 : Bool) (s : State) :
    exec (.flitCrcError a0 a1 a2) s = execFlitCrcError a0 a1 a2 s := rfl

theorem exec_flitAccept (a0 : PortIx) (a1 : Bytes) (s : State) :
    exec (.flitAccept a0 a1) s = execFlitAccept a0 a1 s := rfl

theorem exec_ackRx (a0 : PortIx) (a1 : Bytes) (s : State) :
    exec (.ackRx a0 a1) s = execAckRx a0 a1 s := rfl

theorem exec_nakRx (a0 : PortIx) (a1 : Bytes) (s : State) :
    exec (.nakRx a0 a1) s = execNakRx a0 a1 s := rfl

theorem exec_ackTimer (a0 : PortIx) (s : State) :
    exec (.ackTimer a0) s = execAckTimer a0 s := rfl

theorem exec_replayTimeout (a0 : PortIx) (s : State) :
    exec (.replayTimeout a0) s = execReplayTimeout a0 s := rfl

theorem exec_replayExhausted (a0 : PortIx) (s : State) :
    exec (.replayExhausted a0) s = execReplayExhausted a0 s := rfl

theorem exec_creditSyncRx (a0 : PortIx) (a1 : Bytes) (s : State) :
    exec (.creditSyncRx a0 a1) s = execCreditSyncRx a0 a1 s := rfl

theorem exec_nullFlitRx (a0 : PortIx) (a1 : Bytes) (s : State) :
    exec (.nullFlitRx a0 a1) s = execNullFlitRx a0 a1 s := rfl

theorem exec_sdataRx (a0 : PortIx) (s : State) :
    exec (.sdataRx a0) s = execSdataRx a0 s := rfl

theorem exec_slNoRecv (a0 : PortIx) (s : State) :
    exec (.slNoRecv a0) s = execSlNoRecv a0 s := rfl

theorem exec_linkSend (a0 : CoreIx) (s : State) :
    exec (.linkSend a0) s = execLinkSend a0 s := rfl

theorem exec_linkRecv (a0 : CoreIx) (s : State) :
    exec (.linkRecv a0) s = execLinkRecv a0 s := rfl

theorem exec_rreqRx (a0 : PortIx) (s : State) :
    exec (.rreqRx a0) s = execRreqRx a0 s := rfl

theorem exec_bulkRx (a0 : PortIx) (s : State) :
    exec (.bulkRx a0) s = execBulkRx a0 s := rfl

theorem exec_rackRx (a0 : PortIx) (s : State) :
    exec (.rackRx a0) s = execRackRx a0 s := rfl

theorem exec_slMsgTimeout (a0 : Nat) (s : State) :
    exec (.slMsgTimeout a0) s = execSlMsgTimeout a0 s := rfl

theorem exec_mgmtFlitRx (a0 : PortIx) (s : State) :
    exec (.mgmtFlitRx a0) s = execMgmtFlitRx a0 s := rfl

theorem exec_slnkRouteReload (s : State) :
    exec .slnkRouteReload s = execSlnkRouteReload s := rfl

theorem exec_portTrain (a0 : PortIx) (s : State) :
    exec (.portTrain a0) s = execPortTrain a0 s := rfl

theorem exec_trainRateStep (a0 : PortIx) (s : State) :
    exec (.trainRateStep a0) s = execTrainRateStep a0 s := rfl

theorem exec_trainFlitTx (a0 : PortIx) (s : State) :
    exec (.trainFlitTx a0) s = execTrainFlitTx a0 s := rfl

theorem exec_trainFlitRx (a0 : PortIx) (a1 : Bytes) (a2 : Bool) (s : State) :
    exec (.trainFlitRx a0 a1 a2) s = execTrainFlitRx a0 a1 a2 s := rfl

theorem exec_trainTimeout (a0 : PortIx) (s : State) :
    exec (.trainTimeout a0) s = execTrainTimeout a0 s := rfl

theorem exec_portRetrain (a0 : PortIx) (s : State) :
    exec (.portRetrain a0) s = execPortRetrain a0 s := rfl

theorem exec_fecLockLoss (a0 : PortIx) (s : State) :
    exec (.fecLockLoss a0) s = execFecLockLoss a0 s := rfl

theorem exec_portQuarantine (a0 : PortIx) (s : State) :
    exec (.portQuarantine a0) s = execPortQuarantine a0 s := rfl

theorem exec_portDown (a0 : PortIx) (a1 : Bool) (s : State) :
    exec (.portDown a0 a1) s = execPortDown a0 a1 s := rfl

theorem exec_slnkRetrainWrite (a0 : PortIx) (s : State) :
    exec (.slnkRetrainWrite a0) s = execSlnkRetrainWrite a0 s := rfl

theorem exec_slnkQuarClr (a0 : PortIx) (s : State) :
    exec (.slnkQuarClr a0) s = execSlnkQuarClr a0 s := rfl

theorem exec_slnkNodeWrite (a0 : BitVec 15) (s : State) :
    exec (.slnkNodeWrite a0) s = execSlnkNodeWrite a0 s := rfl

theorem exec_ethFrameRx (a0 : PortIx) (a1 : Bytes) (s : State) :
    exec (.ethFrameRx a0 a1) s = execEthFrameRx a0 a1 s := rfl

theorem exec_ethFrameResend (a0 : PortIx) (s : State) :
    exec (.ethFrameResend a0) s = execEthFrameResend a0 s := rfl

theorem exec_collReduce (a0 : CoreIx) (s : State) :
    exec (.collReduce a0) s = execCollReduce a0 s := rfl

theorem exec_collBcast (a0 : CoreIx) (s : State) :
    exec (.collBcast a0) s = execCollBcast a0 s := rfl

theorem exec_collBarrier (a0 : CoreIx) (s : State) :
    exec (.collBarrier a0) s = execCollBarrier a0 s := rfl

theorem exec_collSummary (a0 : CoreIx) (s : State) :
    exec (.collSummary a0) s = execCollSummary a0 s := rfl

theorem exec_cdataRx (a0 : PortIx) (s : State) :
    exec (.cdataRx a0) s = execCdataRx a0 s := rfl

theorem exec_collChildTimeout (a0 : CoreIx) (s : State) :
    exec (.collChildTimeout a0) s = execCollChildTimeout a0 s := rfl

theorem exec_collTreeEnable (a0 : Fin 8) (a1 : DWord) (s : State) :
    exec (.collTreeEnable a0 a1) s = execCollTreeEnable a0 a1 s := rfl

theorem exec_floodSnapshotAt (a0 : PortIx) (s : State) :
    exec (.floodSnapshotAt a0) s = execFloodSnapshotAt a0 s := rfl

theorem exec_floodGlobalReset (a0 : PortIx) (s : State) :
    exec (.floodGlobalReset a0) s = execFloodGlobalReset a0 s := rfl

theorem exec_floodRequest (a0 : PortIx) (s : State) :
    exec (.floodRequest a0) s = execFloodRequest a0 s := rfl

theorem exec_deviceFatalFault (a0 : Blk) (a1 : Nat) (a2 : Nat) (a3 : (Option (Nat × Nat))) (a4 : (Option Nat)) (s : State) :
    exec (.deviceFatalFault a0 a1 a2 a3 a4) s = execDeviceFatalFault a0 a1 a2 a3 a4 s := rfl

theorem exec_leaveStop (s : State) :
    exec .leaveStop s = execLeaveStop s := rfl

theorem exec_leaveRecords (s : State) :
    exec .leaveRecords s = execLeaveRecords s := rfl

theorem exec_mbHalt (s : State) :
    exec .mbHalt s = execMbHalt s := rfl

theorem exec_localReset (s : State) :
    exec .localReset s = execLocalReset s := rfl

theorem exec_deviceReset (s : State) :
    exec .deviceReset s = execDeviceReset s := rfl

theorem exec_snapshot (a0 : Nat) (s : State) :
    exec (.snapshot a0) s = execSnapshot a0 s := rfl

theorem exec_snapshotFreeze (s : State) :
    exec .snapshotFreeze s = execSnapshotFreeze s := rfl

theorem exec_snapshotItemDone (a0 : Nat) (s : State) :
    exec (.snapshotItemDone a0) s = execSnapshotItemDone a0 s := rfl

theorem exec_updHoldRelease (s : State) :
    exec .updHoldRelease s = execUpdHoldRelease s := rfl

theorem exec_restoreVerifyStored (a0 : Nat) (a1 : Nat) (s : State) :
    exec (.restoreVerifyStored a0 a1) s = execRestoreVerifyStored a0 a1 s := rfl

theorem exec_restoreVerifyReplica (a0 : Nat) (a1 : Nat) (s : State) :
    exec (.restoreVerifyReplica a0 a1) s = execRestoreVerifyReplica a0 a1 s := rfl

theorem exec_restoreVerifyServe (a0 : Nat) (a1 : Nat) (s : State) :
    exec (.restoreVerifyServe a0 a1) s = execRestoreVerifyServe a0 a1 s := rfl

theorem exec_rasLogTailWrite (a0 : DWord) (s : State) :
    exec (.rasLogTailWrite a0) s = execRasLogTailWrite a0 s := rfl

theorem exec_rasLogAppend (a0 : Blk) (a1 : Nat) (a2 : Nat) (a3 : (Option (Nat × Nat))) (a4 : (Option Nat)) (a5 : Nat) (s : State) :
    exec (.rasLogAppend a0 a1 a2 a3 a4 a5) s = execRasLogAppend a0 a1 a2 a3 a4 a5 s := rfl

theorem exec_sysResetDeassert (a0 : BitVec 6) (s : State) :
    exec (.sysResetDeassert a0) s = execSysResetDeassert a0 s := rfl

theorem exec_startupStageDone (a0 : Option LpTrain) (a1 : Nat) (s : State) :
    exec (.startupStageDone a0 a1) s = execStartupStageDone a0 a1 s := rfl

theorem exec_startFail (s : State) :
    exec .startFail s = execStartFail s := rfl

theorem exec_sysResetAssert (s : State) :
    exec .sysResetAssert s = execSysResetAssert s := rfl

theorem exec_vbusLow (a0 : BitVec 16) (s : State) :
    exec (.vbusLow a0) s = execVbusLow a0 s := rfl

theorem exec_vbusLoss (a0 : BitVec 16) (s : State) :
    exec (.vbusLoss a0) s = execVbusLoss a0 s := rfl

theorem exec_vauxLoss (s : State) :
    exec .vauxLoss s = execVauxLoss s := rfl

theorem exec_pwrOvercurrent (a0 : BitVec 16) (s : State) :
    exec (.pwrOvercurrent a0) s = execPwrOvercurrent a0 s := rfl

theorem exec_governorDecision (s : State) :
    exec .governorDecision s = execGovernorDecision s := rfl

theorem exec_powerModeChange (s : State) :
    exec .powerModeChange s = execPowerModeChange s := rfl

theorem exec_tjSample (a0 : List Int) (s : State) :
    exec (.tjSample a0) s = execTjSample a0 s := rfl

theorem exec_pwrShutdown (s : State) :
    exec .pwrShutdown s = execPwrShutdown s := rfl

theorem exec_pwrModeReqWrite (a0 : BitVec 2) (s : State) :
    exec (.pwrModeReqWrite a0) s = execPwrModeReqWrite a0 s := rfl

theorem exec_pwrCapWrite (a0 : Bool) (a1 : BitVec 16) (s : State) :
    exec (.pwrCapWrite a0 a1) s = execPwrCapWrite a0 a1 s := rfl

theorem exec_oscSample (a0 : List (Nat × Nat)) (s : State) :
    exec (.oscSample a0) s = execOscSample a0 s := rfl

theorem exec_sentinelSample (a0 : List (BitVec 7)) (s : State) :
    exec (.sentinelSample a0) s = execSentinelSample a0 s := rfl

theorem exec_marginReplan (s : State) :
    exec .marginReplan s = execMarginReplan s := rfl

theorem exec_healthScore (s : State) :
    exec .healthScore s = execHealthScore s := rfl

theorem exec_hullWrite (s : State) :
    exec .hullWrite s = execHullWrite s := rfl

theorem exec_hullNow (s : State) :
    exec .hullNow s = execHullNow s := rfl

theorem exec_secConfirm (s : State) :
    exec .secConfirm s = execSecConfirm s := rfl

theorem exec_secSvnCommit (s : State) :
    exec .secSvnCommit s = execSecSvnCommit s := rfl

theorem exec_secRevoke (a0 : Word) (s : State) :
    exec (.secRevoke a0) s = execSecRevoke a0 s := rfl

theorem exec_secDbgNonceRead (s : State) :
    exec .secDbgNonceRead s = execSecDbgNonceRead s := rfl

theorem exec_secDbgUnlock (s : State) :
    exec .secDbgUnlock s = execSecDbgUnlock s := rfl

theorem exec_secDbgLock (s : State) :
    exec .secDbgLock s = execSecDbgLock s := rfl

theorem exec_spdmGetVersion (a0 : MgmtChan) (s : State) :
    exec (.spdmGetVersion a0) s = execSpdmGetVersion a0 s := rfl

theorem exec_spdmGetCapabilities (a0 : MgmtChan) (s : State) :
    exec (.spdmGetCapabilities a0) s = execSpdmGetCapabilities a0 s := rfl

theorem exec_spdmNegotiateAlgorithms (a0 : MgmtChan) (a1 : Bool) (a2 : Bool) (s : State) :
    exec (.spdmNegotiateAlgorithms a0 a1 a2) s = execSpdmNegotiateAlgorithms a0 a1 a2 s := rfl

theorem exec_spdmGetDigests (a0 : MgmtChan) (s : State) :
    exec (.spdmGetDigests a0) s = execSpdmGetDigests a0 s := rfl

theorem exec_spdmGetCertificate (a0 : MgmtChan) (a1 : Nat) (a2 : Nat) (a3 : Nat) (s : State) :
    exec (.spdmGetCertificate a0 a1 a2 a3) s = execSpdmGetCertificate a0 a1 a2 a3 s := rfl

theorem exec_spdmChallenge (a0 : MgmtChan) (a1 : Nat) (a2 : Bytes) (s : State) :
    exec (.spdmChallenge a0 a1 a2) s = execSpdmChallenge a0 a1 a2 s := rfl

theorem exec_spdmGetMeasurements (a0 : MgmtChan) (a1 : Nat) (a2 : Bytes) (s : State) :
    exec (.spdmGetMeasurements a0 a1 a2) s = execSpdmGetMeasurements a0 a1 a2 s := rfl

theorem exec_spdmUnsupported (a0 : MgmtChan) (s : State) :
    exec (.spdmUnsupported a0) s = execSpdmUnsupported a0 s := rfl

theorem exec_pldmPlatformRequest (a0 : MgmtChan) (a1 : PldmReq) (s : State) :
    exec (.pldmPlatformRequest a0 a1) s = execPldmPlatformRequest a0 a1 s := rfl

theorem exec_pldmFirmwareUpdate (a0 : MgmtChan) (a1 : FwStep) (s : State) :
    exec (.pldmFirmwareUpdate a0 a1) s = execPldmFirmwareUpdate a0 a1 s := rfl

theorem exec_mctpApertureAccess (a0 : MgmtChan) (a1 : Bool) (a2 : Nat) (a3 : Bool) (a4 : BusWord) (s : State) :
    exec (.mctpApertureAccess a0 a1 a2 a3 a4) s = execMctpApertureAccess a0 a1 a2 a3 a4 s := rfl

theorem exec_i3cBroadcastTimeout (s : State) :
    exec .i3cBroadcastTimeout s = execI3cBroadcastTimeout s := rfl

theorem exec_mgmtCtrlWrite (a0 : Requester) (a1 : Word) (s : State) :
    exec (.mgmtCtrlWrite a0 a1) s = execMgmtCtrlWrite a0 a1 s := rfl

theorem exec_aperBadAccess (a0 : Requester) (a1 : Nat) (a2 : Nat) (a3 : Bool) (s : State) :
    exec (.aperBadAccess a0 a1 a2 a3) s = execAperBadAccess a0 a1 a2 a3 s := rfl

theorem exec_aperAbsent (a0 : Requester) (a1 : Nat) (s : State) :
    exec (.aperAbsent a0 a1) s = execAperAbsent a0 a1 s := rfl

theorem exec_aperSplitAccess (a0 : Requester) (a1 : Nat) (a2 : Bool) (a3 : Word) (s : State) :
    exec (.aperSplitAccess a0 a1 a2 a3) s = execAperSplitAccess a0 a1 a2 a3 s := rfl

theorem exec_pgSoftReset (a0 : Requester) (a1 : Blk) (a2 : Nat) (s : State) :
    exec (.pgSoftReset a0 a1 a2) s = execPgSoftReset a0 a1 a2 s := rfl

theorem exec_pgFreezeWrite (a0 : Requester) (a1 : Blk) (a2 : Nat) (a3 : Bool) (s : State) :
    exec (.pgFreezeWrite a0 a1 a2 a3) s = execPgFreezeWrite a0 a1 a2 a3 s := rfl

theorem exec_pgLevelWrite (a0 : Requester) (a1 : Blk) (a2 : Nat) (a3 : BitVec 8) (s : State) :
    exec (.pgLevelWrite a0 a1 a2 a3) s = execPgLevelWrite a0 a1 a2 a3 s := rfl

theorem exec_pgIrqStatClear (a0 : Requester) (a1 : Blk) (a2 : Nat) (a3 : Word) (s : State) :
    exec (.pgIrqStatClear a0 a1 a2 a3) s = execPgIrqStatClear a0 a1 a2 a3 s := rfl

theorem exec_pgIrqForce (a0 : Requester) (a1 : Blk) (a2 : Nat) (a3 : Word) (s : State) :
    exec (.pgIrqForce a0 a1 a2 a3) s = execPgIrqForce a0 a1 a2 a3 s := rfl

theorem exec_pgErrFirstClear (a0 : Requester) (a1 : Blk) (a2 : Nat) (s : State) :
    exec (.pgErrFirstClear a0 a1 a2) s = execPgErrFirstClear a0 a1 a2 s := rfl

theorem exec_registerWrite (a0 : Requester) (a1 : RegAddr) (a2 : Bool) (a3 : BusWord) (s : State) :
    exec (.registerWrite a0 a1 a2 a3) s = execRegisterWrite a0 a1 a2 a3 s := rfl

theorem exec_lanesLocked (a0 : PortIx) (s : State) :
    exec (.lanesLocked a0) s = execLanesLocked a0 s := rfl

theorem exec_creditReturn (a0 : PortIx) (a1 : Bytes) (s : State) :
    exec (.creditReturn a0 a1) s = execCreditReturn a0 a1 s := rfl

theorem exec_atsInvalidation (a0 : Nat) (a1 : Nat) (s : State) :
    exec (.atsInvalidation a0 a1) s = execAtsInvalidation a0 a1 s := rfl

theorem exec_pcieD3hotExit (s : State) :
    exec .pcieD3hotExit s = execPcieD3hotExit s := rfl

theorem exec_vbusReturn (a0 : BitVec 16) (s : State) :
    exec (.vbusReturn a0) s = execVbusReturn a0 s := rfl

theorem exec_hullWriteDone (a0 : Bool) (s : State) :
    exec (.hullWriteDone a0) s = execHullWriteDone a0 s := rfl

theorem exec_fusingDone (s : State) :
    exec .fusingDone s = execFusingDone s := rfl

theorem exec_dcacheFlushDone (a0 : DieIx) (s : State) :
    exec (.dcacheFlushDone a0) s = execDcacheFlushDone a0 s := rfl

theorem exec_l2FlushDone (a0 : ServerIx) (s : State) :
    exec (.l2FlushDone a0) s = execL2FlushDone a0 s := rfl

theorem exec_globalResetDone (s : State) :
    exec .globalResetDone s = execGlobalResetDone s := rfl

theorem exec_offReady (s : State) :
    exec .offReady s = execOffReady s := rfl

theorem exec_i3cDynamicAddressAssignment (a0 : BitVec 7) (s : State) :
    exec (.i3cDynamicAddressAssignment a0) s = execI3cDynamicAddressAssignment a0 s := rfl

theorem exec_mctpSetEndpointId (a0 : MgmtChan) (a1 : BitVec 8) (s : State) :
    exec (.mctpSetEndpointId a0 a1) s = execMctpSetEndpointId a0 a1 s := rfl

theorem exec_cacheEviction (a0 : PartIx) (a1 : Nat) (s : State) :
    exec (.cacheEviction a0 a1) s = execCacheEviction a0 a1 s := rfl

end Sys2Proof.Machine
end

