-- ==== Sys2Proof/Laws/Sparse.lean ====
section
/-!
SUPPORT. Laws/Sparse.lean: sparse maps: reading after writing, and that every operation keeps the canonical form.
-/
namespace Sys2Proof.Machine

variable {α : Type} [DecidableEq α] {d : Nat → α}

theorem smWfFrom_mono {lo lo' : Nat} (h : lo' ≤ lo) : ∀ {m : List (Nat × α)}, smWfFrom d lo m = true → smWfFrom d lo' m = true
  | [], _ => rfl
  | (j, v) :: m, hw => by
    simp only [smWfFrom, Bool.and_eq_true, decide_eq_true_eq] at hw ⊢
    exact ⟨⟨Nat.le_trans h hw.1.1, hw.1.2⟩, hw.2⟩

theorem smWfFrom_erase {lo k : Nat} : ∀ {m : List (Nat × α)}, smWfFrom d lo m = true → smWfFrom d lo (smErase m k) = true
  | [], _ => rfl
  | (j, v) :: m, hw => by
    simp only [smWfFrom, Bool.and_eq_true, decide_eq_true_eq] at hw
    simp only [smErase]
    split
    · exact smWfFrom_mono (by omega) hw.2
    · simp only [smWfFrom, Bool.and_eq_true, decide_eq_true_eq]
      exact ⟨hw.1, smWfFrom_erase hw.2⟩

theorem smWfFrom_put {lo k : Nat} {v : α} (hv : v ≠ d k) (hk : lo ≤ k) :
    ∀ {m : List (Nat × α)}, smWfFrom d lo m = true → smWfFrom d lo (smPut m k v) = true := by
  intro m
  induction m generalizing lo with
  | nil => intro _; simp [smPut, smWfFrom, hk, hv]
  | cons e m ih =>
    obtain ⟨j, w⟩ := e
    intro hw
    simp only [smWfFrom, Bool.and_eq_true, decide_eq_true_eq] at hw
    simp only [smPut]
    split
    · rename_i hlt
      simp only [smWfFrom, Bool.and_eq_true, decide_eq_true_eq]
      exact ⟨⟨hk, by simpa using hv⟩, ⟨⟨by omega, hw.1.2⟩, hw.2⟩⟩
    · split
      · rename_i _ he
        subst he
        simp only [smWfFrom, Bool.and_eq_true, decide_eq_true_eq]
        exact ⟨⟨hk, by simpa using hv⟩, hw.2⟩
      · simp only [smWfFrom, Bool.and_eq_true, decide_eq_true_eq]
        exact ⟨hw.1, ih (by omega) hw.2⟩

/-- Writing a key keeps the canonical form. -/
theorem smWf_set {m : List (Nat × α)} (k : Nat) (v : α) (h : smWf d m = true) : smWf d (smSet d m k v) = true := by
  unfold smSet
  split
  · exact smWfFrom_erase h
  · rename_i hv; exact smWfFrom_put hv (Nat.zero_le _) h

theorem smWfFrom_filter (p : Nat × α → Bool) : ∀ {lo : Nat} {m : List (Nat × α)}, smWfFrom d lo m = true →
    smWfFrom d lo (m.filter p) = true
  | _, [], _ => rfl
  | lo, (j, v) :: m, hw => by
    simp only [smWfFrom, Bool.and_eq_true, decide_eq_true_eq] at hw
    simp only [List.filter]
    split
    · simp only [smWfFrom, Bool.and_eq_true, decide_eq_true_eq]
      exact ⟨hw.1, smWfFrom_filter p hw.2⟩
    · exact smWfFrom_mono (by omega) (smWfFrom_filter p hw.2)

/-- Dropping entries keeps the canonical form. -/
theorem smWf_filter {m : List (Nat × α)} (p : Nat × α → Bool) (h : smWf d m = true) : smWf d (m.filter p) = true :=
  smWfFrom_filter p h

theorem smWfFrom_map (f : Nat → α → α) : ∀ {lo : Nat} {m : List (Nat × α)}, smWfFrom d lo m = true →
    smWfFrom d lo ((m.map (fun e => (e.1, f e.1 e.2))).filter (fun e => decide (e.2 ≠ d e.1))) = true
  | _, [], _ => rfl
  | lo, (j, v) :: m, hw => by
    simp only [smWfFrom, Bool.and_eq_true, decide_eq_true_eq] at hw
    simp only [List.map, List.filter]
    split
    · rename_i hd
      simp only [smWfFrom, Bool.and_eq_true, decide_eq_true_eq]
      exact ⟨⟨hw.1.1, by simpa using hd⟩, smWfFrom_map f hw.2⟩
    · exact smWfFrom_mono (by omega) (smWfFrom_map f hw.2)

/-- Changing every entry, and dropping those that come to the unlisted value, keeps the canonical form. -/
theorem smWf_map {m : List (Nat × α)} (f : Nat → α → α) (h : smWf d m = true) :
    smWf d ((m.map (fun e => (e.1, f e.1 e.2))).filter (fun e => decide (e.2 ≠ d e.1))) = true :=
  smWfFrom_map f h

theorem smGet_below {k : Nat} : ∀ {lo : Nat} {m : List (Nat × α)}, smWfFrom d lo m = true → k < lo → smGet d m k = d k
  | _, [], _, _ => rfl
  | lo, (j, v) :: m, hw, hk => by
    simp only [smWfFrom, Bool.and_eq_true, decide_eq_true_eq] at hw
    simp only [smGet]
    rw [if_neg (by omega)]
    exact smGet_below hw.2 (by omega)

theorem smGet_erase_self {k : Nat} : ∀ {lo : Nat} {m : List (Nat × α)}, smWfFrom d lo m = true →
    smGet d (smErase m k) k = d k
  | _, [], _ => rfl
  | lo, (j, v) :: m, hw => by
    simp only [smWfFrom, Bool.and_eq_true, decide_eq_true_eq] at hw
    simp only [smErase]
    split
    · rename_i he; subst he; exact smGet_below hw.2 (by omega)
    · rename_i hne
      simp only [smGet, if_neg hne]
      exact smGet_erase_self hw.2

omit [DecidableEq α] in
theorem smGet_erase_ne {k j : Nat} (h : j ≠ k) : ∀ {m : List (Nat × α)}, smGet d (smErase m k) j = smGet d m j
  | [] => rfl
  | (i, v) :: m => by
    simp only [smErase]
    split
    · rename_i he; subst he; simp only [smGet, if_neg h]
    · simp only [smGet]; split
      · rfl
      · exact smGet_erase_ne h

omit [DecidableEq α] in
theorem smGet_put_self {k : Nat} {v : α} : ∀ {m : List (Nat × α)}, smGet d (smPut m k v) k = v
  | [] => by simp [smPut, smGet]
  | (j, w) :: m => by
    simp only [smPut]
    split
    · simp [smGet]
    · split
      · simp [smGet]
      · rename_i h; simp only [smGet, if_neg h]; exact smGet_put_self

omit [DecidableEq α] in
theorem smGet_put_ne {k j : Nat} {v : α} (h : j ≠ k) : ∀ {m : List (Nat × α)}, smGet d (smPut m k v) j = smGet d m j
  | [] => by simp [smPut, smGet, h]
  | (i, w) :: m => by
    simp only [smPut]
    split
    · simp [smGet, h]
    · split
      · rename_i he; subst he; simp [smGet, h]
      · simp only [smGet]; split
        · rfl
        · exact smGet_put_ne h

/-- A key just written reads as what was written. -/
theorem smGet_set_self {m : List (Nat × α)} (h : smWf d m = true) (k : Nat) (v : α) : smGet d (smSet d m k v) k = v := by
  unfold smSet
  split
  · rename_i he; rw [smGet_erase_self h, he]
  · exact smGet_put_self

/-- Writing one key leaves every other as it reads. -/
theorem smGet_set_ne {m : List (Nat × α)} {k j : Nat} (h : j ≠ k) (v : α) : smGet d (smSet d m k v) j = smGet d m j := by
  unfold smSet
  split
  · exact smGet_erase_ne h
  · exact smGet_put_ne h

theorem fit_of_length {α : Type} {n : Nat} (x : α) {l : List α} (h : l.length = n) : fit n x l = l := by
  subst h; simp [fit]

@[simp] theorem fit_length {α : Type} (n : Nat) (x : α) (l : List α) : (fit n x l).length = n := by simp [fit, rep]

end Sys2Proof.Machine
end

