-- ==== Sys2Proof/Laws/Kept.lean ====
section
/-!
SUPPORT. Laws/Kept.lean: what every operation of the block keeps: the queue of commands, the canonical form of the sparse
maps, what has left the block, the count of free values, and the fuses.
-/
namespace Sys2Proof.Machine

theorem SecSt.Grown.refl (x : SecSt) : x.Grown x := ⟨Nat.le_refl _, fun _ h => h, fun _ h => h, rfl, rfl, rfl, rfl⟩

theorem SecSt.Grown.trans {x y z : SecSt} (h : x.Grown y) (k : y.Grown z) : x.Grown z :=
  ⟨Nat.le_trans h.svn k.svn, fun i e => k.edRev i (h.edRev i e), fun i e => k.mlRev i (h.mlRev i e),
    k.edProg.trans h.edProg, k.mlProg.trans h.mlProg, k.edRoots.trans h.edRoots, k.mlRoots.trans h.mlRoots⟩

/-- `t` is a state that the block's operations may lead to from `s`. -/
structure Kept (s t : State) : Prop where
  pending : t.pending = s.pending
  wf : s.Wf → t.Wf
  out : s.out <:+ t.out
  free : s.free ≤ t.free
  fuse : s.sec.fuseOk = true → t.sec.fuseOk = true ∧ s.sec.Grown t.sec

theorem Kept.refl (s : State) : Kept s s :=
  ⟨rfl, id, List.suffix_refl _, Nat.le_refl _, fun h => ⟨h, SecSt.Grown.refl _⟩⟩

theorem Kept.trans {s t u : State} (h : Kept s t) (k : Kept t u) : Kept s u :=
  ⟨k.pending.trans h.pending, fun w => k.wf (h.wf w), h.out.trans k.out, Nat.le_trans h.free k.free,
    fun f => ⟨(k.fuse (h.fuse f).1).1, (h.fuse f).2.trans (k.fuse (h.fuse f).1).2⟩⟩

/-- A change of other fields only. -/
theorem Kept.same {s t u : State} (h : Kept s t) (pending : u.pending = t.pending) (mem : u.mem = t.mem)
    (regs : u.regs = t.regs) (poison : u.poison = t.poison) (flash : u.flash = t.flash) (cores : u.cores = t.cores)
    (ports : u.ports = t.ports) (queues : u.queues = t.queues) (servers : u.servers = t.servers)
    (berths : u.berths = t.berths) (tables : u.tables = t.tables) (out : u.out = t.out) (free : u.free = t.free)
    (sec : u.sec = t.sec) : Kept s u :=
  h.trans ⟨pending, fun w => ⟨mem ▸ w.mem, regs ▸ w.regs, poison ▸ w.poison, flash ▸ w.flash, cores ▸ w.cores,
    ports ▸ w.ports, queues ▸ w.queues, servers ▸ w.servers, berths ▸ w.berths, tables ▸ w.tables⟩,
    by rw [out], by rw [free], by rw [sec]; exact fun f => ⟨f, SecSt.Grown.refl _⟩⟩

/-- Canonical sparse maps, the queue, the output and the fuses unchanged or in order. -/
theorem Kept.maps {s t u : State} (h : Kept s t) (pending : u.pending = t.pending) (wf : t.Wf → u.Wf)
    (out : u.out = t.out) (free : u.free = t.free) (sec : u.sec = t.sec) : Kept s u :=
  h.trans ⟨pending, wf, by rw [out], by rw [free],
    by rw [sec]; exact fun f => ⟨f, SecSt.Grown.refl _⟩⟩

theorem Kept.ite {s a b : State} {c : Prop} [Decidable c] (ha : Kept s a) (hb : Kept s b) : Kept s (if c then a else b) := by
  split
  · exact ha
  · exact hb

theorem Kept.foldl {α : Type} {s t : State} {f : State → α → State} {l : List α}
    (hf : ∀ u x, Kept s u → Kept s (f u x)) (h : Kept s t) : Kept s (l.foldl f t) := by
  induction l generalizing t with
  | nil => exact h
  | cons x l ih => exact ih (hf _ _ h)

/-- A fold that carries a value beside the state. -/
theorem Kept.foldl1 {α β : Type} {s : State} {f : State × β → α → State × β} {l : List α}
    (hf : ∀ u x, Kept s u.1 → Kept s (f u x).1) {t : State × β} (h : Kept s t.1) : Kept s (l.foldl f t).1 := by
  induction l generalizing t with
  | nil => exact h
  | cons x l ih => exact ih (hf _ _ h)

/-- The state that a pair holds. -/
theorem Kept.fst_of {β : Type} {s a : State} {b : β} {p : State × β} (e : p = (a, b)) (h : Kept s p.1) : Kept s a := by
  subst e; exact h

/-- A record update of other fields only. -/
theorem Kept.upd {s t : State} (h : Kept s t) (busRead : DWord) (rdData : Bytes) (rdPoison : Bool) (rdError : Bool) (latches : List (Requester × Nat × Nat ×
    Word × Bool)) (tick : TickSt) (signals : List SignalMsg) (cmds : List Cmd) (nextCmd : Nat) (heldLog : List
    (Nat × CplRec)) (queries : List QueryRun) (pcie : PcieSt) (coh : CohSt) (upd : Option UpdRun) (snap :
    Option SnapRun) (rvs : List RvRun) (ras : RasSt) (pwr : PwrSt) (age : AgeSt) (mgmt : MgmtSt) (msgs : List
    PeerMsg) (nextMsg : Nat) (inMsgs : List InMsg) (mctpIn : List MgmtPkt) (colls : List CollRun) (acc : List
    (Nat × AccEntry)) (routes : Bytes) (ceLogged : List Nat) (tabLoads : List TabLoad) (tabRetire : List
    TabRetire) (tabZero : List (Nat × Nat)) (rgenPend : List (Nat × Nat)) (coded : List (Nat × (Nat × Nat)))
    (retag : Option (Nat × Nat × Nat)) (ponts : List (Nat × List PontCmd)) (softReset : List (Blk × Nat)) (looseFrom : List (Nat × Nat)) :
    Kept s {
      pending := t.pending, regs := t.regs, busRead := busRead, rdData := rdData, rdPoison := rdPoison, rdError :=
      rdError, latches := latches, mem := t.mem, poison := t.poison, tick := tick, cores := t.cores, signals
      := signals, cmds := cmds, nextCmd := nextCmd, queues := t.queues, heldLog := heldLog, queries :=
      queries, pcie := pcie, coh := coh, servers := t.servers, upd := upd, snap := snap, rvs := rvs, ras :=
      ras, pwr := pwr, age := age, sec := t.sec, mgmt := mgmt, flash := t.flash, ports := t.ports, msgs :=
      msgs, nextMsg := nextMsg, inMsgs := inMsgs, mctpIn := mctpIn, colls := colls, acc := acc, routes :=
      routes, ceLogged := ceLogged, berths := t.berths, tables := t.tables, tabLoads := tabLoads, tabRetire :=
      tabRetire, tabZero := tabZero, rgenPend := rgenPend, coded := coded, retag := retag, ponts := ponts,
      softReset := softReset, collRest := collRest, busCycle := busCycle, scrubbed := scrubbed, aplic := aplic, looseFrom := looseFrom, out := t.out, free := t.free } :=
  h.same rfl rfl rfl rfl rfl rfl rfl rfl rfl rfl rfl rfl rfl rfl

/-- A record update of other fields, with free values drawn. -/
theorem Kept.updFree {s t : State} (h : Kept s t) {n : Nat} (hn : t.free ≤ n) (busRead : DWord) (rdData : Bytes) (rdPoison : Bool) (rdError : Bool) (latches : List (Requester × Nat × Nat ×
    Word × Bool)) (tick : TickSt) (signals : List SignalMsg) (cmds : List Cmd) (nextCmd : Nat) (heldLog : List
    (Nat × CplRec)) (queries : List QueryRun) (pcie : PcieSt) (coh : CohSt) (upd : Option UpdRun) (snap :
    Option SnapRun) (rvs : List RvRun) (ras : RasSt) (pwr : PwrSt) (age : AgeSt) (mgmt : MgmtSt) (msgs : List
    PeerMsg) (nextMsg : Nat) (inMsgs : List InMsg) (mctpIn : List MgmtPkt) (colls : List CollRun) (acc : List
    (Nat × AccEntry)) (routes : Bytes) (ceLogged : List Nat) (tabLoads : List TabLoad) (tabRetire : List
    TabRetire) (tabZero : List (Nat × Nat)) (rgenPend : List (Nat × Nat)) (coded : List (Nat × (Nat × Nat)))
    (retag : Option (Nat × Nat × Nat)) (ponts : List (Nat × List PontCmd)) (softReset : List (Blk × Nat)) (looseFrom : List (Nat × Nat)) :
    Kept s {
      pending := t.pending, regs := t.regs, busRead := busRead, rdData := rdData, rdPoison := rdPoison, rdError :=
      rdError, latches := latches, mem := t.mem, poison := t.poison, tick := tick, cores := t.cores, signals
      := signals, cmds := cmds, nextCmd := nextCmd, queues := t.queues, heldLog := heldLog, queries :=
      queries, pcie := pcie, coh := coh, servers := t.servers, upd := upd, snap := snap, rvs := rvs, ras :=
      ras, pwr := pwr, age := age, sec := t.sec, mgmt := mgmt, flash := t.flash, ports := t.ports, msgs :=
      msgs, nextMsg := nextMsg, inMsgs := inMsgs, mctpIn := mctpIn, colls := colls, acc := acc, routes :=
      routes, ceLogged := ceLogged, berths := t.berths, tables := t.tables, tabLoads := tabLoads, tabRetire :=
      tabRetire, tabZero := tabZero, rgenPend := rgenPend, coded := coded, retag := retag, ponts := ponts,
      softReset := softReset, collRest := collRest, busCycle := busCycle, scrubbed := scrubbed, aplic := aplic, looseFrom := looseFrom, out := t.out, free := n } :=
  h.trans ⟨rfl, fun w => ⟨w.mem, w.regs, w.poison, w.flash, w.cores, w.ports, w.queues, w.servers, w.berths, w.tables⟩,
    List.suffix_refl _, hn, fun f => ⟨f, SecSt.Grown.refl _⟩⟩

/-- A record update that also changes sparse maps. -/
theorem Kept.updMaps {s t : State} (h : Kept s t) {busRead : DWord} {rdData : Bytes} {rdPoison : Bool} {rdError :
    Bool} {latches : List (Requester × Nat × Nat × Word × Bool)} {tick : TickSt} {signals : List SignalMsg} {cmds :
    List Cmd} {nextCmd : Nat} {heldLog : List (Nat × CplRec)} {queries : List QueryRun} {pcie : PcieSt} {coh : CohSt}
    {upd : Option UpdRun} {snap : Option SnapRun} {rvs : List RvRun} {ras : RasSt} {pwr : PwrSt} {age : AgeSt} {mgmt :
    MgmtSt} {msgs : List PeerMsg} {nextMsg : Nat} {inMsgs : List InMsg} {mctpIn : List MgmtPkt} {colls : List CollRun}
    {acc : List (Nat × AccEntry)} {routes : Bytes} {ceLogged : List Nat} {tabLoads : List TabLoad} {tabRetire : List
    TabRetire} {tabZero : List (Nat × Nat)} {rgenPend : List (Nat × Nat)} {coded : List (Nat × (Nat × Nat))} {retag :
    Option (Nat × Nat × Nat)} {ponts : List (Nat × List PontCmd)} {softReset : List (Blk × Nat)} {collRest : List (Nat × Nat)} {busCycle : Nat} {scrubbed : List (Nat × Nat)} {aplic : AplicSt} {looseFrom : List (Nat × Nat)} {mem : List
    Host.Cell} {regs : List (Nat × DWord)} {poison : List (Nat × Bool)} {flash : List Host.Cell} {cores : List (Nat ×
    CoreSt)} {ports : List (Nat × PortSt)} {queues : List (Nat × QueueSt)} {servers : List (Nat × SrvSt)} {berths :
    List (Nat × List BerthEntry)} {tables : List (Nat × Bytes)}
    (wf : t.Wf → State.Wf {
      pending := t.pending, regs := regs, busRead := busRead, rdData := rdData, rdPoison := rdPoison, rdError :=
      rdError, latches := latches, mem := mem, poison := poison, tick := tick, cores := cores, signals
      := signals, cmds := cmds, nextCmd := nextCmd, queues := queues, heldLog := heldLog, queries :=
      queries, pcie := pcie, coh := coh, servers := servers, upd := upd, snap := snap, rvs := rvs, ras :=
      ras, pwr := pwr, age := age, sec := t.sec, mgmt := mgmt, flash := flash, ports := ports, msgs :=
      msgs, nextMsg := nextMsg, inMsgs := inMsgs, mctpIn := mctpIn, colls := colls, acc := acc, routes :=
      routes, ceLogged := ceLogged, berths := berths, tables := tables, tabLoads := tabLoads, tabRetire :=
      tabRetire, tabZero := tabZero, rgenPend := rgenPend, coded := coded, retag := retag, ponts := ponts,
      softReset := softReset, collRest := collRest, busCycle := busCycle, scrubbed := scrubbed, aplic := aplic, looseFrom := looseFrom, out := t.out, free := t.free }) :
    Kept s {
      pending := t.pending, regs := regs, busRead := busRead, rdData := rdData, rdPoison := rdPoison, rdError :=
      rdError, latches := latches, mem := mem, poison := poison, tick := tick, cores := cores, signals
      := signals, cmds := cmds, nextCmd := nextCmd, queues := queues, heldLog := heldLog, queries :=
      queries, pcie := pcie, coh := coh, servers := servers, upd := upd, snap := snap, rvs := rvs, ras :=
      ras, pwr := pwr, age := age, sec := t.sec, mgmt := mgmt, flash := flash, ports := ports, msgs :=
      msgs, nextMsg := nextMsg, inMsgs := inMsgs, mctpIn := mctpIn, colls := colls, acc := acc, routes :=
      routes, ceLogged := ceLogged, berths := berths, tables := tables, tabLoads := tabLoads, tabRetire :=
      tabRetire, tabZero := tabZero, rgenPend := rgenPend, coded := coded, retag := retag, ponts := ponts,
      softReset := softReset, collRest := collRest, busCycle := busCycle, scrubbed := scrubbed, aplic := aplic, looseFrom := looseFrom, out := t.out, free := t.free } :=
  h.maps rfl wf rfl rfl rfl

/-- A change of the security controller that leaves its fuses in order. -/
theorem Kept.updSec {s t : State} (h : Kept s t) {x : SecSt} (hx : t.sec.fuseOk = true → x.fuseOk = true ∧ t.sec.Grown x) :
    Kept s { t with sec := x } :=
  h.trans ⟨rfl, fun w => { w with }, List.suffix_refl _, Nat.le_refl _, hx⟩

/-- A change of the security controller that leaves its fuses alone. -/
theorem Kept.updSecSame {s t : State} (h : Kept s t) {x : SecSt} (h1 : x.svnMin = t.sec.svnMin)
    (h2 : x.fuseTo = t.sec.fuseTo) (h3 : x.edRev = t.sec.edRev) (h4 : x.mlRev = t.sec.mlRev)
    (h5 : x.edProg = t.sec.edProg) (h6 : x.mlProg = t.sec.mlProg) (h7 : x.edRoots = t.sec.edRoots)
    (h8 : x.mlRoots = t.sec.mlRoots) : Kept s { t with sec := x } :=
  h.updSec fun e => ⟨by rw [SecSt.fuseOk, h1, h2]; exact e, by rw [h1], by rw [h3]; exact fun _ k => k,
    by rw [h4]; exact fun _ k => k, h5, h6, h7, h8⟩

/-- What an outcome leads to is kept. -/
structure KeptOut (s : State) (o : Host.Outcome State Fault Refusal) : Prop where
  kept : ∀ t, o = .next t → Kept s t

theorem KeptOut.next {s t : State} (h : Kept s t) : KeptOut s (.next t) := ⟨fun _ e => by cases e; exact h⟩

theorem KeptOut.refused {s : State} {r : Refusal} : KeptOut s (.refused r) := ⟨fun _ e => by cases e⟩

theorem KeptOut.ite {s : State} {c : Prop} [Decidable c] {a b : Host.Outcome State Fault Refusal}
    (ha : KeptOut s a) (hb : KeptOut s b) : KeptOut s (if c then a else b) := by
  split
  · exact ha
  · exact hb

/-! ### The primitive operations -/

theorem State.setReg_kept {s₀ s : State} (h : Kept s₀ s) (o : Nat) (v : DWord) : Kept s₀ (s.setReg o v) :=
  h.maps rfl (fun w => { w with regs := smWf_set _ _ w.regs }) rfl rfl rfl

theorem State.setCore_kept {s₀ s : State} (h : Kept s₀ s) (c : Nat) (x : CoreSt) : Kept s₀ (s.setCore c x) :=
  h.maps rfl (fun w => { w with cores := smWf_set _ _ w.cores }) rfl rfl rfl

theorem State.mapCores_kept {s₀ s : State} (h : Kept s₀ s) (f : Nat → CoreSt → CoreSt) : Kept s₀ (s.mapCores f) :=
  h.maps rfl (fun w => { w with cores := smWf_map f w.cores }) rfl rfl rfl

theorem State.foldCores_kept {s₀ s : State} (h : Kept s₀ s) (f : State → Nat → CoreSt → State)
    (hf : ∀ u c x, Kept s₀ u → Kept s₀ (f u c x)) : Kept s₀ (s.foldCores f) :=
  Kept.foldl (fun u e k => hf u e.1 e.2 k) h

theorem State.wr8_kept {s₀ s : State} (h : Kept s₀ s) (a : Nat) (b : Byte) : Kept s₀ (s.wr8 a b) :=
  h.maps rfl (fun w => { w with mem := smWf_set _ _ w.mem }) rfl rfl rfl

theorem State.setPoison_kept {s₀ s : State} (h : Kept s₀ s) (a : Nat) (v : Bool) : Kept s₀ (s.setPoison a v) :=
  h.maps rfl (fun w => { w with poison := smWf_set _ _ w.poison }) rfl rfl rfl

theorem State.setQueue_kept {s₀ s : State} (h : Kept s₀ s) (q : Nat) (x : QueueSt) : Kept s₀ (s.setQueue q x) :=
  h.maps rfl (fun w => { w with queues := smWf_set _ _ w.queues }) rfl rfl rfl

theorem State.setServer_kept {s₀ s : State} (h : Kept s₀ s) (k : Nat) (x : SrvSt) : Kept s₀ (s.setServer k x) :=
  h.maps rfl (fun w => { w with servers := smWf_set _ _ w.servers }) rfl rfl rfl

theorem State.wrRaw_kept {s₀ : State} : ∀ {s : State} (_ : Kept s₀ s) (a : Nat) (bs : Bytes), Kept s₀ (s.wrRaw a bs)
  | _, h, _, [] => h
  | _, h, a, b :: bs => State.wrRaw_kept (State.wr8_kept h a b) (a + 1) bs

theorem State.send_kept {s₀ s : State} (h : Kept s₀ s) (m : OutMsg) : Kept s₀ (s.send m) :=
  h.trans ⟨rfl, fun w => { w with }, List.suffix_cons _ _, Nat.le_refl _, fun f => ⟨f, SecSt.Grown.refl _⟩⟩

theorem State.after_kept {s₀ s : State} (h : Kept s₀ s) {o : Host.Outcome State Fault Refusal} (ho : KeptOut s₀ o) :
    Kept s₀ (s.after o) := by
  unfold State.after
  split
  · exact ho.kept _ rfl
  · exact h

end Sys2Proof.Machine
end

