-- ==== Sys2Proof/Laws/KeptHart.lean ====
section
/-!
SUPPORT. Laws/KeptHart.lean: the operations of Machine/Hart.lean lead only to states that keep what Laws/Kept.lean names.
-/
namespace Sys2Proof.Machine

theorem State.imsic_kept {s₀ s : State} (h : Kept s₀ s) (hart : Nat) (file : Nat) (id : Nat) :
    Kept s₀ (State.imsic s hart file id) := by
  unfold State.imsic; apply Kept.ite; assumption; apply State.setServer_kept; assumption

theorem State.aplicSource_kept {s₀ s : State} (h : Kept s₀ s) (n : Nat) :
    Kept s₀ (State.aplicSource s n) := by
  unfold State.aplicSource; dsimp only; split; assumption; apply Kept.ite; apply State.imsic_kept; apply Kept.upd
  assumption; apply Kept.upd; assumption

end Sys2Proof.Machine
end

