-- ==== Sys2Proof/Laws/KeptOps.lean ====
section
/-!
SUPPORT. Laws/KeptOps.lean: the operations of Machine/Ops.lean lead only to states that keep what Laws/Kept.lean names.
-/
namespace Sys2Proof.Machine

theorem State.setRegN_kept {s₀ s : State} (h : Kept s₀ s) (off : Nat) (v : Nat) :
    Kept s₀ (State.setRegN s off v) := by
  unfold State.setRegN; apply State.setReg_kept; assumption

theorem State.setField_kept {s₀ s : State} (h : Kept s₀ s) (off : Nat) (hi : Nat) (lo : Nat) (x : Nat) :
    Kept s₀ (State.setField s off hi lo x) := by
  unfold State.setField; apply State.setRegN_kept; assumption

theorem State.bumpW_kept {s₀ s : State} (h : Kept s₀ s) (w : Nat) (page : Nat) (off : Nat) (n : Nat) :
    Kept s₀ (State.bumpW s w page off n) := by
  unfold State.bumpW; apply Kept.ite; assumption; apply State.setRegN_kept; assumption

theorem State.bump_kept {s₀ s : State} (h : Kept s₀ s) (page : Nat) (off : Nat) (n : Nat) :
    Kept s₀ (State.bump s page off n) := by
  unfold State.bump; apply State.bumpW_kept; assumption

theorem State.bump64_kept {s₀ s : State} (h : Kept s₀ s) (page : Nat) (off : Nat) (n : Nat) :
    Kept s₀ (State.bump64 s page off n) := by
  unfold State.bump64; apply State.bumpW_kept; assumption

theorem State.bumpSat_kept {s₀ s : State} (h : Kept s₀ s) (page : Nat) (off : Nat) (n : Nat) :
    Kept s₀ (State.bumpSat s page off n) := by
  unfold State.bumpSat; apply Kept.ite; assumption; apply State.setRegN_kept; assumption

theorem State.raiseTo_kept {s₀ s : State} (h : Kept s₀ s) (page : Nat) (off : Nat) (v : Nat) :
    Kept s₀ (State.raiseTo s page off v) := by
  unfold State.raiseTo; apply Kept.ite; assumption; apply State.setRegN_kept; assumption

theorem State.sendMsix_kept {s₀ s : State} (h : Kept s₀ s) (v : Nat) :
    Kept s₀ (State.sendMsix s v) := by
  unfold State.sendMsix; apply Kept.ite; assumption; apply Kept.ite; apply Kept.upd; assumption
  apply State.send_kept; assumption

theorem State.irqEdge_kept {s₀ s : State} (h : Kept s₀ s) (page : Nat) (f : State → State)
    (hf : ∀ (u : State), Kept s₀ u → Kept s₀ (f u)) : Kept s₀ (s.irqEdge page f) := by
  unfold State.irqEdge
  have ht := hf s h
  dsimp only
  split
  · split
    · exact Kept.foldl (fun u v hu => State.sendMsix_kept hu v) (State.aplicSource_kept ht _)
    · exact State.aplicSource_kept ht _
  · exact ht

theorem State.raiseIrq_kept {s₀ s : State} (h : Kept s₀ s) (page : Nat) (causes : Nat) :
    Kept s₀ (State.raiseIrq s page causes) := by
  unfold State.raiseIrq; apply State.irqEdge_kept; assumption; (intro _; intros; try dsimp only)
  apply State.setRegN_kept; assumption

theorem State.raiseEvent_kept {s₀ s : State} (h : Kept s₀ s) (page : Nat) :
    Kept s₀ (State.raiseEvent s page) := by
  unfold State.raiseEvent; apply State.raiseIrq_kept; assumption

theorem State.captureErr_kept {s₀ s : State} (h : Kept s₀ s) (page : Nat) (code : Nat) (cls : Nat) :
    Kept s₀ (State.captureErr s page code cls) := by
  unfold State.captureErr; apply Kept.ite; apply State.setRegN_kept; assumption; apply State.setRegN_kept
  apply State.setRegN_kept; apply State.setRegN_kept; assumption

theorem State.appendLog_kept {s₀ s : State} (h : Kept s₀ s) (x : LogRec) :
    Kept s₀ (State.appendLog s x) := by
  unfold State.appendLog; apply Kept.ite; apply State.setRegN_kept; apply Kept.upd; assumption; apply Kept.ite
  apply State.bump_kept; assumption; dsimp only; split; apply Kept.upd; assumption; apply State.bump_kept; assumption

theorem State.goFatal_kept {s₀ s : State} (h : Kept s₀ s) (page : Nat) (code : Nat) :
    Kept s₀ (State.goFatal s page code) := by
  unfold State.goFatal; apply Kept.ite; assumption; dsimp only; apply Kept.upd; apply State.setRegN_kept
  apply State.setRegN_kept; apply State.setRegN_kept; apply State.setRegN_kept; assumption

theorem State.logErr_kept {s₀ s : State} (h : Kept s₀ s) (page : Nat) (code : Nat) (cls : Nat) (li : LogInfo) :
    Kept s₀ (State.logErr s page code cls li) := by
  unfold State.logErr; apply Kept.ite; apply State.goFatal_kept; apply Kept.ite; apply Kept.ite
  apply State.appendLog_kept; apply Kept.upd; apply State.raiseIrq_kept; apply State.captureErr_kept; assumption
  apply State.raiseIrq_kept; apply State.captureErr_kept; assumption; apply State.appendLog_kept
  apply State.raiseIrq_kept; apply State.captureErr_kept; assumption; apply Kept.ite; apply Kept.ite
  apply State.appendLog_kept; apply Kept.upd; apply State.raiseIrq_kept; apply State.captureErr_kept; assumption
  apply State.raiseIrq_kept; apply State.captureErr_kept; assumption; apply State.appendLog_kept
  apply State.raiseIrq_kept; apply State.captureErr_kept; assumption

theorem State.logCorr_kept {s₀ s : State} (h : Kept s₀ s) (page : Nat) (code : Nat) :
    Kept s₀ (State.logCorr s page code) := by
  unfold State.logCorr; apply State.logErr_kept; assumption

theorem State.logAddr_kept {s₀ s : State} (h : Kept s₀ s) (page : Nat) (code : Nat) (addr : Nat) :
    Kept s₀ (State.logAddr s page code addr) := by
  unfold State.logAddr; apply State.logErr_kept; assumption

theorem State.zeroRange_kept {s₀ s : State} (h : Kept s₀ s) (a n : Nat) : Kept s₀ (s.zeroRange a n) :=
  h.maps rfl (fun w => { w with mem := smWf_filter _ w.mem, poison := smWf_filter _ w.poison }) rfl rfl rfl

theorem State.poisonRange_kept {s₀ s : State} (h : Kept s₀ s) (a : Nat) (n : Nat) :
    Kept s₀ (State.poisonRange s a n) := by
  unfold State.poisonRange; apply Kept.foldl; (intro _; intros; try dsimp only); apply State.setPoison_kept
  assumption; assumption

theorem State.wrBytes_kept {s₀ s : State} (h : Kept s₀ s) (a : Nat) (bs : Bytes) :
    Kept s₀ (State.wrBytes s a bs) := by
  unfold State.wrBytes; apply Kept.foldl; (intro _; intros; try dsimp only); apply Kept.ite
  apply State.setPoison_kept; assumption; assumption; apply State.wrRaw_kept; assumption

theorem State.wrNat_kept {s₀ s : State} (h : Kept s₀ s) (a : Nat) (n : Nat) (v : Nat) :
    Kept s₀ (State.wrNat s a n v) := by
  unfold State.wrNat; apply State.wrBytes_kept; assumption

theorem State.lbWr_kept {s₀ s : State} (h : Kept s₀ s) (c : Nat) (off : Nat) (bs : Bytes) :
    Kept s₀ (State.lbWr s c off bs) := by
  unfold State.lbWr; apply State.wrBytes_kept; assumption

theorem State.updCmd_kept {s₀ s : State} (h : Kept s₀ s) (id : Nat) (f : Cmd → Cmd) :
    Kept s₀ (State.updCmd s id f) := by
  unfold State.updCmd; apply Kept.upd; assumption

theorem State.mbVoid_kept {s₀ s : State} (h : Kept s₀ s) (cmd : Nat) (item : Nat) :
    Kept s₀ (State.mbVoid s cmd item) := by
  unfold State.mbVoid; apply Kept.ite; apply Kept.upd; apply State.logErr_kept; assumption; apply State.logErr_kept
  assumption

theorem State.failItem_kept {s₀ s : State} (h : Kept s₀ s) (cmd : Nat) (item : Nat) (st : Nat) :
    Kept s₀ (State.failItem s cmd item st) := by
  unfold State.failItem; dsimp only; split; apply Kept.ite; apply State.mbVoid_kept; apply State.updCmd_kept
  assumption; apply State.updCmd_kept; assumption; apply State.updCmd_kept; assumption

theorem State.itemErr_kept {s₀ s : State} (h : Kept s₀ s) (page : Nat) (code : Nat) (cmd : Nat) (item : Nat) (st : Nat) :
    Kept s₀ (State.itemErr s page code cmd item st) := by
  unfold State.itemErr; apply State.failItem_kept; apply State.logErr_kept; assumption

theorem State.itemErrAt_kept {s₀ s : State} (h : Kept s₀ s) (page : Nat) (code : Nat) (cmd : Nat) (item : Nat) (st : Nat) (addr : Nat) :
    Kept s₀ (State.itemErrAt s page code cmd item st addr) := by
  unfold State.itemErrAt; apply State.failItem_kept; apply State.logErr_kept; assumption

theorem State.ev_kept {s₀ s : State} (h : Kept s₀ s) (f : TideEv → TideEv) :
    Kept s₀ (State.ev s f) := by
  unfold State.ev; apply Kept.upd; assumption

theorem State.endItem_kept {s₀ s : State} (h : Kept s₀ s) (cmd : Nat) (item : Nat) (st : Nat) :
    Kept s₀ (State.endItem s cmd item st) := by
  unfold State.endItem; dsimp only; split; assumption; apply Kept.ite; assumption; apply Kept.ite
  apply State.mbVoid_kept; apply Kept.ite; apply State.ev_kept; apply State.updCmd_kept; assumption
  apply State.updCmd_kept; assumption; apply Kept.ite; apply State.ev_kept; apply State.updCmd_kept; assumption
  apply State.updCmd_kept; assumption

theorem State.failAll_kept {s₀ s : State} (h : Kept s₀ s) (cmd : Nat) (st : Nat) :
    Kept s₀ (State.failAll s cmd st) := by
  unfold State.failAll; split; apply Kept.ite; assumption; apply Kept.ite; apply State.updCmd_kept; assumption
  apply Kept.foldl; (intro _; intros; try dsimp only); apply State.endItem_kept; apply State.failItem_kept
  assumption; assumption; assumption

theorem State.draw_kept {s₀ s : State} (h : Kept s₀ s) : Kept s₀ (s.draw).2 := by
  unfold State.draw
  dsimp only
  apply Kept.updFree h
  omega

end Sys2Proof.Machine
end

