-- ==== Sys2Proof/Laws/KeptFlags.lean ====
section
/-!
SUPPORT. Laws/KeptFlags.lean: the operations of Machine/Flags.lean lead only to states that keep what Laws/Kept.lean names.
-/
namespace Sys2Proof.Machine

theorem State.setFlags_kept {s₀ s : State} (h : Kept s₀ s) (c : Nat) (f : Nat) (p : Nat) :
    Kept s₀ (State.setFlags s c f p) := by
  unfold State.setFlags; apply State.setCore_kept; apply State.setRegN_kept; apply State.setRegN_kept; assumption

theorem waitOne_kept {s₀ s : State} (h : Kept s₀ s) (c : Nat) (r : SailingRun) :
    Kept s₀ (waitOne c r s).1 := by
  unfold waitOne; dsimp only; split; dsimp only; assumption; split; dsimp only; apply Kept.ite
  apply State.bump_kept; apply State.failItem_kept; apply Kept.ite; apply State.setFlags_kept; assumption
  assumption; apply Kept.ite; apply State.setFlags_kept; assumption; assumption; dsimp only; assumption

theorem waitAll_kept {s₀ : State} (c : Nat) : ∀ (l : List SailingRun) {s : State} (_ : Kept s₀ s), Kept s₀ (waitAll c l s).1
  | [], _, h => h
  | r :: rs, s, h => by
    unfold waitAll
    dsimp only; apply waitAll_kept; apply waitOne_kept; assumption

theorem State.checkWaits_kept {s₀ s : State} (h : Kept s₀ s) (c : Nat) :
    Kept s₀ (State.checkWaits s c) := by
  unfold State.checkWaits; apply State.setCore_kept; apply waitAll_kept; assumption

theorem State.postFlags_kept {s₀ s : State} (h : Kept s₀ s) (c : Nat) (mask : Nat) (poison : Bool) :
    Kept s₀ (State.postFlags s c mask poison) := by
  unfold State.postFlags; apply State.checkWaits_kept; apply State.setCore_kept; apply State.setFlags_kept; assumption

theorem State.handFlags_kept {s₀ s : State} (h : Kept s₀ s) (c : Nat) (mask : Nat) :
    Kept s₀ (State.handFlags s c mask) := by
  unfold State.handFlags; apply State.setCore_kept; apply State.setFlags_kept; assumption

theorem State.handOver_kept {s₀ s : State} (h : Kept s₀ s) (c : Nat) :
    Kept s₀ (State.handOver s c) := by
  unfold State.handOver; apply State.checkWaits_kept; apply State.setCore_kept; assumption

theorem State.clearFlags_kept {s₀ s : State} (h : Kept s₀ s) (c : Nat) (mask : Nat) :
    Kept s₀ (State.clearFlags s c mask) := by
  unfold State.clearFlags; apply State.setFlags_kept; assumption

end Sys2Proof.Machine
end

