-- ==== Sys2Proof/Laws/KeptHomes.lean ====
section
/-!
SUPPORT. Laws/KeptHomes.lean: the operations of Machine/Homes.lean lead only to states that keep what Laws/Kept.lean names.
-/
namespace Sys2Proof.Machine

theorem State.setCoh_kept {s₀ s : State} (h : Kept s₀ s) (x : CohSt) :
    Kept s₀ (State.setCoh s x) := by
  unfold State.setCoh; apply Kept.upd; assumption

theorem State.cohFatal_kept {s₀ s : State} (h : Kept s₀ s) (line : Nat) (code : Nat) :
    Kept s₀ (State.cohFatal s line code) := by
  unfold State.cohFatal; apply State.logErr_kept; apply State.setRegN_kept; assumption

theorem State.cohProtocol_kept {s₀ s : State} (h : Kept s₀ s) (line : Nat) :
    Kept s₀ (State.cohProtocol s line) := by
  unfold State.cohProtocol; apply State.cohFatal_kept; assumption

theorem State.showDir_kept {s₀ s : State} (h : Kept s₀ s) (h : Nat) :
    Kept s₀ (State.showDir s h) := by
  unfold State.showDir; apply State.setRegN_kept; assumption

theorem State.dirSet_kept {s₀ s : State} (h : Kept s₀ s) (line : Nat) (owned : Bool) (sh : List Nat) :
    Kept s₀ (State.dirSet s line owned sh) := by
  unfold State.dirSet; apply State.showDir_kept; apply State.setCoh_kept; assumption

theorem State.dirFree_kept {s₀ s : State} (h : Kept s₀ s) (line : Nat) :
    Kept s₀ (State.dirFree s line) := by
  unfold State.dirFree; apply State.showDir_kept; apply State.setCoh_kept; assumption

theorem State.dirDrop_kept {s₀ s : State} (h : Kept s₀ s) (line : Nat) (p : Nat) :
    Kept s₀ (State.dirDrop s line p) := by
  unfold State.dirDrop; dsimp only; split; assumption; apply Kept.ite; apply State.dirFree_kept; assumption
  apply State.dirSet_kept; assumption

theorem State.setFifo_kept {s₀ s : State} (h : Kept s₀ s) (line : Nat) (f : List HomeTx) :
    Kept s₀ (State.setFifo s line f) := by
  unfold State.setFifo; apply State.raiseTo_kept; apply State.setRegN_kept; apply State.setCoh_kept; assumption

theorem State.enter_kept {s₀ s : State} (h : Kept s₀ s) (line : Nat) (t : HomeTx) :
    Kept s₀ (State.enter s line t) := by
  unfold State.enter; apply State.setFifo_kept; assumption

theorem State.evictLine_kept {s₀ s : State} (h : Kept s₀ s) (p : PartIx) (line : Nat) :
    Kept s₀ (State.evictLine s p line) := by
  unfold State.evictLine; dsimp only; split; assumption; split; assumption; apply State.setCoh_kept; assumption
  apply State.setCoh_kept; assumption; apply Kept.ite; apply State.bump64_kept; apply State.setCoh_kept; assumption
  apply State.setCoh_kept; assumption

theorem State.snoopNow_kept {s₀ s : State} (h : Kept s₀ s) (k : SnoopKind) (line : Nat) (p : Nat) :
    Kept s₀ (State.snoopNow s k line p) := by
  unfold State.snoopNow; dsimp only; split; apply State.dirDrop_kept; apply State.bump64_kept; assumption
  apply Kept.ite; apply State.dirSet_kept; apply State.setCoh_kept; apply Kept.ite; apply Kept.ite
  apply State.bump_kept; apply State.bump_kept; apply State.bump64_kept; apply State.bump64_kept; assumption
  apply State.bump_kept; apply State.bump64_kept; apply State.bump64_kept; assumption; apply State.bump64_kept
  assumption; apply State.dirDrop_kept; apply State.setCoh_kept; apply Kept.ite; apply Kept.ite
  apply State.bump_kept; apply State.bump_kept; apply State.bump64_kept; apply State.bump64_kept; assumption
  apply State.bump_kept; apply State.bump64_kept; apply State.bump64_kept; assumption; apply State.bump64_kept
  assumption

theorem State.serveNow_kept {s₀ s : State} (h : Kept s₀ s) (k : SnoopKind) (line : Nat) :
    Kept s₀ (State.serveNow s k line) := by
  unfold State.serveNow; split; assumption; apply Kept.foldl; (intro _; intros; try dsimp only)
  apply State.snoopNow_kept; assumption; assumption

theorem State.viaHomes_kept {s₀ s : State} (h : Kept s₀ s) (k : SnoopKind) (write : Bool) (ls : List Nat) :
    Kept s₀ (State.viaHomes s k write ls) := by
  unfold State.viaHomes; apply Kept.ite; apply State.setCoh_kept; apply Kept.foldl
  (intro _; intros; try dsimp only); apply State.serveNow_kept; assumption; apply Kept.foldl
  (intro _; intros; try dsimp only); apply State.bump64_kept; assumption; assumption; apply Kept.foldl
  (intro _; intros; try dsimp only); apply State.serveNow_kept; assumption; apply Kept.foldl
  (intro _; intros; try dsimp only); apply State.bump64_kept; assumption; assumption

theorem State.homeRead_kept {s₀ s : State} (h : Kept s₀ s) (rs : List (Nat × Nat)) :
    Kept s₀ (State.homeRead s rs) := by
  unfold State.homeRead; apply State.viaHomes_kept; assumption

theorem State.homeWrite_kept {s₀ s : State} (h : Kept s₀ s) (rs : List (Nat × Nat)) :
    Kept s₀ (State.homeWrite s rs) := by
  unfold State.homeWrite; apply State.viaHomes_kept; assumption

theorem State.homeRecall_kept {s₀ s : State} (h : Kept s₀ s) (rs : List (Nat × Nat)) :
    Kept s₀ (State.homeRecall s rs) := by
  unfold State.homeRecall; apply State.viaHomes_kept; assumption

theorem State.ferryAccess_kept {s₀ s : State} (h : Kept s₀ s) (t : Nat) (write : Bool) (rs : List (Nat × Nat)) :
    Kept s₀ (State.ferryAccess s t write rs) := by
  unfold State.ferryAccess; apply State.viaHomes_kept; apply Kept.ite; apply State.setCoh_kept; apply Kept.ite
  assumption; apply State.bump64_kept; assumption; apply Kept.ite; assumption; apply State.bump64_kept; assumption

theorem State.dropClean_kept {s₀ s : State} (h : Kept s₀ s) (t : DieIx) (rs : List (Nat × Nat)) :
    Kept s₀ (State.dropClean s t rs) := by
  unfold State.dropClean; apply Kept.foldl; (intro _; intros; try dsimp only); apply Kept.ite
  apply State.evictLine_kept; assumption; assumption; assumption

end Sys2Proof.Machine
end

