-- ==== Sys2Proof/Laws/KeptOperands.lean ====
section
/-!
SUPPORT. Laws/KeptOperands.lean: the operations of Machine/Operands.lean lead only to states that keep what Laws/Kept.lean names.
-/
namespace Sys2Proof.Machine

theorem State.wrRun_kept {s₀ s : State} (h : Kept s₀ s) (a : Nat) (code : Nat) (rows : Nat) (n : Nat) (g : Int) (i : Nat) (k0 : Nat) (vs : List FVal) :
    Kept s₀ (State.wrRun s a code rows n g i k0 vs) := by
  unfold State.wrRun; apply Kept.ite; apply State.wrBytes_kept; apply State.wrBytes_kept; assumption
  apply State.wrBytes_kept; assumption

theorem State.wrRows_kept {s₀ : State} (a code rows n : Nat) (g : Int) :
    ∀ (i : Nat) (l : List (List FVal)) {s : State} (_ : Kept s₀ s), Kept s₀ (State.wrRows a code rows n g i l s)
  | _, [], _, h => h
  | i, r :: rs, s, h => by
    unfold State.wrRows
    apply State.wrRows_kept; apply State.wrRun_kept; assumption

end Sys2Proof.Machine
end

