-- ==== Sys2Proof/Laws/KeptTags.lean ====
section
/-!
SUPPORT. Laws/KeptTags.lean: the operations of Machine/Tags.lean lead only to states that keep what Laws/Kept.lean names.
-/
namespace Sys2Proof.Machine

theorem State.writeTag_kept {s₀ s : State} (h : Kept s₀ s) (r : Nat) (gen : Nat) (g : Nat) :
    Kept s₀ (State.writeTag s r gen g) := by
  unfold State.writeTag; apply State.wrNat_kept; assumption

theorem State.tagsChecked_kept {s₀ s : State} (h : Kept s₀ s) (n : Nat) :
    Kept s₀ (State.tagsChecked s n) := by
  unfold State.tagsChecked; apply State.bump64_kept; assumption

theorem State.tagErr_kept {s₀ s : State} (h : Kept s₀ s) (core : Nat) (code : Nat) (cmd : Nat) (item : Nat) (st : Nat) (addr : Nat) :
    Kept s₀ (State.tagErr s core code cmd item st addr) := by
  unfold State.tagErr; apply State.itemErrAt_kept; apply Kept.ite; apply State.bump_kept; apply State.setRegN_kept
  apply State.setRegN_kept; assumption; apply State.setRegN_kept; apply State.setRegN_kept; assumption

theorem State.tagRanges_kept {s₀ s : State} (h : Kept s₀ s) (gens : List (Nat × Nat)) (rs : List (Nat × Nat)) :
    Kept s₀ (State.tagRanges s gens rs) := by
  unfold State.tagRanges; apply Kept.foldl; (intro _; intros; try dsimp only); apply State.writeTag_kept; assumption
  assumption

theorem State.tagIgnored_kept {s₀ s : State} (h : Kept s₀ s)  :
    Kept s₀ (State.tagIgnored s) := by
  unfold State.tagIgnored; apply State.logCorr_kept; assumption

theorem State.tagConfig_kept {s₀ s : State} (h : Kept s₀ s) (a : Nat) :
    Kept s₀ (State.tagConfig s a) := by
  unfold State.tagConfig; apply State.logAddr_kept; apply State.setRegN_kept; apply State.setRegN_kept; assumption

theorem State.enableRegion_kept {s₀ s : State} (h : Kept s₀ s) (r : Nat) :
    Kept s₀ (State.enableRegion s r) := by
  unfold State.enableRegion; apply Kept.ite; apply State.setField_kept; apply Kept.ite; apply Kept.upd; assumption
  assumption; apply State.tagConfig_kept; assumption

theorem execTagrRegionEnable_kept {s₀ s : State} (h : Kept s₀ s) (r : Fin 64) :
    KeptOut s₀ (execTagrRegionEnable r s) := by
  unfold execTagrRegionEnable; apply KeptOut.next; apply Kept.ite; apply State.tagIgnored_kept; assumption
  apply Kept.ite; assumption; apply State.enableRegion_kept; assumption

theorem execTagrRgenWrite_kept {s₀ s : State} (h : Kept s₀ s) (r : Fin 64) (v : BitVec 16) :
    KeptOut s₀ (execTagrRgenWrite r v s) := by
  unfold execTagrRgenWrite; apply KeptOut.next; apply Kept.upd; assumption

theorem State.applyRgen_kept {s₀ s : State} (h : Kept s₀ s)  :
    Kept s₀ (State.applyRgen s) := by
  unfold State.applyRgen; apply Kept.foldl; (intro _; intros; try dsimp only); apply State.setRegN_kept; assumption
  apply Kept.upd; assumption

theorem execTagrRetag_kept {s₀ s : State} (h : Kept s₀ s) (r : Fin 64) :
    KeptOut s₀ (execTagrRetag r s) := by
  unfold execTagrRetag; apply KeptOut.next; apply Kept.ite; apply State.setField_kept; apply Kept.upd; assumption
  apply State.tagConfig_kept; apply State.setField_kept; assumption

theorem execTagrRetagDone_kept {s₀ s : State} (h : Kept s₀ s)  :
    KeptOut s₀ (execTagrRetagDone s) := by
  unfold execTagrRetagDone; apply KeptOut.next; dsimp only; split; assumption; apply State.raiseEvent_kept
  apply State.setField_kept; apply Kept.upd; apply Kept.foldl; (intro _; intros; try dsimp only)
  apply State.writeTag_kept; assumption; assumption

theorem State.startLoad_kept {s₀ s : State} (h : Kept s₀ s) (d : Nat) (q : Nat) (img : Bytes) (owner : Option (Nat × Nat)) :
    Kept s₀ (State.startLoad s d q img owner) := by
  unfold State.startLoad; dsimp only; apply Kept.upd; apply State.setField_kept; apply State.setField_kept; assumption

theorem State.startRetire_kept {s₀ s : State} (h : Kept s₀ s) (d : Nat) (mask : Nat) (owner : Option (Nat × Nat)) :
    Kept s₀ (State.startRetire s d mask owner) := by
  unfold State.startRetire; apply Kept.upd; assumption

theorem State.tabItem_kept {s₀ s : State} (h : Kept s₀ s) (o : Option (Nat × Nat)) : Kept s₀ (s.tabItem o) := by
  unfold State.tabItem
  split; apply Kept.ite; assumption; apply State.endItem_kept; assumption; assumption

theorem execCtabLoadGo_kept {s₀ s : State} (h : Kept s₀ s) (d : DieIx) (slot : Fin 8) :
    KeptOut s₀ (execCtabLoadGo d slot s) := by
  unfold execCtabLoadGo; apply KeptOut.next; split; apply State.logCorr_kept; apply State.setField_kept; assumption
  apply State.startLoad_kept; apply State.setField_kept; assumption

theorem execCtabRetire_kept {s₀ s : State} (h : Kept s₀ s) (d : DieIx) (v : BitVec 8) :
    KeptOut s₀ (execCtabRetire d v s) := by
  unfold execCtabRetire; apply KeptOut.next; apply Kept.ite; apply State.logCorr_kept; assumption
  apply State.startRetire_kept; assumption

theorem execCtabSlotLive_kept {s₀ s : State} (h : Kept s₀ s) (d : DieIx) (slot : Fin 8) :
    KeptOut s₀ (execCtabSlotLive d slot s) := by
  unfold execCtabSlotLive; apply KeptOut.next; dsimp only; split; assumption; apply State.tabItem_kept
  apply Kept.ite; apply State.setRegN_kept
  with_reducible refine Kept.updMaps ?_ (fun w => { w with tables := smWf_set _ _ w.tables }); assumption
  apply State.setField_kept; apply State.setRegN_kept
  with_reducible refine Kept.updMaps ?_ (fun w => { w with tables := smWf_set _ _ w.tables }); assumption

theorem State.noteZero_kept {s₀ s : State} (h : Kept s₀ s) (d : Nat) (q : Nat) :
    Kept s₀ (State.noteZero s d q) := by
  unfold State.noteZero; apply Kept.ite; apply Kept.upd; assumption; assumption

theorem execCtabSlotDraining_kept {s₀ s : State} (h : Kept s₀ s) (d : DieIx) (slot : Fin 8) :
    KeptOut s₀ (execCtabSlotDraining d slot s) := by
  unfold execCtabSlotDraining; apply KeptOut.next; dsimp only; split; assumption; apply State.tabItem_kept
  apply Kept.ite; apply State.noteZero_kept; apply State.setField_kept; apply Kept.upd; assumption; apply Kept.upd
  assumption

theorem execCtabSlotFree_kept {s₀ s : State} (h : Kept s₀ s) (d : DieIx) (slot : Fin 8) :
    KeptOut s₀ (execCtabSlotFree d slot s) := by
  unfold execCtabSlotFree; apply KeptOut.next; dsimp only; split; assumption; apply Kept.ite
  apply State.setRegN_kept
  with_reducible refine Kept.updMaps ?_ (fun w => { w with tables := smWf_set _ _ w.tables }); assumption; assumption

theorem State.useSlots_kept {s₀ s : State} (h : Kept s₀ s) (d : Nat) (l : List Nat) (up : Bool) :
    Kept s₀ (State.useSlots s d l up) := by
  unfold State.useSlots; apply Kept.foldl; (intro _; intros; try dsimp only); apply Kept.ite
  apply State.setRegN_kept; assumption; apply State.noteZero_kept; apply State.setRegN_kept; assumption; assumption

theorem State.tabCmdItem_kept {s₀ s : State} (h : Kept s₀ s) (cmd : Nat) (item : Nat) (d : Nat) (cargo : Bytes) :
    Kept s₀ (State.tabCmdItem s cmd item d cargo) := by
  unfold State.tabCmdItem; dsimp only; split; apply State.endItem_kept; apply State.itemErr_kept; apply Kept.ite
  apply State.setField_kept; assumption; assumption; apply State.tabItem_kept; apply State.startRetire_kept
  apply Kept.ite; apply State.startLoad_kept; apply State.setField_kept; apply State.updCmd_kept; assumption
  apply State.updCmd_kept; assumption

theorem State.beginCmd_kept {s₀ s : State} (h : Kept s₀ s) (cmd : Nat) :
    Kept s₀ (State.beginCmd s cmd) := by
  unfold State.beginCmd; apply State.updCmd_kept; assumption

theorem execLoadDecodeTable_kept {s₀ s : State} (h : Kept s₀ s) (cmd : Nat) :
    KeptOut s₀ (execLoadDecodeTable cmd s) := by
  unfold execLoadDecodeTable; apply KeptOut.next; dsimp only; split; assumption; apply Kept.ite
  apply State.failAll_kept; apply State.beginCmd_kept; assumption; apply Kept.foldl
  (intro _; intros; try dsimp only); apply State.tabCmdItem_kept; assumption; apply State.beginCmd_kept; assumption

end Sys2Proof.Machine
end

