-- ==== Sys2Proof/Laws/KeptEngine.lean ====
section
/-!
SUPPORT. Laws/KeptEngine.lean: the operations of Machine/Engine.lean lead only to states that keep what Laws/Kept.lean names.
-/
namespace Sys2Proof.Machine

theorem State.landUE_kept {s₀ s : State} (h : Kept s₀ s) (c : Nat) (o : SlotOp) (off : Nat) :
    Kept s₀ (State.landUE s c o off) := by
  unfold State.landUE; apply State.itemErr_kept; apply State.ev_kept; apply State.setRegN_kept
  apply State.bump_kept; assumption

theorem State.setMeOp_kept {s₀ s : State} (h : Kept s₀ s) (c : Nat) (o : SlotOp) :
    Kept s₀ (State.setMeOp s c o) := by
  unfold State.setMeOp; apply State.setCore_kept; assumption

theorem State.setVeOp_kept {s₀ s : State} (h : Kept s₀ s) (c : Nat) (o : SlotOp) :
    Kept s₀ (State.setVeOp s c o) := by
  unfold State.setVeOp; apply State.setCore_kept; assumption

theorem State.meRow_kept {s₀ s : State} (h : Kept s₀ s) (c : Nat) (want : SlotOp → MeSlot → Bool) (f : State → SlotOp → MeSlot → State) (hf : ∀ (u0 : State) (u1 : SlotOp) (u2 : MeSlot), Kept s₀ u0 → Kept s₀ (f u0 u1 u2)) :
    Kept s₀ (State.meRow s c want f) := by
  unfold State.meRow; dsimp only; split; assumption; apply Kept.ite; split; apply State.landUE_kept
  apply State.setMeOp_kept; assumption; apply hf; apply State.updCmd_kept; apply State.setMeOp_kept; assumption
  assumption

theorem State.veRow_kept {s₀ s : State} (h : Kept s₀ s) (c : Nat) (want : VeSlot → Bool) (rs : VeSlot → List Span) (f : State → SlotOp → VeSlot → State) (hf : ∀ (u0 : State) (u1 : SlotOp) (u2 : VeSlot), Kept s₀ u0 → Kept s₀ (f u0 u1 u2)) :
    Kept s₀ (State.veRow s c want rs f) := by
  unfold State.veRow; dsimp only; split; assumption; apply Kept.ite; split; apply State.landUE_kept
  apply State.setVeOp_kept; assumption; apply hf; apply Kept.ite; apply State.setVeOp_kept; assumption
  apply State.updCmd_kept; apply State.setVeOp_kept; assumption; assumption

theorem State.meErr_kept {s₀ s : State} (h : Kept s₀ s) (c : Nat) (code : Nat) (o : SlotOp) (st : Nat) :
    Kept s₀ (State.meErr s c code o st) := by
  unfold State.meErr; apply State.itemErr_kept; apply State.setRegN_kept; assumption

theorem State.veErr_kept {s₀ s : State} (h : Kept s₀ s) (c : Nat) (code : Nat) (o : SlotOp) :
    Kept s₀ (State.veErr s c code o) := by
  unfold State.veErr; apply State.itemErr_kept; apply State.setRegN_kept; assumption

theorem State.setSetState_kept {s₀ s : State} (h : Kept s₀ s) (c : Nat) (q : Nat) (v : Nat) :
    Kept s₀ (State.setSetState s c q v) := by
  unfold State.setSetState; apply State.setField_kept; assumption

theorem State.putSet_kept {s₀ s : State} (h : Kept s₀ s) (c : Nat) (q : Nat) (v : Nat) (a : AccSet) :
    Kept s₀ (State.putSet s c q v a) := by
  unfold State.putSet; apply State.setSetState_kept; apply State.setCore_kept; assumption

theorem State.discardSets_kept {s₀ s : State} (h : Kept s₀ s) (c : Nat) :
    Kept s₀ (State.discardSets s c) := by
  unfold State.discardSets; apply State.setField_kept; apply State.setCore_kept; assumption

theorem State.opEnded_kept {s₀ s : State} (h : Kept s₀ s) (c : Nat) (o : SlotOp) (me : Bool) (u : Nat) :
    Kept s₀ (State.opEnded s c o me u) := by
  unfold State.opEnded; apply State.setCore_kept; assumption

theorem State.settleSets_kept {s₀ s : State} (h : Kept s₀ s) (c : Nat) :
    Kept s₀ (State.settleSets s c) := by
  unfold State.settleSets; apply Kept.foldl; (intro _; intros; try dsimp only); apply Kept.ite
  apply State.putSet_kept; assumption; assumption; assumption

theorem execMeOpComplete_kept {s₀ s : State} (h : Kept s₀ s) (c : CoreIx) :
    KeptOut s₀ (execMeOpComplete c s) := by
  unfold execMeOpComplete; apply KeptOut.next; dsimp only; split; assumption; apply Kept.ite
  apply State.opEnded_kept; apply Kept.ite; apply State.setField_kept; apply State.setField_kept
  apply State.settleSets_kept; apply State.setCore_kept; assumption; apply State.bump_kept
  apply State.setField_kept; apply State.setField_kept; apply State.settleSets_kept; apply State.setCore_kept
  assumption; assumption

theorem execVeOpComplete_kept {s₀ s : State} (h : Kept s₀ s) (c : CoreIx) :
    KeptOut s₀ (execVeOpComplete c s) := by
  unfold execVeOpComplete; apply KeptOut.next; dsimp only; split; assumption; apply Kept.ite
  apply State.opEnded_kept; apply Kept.ite; apply State.setField_kept; apply State.setField_kept
  apply State.setCore_kept; assumption; apply State.bump_kept; apply State.setField_kept; apply State.setField_kept
  apply State.setCore_kept; assumption; assumption

end Sys2Proof.Machine
end

