-- ==== Sys2Proof/Laws/KeptVector.lean ====
section
/-!
SUPPORT. Laws/KeptVector.lean: the operations of Machine/Vector.lean lead only to states that keep what Laws/Kept.lean names.
-/
namespace Sys2Proof.Machine

theorem State.lbW32s_kept {s₀ s : State} (h : Kept s₀ s) (c : Nat) (off : Nat) (ps : List Nat) :
    Kept s₀ (State.lbW32s s c off ps) := by
  unfold State.lbW32s; apply State.wrBytes_kept; assumption

theorem State.veBusy_kept {s₀ s : State} (h : Kept s₀ s) (c : Nat) (n : Nat) :
    Kept s₀ (State.veBusy s c n) := by
  unfold State.veBusy; apply State.bump64_kept; assumption

theorem State.nanCount_kept {s₀ s : State} (h : Kept s₀ s) (c : Nat) (b : Bool) :
    Kept s₀ (State.nanCount s c b) := by
  unfold State.nanCount; apply Kept.ite; apply State.bump_kept; assumption; assumption

theorem State.veOut_kept {s₀ s : State} (h : Kept s₀ s) (c : Nat) (x : VeSlot) (row : Nat → List FVal) :
    Kept s₀ (State.veOut s c x row) := by
  unfold State.veOut; apply State.wrRows_kept; apply State.nanCount_kept; assumption

theorem State.redOut_kept {s₀ s : State} (h : Kept s₀ s) (c : Nat) (x : VeSlot) (ps : List Nat) :
    Kept s₀ (State.redOut s c x ps) := by
  unfold State.redOut; apply State.lbW32s_kept; apply State.nanCount_kept; assumption

theorem State.veEach_kept {s₀ s : State} (h : Kept s₀ s) (c : Nat) (op : Nat) (n : Nat) (f : State → VeSlot → Nat → Nat → FVal) :
    Kept s₀ (State.veEach s c op n f) := by
  unfold State.veEach; apply State.veRow_kept; assumption; (intro _; intros; try dsimp only)
  apply State.veBusy_kept; apply State.veOut_kept; assumption

theorem execVeAdd_kept {s₀ s : State} (h : Kept s₀ s) (c : CoreIx) :
    KeptOut s₀ (execVeAdd c s) := by
  unfold execVeAdd; apply KeptOut.next; apply State.veEach_kept; assumption

theorem execVeSub_kept {s₀ s : State} (h : Kept s₀ s) (c : CoreIx) :
    KeptOut s₀ (execVeSub c s) := by
  unfold execVeSub; apply KeptOut.next; apply State.veEach_kept; assumption

theorem execVeMul_kept {s₀ s : State} (h : Kept s₀ s) (c : CoreIx) :
    KeptOut s₀ (execVeMul c s) := by
  unfold execVeMul; apply KeptOut.next; apply State.veEach_kept; assumption

theorem execVeFma_kept {s₀ s : State} (h : Kept s₀ s) (c : CoreIx) :
    KeptOut s₀ (execVeFma c s) := by
  unfold execVeFma; apply KeptOut.next; apply State.veEach_kept; assumption

theorem execVeMax2_kept {s₀ s : State} (h : Kept s₀ s) (c : CoreIx) :
    KeptOut s₀ (execVeMax2 c s) := by
  unfold execVeMax2; apply KeptOut.next; apply State.veEach_kept; assumption

theorem execVeMin2_kept {s₀ s : State} (h : Kept s₀ s) (c : CoreIx) :
    KeptOut s₀ (execVeMin2 c s) := by
  unfold execVeMin2; apply KeptOut.next; apply State.veEach_kept; assumption

theorem execVeScale_kept {s₀ s : State} (h : Kept s₀ s) (c : CoreIx) :
    KeptOut s₀ (execVeScale c s) := by
  unfold execVeScale; apply KeptOut.next; apply State.veEach_kept; assumption

theorem execVeConvert_kept {s₀ s : State} (h : Kept s₀ s) (c : CoreIx) :
    KeptOut s₀ (execVeConvert c s) := by
  unfold execVeConvert; apply KeptOut.next; apply State.veEach_kept; assumption

theorem execVeDiv_kept {s₀ s : State} (h : Kept s₀ s) (c : CoreIx) :
    KeptOut s₀ (execVeDiv c s) := by
  unfold execVeDiv; apply KeptOut.next; apply State.veEach_kept; assumption

theorem execVeSqrt_kept {s₀ s : State} (h : Kept s₀ s) (c : CoreIx) :
    KeptOut s₀ (execVeSqrt c s) := by
  unfold execVeSqrt; apply KeptOut.next; apply State.veEach_kept; assumption

theorem execVeExp2_kept {s₀ s : State} (h : Kept s₀ s) (c : CoreIx) :
    KeptOut s₀ (execVeExp2 c s) := by
  unfold execVeExp2; apply KeptOut.next; apply State.veEach_kept; assumption

theorem execVeExp_kept {s₀ s : State} (h : Kept s₀ s) (c : CoreIx) :
    KeptOut s₀ (execVeExp c s) := by
  unfold execVeExp; apply KeptOut.next; apply State.veEach_kept; assumption

theorem execVeLog2_kept {s₀ s : State} (h : Kept s₀ s) (c : CoreIx) :
    KeptOut s₀ (execVeLog2 c s) := by
  unfold execVeLog2; apply KeptOut.next; apply State.veEach_kept; assumption

theorem execVeRcp_kept {s₀ s : State} (h : Kept s₀ s) (c : CoreIx) :
    KeptOut s₀ (execVeRcp c s) := by
  unfold execVeRcp; apply KeptOut.next; apply State.veEach_kept; assumption

theorem execVeRsqrt_kept {s₀ s : State} (h : Kept s₀ s) (c : CoreIx) :
    KeptOut s₀ (execVeRsqrt c s) := by
  unfold execVeRsqrt; apply KeptOut.next; apply State.veEach_kept; assumption

theorem execVeAct_kept {s₀ s : State} (h : Kept s₀ s) (c : CoreIx) :
    KeptOut s₀ (execVeAct c s) := by
  unfold execVeAct; apply KeptOut.next; apply State.veEach_kept; assumption

theorem State.veReduce_kept {s₀ s : State} (h : Kept s₀ s) (c : Nat) (op : Nat) (init : Nat → Nat) (step : Nat → Nat → Nat) (merge : Nat → Nat → Nat) :
    Kept s₀ (State.veReduce s c op init step merge) := by
  unfold State.veReduce; apply State.veRow_kept; assumption; (intro _; intros; try dsimp only)
  apply State.veBusy_kept; apply State.redOut_kept; assumption

theorem execVeRsum_kept {s₀ s : State} (h : Kept s₀ s) (c : CoreIx) :
    KeptOut s₀ (execVeRsum c s) := by
  unfold execVeRsum; apply KeptOut.next; apply State.veReduce_kept; assumption

theorem execVeRmax_kept {s₀ s : State} (h : Kept s₀ s) (c : CoreIx) :
    KeptOut s₀ (execVeRmax c s) := by
  unfold execVeRmax; apply KeptOut.next; apply State.veReduce_kept; assumption

theorem execVeRmin_kept {s₀ s : State} (h : Kept s₀ s) (c : CoreIx) :
    KeptOut s₀ (execVeRmin c s) := by
  unfold execVeRmin; apply KeptOut.next; apply State.veReduce_kept; assumption

theorem execVeRsumsq_kept {s₀ s : State} (h : Kept s₀ s) (c : CoreIx) :
    KeptOut s₀ (execVeRsumsq c s) := by
  unfold execVeRsumsq; apply KeptOut.next; apply State.veReduce_kept; assumption

theorem State.rargmaxRun_kept {s₀ s : State} (h : Kept s₀ s) (c : Nat) (x : VeSlot) :
    Kept s₀ (State.rargmaxRun s c x) := by
  unfold State.rargmaxRun; apply State.veBusy_kept; apply State.redOut_kept; assumption

theorem execVeRargmax_kept {s₀ s : State} (h : Kept s₀ s) (c : CoreIx) :
    KeptOut s₀ (execVeRargmax c s) := by
  unfold execVeRargmax; apply KeptOut.next; apply State.veRow_kept; assumption; (intro _; intros; try dsimp only)
  apply State.rargmaxRun_kept; assumption

theorem State.rmeanvarRun_kept {s₀ s : State} (h : Kept s₀ s) (c : Nat) (x : VeSlot) :
    Kept s₀ (State.rmeanvarRun s c x) := by
  unfold State.rmeanvarRun; apply State.veBusy_kept; apply State.redOut_kept; assumption

theorem execVeRmeanvar_kept {s₀ s : State} (h : Kept s₀ s) (c : CoreIx) :
    KeptOut s₀ (execVeRmeanvar c s) := by
  unfold execVeRmeanvar; apply KeptOut.next; apply State.veRow_kept; assumption; (intro _; intros; try dsimp only)
  apply State.rmeanvarRun_kept; assumption

theorem State.softmaxRun_kept {s₀ s : State} (h : Kept s₀ s) (c : Nat) (x : VeSlot) :
    Kept s₀ (State.softmaxRun s c x) := by
  unfold State.softmaxRun; apply State.veBusy_kept; apply State.veOut_kept; assumption

theorem execVeSoftmax_kept {s₀ s : State} (h : Kept s₀ s) (c : CoreIx) :
    KeptOut s₀ (execVeSoftmax c s) := by
  unfold execVeSoftmax; apply KeptOut.next; apply State.veRow_kept; assumption; (intro _; intros; try dsimp only)
  apply State.softmaxRun_kept; assumption

theorem State.layernormRun_kept {s₀ s : State} (h : Kept s₀ s) (c : Nat) (x : VeSlot) :
    Kept s₀ (State.layernormRun s c x) := by
  unfold State.layernormRun; apply State.veBusy_kept; apply State.lbW32s_kept; apply State.veOut_kept; assumption

theorem execVeLayernorm_kept {s₀ s : State} (h : Kept s₀ s) (c : CoreIx) :
    KeptOut s₀ (execVeLayernorm c s) := by
  unfold execVeLayernorm; apply KeptOut.next; apply State.veRow_kept; assumption; (intro _; intros; try dsimp only)
  apply State.layernormRun_kept; assumption

theorem State.rmsnormRun_kept {s₀ s : State} (h : Kept s₀ s) (c : Nat) (x : VeSlot) :
    Kept s₀ (State.rmsnormRun s c x) := by
  unfold State.rmsnormRun; apply State.veBusy_kept; apply State.lbW32s_kept; apply State.veOut_kept; assumption

theorem execVeRmsnorm_kept {s₀ s : State} (h : Kept s₀ s) (c : CoreIx) :
    KeptOut s₀ (execVeRmsnorm c s) := by
  unfold execVeRmsnorm; apply KeptOut.next; apply State.veRow_kept; assumption; (intro _; intros; try dsimp only)
  apply State.rmsnormRun_kept; assumption

theorem State.rngAfter_kept {s₀ s : State} (h : Kept s₀ s) (c : Nat) (n : Nat) (cyc : Nat) (d : Nat × Nat × Nat × Nat) (x : VeSlot) :
    Kept s₀ (State.rngAfter s c n cyc d x) := by
  unfold State.rngAfter; apply State.veBusy_kept; apply State.bump64_kept; apply State.setRegN_kept; assumption

theorem State.veRandom_kept {s₀ s : State} (h : Kept s₀ s) (c : Nat) (op : Nat) (n : Nat) (cyc : Nat) (f : State → SlotOp → VeSlot → State) (hf : ∀ (u0 : State) (u1 : SlotOp) (u2 : VeSlot), Kept s₀ u0 → Kept s₀ (f u0 u1 u2)) :
    Kept s₀ (State.veRandom s c op n cyc f) := by
  unfold State.veRandom; apply State.veRow_kept; assumption; (intro _; intros; try dsimp only); apply Kept.ite
  apply State.veErr_kept; assumption; apply Kept.ite; apply State.veErr_kept; assumption; apply State.rngAfter_kept
  apply hf; assumption

theorem State.dropoutRun_kept {s₀ s : State} (h : Kept s₀ s) (c : Nat) (x : VeSlot) :
    Kept s₀ (State.dropoutRun s c x) := by
  unfold State.dropoutRun; apply Kept.ite; apply Kept.foldl; (intro _; intros; try dsimp only)
  apply State.wrBytes_kept; assumption; apply State.veOut_kept; assumption; apply State.veOut_kept; assumption

theorem execVeDropout_kept {s₀ s : State} (h : Kept s₀ s) (c : CoreIx) :
    KeptOut s₀ (execVeDropout c s) := by
  unfold execVeDropout; apply KeptOut.next; apply State.veRandom_kept; assumption; (intro _; intros; try dsimp only)
  apply State.dropoutRun_kept; assumption

theorem State.uniformRun_kept {s₀ s : State} (h : Kept s₀ s) (c : Nat) (x : VeSlot) :
    Kept s₀ (State.uniformRun s c x) := by
  unfold State.uniformRun; apply State.veOut_kept; assumption

theorem execVeUniform_kept {s₀ s : State} (h : Kept s₀ s) (c : CoreIx) :
    KeptOut s₀ (execVeUniform c s) := by
  unfold execVeUniform; apply KeptOut.next; apply State.veRandom_kept; assumption; (intro _; intros; try dsimp only)
  apply State.uniformRun_kept; assumption

theorem State.normalRun_kept {s₀ s : State} (h : Kept s₀ s) (c : Nat) (x : VeSlot) :
    Kept s₀ (State.normalRun s c x) := by
  unfold State.normalRun; apply State.veOut_kept; assumption

theorem execVeNormal_kept {s₀ s : State} (h : Kept s₀ s) (c : CoreIx) :
    KeptOut s₀ (execVeNormal c s) := by
  unfold execVeNormal; apply KeptOut.next; apply State.veRandom_kept; assumption; (intro _; intros; try dsimp only)
  apply State.normalRun_kept; assumption

theorem State.transposeRun_kept {s₀ s : State} (h : Kept s₀ s) (c : Nat) (x : VeSlot) :
    Kept s₀ (State.transposeRun s c x) := by
  unfold State.transposeRun; apply State.veBusy_kept; apply State.nanCount_kept; apply Kept.ite; apply Kept.foldl
  (intro _; intros; try dsimp only); apply State.wrBytes_kept; assumption; assumption; apply State.veOut_kept
  assumption

theorem execVeTranspose_kept {s₀ s : State} (h : Kept s₀ s) (c : CoreIx) :
    KeptOut s₀ (execVeTranspose c s) := by
  unfold execVeTranspose; apply KeptOut.next; apply State.veRow_kept; assumption; (intro _; intros; try dsimp only)
  apply State.transposeRun_kept; assumption

theorem State.mxRelayoutRun_kept {s₀ s : State} (h : Kept s₀ s) (c : Nat) (x : VeSlot) :
    Kept s₀ (State.mxRelayoutRun s c x) := by
  unfold State.mxRelayoutRun; apply State.veBusy_kept; apply State.veOut_kept; assumption

theorem execVeMxRelayout_kept {s₀ s : State} (h : Kept s₀ s) (c : CoreIx) :
    KeptOut s₀ (execVeMxRelayout c s) := by
  unfold execVeMxRelayout; apply KeptOut.next; apply State.veRow_kept; assumption; (intro _; intros; try dsimp only)
  apply State.mxRelayoutRun_kept; assumption

theorem State.gmaskRun_kept {s₀ s : State} (h : Kept s₀ s) (c : Nat) (o : SlotOp) (x : VeSlot) :
    Kept s₀ (State.gmaskRun s c o x) := by
  unfold State.gmaskRun; apply State.veBusy_kept; apply State.setCore_kept; assumption

theorem execVeGmask_kept {s₀ s : State} (h : Kept s₀ s) (c : CoreIx) :
    KeptOut s₀ (execVeGmask c s) := by
  unfold execVeGmask; apply KeptOut.next; apply State.veRow_kept; assumption; (intro _; intros; try dsimp only)
  apply State.gmaskRun_kept; assumption

theorem State.softmaxBwdRun_kept {s₀ s : State} (h : Kept s₀ s) (c : Nat) (x : VeSlot) :
    Kept s₀ (State.softmaxBwdRun s c x) := by
  unfold State.softmaxBwdRun; apply State.veBusy_kept; apply State.veOut_kept; assumption

theorem execVeSoftmaxBwd_kept {s₀ s : State} (h : Kept s₀ s) (c : CoreIx) :
    KeptOut s₀ (execVeSoftmaxBwd c s) := by
  unfold execVeSoftmaxBwd; apply KeptOut.next; apply State.veRow_kept; assumption; (intro _; intros; try dsimp only)
  apply State.softmaxBwdRun_kept; assumption

theorem State.normBwdRun_kept {s₀ s : State} (h : Kept s₀ s) (c : Nat) (x : VeSlot) (d : NormDesc) (ln : Bool) :
    Kept s₀ (State.normBwdRun s c x d ln) := by
  unfold State.normBwdRun; apply State.veBusy_kept; apply Kept.ite; apply State.lbW32s_kept; apply State.lbW32s_kept
  apply State.veOut_kept; assumption; apply State.lbW32s_kept; apply State.veOut_kept; assumption

theorem State.normBwd_kept {s₀ s : State} (h : Kept s₀ s) (c : Nat) (op : Nat) (ln : Bool) :
    Kept s₀ (State.normBwd s c op ln) := by
  unfold State.normBwd; apply State.veRow_kept; assumption; (intro _; intros; try dsimp only); apply Kept.ite
  apply State.veErr_kept; assumption; apply State.normBwdRun_kept; assumption

theorem execVeLayernormBwd_kept {s₀ s : State} (h : Kept s₀ s) (c : CoreIx) :
    KeptOut s₀ (execVeLayernormBwd c s) := by
  unfold execVeLayernormBwd; apply KeptOut.next; apply State.normBwd_kept; assumption

theorem execVeRmsnormBwd_kept {s₀ s : State} (h : Kept s₀ s) (c : CoreIx) :
    KeptOut s₀ (execVeRmsnormBwd c s) := by
  unfold execVeRmsnormBwd; apply KeptOut.next; apply State.normBwd_kept; assumption

theorem execVeActBwd_kept {s₀ s : State} (h : Kept s₀ s) (c : CoreIx) :
    KeptOut s₀ (execVeActBwd c s) := by
  unfold execVeActBwd; apply KeptOut.next; apply State.veEach_kept; assumption

theorem State.veBegin_kept {s₀ s : State} (h : Kept s₀ s) (c : Nat) (o : SlotOp) :
    Kept s₀ (State.veBegin s c o) := by
  unfold State.veBegin; apply State.setRegN_kept; apply State.setVeOp_kept; assumption

end Sys2Proof.Machine
end

