-- ==== Sys2Proof/Laws/KeptWindow.lean ====
section
/-!
SUPPORT. Laws/KeptWindow.lean: the operations of Machine/Window.lean lead only to states that keep what Laws/Kept.lean names.
-/
namespace Sys2Proof.Machine

theorem State.winWrite_kept {s₀ s : State} (h : Kept s₀ s) (c : Nat) (op : Nat) (o : SlotOp) (x : VeSlot) (d : WinDesc) (row : Nat → List FVal) (cyc : Nat) :
    Kept s₀ (State.winWrite s c op o x d row cyc) := by
  unfold State.winWrite; apply State.veBusy_kept; apply State.wrRows_kept; apply State.nanCount_kept
  apply State.updCmd_kept; assumption

theorem State.veWin_kept {s₀ s : State} (h : Kept s₀ s) (c : Nat) (op : Nat) (range : WinDesc → Bool) (row : State → VeSlot → WinDesc → Nat → List FVal) (cyc : WinDesc → Nat) :
    Kept s₀ (State.veWin s c op range row cyc) := by
  unfold State.veWin; apply State.veRow_kept; assumption; (intro _; intros; try dsimp only); apply Kept.ite
  apply State.veErr_kept; assumption; apply Kept.ite; apply State.updCmd_kept; assumption; apply Kept.ite
  apply State.veErr_kept; assumption; split; apply State.landUE_kept; assumption; apply State.winWrite_kept
  assumption

theorem execVeWconv_kept {s₀ s : State} (h : Kept s₀ s) (c : CoreIx) :
    KeptOut s₀ (execVeWconv c s) := by
  unfold execVeWconv; apply KeptOut.next; apply State.veWin_kept; assumption

theorem execVeMaxpool_kept {s₀ s : State} (h : Kept s₀ s) (c : CoreIx) :
    KeptOut s₀ (execVeMaxpool c s) := by
  unfold execVeMaxpool; apply KeptOut.next; apply State.veWin_kept; assumption

theorem execVeAvgpool_kept {s₀ s : State} (h : Kept s₀ s) (c : CoreIx) :
    KeptOut s₀ (execVeAvgpool c s) := by
  unfold execVeAvgpool; apply KeptOut.next; apply State.veWin_kept; assumption

theorem execVeWconvBwdData_kept {s₀ s : State} (h : Kept s₀ s) (c : CoreIx) :
    KeptOut s₀ (execVeWconvBwdData c s) := by
  unfold execVeWconvBwdData; apply KeptOut.next; apply State.veWin_kept; assumption

theorem execVeWconvBwdWeight_kept {s₀ s : State} (h : Kept s₀ s) (c : CoreIx) :
    KeptOut s₀ (execVeWconvBwdWeight c s) := by
  unfold execVeWconvBwdWeight; apply KeptOut.next; apply State.veWin_kept; assumption

theorem execVeMaxpoolBwd_kept {s₀ s : State} (h : Kept s₀ s) (c : CoreIx) :
    KeptOut s₀ (execVeMaxpoolBwd c s) := by
  unfold execVeMaxpoolBwd; apply KeptOut.next; apply State.veWin_kept; assumption

theorem execVeAvgpoolBwd_kept {s₀ s : State} (h : Kept s₀ s) (c : CoreIx) :
    KeptOut s₀ (execVeAvgpoolBwd c s) := by
  unfold execVeAvgpoolBwd; apply KeptOut.next; apply State.veWin_kept; assumption

theorem execVeUpsampleNearest_kept {s₀ s : State} (h : Kept s₀ s) (c : CoreIx) :
    KeptOut s₀ (execVeUpsampleNearest c s) := by
  unfold execVeUpsampleNearest; apply KeptOut.next; apply State.veWin_kept; assumption

theorem execVeUpsampleBilinear_kept {s₀ s : State} (h : Kept s₀ s) (c : CoreIx) :
    KeptOut s₀ (execVeUpsampleBilinear c s) := by
  unfold execVeUpsampleBilinear; apply KeptOut.next; apply State.veWin_kept; assumption

theorem execVeUpsampleNearestBwd_kept {s₀ s : State} (h : Kept s₀ s) (c : CoreIx) :
    KeptOut s₀ (execVeUpsampleNearestBwd c s) := by
  unfold execVeUpsampleNearestBwd; apply KeptOut.next; apply State.veWin_kept; assumption

theorem execVeUpsampleBilinearBwd_kept {s₀ s : State} (h : Kept s₀ s) (c : CoreIx) :
    KeptOut s₀ (execVeUpsampleBilinearBwd c s) := by
  unfold execVeUpsampleBilinearBwd; apply KeptOut.next; apply State.veWin_kept; assumption

theorem execVePadFold_kept {s₀ s : State} (h : Kept s₀ s) (c : CoreIx) :
    KeptOut s₀ (execVePadFold c s) := by
  unfold execVePadFold; apply KeptOut.next; apply State.veWin_kept; assumption

end Sys2Proof.Machine
end

