-- ==== Sys2Proof/Laws/KeptHazard.lean ====
section
/-!
SUPPORT. Laws/KeptHazard.lean: the operations of Machine/Hazard.lean lead only to states that keep what Laws/Kept.lean names.
-/
namespace Sys2Proof.Machine

theorem State.setFq_kept {s₀ s : State} (h : Kept s₀ s) (c : Nat) (f : Nat) (l : List SlotOp) :
    Kept s₀ (State.setFq s c f l) := by
  unfold State.setFq; apply State.setCore_kept; assumption

theorem State.putOp_kept {s₀ s : State} (h : Kept s₀ s) (c : Nat) (f : Nat) (o : SlotOp) :
    Kept s₀ (State.putOp s c f o) := by
  unfold State.putOp; apply State.setFq_kept; assumption

theorem State.postSlot_kept {s₀ s : State} (h : Kept s₀ s) (c : Nat) (slot : Bytes) (poison : Bool) :
    Kept s₀ (State.postSlot s c slot poison) := by
  unfold State.postSlot; split; apply State.postFlags_kept; assumption; assumption

theorem State.opDone_kept {s₀ s : State} (h : Kept s₀ s) (c : Nat) (f : Nat) (o : SlotOp) :
    Kept s₀ (State.opDone s c f o) := by
  unfold State.opDone; apply State.putOp_kept; assumption

theorem State.opFail_kept {s₀ s : State} (h : Kept s₀ s) (c : Nat) (f : Nat) (o : SlotOp) :
    Kept s₀ (State.opFail s c f o) := by
  unfold State.opFail; dsimp only; split; apply State.postSlot_kept; apply State.putOp_kept
  apply State.postSlot_kept; apply State.putOp_kept; assumption; apply State.postSlot_kept; apply State.putOp_kept
  assumption

theorem State.opAbort_kept {s₀ s : State} (h : Kept s₀ s) (c : Nat) (f : Nat) (o : SlotOp) :
    Kept s₀ (State.opAbort s c f o) := by
  unfold State.opAbort; apply Kept.ite; apply State.putOp_kept; assumption; apply State.opFail_kept; assumption

theorem State.ferryErr_kept {s₀ s : State} (h : Kept s₀ s) (c : Nat) (f : Nat) (o : SlotOp) (code : Nat) (st : Nat) (addr : Nat) :
    Kept s₀ (State.ferryErr s c f o code st addr) := by
  unfold State.ferryErr; apply State.opFail_kept; apply State.itemErrAt_kept; apply State.setRegN_kept
  apply State.setRegN_kept; apply State.setRegN_kept; assumption

theorem State.poisonErr_kept {s₀ s : State} (h : Kept s₀ s) (c : Nat) (f : Nat) (o : SlotOp) (addr : Nat) :
    Kept s₀ (State.poisonErr s c f o addr) := by
  unfold State.poisonErr; split; apply State.opFail_kept; apply State.landUE_kept; assumption
  apply State.ferryErr_kept; assumption

theorem State.ferryTagErr_kept {s₀ s : State} (h : Kept s₀ s) (c : Nat) (f : Nat) (o : SlotOp) (code : Nat) (st : Nat) (addr : Nat) :
    Kept s₀ (State.ferryTagErr s c f o code st addr) := by
  unfold State.ferryTagErr; apply State.opFail_kept; apply State.tagErr_kept; assumption

theorem State.expErr_kept {s₀ s : State} (h : Kept s₀ s) (c : Nat) (f : Nat) (o : SlotOp) (code : Nat) (st : Nat) (addr : Nat) :
    Kept s₀ (State.expErr s c f o code st addr) := by
  unfold State.expErr; apply State.opFail_kept; apply State.itemErrAt_kept; apply Kept.ite; apply State.bump_kept
  apply State.setRegN_kept; apply State.setRegN_kept; assumption; apply State.setRegN_kept; apply State.setRegN_kept
  assumption

theorem State.moved_kept {s₀ s : State} (h : Kept s₀ s) (c : Nat) (f : Nat) (o : SlotOp) (n : Nat) :
    Kept s₀ (State.moved s c f o n) := by
  unfold State.moved; apply Kept.ite; apply State.updCmd_kept; apply State.updCmd_kept; apply State.bump64_kept
  assumption; apply State.updCmd_kept; apply State.bump64_kept; assumption

end Sys2Proof.Machine
end

