-- ==== Sys2Proof/Laws/KeptSlipway.lean ====
section
/-!
SUPPORT. Laws/KeptSlipway.lean: the operations of Machine/Slipway.lean lead only to states that keep what Laws/Kept.lean names.
-/
namespace Sys2Proof.Machine

theorem State.setBerth_kept {s₀ s : State} (h : Kept s₀ s) (c : Nat) (b : Nat) (l : List BerthEntry) :
    Kept s₀ (State.setBerth s c b l) := by
  unfold State.setBerth; apply State.setRegN_kept; apply State.setRegN_kept
  with_reducible refine Kept.updMaps ?_ (fun w => { w with berths := smWf_set _ _ w.berths }); assumption

theorem State.emptySegment_kept {s₀ s : State} (h : Kept s₀ s) (c : Nat) (b : Nat) :
    Kept s₀ (State.emptySegment s c b) := by
  unfold State.emptySegment; apply State.setBerth_kept; apply State.setRegN_kept; apply State.setRegN_kept; assumption

theorem State.slipLog_kept {s₀ s : State} (h : Kept s₀ s) (c : Nat) (b : Nat) (code : Nat) :
    Kept s₀ (State.slipLog s c b code) := by
  unfold State.slipLog; apply State.logCorr_kept; apply State.setRegN_kept; assumption

theorem State.slipEnable_kept {s₀ s : State} (h : Kept s₀ s) (c : Nat) (b : Nat) :
    Kept s₀ (State.slipEnable s c b) := by
  unfold State.slipEnable; apply Kept.ite; assumption; apply Kept.ite; apply State.emptySegment_kept
  apply State.setField_kept; assumption; apply State.slipLog_kept; assumption

theorem State.slipDisable_kept {s₀ s : State} (h : Kept s₀ s) (c : Nat) (b : Nat) :
    Kept s₀ (State.slipDisable s c b) := by
  unfold State.slipDisable; apply Kept.ite; assumption; apply Kept.ite; apply State.slipLog_kept; assumption
  apply Kept.ite; apply State.slipLog_kept; apply State.emptySegment_kept; apply State.setField_kept; assumption
  apply State.emptySegment_kept; apply State.setField_kept; assumption

theorem execSlipEnable_kept {s₀ s : State} (h : Kept s₀ s) (c : CoreIx) (b : BerthIx) :
    KeptOut s₀ (execSlipEnable c b s) := by
  unfold execSlipEnable; apply KeptOut.next; apply State.slipEnable_kept; assumption

theorem execSlipDisable_kept {s₀ s : State} (h : Kept s₀ s) (c : CoreIx) (b : BerthIx) :
    KeptOut s₀ (execSlipDisable c b s) := by
  unfold execSlipDisable; apply KeptOut.next; apply State.slipDisable_kept; assumption

theorem State.slipLeftover_kept {s₀ s : State} (h : Kept s₀ s) (c : Nat) :
    Kept s₀ (State.slipLeftover s c) := by
  unfold State.slipLeftover; apply Kept.foldl; (intro _; intros; try dsimp only); apply State.slipLog_kept
  apply State.emptySegment_kept; assumption; assumption

theorem State.slipFailEmpty_kept {s₀ s : State} (h : Kept s₀ s) (c : Nat) :
    Kept s₀ (State.slipFailEmpty s c) := by
  unfold State.slipFailEmpty; apply Kept.foldl; (intro _; intros; try dsimp only); apply State.emptySegment_kept
  assumption; assumption

theorem State.slipErr_kept {s₀ s : State} (h : Kept s₀ s) (c : Nat) (f : Nat) (o : SlotOp) (code : Nat) (st : Nat) :
    Kept s₀ (State.slipErr s c f o code st) := by
  unfold State.slipErr; apply State.opFail_kept; apply State.itemErr_kept; apply State.setRegN_kept; assumption

theorem State.place_kept {s₀ s : State} (h : Kept s₀ s) (c : Nat) (b : Nat) (a : Nat) (bytes : Bytes) (e : BerthEntry) :
    Kept s₀ (State.place s c b a bytes e) := by
  unfold State.place; apply Kept.ite; apply State.bump64_kept; apply State.setBerth_kept; apply State.setRegN_kept
  apply State.wrBytes_kept; apply State.ferryAccess_kept; assumption; apply State.setBerth_kept
  apply State.setRegN_kept; apply State.wrBytes_kept; apply State.ferryAccess_kept; assumption

theorem State.pushTiles_kept {s₀ : State} (c f : Nat) (x : FSlot) :
    ∀ (n i : Nat) (o : SlotOp) {s : State} (_ : Kept s₀ s), Kept s₀ (State.pushTiles c f x n i o s)
  | 0, _, o, s, h => by
    unfold State.pushTiles
    apply State.opDone_kept; assumption
  | n + 1, i, o, s, h => by
    unfold State.pushTiles
    dsimp only; split; apply State.opFail_kept; apply State.landUE_kept; assumption; split
    apply State.slipErr_kept; assumption; apply Kept.ite; apply State.putOp_kept; assumption; split
    apply State.pushTiles_kept; apply State.moved_kept; apply State.raiseTo_kept; apply State.bump64_kept
    apply State.place_kept; assumption; apply State.pushTiles_kept; apply State.moved_kept
    apply State.raiseTo_kept; apply State.bump64_kept; apply State.place_kept; assumption

theorem execSlipPush_kept {s₀ s : State} (h : Kept s₀ s) (c : CoreIx) (f : FerryIx) :
    KeptOut s₀ (execSlipPush c f s) := by
  unfold execSlipPush; apply KeptOut.next; dsimp only; split; assumption; apply Kept.ite; assumption; apply Kept.ite
  apply State.slipErr_kept; assumption; apply State.pushTiles_kept; apply Kept.ite; apply State.logCorr_kept
  apply State.bump_kept; assumption; assumption

theorem State.lowerTop_kept {s₀ s : State} (h : Kept s₀ s) (c : Nat) (b : Nat) (top : Nat) (e : Nat) :
    Kept s₀ (State.lowerTop s c b top e) := by
  unfold State.lowerTop; apply State.setBerth_kept; apply State.setRegN_kept; assumption

theorem State.popTiles_kept {s₀ : State} (c f : Nat) :
    ∀ (n : Nat) (o : SlotOp) (x : FSlot) {s : State} (_ : Kept s₀ s), Kept s₀ (State.popTiles c f n o x s)
  | 0, _, _, s, h => by
    unfold State.popTiles
    apply State.putOp_kept; assumption
  | n + 1, o, x, s, h => by
    unfold State.popTiles
    dsimp only; split; apply State.slipErr_kept; assumption; apply Kept.ite; apply State.putOp_kept; assumption
    apply Kept.ite; apply State.poisonErr_kept; assumption; apply Kept.ite; apply State.putOp_kept; assumption
    apply Kept.ite; apply State.slipErr_kept; assumption; apply Kept.ite; apply State.putOp_kept; assumption
    apply Kept.ite; apply State.poisonErr_kept; assumption; apply Kept.ite; apply State.putOp_kept; assumption
    apply Kept.ite; apply State.popTiles_kept; apply State.moved_kept; apply State.bump64_kept
    apply State.lowerTop_kept; apply State.ferryAccess_kept; assumption; apply Kept.ite; apply State.popTiles_kept
    apply State.moved_kept; apply State.bump64_kept; apply State.lowerTop_kept; apply State.ferryAccess_kept
    assumption; apply Kept.ite; apply State.popTiles_kept; apply State.lbWr_kept; apply State.moved_kept
    apply State.bump64_kept; apply State.lowerTop_kept; apply State.ferryAccess_kept; assumption
    apply State.expErr_kept; apply State.moved_kept; apply State.bump64_kept; apply State.lowerTop_kept
    apply State.ferryAccess_kept; assumption

theorem execSlipPop_kept {s₀ s : State} (h : Kept s₀ s) (c : CoreIx) (f : FerryIx) :
    KeptOut s₀ (execSlipPop c f s) := by
  unfold execSlipPop; apply KeptOut.next; split; assumption; apply Kept.ite; assumption; apply Kept.ite
  apply State.slipErr_kept; assumption; apply State.popTiles_kept; assumption

theorem State.refetchOk_kept {s₀ s : State} (h : Kept s₀ s) (c : Nat) (f : Nat) (o : SlotOp) (r : Refetch) :
    Kept s₀ (State.refetchOk s c f o r) := by
  unfold State.refetchOk; apply State.putOp_kept; assumption

theorem execSlipTrailerReread_kept {s₀ s : State} (h : Kept s₀ s) (c : CoreIx) (f : FerryIx) :
    KeptOut s₀ (execSlipTrailerReread c f s) := by
  unfold execSlipTrailerReread; apply KeptOut.next; split; apply Kept.ite; apply State.refetchOk_kept; assumption
  apply State.slipErr_kept; assumption; assumption

theorem State.refetchTag_kept {s₀ s : State} (h : Kept s₀ s) (dies : List DieIx) (src : Nat) (g : Nat) (n : Nat) :
    Kept s₀ (State.refetchTag s dies src g n) := by
  unfold State.refetchTag; apply Kept.foldl; (intro _; intros; try dsimp only); apply State.dropClean_kept
  assumption; apply State.ev_kept; apply State.logAddr_kept; apply State.setRegN_kept; apply State.setRegN_kept
  apply State.bump_kept; assumption

theorem execTagRefetch_kept {s₀ s : State} (h : Kept s₀ s) (c : CoreIx) (f : FerryIx) :
    KeptOut s₀ (execTagRefetch c f s) := by
  unfold execTagRefetch; apply KeptOut.next; dsimp only; split; apply Kept.ite; apply State.refetchOk_kept
  apply State.refetchTag_kept; assumption; apply State.ferryTagErr_kept; apply State.refetchTag_kept; assumption
  assumption

theorem State.landBlock_kept {s₀ s : State} (h : Kept s₀ s) (c : Nat) (f : Nat) (o : SlotOp) (j : ExpJob) (js : List ExpJob) (raw : Bytes) :
    Kept s₀ (State.landBlock s c f o j js raw) := by
  unfold State.landBlock; apply Kept.ite; apply State.expErr_kept; assumption; apply State.putOp_kept
  apply State.lbWr_kept; apply State.bump64_kept; apply State.bump64_kept; assumption

theorem execExpBlockExpand_kept {s₀ s : State} (h : Kept s₀ s) (c : CoreIx) (f : FerryIx) :
    KeptOut s₀ (execExpBlockExpand c f s) := by
  unfold execExpBlockExpand; apply KeptOut.next; split; assumption; apply Kept.ite; assumption; split
  apply State.landBlock_kept; assumption; split; assumption; apply Kept.ite; apply State.putOp_kept; assumption
  apply State.expErr_kept; assumption

theorem execExpRefetch_kept {s₀ s : State} (h : Kept s₀ s) (c : CoreIx) (f : FerryIx) :
    KeptOut s₀ (execExpRefetch c f s) := by
  unfold execExpRefetch; apply KeptOut.next; dsimp only; split; split; apply State.refetchOk_kept
  apply State.ev_kept; apply State.bump_kept; assumption; apply State.expErr_kept; apply State.ev_kept
  apply State.bump_kept; assumption; assumption

end Sys2Proof.Machine
end

