-- ==== Sys2Proof/Laws/KeptPower.lean ====
section
/-!
SUPPORT. Laws/KeptPower.lean: the operations of Machine/Power.lean lead only to states that keep what Laws/Kept.lean names.
-/
namespace Sys2Proof.Machine

theorem State.setPwrStat_kept {s₀ s : State} (h : Kept s₀ s) (hi : Nat) (lo : Nat) (v : Nat) :
    Kept s₀ (State.setPwrStat s hi lo v) := by
  unfold State.setPwrStat; apply State.setField_kept; assumption

theorem State.setAllowances_kept {s₀ s : State} (h : Kept s₀ s) (m : Nat) :
    Kept s₀ (State.setAllowances s m) := by
  unfold State.setAllowances; apply Kept.foldl; (intro _; intros; try dsimp only); apply State.setRegN_kept
  apply State.setRegN_kept; assumption; assumption

theorem State.setCluster_kept {s₀ s : State} (h : Kept s₀ s) (j : Nat) :
    Kept s₀ (State.setCluster s j) := by
  unfold State.setCluster; apply Kept.foldl; (intro _; intros; try dsimp only); apply State.setField_kept
  assumption; assumption

theorem State.failTimetable_kept {s₀ s : State} (h : Kept s₀ s) (c : Nat) (st : Nat) :
    Kept s₀ (State.failTimetable s c st) := by
  unfold State.failTimetable; split; assumption; apply Kept.foldl; (intro _; intros; try dsimp only)
  apply State.failItem_kept; assumption; assumption

theorem State.setMode_kept {s₀ s : State} (h : Kept s₀ s) (m : Nat) :
    Kept s₀ (State.setMode s m) := by
  unfold State.setMode; apply Kept.foldl; (intro _; intros; try dsimp only); split; apply Kept.ite
  apply State.setField_kept; apply State.failTimetable_kept; assumption; assumption; assumption
  apply State.setAllowances_kept; apply Kept.foldl; (intro _; intros; try dsimp only); apply State.setCluster_kept
  assumption; apply State.setPwrStat_kept; assumption

theorem execPowerModeChange_kept {s₀ s : State} (h : Kept s₀ s)  :
    KeptOut s₀ (execPowerModeChange s) := by
  unfold execPowerModeChange; apply KeptOut.next; dsimp only; split; assumption; apply Kept.ite
  apply State.setMode_kept; apply Kept.upd; assumption; apply Kept.upd; assumption

theorem State.setGov_kept {s₀ s : State} (h : Kept s₀ s) (t : Nat) (v : Nat) :
    Kept s₀ (State.setGov s t v) := by
  unfold State.setGov; apply State.setRegN_kept; assumption

theorem State.govCredit_kept {s₀ s : State} (h : Kept s₀ s)  :
    Kept s₀ (State.govCredit s) := by
  unfold State.govCredit; apply Kept.foldl; (intro _; intros; try dsimp only); apply State.setGov_kept; assumption
  assumption

theorem execGovernorDecision_kept {s₀ s : State} (h : Kept s₀ s)  :
    KeptOut s₀ (execGovernorDecision s) := by
  unfold execGovernorDecision; apply KeptOut.next; apply Kept.foldl; (intro _; intros; try dsimp only)
  apply Kept.ite; apply State.logCorr_kept; apply State.bump_kept; assumption; assumption; apply Kept.ite
  apply State.bump_kept; apply Kept.upd; apply Kept.foldl; (intro _; intros; try dsimp only)
  apply State.setGov_kept; assumption; assumption; apply Kept.foldl; (intro _; intros; try dsimp only)
  apply State.setGov_kept; assumption; assumption

theorem State.tideEnergy_kept {s₀ s : State} (h : Kept s₀ s) (e : List Nat) :
    Kept s₀ (State.tideEnergy s e) := by
  unfold State.tideEnergy; apply Kept.ite; dsimp only; apply Kept.upd; apply State.logCorr_kept
  apply State.setRegN_kept; apply Kept.foldl; (intro _; intros; try dsimp only); apply State.setRegN_kept
  assumption; apply State.setPwrStat_kept; assumption; apply Kept.ite; apply Kept.ite; apply Kept.upd
  apply State.setRegN_kept; apply Kept.foldl; (intro _; intros; try dsimp only); apply State.setRegN_kept
  assumption; apply State.setPwrStat_kept; assumption; apply Kept.upd; apply State.setRegN_kept; apply Kept.foldl
  (intro _; intros; try dsimp only); apply State.setRegN_kept; assumption; apply State.setPwrStat_kept; assumption
  apply Kept.upd; apply State.setRegN_kept; apply Kept.foldl; (intro _; intros; try dsimp only)
  apply State.setRegN_kept; assumption; apply State.setPwrStat_kept; assumption

theorem State.applyStep_kept {s₀ s : State} (h : Kept s₀ s)  :
    Kept s₀ (State.applyStep s) := by
  unfold State.applyStep; apply State.setPwrStat_kept; apply State.setPwrStat_kept; assumption

theorem State.tideThermal_kept {s₀ s : State} (h : Kept s₀ s)  :
    Kept s₀ (State.tideThermal s) := by
  unfold State.tideThermal; apply Kept.ite; apply Kept.ite; apply Kept.upd; apply Kept.ite; dsimp only
  apply Kept.upd; apply State.ev_kept; apply State.logCorr_kept; apply State.bump_kept; apply Kept.ite
  apply State.setPwrStat_kept; apply Kept.ite; apply State.ev_kept; apply State.send_kept; apply State.logCorr_kept
  apply State.bump_kept; apply State.setPwrStat_kept; apply State.applyStep_kept; assumption
  apply State.applyStep_kept; assumption; apply Kept.ite; apply State.ev_kept; apply State.send_kept
  apply State.logCorr_kept; apply State.bump_kept; apply State.setPwrStat_kept; apply State.applyStep_kept
  assumption; apply State.applyStep_kept; assumption; apply Kept.ite; apply State.setPwrStat_kept; apply Kept.ite
  apply State.ev_kept; apply State.send_kept; apply State.logCorr_kept; apply State.bump_kept
  apply State.setPwrStat_kept; apply State.applyStep_kept; assumption; apply State.applyStep_kept; assumption
  apply Kept.ite; apply State.ev_kept; apply State.send_kept; apply State.logCorr_kept; apply State.bump_kept
  apply State.setPwrStat_kept; apply State.applyStep_kept; assumption; apply State.applyStep_kept; assumption
  apply Kept.upd; apply Kept.ite; dsimp only; apply Kept.upd; apply State.ev_kept; apply State.logCorr_kept
  apply State.bump_kept; apply Kept.ite; apply State.setPwrStat_kept; apply Kept.ite; apply State.ev_kept
  apply State.send_kept; apply State.logCorr_kept; apply State.bump_kept; apply State.setPwrStat_kept
  apply State.applyStep_kept; assumption; apply State.applyStep_kept; assumption; apply Kept.ite
  apply State.ev_kept; apply State.send_kept; apply State.logCorr_kept; apply State.bump_kept
  apply State.setPwrStat_kept; apply State.applyStep_kept; assumption; apply State.applyStep_kept; assumption
  apply Kept.ite; apply State.setPwrStat_kept; apply Kept.ite; apply State.ev_kept; apply State.send_kept
  apply State.logCorr_kept; apply State.bump_kept; apply State.setPwrStat_kept; apply State.applyStep_kept
  assumption; apply State.applyStep_kept; assumption; apply Kept.ite; apply State.ev_kept; apply State.send_kept
  apply State.logCorr_kept; apply State.bump_kept; apply State.setPwrStat_kept; apply State.applyStep_kept
  assumption; apply State.applyStep_kept; assumption; apply Kept.upd; apply Kept.ite; dsimp only; apply Kept.upd
  apply State.ev_kept; apply State.logCorr_kept; apply State.bump_kept; apply Kept.ite; apply State.setPwrStat_kept
  apply Kept.ite; apply State.ev_kept; apply State.send_kept; apply State.logCorr_kept; apply State.bump_kept
  apply State.setPwrStat_kept; apply State.applyStep_kept; assumption; apply State.applyStep_kept; assumption
  apply Kept.ite; apply State.ev_kept; apply State.send_kept; apply State.logCorr_kept; apply State.bump_kept
  apply State.setPwrStat_kept; apply State.applyStep_kept; assumption; apply State.applyStep_kept; assumption
  apply Kept.ite; apply State.setPwrStat_kept; apply Kept.ite; apply State.ev_kept; apply State.send_kept
  apply State.logCorr_kept; apply State.bump_kept; apply State.setPwrStat_kept; apply State.applyStep_kept
  assumption; apply State.applyStep_kept; assumption; apply Kept.ite; apply State.ev_kept; apply State.send_kept
  apply State.logCorr_kept; apply State.bump_kept; apply State.setPwrStat_kept; apply State.applyStep_kept
  assumption; apply State.applyStep_kept; assumption

theorem State.tideCaps_kept {s₀ s : State} (h : Kept s₀ s)  :
    Kept s₀ (State.tideCaps s) := by
  unfold State.tideCaps; dsimp only; apply Kept.upd; split; apply State.setRegN_kept; split
  apply State.setRegN_kept; assumption; assumption; split; apply State.setRegN_kept; assumption; assumption

theorem execPwrModeReqWrite_kept {s₀ s : State} (h : Kept s₀ s) (v : BitVec 2) :
    KeptOut s₀ (execPwrModeReqWrite v s) := by
  unfold execPwrModeReqWrite; apply KeptOut.next; apply Kept.ite; apply State.logCorr_kept; assumption
  apply State.setField_kept; assumption

theorem execPwrCapWrite_kept {s₀ s : State} (h : Kept s₀ s) (burst : Bool) (v : BitVec 16) :
    KeptOut s₀ (execPwrCapWrite burst v s) := by
  unfold execPwrCapWrite; apply KeptOut.next; apply Kept.ite; apply Kept.ite; apply Kept.upd; assumption
  apply State.logCorr_kept; assumption; apply Kept.ite; apply Kept.upd; assumption; apply State.logCorr_kept
  assumption

theorem execPwrShutdown_kept {s₀ s : State} (h : Kept s₀ s)  :
    KeptOut s₀ (execPwrShutdown s) := by
  unfold execPwrShutdown; apply KeptOut.next; apply Kept.ite; apply Kept.upd; assumption; assumption

theorem State.unlocked_kept {s₀ s : State} (h : Kept s₀ s)  :
    Kept s₀ (State.unlocked s) := by
  unfold State.unlocked; apply Kept.foldl; (intro _; intros; try dsimp only); apply State.setRegN_kept
  apply State.setRegN_kept; assumption; apply State.setRegN_kept; assumption

theorem State.cleared_kept {s₀ s : State} (h : Kept s₀ s) : Kept s₀ s.cleared :=
  h.trans ⟨rfl, fun w => ⟨smWf_filter _ w.mem, smWf_filter _ w.regs, rfl, w.flash, rfl, rfl, rfl, rfl, rfl, rfl⟩, List.suffix_refl _,
    Nat.le_refl _, fun f => ⟨f, SecSt.Grown.refl _⟩⟩

theorem State.unpower_kept {s₀ s : State} (h : Kept s₀ s) : Kept s₀ s.unpower := by
  unfold State.unpower
  apply State.unlocked_kept
  exact State.cleared_kept h

theorem SecSt.fuses_fuseOk (x : SecSt) (k : Nat) : (x.fuses k).fuseOk = true := rfl

theorem SecSt.fuses_grown (x : SecSt) (k : Nat) : x.Grown (x.fuses k) := by
  refine ⟨?_, fun _ h => h, fun _ h => h, rfl, rfl, rfl, rfl⟩
  unfold SecSt.fuses
  dsimp only
  split <;> omega

theorem State.dark_kept {s₀ s : State} (h : Kept s₀ s) (ph : PowerPhase) : Kept s₀ (s.dark ph) := by
  unfold State.dark
  apply State.setPwrStat_kept
  apply State.unlocked_kept
  exact h.trans ⟨rfl, fun w => ⟨smWf_filter _ w.mem, rfl, rfl, w.flash, rfl, rfl, rfl, rfl, rfl, rfl⟩, List.suffix_refl _,
    Nat.le_succ _, fun _ => ⟨SecSt.fuses_fuseOk _ _, SecSt.fuses_grown _ _⟩⟩

theorem execOffReady_kept {s₀ s : State} (h : Kept s₀ s)  :
    KeptOut s₀ (execOffReady s) := by
  unfold execOffReady; apply KeptOut.next; apply Kept.ite; apply State.send_kept; apply State.setPwrStat_kept
  apply State.unpower_kept; apply Kept.upd; assumption; assumption

theorem State.vbusLow_kept {s₀ s : State} (h : Kept s₀ s) (mv : Nat) :
    Kept s₀ (State.vbusLow s mv) := by
  unfold State.vbusLow; apply Kept.ite; apply State.setPwrStat_kept; apply State.setField_kept; assumption
  apply State.logCorr_kept; apply Kept.upd; apply State.setPwrStat_kept; apply State.setField_kept; assumption

theorem execVbusLow_kept {s₀ s : State} (h : Kept s₀ s) (mv : BitVec 16) :
    KeptOut s₀ (execVbusLow mv s) := by
  unfold execVbusLow; apply KeptOut.next; apply Kept.ite; apply State.vbusLow_kept; assumption; assumption

theorem execPwrOvercurrent_kept {s₀ s : State} (h : Kept s₀ s) (da : BitVec 16) :
    KeptOut s₀ (execPwrOvercurrent da s) := by
  unfold execPwrOvercurrent; apply KeptOut.next; apply Kept.ite; apply State.logErr_kept; apply State.setField_kept
  assumption; assumption

end Sys2Proof.Machine
end

