-- ==== Sys2Proof/Laws/KeptSundlink.lean ====
section
/-!
SUPPORT. Laws/KeptSundlink.lean: the operations of Machine/Sundlink.lean lead only to states that keep what Laws/Kept.lean names.
-/
namespace Sys2Proof.Machine

theorem State.setPort_kept {s₀ s : State} (h : Kept s₀ s) (p : Nat) (x : PortSt) : Kept s₀ (s.setPort p x) :=
  h.maps rfl (fun w => { w with ports := smWf_set _ _ w.ports }) rfl rfl rfl

theorem State.setPstate_kept {s₀ s : State} (h : Kept s₀ s) (p : Nat) (v : Nat) :
    Kept s₀ (State.setPstate s p v) := by
  unfold State.setPstate; apply State.setField_kept; assumption

theorem State.violCount_kept {s₀ s : State} (h : Kept s₀ s) (p : Nat) (code : Nat) (vc : Nat) :
    Kept s₀ (State.violCount s p code vc) := by
  unfold State.violCount; apply State.setRegN_kept; apply State.bump_kept; apply State.setRegN_kept; assumption

theorem State.viol_kept {s₀ s : State} (h : Kept s₀ s) (p : Nat) (code : Nat) (vc : Nat) :
    Kept s₀ (State.viol s p code vc) := by
  unfold State.viol; apply State.logCorr_kept; apply State.violCount_kept; assumption

theorem State.rsvd_kept {s₀ s : State} (h : Kept s₀ s) (p : Nat) (vc : Nat) :
    Kept s₀ (State.rsvd s p vc) := by
  unfold State.rsvd; apply Kept.ite; assumption; apply State.viol_kept; apply State.setPort_kept; assumption

theorem State.queueFlit_kept {s₀ s : State} (h : Kept s₀ s) (p : Nat) (f : TxFlit) :
    Kept s₀ (State.queueFlit s p f) := by
  unfold State.queueFlit; apply State.setPort_kept; assumption

theorem State.sendCdata_kept {s₀ s : State} (h : Kept s₀ s) (p : Nat) (b : Bytes) (owner : Option (Nat × Nat)) :
    Kept s₀ (State.sendCdata s p b owner) := by
  unfold State.sendCdata; apply State.queueFlit_kept; assumption

theorem State.collAbort_kept {s₀ s : State} (h : Kept s₀ s) (r : CollRun) :
    Kept s₀ (State.collAbort s r) := by
  unfold State.collAbort; dsimp only; split; apply State.opAbort_kept; apply Kept.ite; apply State.logCorr_kept
  apply State.setField_kept; apply Kept.foldl; (intro _; intros; try dsimp only); apply State.sendCdata_kept
  assumption; apply State.itemErr_kept; apply State.setRegN_kept; apply Kept.upd; assumption; apply Kept.foldl
  (intro _; intros; try dsimp only); apply State.sendCdata_kept; assumption; apply State.itemErr_kept
  apply State.setRegN_kept; apply Kept.upd; assumption; apply Kept.ite; apply State.logCorr_kept
  apply State.setField_kept; apply Kept.foldl; (intro _; intros; try dsimp only); apply State.sendCdata_kept
  assumption; apply State.itemErr_kept; apply State.setRegN_kept; apply Kept.upd; assumption; apply Kept.foldl
  (intro _; intros; try dsimp only); apply State.sendCdata_kept; assumption; apply State.itemErr_kept
  apply State.setRegN_kept; apply Kept.upd; assumption

theorem State.collPortLost_kept {s₀ s : State} (h : Kept s₀ s) (p : Nat) :
    Kept s₀ (State.collPortLost s p) := by
  unfold State.collPortLost; apply Kept.foldl; (intro _; intros; try dsimp only); apply Kept.ite
  apply State.collAbort_kept; assumption; apply Kept.upd; assumption; assumption

theorem State.failPortItems_kept {s₀ s : State} (h : Kept s₀ s) (p : Nat) (st : Nat) :
    Kept s₀ (State.failPortItems s p st) := by
  unfold State.failPortItems; apply Kept.foldl; (intro _; intros; try dsimp only); split; split
  apply State.ferryErr_kept; assumption; apply State.failItem_kept; assumption; apply State.endItem_kept
  apply State.failItem_kept; assumption; apply State.failItem_kept; assumption; apply Kept.upd
  apply State.foldCores_kept; assumption; (intro _; intros; try dsimp only); apply Kept.foldl
  (intro _; intros; try dsimp only); apply Kept.ite; apply State.opFail_kept; apply State.failItem_kept; assumption
  apply State.failItem_kept; assumption; assumption

theorem State.sendsAcked_kept {s₀ s : State} (h : Kept s₀ s) (gone : List (Option (Nat × Nat))) :
    Kept s₀ (State.sendsAcked s gone) := by
  unfold State.sendsAcked; apply Kept.foldl; (intro _; intros; try dsimp only); split; assumption; apply Kept.ite
  assumption; apply State.setCore_kept; assumption; assumption

theorem State.portIdle_kept {s₀ s : State} (h : Kept s₀ s) (p : Nat) (v : Nat) :
    Kept s₀ (State.portIdle s p v) := by
  unfold State.portIdle; apply State.setRegN_kept; assumption

theorem State.portLeave_kept {s₀ s : State} (h : Kept s₀ s) (p : Nat) (v : Nat) (code : Nat) (st : Nat) :
    Kept s₀ (State.portLeave s p v code st) := by
  unfold State.portLeave; apply Kept.ite; apply State.sendsAcked_kept; apply State.setPort_kept; apply Kept.upd
  apply State.collPortLost_kept; apply State.failPortItems_kept; apply Kept.ite; apply State.ev_kept
  apply State.logErr_kept; apply State.portIdle_kept; assumption; apply State.logErr_kept; apply State.portIdle_kept
  assumption; apply State.portIdle_kept; assumption

theorem execPortQuarantine_kept {s₀ s : State} (h : Kept s₀ s) (p : PortIx) :
    KeptOut s₀ (execPortQuarantine p s) := by
  unfold execPortQuarantine; apply KeptOut.next; apply Kept.ite; apply State.portLeave_kept; assumption; assumption

theorem execPortDown_kept {s₀ s : State} (h : Kept s₀ s) (p : PortIx) (lanesLost : Bool) :
    KeptOut s₀ (execPortDown p lanesLost s) := by
  unfold execPortDown; apply KeptOut.next; apply Kept.ite; apply State.portLeave_kept; assumption; apply Kept.ite
  apply State.portLeave_kept; assumption; apply Kept.ite; apply State.portIdle_kept; assumption; assumption

theorem State.sendLink_kept {s₀ s : State} (h : Kept s₀ s) (p : Nat) (typ : Nat) (seq : Nat) (payload : Bytes) :
    Kept s₀ (State.sendLink s p typ seq payload) := by
  unfold State.sendLink; apply State.send_kept; apply State.setPort_kept; assumption

theorem State.grant_kept {s₀ s : State} (h : Kept s₀ s) (p : Nat) (typ : Nat) (vc : Nat) (payload : Bytes) (owner : Option (Nat × Nat)) :
    Kept s₀ (State.grant s p typ vc payload owner) := by
  unfold State.grant; apply State.bump64_kept; apply State.send_kept; apply State.setPort_kept; assumption

theorem State.grantNext_kept {s₀ s : State} (h : Kept s₀ s) (p : Nat) :
    Kept s₀ (State.grantNext s p) := by
  unfold State.grantNext; apply Kept.ite; split; apply State.send_kept; apply State.setPort_kept; assumption
  apply State.setPort_kept; assumption; apply Kept.ite; assumption; dsimp only; split; split; apply State.grant_kept
  apply State.setPort_kept; assumption; assumption; apply Kept.ite; assumption; apply State.grant_kept; assumption

theorem State.lateRx_kept {s₀ s : State} (h : Kept s₀ s) (p : Nat) (n : Nat) :
    Kept s₀ (State.lateRx s p n) := by
  unfold State.lateRx; apply Kept.ite; apply Kept.ite; apply State.logCorr_kept; apply State.logCorr_kept
  apply State.bump_kept; assumption; apply Kept.ite; assumption; apply Kept.foldl; (intro _; intros; try dsimp only)
  apply State.setPort_kept; assumption; apply State.setField_kept; apply State.bump64_kept; apply Kept.upd
  assumption; apply State.bump_kept; assumption

theorem State.takeCredits_kept {s₀ s : State} (h : Kept s₀ s) (p : Nat) (b : Bytes) :
    Kept s₀ (State.takeCredits s p b) := by
  unfold State.takeCredits; apply Kept.ite; assumption; apply Kept.ite; apply State.viol_kept; assumption
  apply Kept.ite; apply State.viol_kept; apply State.setPort_kept; assumption; apply State.setPort_kept; assumption

theorem State.acceptSeq_kept {s₀ s : State} (h : Kept s₀ s) (p : Nat) (b : Bytes) :
    Kept s₀ (State.acceptSeq s p b) := by
  unfold State.acceptSeq; apply Kept.ite; apply State.sendLink_kept; apply State.setPort_kept; apply Kept.ite
  apply State.rsvd_kept; apply State.takeCredits_kept; apply State.bump64_kept; apply State.setPort_kept; assumption
  apply State.takeCredits_kept; apply State.bump64_kept; apply State.setPort_kept; assumption; apply Kept.ite
  apply State.rsvd_kept; apply State.takeCredits_kept; apply State.bump64_kept; apply State.setPort_kept; assumption
  apply State.takeCredits_kept; apply State.bump64_kept; apply State.setPort_kept; assumption

theorem State.freed_kept {s₀ s : State} (h : Kept s₀ s) (p : Nat) (vc : Nat) :
    Kept s₀ (State.freed s p vc) := by
  unfold State.freed; apply Kept.ite; apply State.setPort_kept; assumption; assumption

theorem execFlitAccept_kept {s₀ s : State} (h : Kept s₀ s) (p : PortIx) (b : Bytes) :
    KeptOut s₀ (execFlitAccept p b s) := by
  unfold execFlitAccept; apply KeptOut.next; apply Kept.ite; assumption; apply Kept.ite; apply State.sendLink_kept
  apply State.sendLink_kept; apply State.viol_kept; assumption; apply Kept.ite; apply State.setPort_kept
  apply Kept.ite; apply State.logCorr_kept; apply Kept.ite; apply State.lateRx_kept; apply State.acceptSeq_kept
  assumption; apply State.acceptSeq_kept; assumption; apply Kept.ite; apply State.lateRx_kept
  apply State.acceptSeq_kept; assumption; apply State.acceptSeq_kept; assumption; apply State.viol_kept
  apply State.freed_kept; apply Kept.ite; apply State.lateRx_kept; apply State.acceptSeq_kept; assumption
  apply State.acceptSeq_kept; assumption

theorem execNullFlitRx_kept {s₀ s : State} (h : Kept s₀ s) (p : PortIx) (b : Bytes) :
    KeptOut s₀ (execNullFlitRx p b s) := by
  unfold execNullFlitRx; apply KeptOut.next; apply Kept.ite; assumption; apply Kept.ite; apply State.viol_kept
  apply State.acceptSeq_kept; assumption; apply Kept.ite; apply State.lateRx_kept; apply State.acceptSeq_kept
  assumption; apply State.acceptSeq_kept; assumption

theorem execFlitCrcError_kept {s₀ s : State} (h : Kept s₀ s) (p : PortIx) (b : Bytes) (uncorrectable : Bool) :
    KeptOut s₀ (execFlitCrcError p b uncorrectable s) := by
  unfold execFlitCrcError; apply KeptOut.next; apply Kept.ite; assumption; apply Kept.ite; apply State.sendLink_kept
  apply State.bump_kept; assumption; apply Kept.ite; assumption; apply Kept.ite; assumption; apply Kept.ite
  assumption; apply State.sendLink_kept; apply State.bump_kept; assumption

theorem State.linkHdr_kept {s₀ s : State} (h : Kept s₀ s) (p : Nat) (b : Bytes) :
    Kept s₀ (State.linkHdr s p b) := by
  unfold State.linkHdr; apply Kept.ite; apply State.rsvd_kept; apply Kept.ite; apply State.viol_kept; assumption
  assumption; apply Kept.ite; apply State.viol_kept; assumption; assumption

theorem State.linkFlit_kept {s₀ s : State} (h : Kept s₀ s) (p : Nat) (typ : Nat) (b : Bytes) (f : State → State) (hf : ∀ (u0 : State), Kept s₀ u0 → Kept s₀ (f u0)) :
    Kept s₀ (State.linkFlit s p typ b f) := by
  unfold State.linkFlit; apply Kept.ite; assumption; apply Kept.ite; apply State.viol_kept; assumption; apply hf
  apply State.linkHdr_kept; assumption

theorem execAckRx_kept {s₀ s : State} (h : Kept s₀ s) (p : PortIx) (b : Bytes) :
    KeptOut s₀ (execAckRx p b s) := by
  unfold execAckRx; apply KeptOut.next; apply State.linkFlit_kept; assumption; (intro _; intros; try dsimp only)
  apply Kept.ite; apply State.sendsAcked_kept; apply State.setPort_kept; apply State.takeCredits_kept; assumption
  apply Kept.ite; apply State.takeCredits_kept; assumption; apply State.viol_kept; apply State.takeCredits_kept
  assumption

theorem State.startReplay_kept {s₀ s : State} (h : Kept s₀ s) (p : Nat) :
    Kept s₀ (State.startReplay s p) := by
  unfold State.startReplay; apply Kept.ite; assumption; apply State.bump_kept; apply State.setPort_kept; assumption

theorem execNakRx_kept {s₀ s : State} (h : Kept s₀ s) (p : PortIx) (b : Bytes) :
    KeptOut s₀ (execNakRx p b s) := by
  unfold execNakRx; apply KeptOut.next; apply State.linkFlit_kept; assumption; (intro _; intros; try dsimp only)
  apply Kept.ite; apply State.startReplay_kept; apply State.sendsAcked_kept; apply State.setPort_kept
  apply State.takeCredits_kept; assumption; apply Kept.ite; apply Kept.ite; apply State.sendsAcked_kept
  apply State.setPort_kept; apply State.takeCredits_kept; assumption; apply State.takeCredits_kept; assumption
  apply State.viol_kept; apply State.takeCredits_kept; assumption

theorem execAckTimer_kept {s₀ s : State} (h : Kept s₀ s) (p : PortIx) :
    KeptOut s₀ (execAckTimer p s) := by
  unfold execAckTimer; apply KeptOut.next; apply Kept.ite; assumption; apply Kept.ite; apply State.sendLink_kept
  apply State.setPort_kept; assumption; apply Kept.ite; apply State.sendLink_kept; assumption; assumption

theorem execReplayTimeout_kept {s₀ s : State} (h : Kept s₀ s) (p : PortIx) :
    KeptOut s₀ (execReplayTimeout p s) := by
  unfold execReplayTimeout; apply KeptOut.next; apply Kept.ite; apply State.startReplay_kept; assumption; assumption

theorem execCreditSyncRx_kept {s₀ s : State} (h : Kept s₀ s) (p : PortIx) (b : Bytes) :
    KeptOut s₀ (execCreditSyncRx p b s) := by
  unfold execCreditSyncRx; apply KeptOut.next; apply State.linkFlit_kept; assumption
  (intro _; intros; try dsimp only); apply State.setPort_kept; assumption

theorem execCreditReturn_kept {s₀ s : State} (h : Kept s₀ s) (p : PortIx) (b : Bytes) :
    KeptOut s₀ (execCreditReturn p b s) := by
  unfold execCreditReturn; apply KeptOut.next; apply State.linkFlit_kept; assumption
  (intro _; intros; try dsimp only); apply State.takeCredits_kept; assumption

theorem State.dropRx_kept {s₀ s : State} (h : Kept s₀ s) (p : Nat) (f : RxFlit) :
    Kept s₀ (State.dropRx s p f) := by
  unfold State.dropRx; apply State.freed_kept; apply State.setPort_kept; assumption

theorem State.takeRx_kept {s₀ s t : State} {p typ : Nat} {f : RxFlit} (e : s.takeRx p typ = some (f, t)) (h : Kept s₀ s) :
    Kept s₀ t := by
  unfold State.takeRx at e
  obtain ⟨g, _, e⟩ := Option.map_eq_some_iff.mp e
  cases e
  exact State.dropRx_kept h p _

theorem State.beginTrain_kept {s₀ s : State} (h : Kept s₀ s) (p : Nat) :
    Kept s₀ (State.beginTrain s p) := by
  unfold State.beginTrain; apply State.setPort_kept; apply State.setRegN_kept; assumption

theorem execPortTrain_kept {s₀ s : State} (h : Kept s₀ s) (p : PortIx) :
    KeptOut s₀ (execPortTrain p s) := by
  unfold execPortTrain; apply KeptOut.next; apply Kept.ite; apply State.beginTrain_kept; assumption; assumption

theorem execTrainRateStep_kept {s₀ s : State} (h : Kept s₀ s) (p : PortIx) :
    KeptOut s₀ (execTrainRateStep p s) := by
  unfold execTrainRateStep; apply KeptOut.next; apply Kept.ite; apply Kept.ite; apply State.setField_kept
  assumption; apply State.portIdle_kept; assumption; assumption

theorem State.sendJoin_kept {s₀ s : State} (h : Kept s₀ s) (p : Nat) :
    Kept s₀ (State.sendJoin s p) := by
  unfold State.sendJoin; apply Kept.ite; dsimp only; split; apply State.queueFlit_kept; assumption; apply Kept.upd
  assumption; assumption

theorem State.portUp_kept {s₀ s : State} (h : Kept s₀ s) (p : Nat) (adv : List Nat) :
    Kept s₀ (State.portUp s p adv) := by
  unfold State.portUp; apply State.sendJoin_kept; apply State.setPort_kept; apply State.setField_kept
  apply State.setPstate_kept; assumption

theorem execLanesLocked_kept {s₀ s : State} (h : Kept s₀ s) (p : PortIx) :
    KeptOut s₀ (execLanesLocked p s) := by
  unfold execLanesLocked; apply KeptOut.next; apply Kept.ite; apply Kept.ite; apply State.setField_kept
  apply State.setPstate_kept; apply State.setField_kept; assumption; apply State.setField_kept; assumption
  apply Kept.ite; apply State.setPort_kept; apply State.setPstate_kept; apply State.setField_kept
  apply State.setField_kept; assumption; assumption

theorem execTrainFlitTx_kept {s₀ s : State} (h : Kept s₀ s) (p : PortIx) :
    KeptOut s₀ (execTrainFlitTx p s) := by
  unfold execTrainFlitTx; apply KeptOut.next; apply Kept.ite; apply State.sendLink_kept; apply State.setPort_kept
  assumption; assumption

theorem State.trainFail_kept {s₀ s : State} (h : Kept s₀ s) (p : Nat) (code : Nat) :
    Kept s₀ (State.trainFail s p code) := by
  unfold State.trainFail; apply State.logCorr_kept; apply State.portIdle_kept; assumption

theorem State.trainDecide_kept {s₀ s : State} (h : Kept s₀ s) (p : Nat) (r : Bytes) :
    Kept s₀ (State.trainDecide s p r) := by
  unfold State.trainDecide; apply Kept.ite; apply State.trainFail_kept; apply State.setField_kept
  apply State.setRegN_kept; apply State.setRegN_kept; assumption; apply Kept.ite; apply State.trainFail_kept
  apply State.setField_kept; apply State.setRegN_kept; apply State.setRegN_kept; assumption; apply Kept.ite
  apply State.trainFail_kept; apply State.setField_kept; apply State.setRegN_kept; apply State.setRegN_kept
  assumption; apply State.portUp_kept; apply State.setField_kept; apply State.setRegN_kept; apply State.setRegN_kept
  assumption

theorem execTrainFlitRx_kept {s₀ s : State} (h : Kept s₀ s) (p : PortIx) (b : Bytes) (acks : Bool) :
    KeptOut s₀ (execTrainFlitRx p b acks s) := by
  unfold execTrainFlitRx; apply KeptOut.next; apply Kept.ite; assumption; apply Kept.ite; apply State.viol_kept
  assumption; apply Kept.ite; apply State.viol_kept; assumption; apply Kept.ite; apply Kept.ite
  apply State.trainDecide_kept; apply State.setPort_kept; assumption; apply State.setPort_kept; assumption; assumption

theorem execTrainTimeout_kept {s₀ s : State} (h : Kept s₀ s) (p : PortIx) :
    KeptOut s₀ (execTrainTimeout p s) := by
  unfold execTrainTimeout; apply KeptOut.next; apply Kept.ite; apply State.portIdle_kept; assumption; assumption

theorem State.beginRetrain_kept {s₀ s : State} (h : Kept s₀ s) (p : Nat) :
    Kept s₀ (State.beginRetrain s p) := by
  unfold State.beginRetrain; apply State.ev_kept; apply State.bump_kept; apply State.setField_kept
  apply State.setField_kept; apply State.setPstate_kept; assumption

theorem execReplayExhausted_kept {s₀ s : State} (h : Kept s₀ s) (p : PortIx) :
    KeptOut s₀ (execReplayExhausted p s) := by
  unfold execReplayExhausted; apply KeptOut.next; apply Kept.ite; apply State.beginRetrain_kept; assumption
  assumption

theorem execFecLockLoss_kept {s₀ s : State} (h : Kept s₀ s) (p : PortIx) :
    KeptOut s₀ (execFecLockLoss p s) := by
  unfold execFecLockLoss; apply KeptOut.next; apply Kept.ite; apply State.beginRetrain_kept; assumption; assumption

theorem execSlnkRetrainWrite_kept {s₀ s : State} (h : Kept s₀ s) (p : PortIx) :
    KeptOut s₀ (execSlnkRetrainWrite p s) := by
  unfold execSlnkRetrainWrite; apply KeptOut.next; apply Kept.ite; apply State.beginRetrain_kept; assumption
  assumption

theorem execPortRetrain_kept {s₀ s : State} (h : Kept s₀ s) (p : PortIx) :
    KeptOut s₀ (execPortRetrain p s) := by
  unfold execPortRetrain; apply KeptOut.next; apply Kept.ite; apply State.beginRetrain_kept; assumption; assumption

theorem execSlnkQuarClr_kept {s₀ s : State} (h : Kept s₀ s) (p : PortIx) :
    KeptOut s₀ (execSlnkQuarClr p s) := by
  unfold execSlnkQuarClr; apply KeptOut.next; apply Kept.ite; apply Kept.ite; apply State.beginTrain_kept
  assumption; apply State.portIdle_kept; assumption; assumption

theorem execSlnkNodeWrite_kept {s₀ s : State} (h : Kept s₀ s) (v : BitVec 15) :
    KeptOut s₀ (execSlnkNodeWrite v s) := by
  unfold execSlnkNodeWrite; apply KeptOut.next; apply Kept.ite; apply State.setRegN_kept; assumption
  apply State.logCorr_kept; assumption

theorem execSlnkRouteReload_kept {s₀ s : State} (h : Kept s₀ s)  :
    KeptOut s₀ (execSlnkRouteReload s) := by
  unfold execSlnkRouteReload; apply KeptOut.next; apply Kept.upd; assumption

end Sys2Proof.Machine
end

