-- ==== Sys2Proof/Laws/KeptTick.lean ====
section
/-!
SUPPORT. Laws/KeptTick.lean: the operations of Machine/Tick.lean lead only to states that keep what Laws/Kept.lean names.
-/
namespace Sys2Proof.Machine

theorem State.setTickStat_kept {s₀ s : State} (h : Kept s₀ s) (i : Nat) (v : Bool) :
    Kept s₀ (State.setTickStat s i v) := by
  unfold State.setTickStat; apply State.setField_kept; assumption

theorem State.tideMark_kept {s₀ s : State} (h : Kept s₀ s)  :
    Kept s₀ (State.tideMark s) := by
  unfold State.tideMark; apply Kept.foldl; (intro _; intros; try dsimp only); apply State.sendJoin_kept; assumption
  apply Kept.upd; assumption

theorem State.addStretch_kept {s₀ s : State} (h : Kept s₀ s)  :
    Kept s₀ (State.addStretch s) := by
  unfold State.addStretch; apply State.bump64_kept; apply Kept.upd; assumption

theorem State.gridUp_kept {s₀ s : State} (h : Kept s₀ s)  :
    Kept s₀ (State.gridUp s) := by
  unfold State.gridUp; apply Kept.ite; apply State.tideMark_kept; apply State.setRegN_kept; assumption
  apply State.setRegN_kept; assumption

theorem State.tickEvent_kept {s₀ s : State} (h : Kept s₀ s) (code : Nat) :
    Kept s₀ (State.tickEvent s code) := by
  unfold State.tickEvent; apply State.logCorr_kept; apply State.bump_kept; assumption

theorem State.setNow_kept {s₀ s : State} (h : Kept s₀ s) (n : Nat) :
    Kept s₀ (State.setNow s n) := by
  unfold State.setNow; apply State.setRegN_kept; apply State.setRegN_kept; assumption

theorem execTmarkPulse_kept {s₀ s : State} (h : Kept s₀ s) (width : Nat) (onGrid : Bool) :
    KeptOut s₀ (execTmarkPulse width onGrid s) := by
  unfold execTmarkPulse; apply KeptOut.next; apply Kept.ite; assumption; apply Kept.ite; apply State.tickEvent_kept
  assumption; apply Kept.ite; apply Kept.ite; apply State.gridUp_kept; apply Kept.upd; assumption
  apply State.logErr_kept; apply Kept.upd; assumption; apply Kept.ite; apply Kept.ite; apply State.tickEvent_kept
  apply State.gridUp_kept; apply Kept.upd; assumption; apply State.gridUp_kept; apply Kept.upd; assumption
  apply State.tickEvent_kept; apply State.gridUp_kept; apply Kept.upd; assumption

theorem execTmarkMissing_kept {s₀ s : State} (h : Kept s₀ s)  :
    KeptOut s₀ (execTmarkMissing s) := by
  unfold execTmarkMissing; apply KeptOut.next; apply Kept.ite; apply State.tickEvent_kept; apply State.gridUp_kept
  apply Kept.upd; assumption; assumption

theorem execTmarkMissLimit_kept {s₀ s : State} (h : Kept s₀ s)  :
    KeptOut s₀ (execTmarkMissLimit s) := by
  unfold execTmarkMissLimit; apply KeptOut.next; apply Kept.ite; apply State.logErr_kept; assumption; assumption

theorem State.loadJoin_kept {s₀ s : State} (h : Kept s₀ s) (j : JoinRec) :
    Kept s₀ (State.loadJoin s j) := by
  unfold State.loadJoin; apply State.setTickStat_kept; apply State.bump64_kept; apply Kept.upd
  apply State.setNow_kept; apply State.setRegN_kept; assumption

theorem execGridLock_kept {s₀ s : State} (h : Kept s₀ s)  :
    KeptOut s₀ (execGridLock s) := by
  unfold execGridLock; apply KeptOut.next; apply Kept.ite; assumption; apply Kept.ite; apply State.tideMark_kept
  apply State.setTickStat_kept; apply State.setTickStat_kept; apply Kept.upd; apply State.setNow_kept
  apply State.setRegN_kept; assumption; split; assumption; apply State.tideMark_kept; apply State.setTickStat_kept
  apply State.setTickStat_kept; apply State.loadJoin_kept; assumption

theorem execTlateSample_kept {s₀ s : State} (h : Kept s₀ s) (cycle : Nat) (low : Bool) :
    KeptOut s₀ (execTlateSample cycle low s) := by
  unfold execTlateSample; apply KeptOut.next; apply Kept.ite; assumption; apply Kept.ite; apply Kept.ite
  apply Kept.ite; assumption; apply Kept.foldl; (intro _; intros; try dsimp only); apply Kept.ite; assumption
  apply State.setPort_kept; assumption; apply Kept.ite; apply State.bump64_kept; apply State.addStretch_kept
  apply Kept.upd; assumption; apply State.govCredit_kept; apply State.bump64_kept; apply State.addStretch_kept
  apply Kept.upd; assumption; apply State.bump_kept; assumption; apply Kept.ite; assumption
  apply State.tickEvent_kept; apply Kept.upd; assumption

theorem execTickCopyCompare_kept {s₀ s : State} (h : Kept s₀ s) (grid : DWord) (now : DWord) (phase : Nat) :
    KeptOut s₀ (execTickCopyCompare grid now phase s) := by
  unfold execTickCopyCompare; apply KeptOut.next; apply Kept.ite; assumption; apply Kept.ite; assumption
  apply State.logErr_kept; assumption

theorem execTickSourceLoss_kept {s₀ s : State} (h : Kept s₀ s)  :
    KeptOut s₀ (execTickSourceLoss s) := by
  unfold execTickSourceLoss; apply KeptOut.next; apply Kept.ite; apply State.logErr_kept; assumption; apply Kept.upd
  assumption

theorem execTickFailover_kept {s₀ s : State} (h : Kept s₀ s)  :
    KeptOut s₀ (execTickFailover s) := by
  unfold execTickFailover; apply KeptOut.next; apply Kept.ite; apply State.logCorr_kept
  apply State.setTickStat_kept; apply State.setTickStat_kept; apply Kept.upd; assumption; assumption

theorem execTickLockWaitTimeout_kept {s₀ s : State} (h : Kept s₀ s)  :
    KeptOut s₀ (execTickLockWaitTimeout s) := by
  unfold execTickLockWaitTimeout; apply KeptOut.next; apply Kept.ite; assumption; apply Kept.ite
  apply State.setPwrStat_kept; apply Kept.upd; apply State.logErr_kept; assumption; apply State.logErr_kept
  assumption

theorem State.checked_kept {s₀ s : State} (h : Kept s₀ s) (p : Nat) (bad : Bool) :
    Kept s₀ (State.checked s p bad) := by
  unfold State.checked; apply Kept.ite; apply State.logCorr_kept; apply Kept.upd; assumption; apply Kept.upd
  assumption

theorem State.notePeer_kept {s₀ s : State} (h : Kept s₀ s) (p : Nat) (rooted : Bool) :
    Kept s₀ (State.notePeer s p rooted) := by
  unfold State.notePeer; apply Kept.upd; assumption

theorem execTideRecordRx_kept {s₀ s : State} (h : Kept s₀ s) (p : PortIx) :
    KeptOut s₀ (execTideRecordRx p s) := by
  unfold execTideRecordRx; apply KeptOut.next; dsimp only; split; assumption; apply Kept.ite; apply State.viol_kept
  refine State.takeRx_kept (by assumption) ?_; assumption; apply Kept.ite; apply State.checked_kept
  apply State.notePeer_kept; refine State.takeRx_kept (by assumption) ?_; assumption; apply State.notePeer_kept
  refine State.takeRx_kept (by assumption) ?_; assumption

theorem execJoinRecordRx_kept {s₀ s : State} (h : Kept s₀ s) (p : PortIx) :
    KeptOut s₀ (execJoinRecordRx p s) := by
  unfold execJoinRecordRx; apply KeptOut.next; dsimp only; split; assumption; split; apply State.viol_kept
  refine State.takeRx_kept (by assumption) ?_; assumption; apply Kept.ite; apply Kept.upd; apply State.notePeer_kept
  refine State.takeRx_kept (by assumption) ?_; assumption; apply Kept.ite; apply State.notePeer_kept
  refine State.takeRx_kept (by assumption) ?_; assumption; apply Kept.ite; apply State.checked_kept
  apply State.notePeer_kept; refine State.takeRx_kept (by assumption) ?_; assumption; apply Kept.ite; apply Kept.upd
  apply State.notePeer_kept; refine State.takeRx_kept (by assumption) ?_; assumption; apply State.notePeer_kept
  refine State.takeRx_kept (by assumption) ?_; assumption

theorem execTickRejoin_kept {s₀ s : State} (h : Kept s₀ s)  :
    KeptOut s₀ (execTickRejoin s) := by
  unfold execTickRejoin; apply KeptOut.next; split; assumption; apply Kept.ite; apply State.logCorr_kept
  apply State.setTickStat_kept; apply State.loadJoin_kept; assumption; assumption

theorem execTickCfgWrite_kept {s₀ s : State} (h : Kept s₀ s) (v : Word) :
    KeptOut s₀ (execTickCfgWrite v s) := by
  unfold execTickCfgWrite; apply KeptOut.next; apply Kept.ite; apply State.logCorr_kept; apply Kept.upd; assumption
  apply Kept.upd; assumption

theorem execTickCfgApply_kept {s₀ s : State} (h : Kept s₀ s)  :
    KeptOut s₀ (execTickCfgApply s) := by
  unfold execTickCfgApply; apply KeptOut.next; dsimp only; split; assumption; apply Kept.ite
  apply State.setTickStat_kept; apply State.setRegN_kept; apply Kept.upd; assumption; apply State.logCorr_kept
  apply Kept.upd; assumption

end Sys2Proof.Machine
end

