-- ==== Sys2Proof/Laws/KeptRouting.lean ====
section
/-!
SUPPORT. Laws/KeptRouting.lean: the operations of Machine/Routing.lean lead only to states that keep what Laws/Kept.lean names.
-/
namespace Sys2Proof.Machine

theorem State.routeFlit_kept {s₀ s : State} (h : Kept s₀ s) (typ : Nat) (payload : Bytes) (owner : Option (Nat × Nat)) :
    Kept s₀ (State.routeFlit s typ payload owner).1 := by
  unfold State.routeFlit; split; dsimp only; apply State.queueFlit_kept; assumption; dsimp only; assumption

theorem State.msgDone_kept {s₀ s : State} (h : Kept s₀ s) (m : PeerMsg) :
    Kept s₀ (State.msgDone s m) := by
  unfold State.msgDone; dsimp only; split; split; apply State.opDone_kept; apply State.moved_kept; apply Kept.upd
  assumption; apply Kept.upd; assumption; apply State.endItem_kept; apply State.updCmd_kept; apply Kept.upd
  assumption; apply Kept.ite; apply Kept.upd; assumption; apply State.updCmd_kept; apply Kept.upd; assumption

theorem State.msgFail_kept {s₀ s : State} (h : Kept s₀ s) (m : PeerMsg) (kind : Nat) :
    Kept s₀ (State.msgFail s m kind) := by
  unfold State.msgFail; dsimp only; split; split; apply Kept.ite; apply State.ferryErr_kept; apply Kept.upd
  assumption; apply Kept.ite; apply State.ferryErr_kept; apply Kept.upd; assumption; apply State.opFail_kept
  apply State.failItem_kept; apply Kept.upd; assumption; apply State.failItem_kept; apply Kept.upd; assumption
  apply State.endItem_kept; apply State.failItem_kept; apply Kept.upd; assumption; apply State.failItem_kept
  apply Kept.upd; assumption

theorem State.takeRack_kept {s₀ s : State} (h : Kept s₀ s) (node : Nat) (msg : Nat) (kind : Nat) :
    Kept s₀ (State.takeRack s node msg kind) := by
  unfold State.takeRack; split; apply Kept.ite; apply State.msgDone_kept; assumption; apply State.msgFail_kept
  assumption; assumption

theorem State.sendRack_kept {s₀ s : State} (h : Kept s₀ s) (node : Nat) (msg : Nat) (addr : Nat) (kind : Nat) :
    Kept s₀ (State.sendRack s node msg addr kind) := by
  unfold State.sendRack; apply Kept.ite; apply State.takeRack_kept; assumption; apply State.routeFlit_kept; assumption

theorem State.sendRouted_kept {s₀ s : State} (h : Kept s₀ s) (typ : Nat) (payload : Bytes) (owner : Option (Nat × Nat)) :
    Kept s₀ (State.sendRouted s typ payload owner) := by
  unfold State.sendRouted; apply Kept.ite; apply State.routeFlit_kept; assumption; apply Kept.ite
  apply State.logCorr_kept; assumption; apply State.takeRack_kept; apply State.logCorr_kept; assumption

theorem State.forward_kept {s₀ s : State} (h : Kept s₀ s) (p : Nat) (typ : Nat) (b : Bytes) :
    Kept s₀ (State.forward s p typ b) := by
  unfold State.forward; apply Kept.ite; split; assumption; apply State.routeFlit_kept; assumption; apply Kept.ite
  assumption; apply State.sendRack_kept; apply State.logCorr_kept; assumption

theorem State.newMsg_kept {s₀ s : State} (h : Kept s₀ s) (node : Nat) (use : PeerUse) (cmd : Nat) (item : Nat) (remote : Nat) (localAddr : Nat) (len : Nat) (write : Bool) :
    Kept s₀ (State.newMsg s node use cmd item remote localAddr len write).1 := by
  unfold State.newMsg; dsimp only; apply Kept.upd; assumption

theorem State.sendRead_kept {s₀ s : State} (h : Kept s₀ s) (m : PeerMsg) :
    Kept s₀ (State.sendRead s m) := by
  unfold State.sendRead; apply State.sendRouted_kept; assumption

theorem State.sendWrite_kept {s₀ s : State} (h : Kept s₀ s) (m : PeerMsg) (tagw : Bool) (data : Bytes) :
    Kept s₀ (State.sendWrite s m tagw data) := by
  unfold State.sendWrite; apply Kept.foldl; (intro _; intros; try dsimp only); apply State.sendRouted_kept
  assumption; assumption

theorem State.serveRead_kept {s₀ s : State} (h : Kept s₀ s) (a : Nat) (n : Nat) :
    Kept s₀ (State.serveRead s a n).1 := by
  unfold State.serveRead; dsimp only; split; dsimp only; assumption; split; dsimp only; apply State.tagsChecked_kept
  apply State.homeRead_kept; assumption; split; dsimp only; apply State.tagsChecked_kept; apply State.homeRead_kept
  assumption; dsimp only; apply State.logErr_kept; apply State.setRegN_kept; apply State.setRegN_kept
  apply State.bump_kept; apply State.refetchTag_kept; apply State.tagsChecked_kept; apply State.homeRead_kept
  assumption

theorem State.routedHere_kept {s₀ s : State} (h : Kept s₀ s) (p : Nat) (typ : Nat) (b : Bytes) :
    Kept s₀ (State.routedHere s p typ b).1 := by
  unfold State.routedHere; dsimp only; split; dsimp only; apply State.sendRack_kept; apply State.viol_kept
  apply Kept.ite; apply State.rsvd_kept; assumption; assumption; split; split; dsimp only; apply State.rsvd_kept
  assumption; dsimp only; apply State.forward_kept; apply State.rsvd_kept; assumption; split; dsimp only; assumption
  dsimp only; apply State.forward_kept; assumption

theorem execRreqRx_kept {s₀ s : State} (h : Kept s₀ s) (p : PortIx) :
    KeptOut s₀ (execRreqRx p s) := by
  unfold execRreqRx; apply KeptOut.next; dsimp only; split; assumption; apply Kept.ite; assumption; apply Kept.ite
  apply State.routedHere_kept; refine State.takeRx_kept (by assumption) ?_; assumption; split
  apply State.sendRack_kept; apply State.serveRead_kept; apply State.routedHere_kept
  refine State.takeRx_kept (by assumption) ?_; assumption; apply Kept.foldl; (intro _; intros; try dsimp only)
  apply State.sendRouted_kept; assumption; apply State.serveRead_kept; apply State.routedHere_kept
  refine State.takeRx_kept (by assumption) ?_; assumption

theorem State.takeAnswer_kept {s₀ s : State} (h : Kept s₀ s) (m : PeerMsg) (addr : Nat) (data : Bytes) :
    Kept s₀ (State.takeAnswer s m addr data) := by
  unfold State.takeAnswer; apply Kept.ite; apply State.msgDone_kept; apply Kept.upd; split; apply Kept.upd
  assumption; apply State.wrBytes_kept; apply State.homeWrite_kept; assumption; apply Kept.upd; split
  apply Kept.upd; assumption; apply State.wrBytes_kept; apply State.homeWrite_kept; assumption

theorem State.finishIn_kept {s₀ s : State} (h : Kept s₀ s) (m : InMsg) (addr : Nat) :
    Kept s₀ (State.finishIn s m addr) := by
  unfold State.finishIn; dsimp only; split; apply State.sendRack_kept; assumption; apply Kept.ite
  apply State.sendRack_kept; assumption; split; apply State.sendRack_kept; apply State.logErr_kept
  apply State.setRegN_kept; apply State.setRegN_kept; assumption; apply State.sendRack_kept; apply Kept.ite
  apply State.tagRanges_kept; apply Kept.foldl; (intro _; intros; try dsimp only); apply State.wrBytes_kept
  assumption; apply State.homeWrite_kept; assumption; apply Kept.foldl; (intro _; intros; try dsimp only)
  apply State.wrBytes_kept; assumption; apply State.homeWrite_kept; assumption

theorem State.takeBulk_kept {s₀ s t : State} {p : Nat} {f : RxFlit} (e : s.takeBulk p = some (f, t)) (h : Kept s₀ s) :
    Kept s₀ t :=
  State.takeRx_kept (Option.filter_eq_some_iff.mp e).1 h

theorem execBulkRx_kept {s₀ s : State} (h : Kept s₀ s) (p : PortIx) :
    KeptOut s₀ (execBulkRx p s) := by
  unfold execBulkRx; apply KeptOut.next; dsimp only; split; assumption; apply Kept.ite; apply State.routedHere_kept
  apply Kept.ite; apply State.logErr_kept; apply State.violCount_kept; refine State.takeBulk_kept (by assumption) ?_
  assumption; refine State.takeBulk_kept (by assumption) ?_; assumption; split; apply Kept.ite
  apply State.msgFail_kept; apply State.routedHere_kept; apply Kept.ite; apply State.logErr_kept
  apply State.violCount_kept; refine State.takeBulk_kept (by assumption) ?_; assumption
  refine State.takeBulk_kept (by assumption) ?_; assumption; apply State.takeAnswer_kept
  apply State.routedHere_kept; apply Kept.ite; apply State.logErr_kept; apply State.violCount_kept
  refine State.takeBulk_kept (by assumption) ?_; assumption; refine State.takeBulk_kept (by assumption) ?_
  assumption; apply Kept.ite; apply State.finishIn_kept; apply Kept.upd; apply State.routedHere_kept; apply Kept.ite
  apply State.logErr_kept; apply State.violCount_kept; refine State.takeBulk_kept (by assumption) ?_; assumption
  refine State.takeBulk_kept (by assumption) ?_; assumption; apply Kept.upd; apply State.routedHere_kept
  apply Kept.ite; apply State.logErr_kept; apply State.violCount_kept; refine State.takeBulk_kept (by assumption) ?_
  assumption; refine State.takeBulk_kept (by assumption) ?_; assumption

theorem execRackRx_kept {s₀ s : State} (h : Kept s₀ s) (p : PortIx) :
    KeptOut s₀ (execRackRx p s) := by
  unfold execRackRx; apply KeptOut.next; dsimp only; split; assumption; apply Kept.ite; apply State.takeRack_kept
  apply State.routedHere_kept; refine State.takeRx_kept (by assumption) ?_; assumption; apply State.routedHere_kept
  refine State.takeRx_kept (by assumption) ?_; assumption

theorem execSlMsgTimeout_kept {s₀ s : State} (h : Kept s₀ s) (msg : Nat) :
    KeptOut s₀ (execSlMsgTimeout msg s) := by
  unfold execSlMsgTimeout; apply KeptOut.next; dsimp only; split; assumption; apply Kept.ite; split; split
  apply State.opFail_kept; apply Kept.upd; apply State.itemErrAt_kept; assumption; apply Kept.upd
  apply State.itemErrAt_kept; assumption; apply State.endItem_kept; apply Kept.upd; apply State.itemErrAt_kept
  assumption; apply Kept.upd; apply State.itemErrAt_kept; assumption; assumption

theorem State.sendVoid_kept {s₀ s : State} (h : Kept s₀ s) (x : LSlot) :
    Kept s₀ (State.sendVoid s x) := by
  unfold State.sendVoid; apply Kept.ite; assumption; apply State.queueFlit_kept; assumption

theorem State.linkLost_kept {s₀ s : State} (h : Kept s₀ s) (c : Nat) (o : SlotOp) :
    Kept s₀ (State.linkLost s c o) := by
  unfold State.linkLost; apply State.opFail_kept; apply State.failItem_kept; assumption

theorem execLinkSend_kept {s₀ s : State} (h : Kept s₀ s) (c : CoreIx) :
    KeptOut s₀ (execLinkSend c s) := by
  unfold execLinkSend; apply KeptOut.next; dsimp only; split; assumption; apply Kept.ite; apply State.linkLost_kept
  assumption; split; apply State.opFail_kept; apply State.landUE_kept; assumption; apply State.putOp_kept
  apply State.moved_kept; apply State.queueFlit_kept; assumption

theorem State.landSdata_kept {s₀ s : State} (h : Kept s₀ s) (c : Nat) (o : SlotOp) (b : Bytes) :
    Kept s₀ (State.landSdata s c o b).1 := by
  unfold State.landSdata; dsimp only; split; dsimp only; apply State.putOp_kept; apply Kept.ite
  apply State.rsvd_kept; assumption; assumption; split; dsimp only; apply State.opFail_kept; apply State.moved_kept
  apply State.lbWr_kept; apply State.itemErr_kept; apply State.violCount_kept; apply Kept.ite; apply State.rsvd_kept
  assumption; assumption; dsimp only; apply State.putOp_kept; apply State.moved_kept; apply State.lbWr_kept
  apply Kept.ite; apply State.rsvd_kept; assumption; assumption

theorem execSdataRx_kept {s₀ s : State} (h : Kept s₀ s) (p : PortIx) :
    KeptOut s₀ (execSdataRx p s) := by
  unfold execSdataRx; apply KeptOut.next; split; assumption; split; assumption; apply State.landSdata_kept
  apply State.dropRx_kept; assumption

theorem State.landHeld_kept {s₀ : State} (c : Nat) :
    ∀ (l : List RxFlit) (o : SlotOp) {s : State} (_ : Kept s₀ s), Kept s₀ (State.landHeld c l s o)
  | [], _, _, h => h
  | fl :: fs, o, s, h => by
    unfold State.landHeld
    apply Kept.ite; assumption; apply Kept.ite; dsimp only; apply State.landHeld_kept; apply State.landSdata_kept
    apply State.dropRx_kept; assumption; apply State.landHeld_kept; assumption

theorem execLinkRecv_kept {s₀ s : State} (h : Kept s₀ s) (c : CoreIx) :
    KeptOut s₀ (execLinkRecv c s) := by
  unfold execLinkRecv; apply KeptOut.next; dsimp only; split; assumption; apply Kept.ite; apply State.linkLost_kept
  assumption; apply State.landHeld_kept; apply State.putOp_kept; assumption

theorem execSlNoRecv_kept {s₀ s : State} (h : Kept s₀ s) (p : PortIx) :
    KeptOut s₀ (execSlNoRecv p s) := by
  unfold execSlNoRecv; apply KeptOut.next; split; assumption; apply State.logCorr_kept; apply State.dropRx_kept
  assumption

theorem execMgmtFlitRx_kept {s₀ s : State} (h : Kept s₀ s) (p : PortIx) :
    KeptOut s₀ (execMgmtFlitRx p s) := by
  unfold execMgmtFlitRx; apply KeptOut.next; split; assumption; apply Kept.ite
  refine State.takeRx_kept (by assumption) ?_; assumption; apply Kept.ite; apply State.viol_kept
  refine State.takeRx_kept (by assumption) ?_; assumption; apply Kept.upd
  refine State.takeRx_kept (by assumption) ?_; assumption

theorem State.sendFrame_kept {s₀ s : State} (h : Kept s₀ s) (p : Nat) (ackOnly : Bool) (f : EthFrame) :
    Kept s₀ (State.sendFrame s p ackOnly f) := by
  unfold State.sendFrame; apply State.send_kept; assumption

theorem State.grantFrame_kept {s₀ s : State} (h : Kept s₀ s) (p : Nat) :
    Kept s₀ (State.grantFrame s p) := by
  unfold State.grantFrame; dsimp only; split; assumption; apply Kept.ite; apply State.setPort_kept; assumption
  apply State.bump64_kept; apply State.sendFrame_kept; apply State.setPort_kept; apply State.setPort_kept; assumption

theorem execFlitGrant_kept {s₀ s : State} (h : Kept s₀ s) (p : PortIx) :
    KeptOut s₀ (execFlitGrant p s) := by
  unfold execFlitGrant; apply KeptOut.next; apply Kept.ite; assumption; apply Kept.ite; apply State.grantFrame_kept
  assumption; apply State.grantNext_kept; assumption

theorem State.takeFlits_kept {s₀ : State} (p : Nat) :
    ∀ (l : List Bytes) {s : State} (_ : Kept s₀ s), Kept s₀ (s.takeFlits p l)
  | [], _, h => h
  | b :: bs, s, h => by
    unfold State.takeFlits
    dsimp only; split; apply State.takeFlits_kept; apply State.bump64_kept; apply State.setPort_kept; assumption
    apply State.takeFlits_kept; apply State.viol_kept; assumption

theorem execEthFrameRx_kept {s₀ s : State} (h : Kept s₀ s) (p : PortIx) (b : Bytes) :
    KeptOut s₀ (execEthFrameRx p b s) := by
  unfold execEthFrameRx; apply KeptOut.next; apply Kept.ite; assumption; apply Kept.ite; apply State.setPort_kept
  assumption; apply State.sendFrame_kept; apply State.setPort_kept; apply State.takeFlits_kept
  apply State.setPort_kept; assumption

theorem execEthFrameResend_kept {s₀ s : State} (h : Kept s₀ s) (p : PortIx) :
    KeptOut s₀ (execEthFrameResend p s) := by
  unfold execEthFrameResend; apply KeptOut.next; apply Kept.ite; apply Kept.foldl; (intro _; intros; try dsimp only)
  apply State.sendFrame_kept; assumption; assumption; assumption

end Sys2Proof.Machine
end

