-- ==== Sys2Proof/Laws/KeptFerry.lean ====
section
/-!
SUPPORT. Laws/KeptFerry.lean: the operations of Machine/Ferry.lean lead only to states that keep what Laws/Kept.lean names.
-/
namespace Sys2Proof.Machine

theorem State.noteEnq_kept {s₀ s : State} (h : Kept s₀ s) (c : Nat) (i : Nat) (u : Nat) :
    Kept s₀ (State.noteEnq s c i u) := by
  unfold State.noteEnq; dsimp only; split; apply State.setCore_kept; assumption; assumption

theorem execFerryEnqueue_kept {s₀ s : State} (h : Kept s₀ s) (c : CoreIx) (f : FerryIx) :
    KeptOut s₀ (execFerryEnqueue c f s) := by
  unfold execFerryEnqueue; apply KeptOut.next; dsimp only; split; assumption; split; assumption; apply Kept.ite
  assumption; apply Kept.ite; apply Kept.ite; apply State.sendVoid_kept; apply State.postSlot_kept
  apply State.noteEnq_kept; assumption; apply Kept.ite; apply State.setFq_kept; apply State.useSlots_kept
  apply State.postSlot_kept; apply State.noteEnq_kept; assumption; apply State.postSlot_kept
  apply State.noteEnq_kept; assumption; apply Kept.ite; assumption; apply Kept.ite; apply State.postSlot_kept
  apply State.itemErr_kept; apply State.noteEnq_kept; assumption; apply State.setFq_kept; apply State.useSlots_kept
  apply State.noteEnq_kept; assumption

theorem execFerryOpStart_kept {s₀ s : State} (h : Kept s₀ s) (c : CoreIx) (f : FerryIx) :
    KeptOut s₀ (execFerryOpStart c f s) := by
  unfold execFerryOpStart; apply KeptOut.next; split; assumption; apply Kept.ite; assumption; apply State.putOp_kept
  assumption

theorem State.logDown_kept {s₀ s : State} (h : Kept s₀ s) (a : Nat) :
    Kept s₀ (State.logDown s a) := by
  unfold State.logDown; apply State.logAddr_kept; assumption

theorem State.engineRead_kept {s₀ s : State} (h : Kept s₀ s) (a : Nat) (n : Nat) :
    Kept s₀ (State.engineRead s a n).1 := by
  unfold State.engineRead; split; dsimp only; apply State.logDown_kept; assumption; dsimp only
  apply State.homeRead_kept; assumption

theorem State.viaPort_kept {s₀ s : State} (h : Kept s₀ s) (cmd : Nat) (p : Nat) (a : Nat) (n : Nat) :
    Kept s₀ (State.viaPort s cmd p a n) := by
  unfold State.viaPort; apply State.updCmd_kept; apply State.send_kept; assumption

theorem State.hostWrote_kept {s₀ s : State} (h : Kept s₀ s) (cmd : Nat) (a : Nat) (n : Nat) :
    Kept s₀ (State.hostWrote s cmd a n) := by
  unfold State.hostWrote; split; apply State.viaPort_kept; assumption; apply State.viaPort_kept; assumption
  assumption

theorem State.engineWrite_kept {s₀ s : State} (h : Kept s₀ s) (cmd : Nat) (a : Nat) (b : Bytes) :
    Kept s₀ (State.engineWrite s cmd a b) := by
  unfold State.engineWrite; apply Kept.ite; apply State.logDown_kept; assumption; apply State.hostWrote_kept
  apply State.wrBytes_kept; apply State.homeWrite_kept; assumption

theorem State.fetch_kept {s₀ : State} (c f : Nat) (o : SlotOp) :
    ∀ (l : List (Nat × Nat)) {s : State} (_ : Kept s₀ s), Kept s₀ (State.fetch c f o l s).1
  | [], _, h => h
  | (a, n) :: rs, s, h => by
    unfold State.fetch
    dsimp only; split; apply State.fetch_kept; assumption; split; apply State.ferryErr_kept; assumption; split
    apply State.ferryErr_kept; apply State.logDown_kept; assumption; split; assumption; split
    apply State.poisonErr_kept; assumption; split; apply State.ferryErr_kept; assumption; apply State.putOp_kept
    assumption; apply State.fetch_kept; assumption

theorem State.landRow_kept {s₀ s : State} (h : Kept s₀ s) (c : Nat) (f : Nat) (o : SlotOp) (a : Nat) (n : Nat) (dst : Nat) :
    Kept s₀ (State.landRow s c f o a n dst).1 := by
  unfold State.landRow; dsimp only; split; split; dsimp only; apply State.ferryTagErr_kept; assumption; split
  dsimp only; refine Kept.fst_of (by assumption) ?_; apply State.fetch_kept; assumption; split; dsimp only
  apply State.expErr_kept; refine Kept.fst_of (by assumption) ?_; apply State.fetch_kept; assumption; split
  dsimp only; refine Kept.fst_of (by assumption) ?_; apply State.fetch_kept; refine Kept.fst_of (by assumption) ?_
  apply State.fetch_kept; assumption; dsimp only; refine Kept.fst_of (by assumption) ?_; apply State.fetch_kept
  refine Kept.fst_of (by assumption) ?_; apply State.fetch_kept; assumption; split; dsimp only
  refine Kept.fst_of (by assumption) ?_; apply State.fetch_kept; assumption; dsimp only; apply State.lbWr_kept
  refine Kept.fst_of (by assumption) ?_; apply State.fetch_kept; assumption

theorem State.landRows_kept {s₀ : State} (c f : Nat) (o : SlotOp) :
    ∀ (l : List (Nat × Nat × Nat)) (js : List ExpJob) {s : State} (_ : Kept s₀ s), Kept s₀ (State.landRows c f o l js s)
  | [], _, s, h => by
    unfold State.landRows
    apply State.putOp_kept; assumption
  | (a, n, d) :: rs, js, s, h => by
    unfold State.landRows
    split; refine Kept.fst_of (by assumption) ?_; apply State.landRow_kept; assumption; apply State.landRows_kept
    refine Kept.fst_of (by assumption) ?_; apply State.landRow_kept; assumption

theorem State.loadRows_kept {s₀ s : State} (h : Kept s₀ s) (c : Nat) (f : Nat) (o : SlotOp) (rows : List (Nat × Nat × Nat)) :
    Kept s₀ (State.loadRows s c f o rows) := by
  unfold State.loadRows; dsimp only; split; apply Kept.ite; apply State.ferryAccess_kept
  apply State.tagsChecked_kept; apply State.moved_kept; apply Kept.ite; apply State.ferryErr_kept; assumption
  apply State.landRows_kept; assumption; apply Kept.ite; apply State.ferryErr_kept; assumption
  apply State.landRows_kept; assumption; apply Kept.ite; apply State.ferryErr_kept; assumption
  apply State.landRows_kept; assumption

theorem execFerryCopyIn_kept {s₀ s : State} (h : Kept s₀ s) (c : CoreIx) (f : FerryIx) :
    KeptOut s₀ (execFerryCopyIn c f s) := by
  unfold execFerryCopyIn; apply KeptOut.next; split; assumption; apply State.loadRows_kept; assumption

theorem execFerryIndexIn_kept {s₀ s : State} (h : Kept s₀ s) (c : CoreIx) (f : FerryIx) :
    KeptOut s₀ (execFerryIndexIn c f s) := by
  unfold execFerryIndexIn; apply KeptOut.next; split; assumption; split; apply State.opFail_kept
  apply State.landUE_kept; assumption; apply State.loadRows_kept; assumption

theorem execFerryMxtIn_kept {s₀ s : State} (h : Kept s₀ s) (c : CoreIx) (f : FerryIx) :
    KeptOut s₀ (execFerryMxtIn c f s) := by
  unfold execFerryMxtIn; apply KeptOut.next; dsimp only; split; assumption; split
  refine Kept.fst_of (by assumption) ?_; apply State.fetch_kept; assumption; apply State.opDone_kept
  apply State.ferryAccess_kept; apply State.tagsChecked_kept; apply State.moved_kept; apply State.wrRows_kept
  refine Kept.fst_of (by assumption) ?_; apply State.fetch_kept; assumption

theorem State.winLand_kept {s₀ s : State} (h : Kept s₀ s) (c : Nat) (f : Nat) (o : SlotOp) (d : WinDesc) (rows : List (List (Option Nat))) :
    Kept s₀ (State.winLand s c f o d rows) := by
  unfold State.winLand; apply Kept.ite; apply State.ferryErr_kept; assumption; dsimp only; split
  refine Kept.fst_of (by assumption) ?_; apply State.fetch_kept; assumption; apply State.opDone_kept
  apply State.ferryAccess_kept; apply State.tagsChecked_kept; apply State.moved_kept; apply Kept.foldl
  (intro _; intros; try dsimp only); apply State.lbWr_kept; assumption; refine Kept.fst_of (by assumption) ?_
  apply State.fetch_kept; assumption

theorem State.winOp_kept {s₀ s : State} (h : Kept s₀ s) (c : Nat) (f : Nat) (op : Nat) (rows : WinDesc → List (List (Option Nat))) :
    Kept s₀ (State.winOp s c f op rows) := by
  unfold State.winOp; dsimp only; split; assumption; apply Kept.ite; assumption; split; apply State.opFail_kept
  apply State.landUE_kept; assumption; apply Kept.ite; apply State.ferryErr_kept; assumption; apply Kept.ite
  apply State.opDone_kept; apply State.updCmd_kept; assumption; apply Kept.ite; apply State.ferryErr_kept
  assumption; apply State.winLand_kept; assumption

theorem execFerryGather_kept {s₀ s : State} (h : Kept s₀ s) (c : CoreIx) (f : FerryIx) :
    KeptOut s₀ (execFerryGather c f s) := by
  unfold execFerryGather; apply KeptOut.next; apply State.winOp_kept; assumption

theorem execFerryGatherT_kept {s₀ s : State} (h : Kept s₀ s) (c : CoreIx) (f : FerryIx) :
    KeptOut s₀ (execFerryGatherT c f s) := by
  unfold execFerryGatherT; apply KeptOut.next; apply State.winOp_kept; assumption

theorem execFerryHalo_kept {s₀ s : State} (h : Kept s₀ s) (c : CoreIx) (f : FerryIx) :
    KeptOut s₀ (execFerryHalo c f s) := by
  unfold execFerryHalo; apply KeptOut.next; apply State.winOp_kept; assumption

theorem State.storeRow_kept {s₀ s : State} (h : Kept s₀ s) (c : Nat) (cmd : Nat) (l : Nat) (n : Nat) (a : Nat) :
    Kept s₀ (State.storeRow s c cmd l n a) := by
  unfold State.storeRow; apply Kept.ite; apply State.logDown_kept; assumption; apply State.hostWrote_kept
  apply State.wrBytes_kept; assumption

theorem State.storeRows_kept {s₀ s : State} (h : Kept s₀ s) (c : Nat) (f : Nat) (o : SlotOp) (rows : List (Nat × Nat × Nat)) :
    Kept s₀ (State.storeRows s c f o rows) := by
  unfold State.storeRows; dsimp only; split; apply State.opFail_kept; apply State.landUE_kept; assumption; split
  apply State.ferryErr_kept; assumption; split; apply State.ferryTagErr_kept; assumption; apply Kept.ite
  apply State.ferryErr_kept; assumption; apply Kept.ite; assumption; apply State.opDone_kept; apply State.moved_kept
  apply State.tagRanges_kept; apply Kept.foldl; (intro _; intros; try dsimp only); apply State.storeRow_kept
  assumption; apply State.ferryAccess_kept; assumption

theorem execFerryCopyOut_kept {s₀ s : State} (h : Kept s₀ s) (c : CoreIx) (f : FerryIx) :
    KeptOut s₀ (execFerryCopyOut c f s) := by
  unfold execFerryCopyOut; apply KeptOut.next; split; assumption; apply State.storeRows_kept; assumption

theorem execFerryIndexOut_kept {s₀ s : State} (h : Kept s₀ s) (c : CoreIx) (f : FerryIx) :
    KeptOut s₀ (execFerryIndexOut c f s) := by
  unfold execFerryIndexOut; apply KeptOut.next; split; assumption; split; apply State.opFail_kept
  apply State.landUE_kept; assumption; apply State.storeRows_kept; assumption

theorem State.setPont_kept {s₀ s : State} (h : Kept s₀ s) (k : Nat) (l : List PontCmd) :
    Kept s₀ (State.setPont s k l) := by
  unfold State.setPont; apply Kept.upd; assumption

theorem State.pfillOp_kept {s₀ s : State} (h : Kept s₀ s) (c : Nat) (f : Nat) (o : SlotOp) (x : FSlot) :
    Kept s₀ (State.pfillOp s c f o x) := by
  unfold State.pfillOp; dsimp only; split; apply State.ferryErr_kept; assumption; apply State.putOp_kept
  apply State.setPont_kept; assumption

theorem execFerryPfill_kept {s₀ s : State} (h : Kept s₀ s) (c : CoreIx) (f : FerryIx) :
    KeptOut s₀ (execFerryPfill c f s) := by
  unfold execFerryPfill; apply KeptOut.next; split; assumption; apply State.pfillOp_kept; assumption

theorem State.pontDone_kept {s₀ s : State} (h : Kept s₀ s) (k : Nat) (nbytes : Nat) (ns : Nat) :
    Kept s₀ (State.pontDone s k nbytes ns) := by
  unfold State.pontDone; apply State.setPont_kept; apply State.bump64_kept; apply State.bump64_kept
  apply State.bump64_kept; assumption

theorem State.fillWords_kept {s₀ : State} (p : Nat) :
    ∀ (n a : Nat) {s : State} (_ : Kept s₀ s), Kept s₀ (State.fillWords p n a s)
  | 0, _, _, h => h
  | n + 1, a, s, h => by
    unfold State.fillWords
    apply State.fillWords_kept; apply State.wrBytes_kept; assumption

theorem execPontFill_kept {s₀ s : State} (h : Kept s₀ s) (k : StackIx) :
    KeptOut s₀ (execPontFill k s) := by
  unfold execPontFill; apply KeptOut.next; dsimp only; split; apply Kept.ite; assumption; split
  apply State.opDone_kept; apply State.moved_kept; apply State.pontDone_kept; apply State.fillWords_kept
  apply State.homeRecall_kept; assumption; apply State.pontDone_kept; apply State.fillWords_kept
  apply State.homeRecall_kept; assumption; assumption

theorem execFerryPeerGet_kept {s₀ s : State} (h : Kept s₀ s) (c : CoreIx) (f : FerryIx) :
    KeptOut s₀ (execFerryPeerGet c f s) := by
  unfold execFerryPeerGet; apply KeptOut.next; dsimp only; split; assumption; apply Kept.ite; apply Kept.ite
  apply State.ferryErr_kept; assumption; apply State.loadRows_kept; assumption; apply State.sendRead_kept
  apply State.newMsg_kept; apply State.putOp_kept; assumption

theorem State.peerPutOp_kept {s₀ s : State} (h : Kept s₀ s) (c : Nat) (f : Nat) (o : SlotOp) (x : FSlot) :
    Kept s₀ (State.peerPutOp s c f o x) := by
  unfold State.peerPutOp; apply Kept.ite; apply Kept.ite; apply State.ferryErr_kept; assumption
  apply State.storeRows_kept; assumption; dsimp only; split; apply State.opFail_kept; apply State.landUE_kept
  assumption; apply State.sendWrite_kept; apply State.newMsg_kept; apply State.putOp_kept; assumption

theorem execFerryPeerPut_kept {s₀ s : State} (h : Kept s₀ s) (c : CoreIx) (f : FerryIx) :
    KeptOut s₀ (execFerryPeerPut c f s) := by
  unfold execFerryPeerPut; apply KeptOut.next; split; assumption; apply State.peerPutOp_kept; assumption

theorem State.takeEntry_kept {s₀ s : State} (h : Kept s₀ s) (c : Nat) (f : Nat) (o : SlotOp) (b : Bytes) :
    Kept s₀ (State.takeEntry s c f o b) := by
  unfold State.takeEntry; apply State.setFq_kept; assumption

theorem execFerryQrun_kept {s₀ s : State} (h : Kept s₀ s) (c : CoreIx) (f : FerryIx) :
    KeptOut s₀ (execFerryQrun c f s) := by
  unfold execFerryQrun; apply KeptOut.next; dsimp only; split; assumption; apply Kept.ite; assumption; split
  apply State.opFail_kept; apply State.landUE_kept; assumption; apply Kept.ite; apply State.ferryErr_kept
  apply State.setRegN_kept; assumption; apply Kept.ite; apply State.takeEntry_kept; apply State.setRegN_kept
  assumption; assumption

theorem execFerryQcfgWrite_kept {s₀ s : State} (h : Kept s₀ s) (c : CoreIx) (f : FerryIx) (size : Bool) (v : DWord) :
    KeptOut s₀ (execFerryQcfgWrite c f size v s) := by
  unfold execFerryQcfgWrite; apply KeptOut.next; apply Kept.ite; apply State.setRegN_kept; apply State.setRegN_kept
  apply Kept.ite; apply State.setRegN_kept; assumption; apply State.setRegN_kept; assumption
  apply State.logCorr_kept; assumption

theorem execFerryQtailWrite_kept {s₀ s : State} (h : Kept s₀ s) (c : CoreIx) (f : FerryIx) (v : Word) :
    KeptOut s₀ (execFerryQtailWrite c f v s) := by
  unfold execFerryQtailWrite; apply KeptOut.next; apply Kept.ite; apply State.logCorr_kept; assumption
  apply State.setRegN_kept; apply State.setCore_kept; assumption

theorem State.opLeaves_kept {s₀ s : State} (h : Kept s₀ s) (c : Nat) (f : Nat) (o : SlotOp) :
    Kept s₀ (State.opLeaves s c f o) := by
  unfold State.opLeaves; apply Kept.ite; apply Kept.ite; apply State.useSlots_kept; apply State.bump_kept
  apply State.setFq_kept; assumption; apply State.bump_kept; apply State.setFq_kept; assumption
  apply State.postSlot_kept; apply Kept.ite; apply State.useSlots_kept; apply State.bump_kept
  apply State.setFq_kept; assumption; apply State.bump_kept; apply State.setFq_kept; assumption

theorem execFerryOpComplete_kept {s₀ s : State} (h : Kept s₀ s) (c : CoreIx) (f : FerryIx) :
    KeptOut s₀ (execFerryOpComplete c f s) := by
  unfold execFerryOpComplete; apply KeptOut.next; dsimp only; split; assumption; apply Kept.ite; assumption; split
  apply Kept.ite; apply State.opLeaves_kept; apply State.opLeaves_kept; assumption; apply State.opLeaves_kept
  assumption; apply State.opLeaves_kept; assumption

theorem State.dropFailed_kept {s₀ s : State} (h : Kept s₀ s) (c : Nat) :
    Kept s₀ (State.dropFailed s c) := by
  unfold State.dropFailed; apply Kept.foldl; (intro _; intros; try dsimp only); apply Kept.foldl
  (intro _; intros; try dsimp only); apply Kept.ite; apply State.sendVoid_kept; apply State.postSlot_kept
  apply State.useSlots_kept; assumption; apply State.postSlot_kept; apply State.useSlots_kept; assumption
  apply State.setFq_kept; assumption; assumption

end Sys2Proof.Machine
end

