-- ==== Sys2Proof/Laws/KeptCollective.lean ====
section
/-!
SUPPORT. Laws/KeptCollective.lean: the operations of Machine/Collective.lean lead only to states that keep what Laws/Kept.lean names.
-/
namespace Sys2Proof.Machine

theorem State.treeWrite_kept {s₀ s : State} (h : Kept s₀ s) (g : Nat) (v : Nat) :
    Kept s₀ (State.treeWrite s g v) := by
  unfold State.treeWrite; apply Kept.ite; apply State.logCorr_kept; assumption; apply Kept.ite
  apply State.setRegN_kept; assumption; split; apply State.setRegN_kept; assumption; apply State.logCorr_kept
  apply State.setRegN_kept; assumption; apply State.logCorr_kept; apply State.logCorr_kept; apply State.setRegN_kept
  assumption

theorem execCollTreeEnable_kept {s₀ s : State} (h : Kept s₀ s) (g : Fin 8) (v : DWord) :
    KeptOut s₀ (execCollTreeEnable g v s) := by
  unfold execCollTreeEnable; apply KeptOut.next; apply State.treeWrite_kept; assumption

theorem State.setAcc_kept {s₀ s : State} (h : Kept s₀ s) (l : List (Nat × AccEntry)) :
    Kept s₀ (State.setAcc s l) := by
  unfold State.setAcc; apply State.setField_kept; apply Kept.upd; assumption

theorem State.clearAcc_kept {s₀ s : State} (h : Kept s₀ s)  :
    Kept s₀ (State.clearAcc s) := by
  unfold State.clearAcc; apply State.setField_kept; apply State.setAcc_kept; assumption

theorem State.sendStream_kept {s₀ s : State} (h : Kept s₀ s) (ports : List Nat) (stream : Nat) (flags : Nat) (count : Nat) (sumsq : Nat) (d : Bytes) (owner : Option (Nat × Nat)) :
    Kept s₀ (State.sendStream s ports stream flags count sumsq d owner) := by
  unfold State.sendStream; apply Kept.foldl; (intro _; intros; try dsimp only); apply Kept.foldl
  (intro _; intros; try dsimp only); apply State.sendCdata_kept; assumption; assumption; assumption

theorem State.putColl_kept {s₀ s : State} (h : Kept s₀ s) (r : CollRun) :
    Kept s₀ (State.putColl s r) := by
  unfold State.putColl; apply Kept.upd; assumption

theorem State.collFinish_kept {s₀ s : State} (h : Kept s₀ s) (r : CollRun) (void : Bool) :
    Kept s₀ (State.collFinish s r void) := by
  unfold State.collFinish; apply State.setCore_kept; apply Kept.upd; assumption

theorem State.reduceDone_kept {s₀ s : State} (h : Kept s₀ s) (r : CollRun) (count : Nat) (sumsq : Nat) (nonfin : Bool) :
    Kept s₀ (State.reduceDone s r count sumsq nonfin) := by
  unfold State.reduceDone; apply State.collFinish_kept; apply State.setAcc_kept; apply Kept.ite
  apply State.bump_kept; apply State.bump64_kept; assumption; apply State.bump64_kept; assumption

theorem State.summaryDone_kept {s₀ s : State} (h : Kept s₀ s) (r : CollRun) (count : Nat) (sumsq : Nat) (nonfin : Bool) :
    Kept s₀ (State.summaryDone s r count sumsq nonfin) := by
  unfold State.summaryDone; apply State.collFinish_kept; apply State.clearAcc_kept; apply Kept.ite; assumption
  apply State.lbWr_kept; assumption

theorem State.collAdvance_kept {s₀ s : State} (h : Kept s₀ s) (r : CollRun) :
    Kept s₀ (State.collAdvance s r) := by
  unfold State.collAdvance; apply Kept.ite; assumption; apply Kept.ite; apply Kept.ite; apply State.reduceDone_kept
  apply Kept.ite; apply State.sendStream_kept; assumption; apply State.lbWr_kept; apply State.sendStream_kept
  assumption; apply State.putColl_kept; apply State.sendStream_kept; assumption; apply Kept.ite; apply Kept.ite
  apply State.collFinish_kept; apply State.sendStream_kept; assumption; apply State.putColl_kept
  apply State.sendStream_kept; assumption; apply Kept.ite; apply Kept.ite; apply State.summaryDone_kept
  apply State.sendStream_kept; apply Kept.ite; apply State.logCorr_kept; assumption; assumption
  apply State.putColl_kept; apply State.sendStream_kept; assumption; assumption

theorem State.collErr_kept {s₀ s : State} (h : Kept s₀ s) (c : Nat) (o : SlotOp) (code : Nat) (st : Nat) :
    Kept s₀ (State.collErr s c o code st) := by
  unfold State.collErr; apply State.opAbort_kept; apply State.itemErr_kept; apply State.setRegN_kept; assumption

theorem State.ownReduce_kept {s₀ s : State} (h : Kept s₀ s) (c : Nat) (o : SlotOp) (x : LSlot) :
    Kept s₀ (State.ownReduce s c o x).1 := by
  unfold State.ownReduce; dsimp only; split; dsimp only; apply State.bump_kept; apply State.setField_kept
  apply Kept.ite; apply State.updCmd_kept; assumption; assumption; dsimp only; apply Kept.ite
  apply State.updCmd_kept; assumption; assumption

theorem State.collStart_kept {s₀ s : State} (h : Kept s₀ s) (c : Nat) (o : SlotOp) (x : LSlot) :
    Kept s₀ (State.collStart s c o x) := by
  unfold State.collStart; apply Kept.ite; apply State.collErr_kept; assumption; apply Kept.ite
  apply State.collErr_kept; assumption; apply Kept.ite; apply State.collErr_kept; assumption; apply Kept.ite
  assumption; dsimp only; split; apply State.opFail_kept; apply State.landUE_kept; assumption; split; apply Kept.upd
  apply State.moved_kept; apply State.ownReduce_kept; apply State.putOp_kept; assumption; apply Kept.ite
  apply Kept.upd; apply State.putOp_kept; assumption; apply Kept.ite; apply State.setCore_kept
  apply State.sendStream_kept; apply State.putOp_kept; assumption; apply Kept.ite; apply State.setCore_kept
  apply State.moved_kept; apply State.sendStream_kept; apply State.putOp_kept; assumption; apply State.moved_kept
  apply State.sendStream_kept; apply State.putOp_kept; assumption; apply Kept.upd; apply State.putOp_kept
  assumption; apply Kept.upd; apply State.putOp_kept; assumption

theorem State.collRow_kept {s₀ s : State} (h : Kept s₀ s) (c : Nat) (op : Nat) :
    Kept s₀ (State.collRow s c op) := by
  unfold State.collRow; apply Kept.foldl; (intro _; intros; try dsimp only); apply State.collAdvance_kept
  assumption; split; apply State.collStart_kept; assumption; assumption

theorem execCollReduce_kept {s₀ s : State} (h : Kept s₀ s) (c : CoreIx) :
    KeptOut s₀ (execCollReduce c s) := by
  unfold execCollReduce; apply KeptOut.next; apply State.collRow_kept; assumption

theorem execCollBcast_kept {s₀ s : State} (h : Kept s₀ s) (c : CoreIx) :
    KeptOut s₀ (execCollBcast c s) := by
  unfold execCollBcast; apply KeptOut.next; apply State.collRow_kept; assumption

theorem execCollBarrier_kept {s₀ s : State} (h : Kept s₀ s) (c : CoreIx) :
    KeptOut s₀ (execCollBarrier c s) := by
  unfold execCollBarrier; apply KeptOut.next; apply State.collRow_kept; assumption

theorem execCollSummary_kept {s₀ s : State} (h : Kept s₀ s) (c : CoreIx) :
    KeptOut s₀ (execCollSummary c s) := by
  unfold execCollSummary; apply KeptOut.next; apply State.collRow_kept; assumption

theorem State.takeDown_kept {s₀ s : State} (h : Kept s₀ s) (r : CollRun) (b : Bytes) :
    Kept s₀ (State.takeDown s r b) := by
  unfold State.takeDown; apply Kept.ite; apply State.collAbort_kept; assumption; apply Kept.ite; apply Kept.ite
  apply State.collFinish_kept; apply State.putColl_kept; apply Kept.ite; apply State.lbWr_kept; apply Kept.foldl
  (intro _; intros; try dsimp only); apply State.sendCdata_kept; assumption; assumption; apply Kept.foldl
  (intro _; intros; try dsimp only); apply State.sendCdata_kept; assumption; assumption; apply Kept.ite
  apply State.collFinish_kept; apply State.putColl_kept; apply Kept.ite; apply State.lbWr_kept; apply Kept.foldl
  (intro _; intros; try dsimp only); apply State.sendCdata_kept; assumption; assumption; apply Kept.foldl
  (intro _; intros; try dsimp only); apply State.sendCdata_kept; assumption; assumption; apply State.putColl_kept
  apply Kept.ite; apply State.lbWr_kept; apply Kept.foldl; (intro _; intros; try dsimp only)
  apply State.sendCdata_kept; assumption; assumption; apply Kept.foldl; (intro _; intros; try dsimp only)
  apply State.sendCdata_kept; assumption; assumption; apply Kept.ite; apply State.putColl_kept; apply Kept.ite
  apply State.lbWr_kept; apply Kept.foldl; (intro _; intros; try dsimp only); apply State.sendCdata_kept; assumption
  assumption; apply Kept.foldl; (intro _; intros; try dsimp only); apply State.sendCdata_kept; assumption
  assumption; apply Kept.ite; apply State.reduceDone_kept; apply State.putColl_kept; apply Kept.ite
  apply State.lbWr_kept; apply Kept.foldl; (intro _; intros; try dsimp only); apply State.sendCdata_kept; assumption
  assumption; apply Kept.foldl; (intro _; intros; try dsimp only); apply State.sendCdata_kept; assumption
  assumption; apply Kept.ite; apply State.summaryDone_kept; apply State.putColl_kept; apply Kept.ite
  apply State.lbWr_kept; apply Kept.foldl; (intro _; intros; try dsimp only); apply State.sendCdata_kept; assumption
  assumption; apply Kept.foldl; (intro _; intros; try dsimp only); apply State.sendCdata_kept; assumption
  assumption; apply State.collFinish_kept; apply State.putColl_kept; apply Kept.ite; apply State.lbWr_kept
  apply Kept.foldl; (intro _; intros; try dsimp only); apply State.sendCdata_kept; assumption; assumption
  apply Kept.foldl; (intro _; intros; try dsimp only); apply State.sendCdata_kept; assumption; assumption

theorem execCdataRx_kept {s₀ s : State} (h : Kept s₀ s) (p : PortIx) :
    KeptOut s₀ (execCdataRx p s) := by
  unfold execCdataRx; apply KeptOut.next; dsimp only; split; assumption; split; apply Kept.ite; apply Kept.upd
  apply State.dropRx_kept; assumption; apply State.dropRx_kept; assumption; apply Kept.ite
  apply State.takeDown_kept; apply Kept.ite; apply State.rsvd_kept; apply State.bump64_kept; apply State.dropRx_kept
  assumption; apply State.bump64_kept; apply State.dropRx_kept; assumption; apply State.collAdvance_kept
  apply State.putColl_kept; apply Kept.ite; apply State.rsvd_kept; apply State.bump64_kept; apply State.dropRx_kept
  assumption; apply State.bump64_kept; apply State.dropRx_kept; assumption

theorem execCollChildTimeout_kept {s₀ s : State} (h : Kept s₀ s) (c : CoreIx) :
    KeptOut s₀ (execCollChildTimeout c s) := by
  unfold execCollChildTimeout; apply KeptOut.next; dsimp only; split; assumption; apply Kept.ite
  apply State.collAbort_kept; apply State.logErr_kept; apply State.bump_kept; assumption
  apply State.collAdvance_kept; apply State.putColl_kept; apply Kept.upd; apply State.logErr_kept
  apply State.bump_kept; assumption

end Sys2Proof.Machine
end

