-- ==== Sys2Proof/Laws/KeptMatrix.lean ====
section
/-!
SUPPORT. Laws/KeptMatrix.lean: the operations of Machine/Matrix.lean lead only to states that keep what Laws/Kept.lean names.
-/
namespace Sys2Proof.Machine

theorem drainBlock_kept {s₀ : State} (c : Nat) (x : MeSlot) (m : Option MaskBind) (b : Nat × Nat) (a : AccSet)
    (t : State × List Nat) (h : Kept s₀ t.1) : Kept s₀ (drainBlock c x m b a t).1 := by
  unfold drainBlock
  apply Kept.foldl1; (intro _; intros; try dsimp only); split; assumption; dsimp only; apply State.wrRun_kept
  assumption; assumption

theorem writeSS_kept {s₀  : State} (c : Nat) (x : MeSlot) (m : Option MaskBind) (rb : Nat) (t : State × List Nat) (ht : Kept s₀ t.1) :
    Kept s₀ (writeSS c x m rb t) := by
  unfold writeSS; apply Kept.ite; apply Kept.foldl; (intro _; intros; try dsimp only); apply Kept.ite; assumption
  apply State.wrNat_kept; assumption; assumption; assumption

theorem State.drainAll_kept {s₀ s : State} (h : Kept s₀ s) (c : Nat) (x : MeSlot) (get : State → Nat × Nat → AccSet × Nat) :
    Kept s₀ (State.drainAll s c x get) := by
  unfold State.drainAll; apply Kept.foldl; (intro _; intros; try dsimp only); apply Kept.ite; apply Kept.foldl1
  (intro _; intros; try dsimp only); apply State.putSet_kept; apply drainBlock_kept; apply State.bump_kept
  assumption; assumption; apply writeSS_kept; apply Kept.foldl1; (intro _; intros; try dsimp only)
  apply State.putSet_kept; apply drainBlock_kept; apply State.bump_kept; assumption; assumption; assumption

theorem State.meCycles_kept {s₀ s : State} (h : Kept s₀ s) (c : Nat) (active : Nat) (drain : Nat) :
    Kept s₀ (State.meCycles s c active drain) := by
  unfold State.meCycles; apply State.bump64_kept; apply State.bump64_kept; assumption

theorem State.mmaRun_kept {s₀ s : State} (h : Kept s₀ s) (c : Nat) (x : MeSlot) :
    Kept s₀ (State.mmaRun s c x) := by
  unfold State.mmaRun; apply Kept.ite; apply State.drainAll_kept; apply State.meCycles_kept; assumption
  apply Kept.foldl; (intro _; intros; try dsimp only); apply State.bump_kept; apply State.putSet_kept; assumption
  apply State.meCycles_kept; assumption

theorem execMeMma_kept {s₀ s : State} (h : Kept s₀ s) (c : CoreIx) :
    KeptOut s₀ (execMeMma c s) := by
  unfold execMeMma; apply KeptOut.next; apply State.meRow_kept; assumption; (intro _; intros; try dsimp only)
  apply State.mmaRun_kept; assumption

theorem execMeMmaF3_kept {s₀ s : State} (h : Kept s₀ s) (c : CoreIx) :
    KeptOut s₀ (execMeMmaF3 c s) := by
  unfold execMeMmaF3; apply KeptOut.next; apply State.meRow_kept; assumption; (intro _; intros; try dsimp only)
  apply State.mmaRun_kept; assumption

theorem State.mergePart_kept {s₀ s : State} (h : Kept s₀ s) (c : Nat) (x : MeSlot) (p : Nat) :
    Kept s₀ (State.mergePart s c x p) := by
  unfold State.mergePart; apply Kept.foldl; (intro _; intros; try dsimp only); apply State.putSet_kept; assumption
  assumption

theorem State.mergeEnd_kept {s₀ s : State} (h : Kept s₀ s) (c : Nat) (x : MeSlot) :
    Kept s₀ (State.mergeEnd s c x) := by
  unfold State.mergeEnd; apply Kept.foldl; (intro _; intros; try dsimp only); apply State.setSetState_kept
  assumption; assumption

theorem State.mergeRun_kept {s₀ s : State} (h : Kept s₀ s) (c : Nat) (x : MeSlot) :
    Kept s₀ (State.mergeRun s c x) := by
  unfold State.mergeRun; apply Kept.ite; apply State.mergeEnd_kept; apply State.bump_kept; assumption
  apply State.mergeEnd_kept; apply State.mergePart_kept; assumption

theorem execMeMerge_kept {s₀ s : State} (h : Kept s₀ s) (c : CoreIx) :
    KeptOut s₀ (execMeMerge c s) := by
  unfold execMeMerge; apply KeptOut.next; apply State.meRow_kept; assumption; (intro _; intros; try dsimp only)
  apply State.mergeRun_kept; assumption

theorem execMeMergePartial_kept {s₀ s : State} (h : Kept s₀ s) (c : CoreIx) :
    KeptOut s₀ (execMeMergePartial c s) := by
  unfold execMeMergePartial; apply KeptOut.next; dsimp only; split; assumption; apply Kept.ite; split; assumption
  apply Kept.ite; apply State.setMeOp_kept; apply State.failItem_kept; assumption; apply Kept.ite
  apply State.setCore_kept; assumption; split; apply State.setMeOp_kept; apply State.landUE_kept
  apply State.setCore_kept; assumption; apply State.mergePart_kept; apply State.setCore_kept; assumption; assumption

theorem State.drainRun_kept {s₀ s : State} (h : Kept s₀ s) (c : Nat) (x : MeSlot) :
    Kept s₀ (State.drainRun s c x) := by
  unfold State.drainRun; apply State.drainAll_kept; apply State.meCycles_kept; assumption

theorem execMeDrain_kept {s₀ s : State} (h : Kept s₀ s) (c : CoreIx) :
    KeptOut s₀ (execMeDrain c s) := by
  unfold execMeDrain; apply KeptOut.next; apply State.meRow_kept; assumption; (intro _; intros; try dsimp only)
  apply State.drainRun_kept; assumption

theorem State.dscanRun_kept {s₀ s : State} (h : Kept s₀ s) (c : Nat) (x : MeSlot) :
    Kept s₀ (State.dscanRun s c x) := by
  unfold State.dscanRun; apply Kept.foldl; (intro _; intros; try dsimp only); apply State.wrNat_kept; assumption
  assumption

theorem execMeDscan_kept {s₀ s : State} (h : Kept s₀ s) (c : CoreIx) :
    KeptOut s₀ (execMeDscan c s) := by
  unfold execMeDscan; apply KeptOut.next; apply State.meRow_kept; assumption; (intro _; intros; try dsimp only)
  apply State.dscanRun_kept; assumption

theorem State.dsliceRun_kept {s₀ s : State} (h : Kept s₀ s) (c : Nat) (x : MeSlot) :
    Kept s₀ (State.dsliceRun s c x) := by
  unfold State.dsliceRun; apply Kept.foldl; (intro _; intros; try dsimp only); apply Kept.foldl
  (intro _; intros; try dsimp only); apply State.wrBytes_kept; assumption; assumption; assumption

theorem execMeDslice_kept {s₀ s : State} (h : Kept s₀ s) (c : CoreIx) :
    KeptOut s₀ (execMeDslice c s) := by
  unfold execMeDslice; apply KeptOut.next; apply State.meRow_kept; assumption; (intro _; intros; try dsimp only)
  apply State.dsliceRun_kept; assumption

theorem State.dWrite_kept {s₀ s : State} (h : Kept s₀ s) (c : Nat) (x : MeSlot) (f : Nat → Nat → Int) :
    Kept s₀ (State.dWrite s c x f) := by
  unfold State.dWrite; apply State.setCore_kept; apply Kept.foldl; (intro _; intros; try dsimp only); apply Kept.ite
  apply State.wrRun_kept; assumption; apply Kept.foldl; (intro _; intros; try dsimp only); apply State.wrNat_kept
  assumption; assumption; assumption

theorem State.mmaDRun_kept {s₀ s : State} (h : Kept s₀ s) (c : Nat) (x : MeSlot) :
    Kept s₀ (State.mmaDRun s c x) := by
  unfold State.mmaDRun; apply State.dWrite_kept; apply State.meCycles_kept; assumption

theorem execMeMmaD_kept {s₀ s : State} (h : Kept s₀ s) (c : CoreIx) :
    KeptOut s₀ (execMeMmaD c s) := by
  unfold execMeMmaD; apply KeptOut.next; apply State.meRow_kept; assumption; (intro _; intros; try dsimp only)
  apply State.mmaDRun_kept; assumption

theorem State.mergeDRun_kept {s₀ s : State} (h : Kept s₀ s) (c : Nat) (x : MeSlot) :
    Kept s₀ (State.mergeDRun s c x) := by
  unfold State.mergeDRun; apply State.dWrite_kept; apply State.meCycles_kept; apply Kept.ite; apply State.bump_kept
  assumption; assumption

theorem execMeMergeD_kept {s₀ s : State} (h : Kept s₀ s) (c : CoreIx) :
    KeptOut s₀ (execMeMergeD c s) := by
  unfold execMeMergeD; apply KeptOut.next; apply State.meRow_kept; assumption; (intro _; intros; try dsimp only)
  apply State.mergeDRun_kept; assumption

theorem State.meBegin_kept {s₀ s : State} (h : Kept s₀ s) (c : Nat) (o : SlotOp) :
    Kept s₀ (State.meBegin s c o) := by
  unfold State.meBegin; apply Kept.ite; apply Kept.ite; apply Kept.ite; apply Kept.foldl
  (intro _; intros; try dsimp only); apply State.putSet_kept; assumption; apply State.setRegN_kept
  apply State.setMeOp_kept; assumption; apply State.setRegN_kept; apply State.setMeOp_kept; assumption
  apply Kept.foldl; (intro _; intros; try dsimp only); apply State.setSetState_kept; assumption
  apply State.setRegN_kept; apply State.setMeOp_kept; assumption; apply State.setMeOp_kept; apply State.meErr_kept
  assumption

end Sys2Proof.Machine
end

