-- ==== Sys2Proof/Laws/KeptSeq.lean ====
section
/-!
SUPPORT. Laws/KeptSeq.lean: the operations of Machine/Seq.lean lead only to states that keep what Laws/Kept.lean names.
-/
namespace Sys2Proof.Machine

theorem State.setSeq_kept {s₀ s : State} (h : Kept s₀ s) (c : Nat) (v : Nat) :
    Kept s₀ (State.setSeq s c v) := by
  unfold State.setSeq; apply State.setField_kept; assumption

theorem execRunTimetable_kept {s₀ s : State} (h : Kept s₀ s) (cmd : Nat) :
    KeptOut s₀ (execRunTimetable cmd s) := by
  unfold execRunTimetable; apply KeptOut.next; dsimp only; split; assumption; apply Kept.ite
  apply State.failAll_kept; apply State.beginCmd_kept; apply State.logDown_kept; assumption; apply Kept.ite
  apply State.failAll_kept; apply State.beginCmd_kept; assumption; apply Kept.ite; apply State.failAll_kept
  apply State.beginCmd_kept; assumption; apply Kept.ite; assumption; apply Kept.foldl
  (intro _; intros; try dsimp only); apply State.setRegN_kept; apply State.setRegN_kept; apply State.setCore_kept
  assumption; apply State.beginCmd_kept; assumption

theorem State.ttEnd_kept {s₀ s : State} (h : Kept s₀ s) (c : Nat) :
    Kept s₀ (State.ttEnd s c) := by
  unfold State.ttEnd; apply State.setRegN_kept; apply State.setCore_kept; apply State.slipLeftover_kept
  apply State.discardSets_kept; assumption

theorem State.ttDecide_kept {s₀ s : State} (h : Kept s₀ s) (cmd : Nat) :
    Kept s₀ (State.ttDecide s cmd) := by
  unfold State.ttDecide; apply Kept.ite; assumption; dsimp only; split; apply Kept.foldl
  (intro _; intros; try dsimp only); apply State.ttEnd_kept; assumption; apply State.failAll_kept; assumption; split
  assumption; apply Kept.ite; apply Kept.foldl; (intro _; intros; try dsimp only); apply State.ttEnd_kept
  assumption; apply State.failAll_kept; assumption; apply Kept.foldl; (intro _; intros; try dsimp only)
  apply State.setSeq_kept; apply State.setRegN_kept; apply State.setCore_kept; assumption; assumption

theorem execTimetableLoadCheck_kept {s₀ s : State} (h : Kept s₀ s) (c : CoreIx) :
    KeptOut s₀ (execTimetableLoadCheck c s) := by
  unfold execTimetableLoadCheck; apply KeptOut.next; dsimp only; split; assumption; apply Kept.ite; assumption
  split; assumption; apply State.ttDecide_kept; split; apply State.logErr_kept; apply State.setCore_kept; assumption
  apply State.setCore_kept; assumption

theorem State.firstIssue_kept {s₀ s : State} (h : Kept s₀ s) (c : Nat) (t : TimetableRun) :
    Kept s₀ (State.firstIssue s c t) := by
  unfold State.firstIssue; apply Kept.ite; apply State.clearFlags_kept; apply State.updCmd_kept
  apply State.setCore_kept; assumption; apply State.updCmd_kept; apply State.setCore_kept; assumption

theorem execSailingIssue_kept {s₀ s : State} (h : Kept s₀ s) (c : CoreIx) :
    KeptOut s₀ (execSailingIssue c s) := by
  unfold execSailingIssue; apply KeptOut.next; dsimp only; split; assumption; apply Kept.ite; assumption
  apply State.checkWaits_kept; apply State.setRegN_kept; apply State.setRegN_kept; apply Kept.ite
  apply State.bump_kept; apply State.setCore_kept; apply Kept.ite; apply State.firstIssue_kept; assumption
  assumption; apply State.setCore_kept; apply Kept.ite; apply State.firstIssue_kept; assumption; assumption

theorem State.dropMe_kept {s₀ s : State} (h : Kept s₀ s) (c : Nat) (o : SlotOp) :
    Kept s₀ (State.dropMe s c o) := by
  unfold State.dropMe; apply State.opEnded_kept; apply State.setCore_kept; assumption

theorem State.dropVe_kept {s₀ s : State} (h : Kept s₀ s) (c : Nat) (o : SlotOp) :
    Kept s₀ (State.dropVe s c o) := by
  unfold State.dropVe; apply State.opEnded_kept; apply State.setCore_kept; assumption

theorem State.startMe_kept {s₀ s : State} (h : Kept s₀ s) (c : Nat) :
    Kept s₀ (State.startMe s c) := by
  unfold State.startMe; dsimp only; split; assumption; split; assumption; apply Kept.ite; assumption; apply Kept.ite
  apply State.dropMe_kept; assumption; apply Kept.ite; assumption; apply State.meBegin_kept; assumption

theorem State.startVe_kept {s₀ s : State} (h : Kept s₀ s) (c : Nat) (u : Nat) :
    Kept s₀ (State.startVe s c u) := by
  unfold State.startVe; dsimp only; split; assumption; split; apply State.dropVe_kept; assumption; apply Kept.ite
  assumption; apply Kept.ite; apply State.dropVe_kept; assumption; apply Kept.ite; assumption; apply Kept.ite
  apply State.setField_kept; assumption; apply State.veBegin_kept; assumption

theorem execEngineStart_kept {s₀ s : State} (h : Kept s₀ s) (c : CoreIx) (e : Engine) :
    KeptOut s₀ (execEngineStart c e s) := by
  unfold execEngineStart; apply KeptOut.next; split; apply State.startMe_kept; assumption; apply State.startVe_kept
  assumption; apply State.startVe_kept; assumption

theorem execVeHazardClear_kept {s₀ s : State} (h : Kept s₀ s) (c : CoreIx) :
    KeptOut s₀ (execVeHazardClear c s) := by
  unfold execVeHazardClear; apply KeptOut.next; apply Kept.ite; split; apply Kept.ite; assumption
  apply State.startVe_kept; assumption; apply State.setField_kept; assumption; assumption

theorem State.postSignals_kept {s₀ s : State} (h : Kept s₀ s) (c : Nat) (r : Bytes) (poison : Bool) :
    Kept s₀ (State.postSignals s c r poison) := by
  unfold State.postSignals; apply Kept.ite; apply State.postFlags_kept; assumption; apply Kept.ite
  apply State.postFlags_kept; apply State.postFlags_kept; assumption; apply Kept.upd; apply State.postFlags_kept
  assumption

theorem State.endSailing_kept {s₀ s : State} (h : Kept s₀ s) (c : Nat) (x : SailingRun) (poison : Bool) :
    Kept s₀ (State.endSailing s c x poison) := by
  unfold State.endSailing; apply State.postSignals_kept; apply State.setCore_kept; assumption

theorem execSailingComplete_kept {s₀ s : State} (h : Kept s₀ s) (c : CoreIx) (cyc : Nat) :
    KeptOut s₀ (execSailingComplete c cyc s) := by
  unfold execSailingComplete; apply KeptOut.next; dsimp only; split; assumption; apply State.endSailing_kept
  apply Kept.ite; assumption; apply State.raiseTo_kept; assumption

theorem execSignalArrival_kept {s₀ s : State} (h : Kept s₀ s) (c : CoreIx) :
    KeptOut s₀ (execSignalArrival c s) := by
  unfold execSignalArrival; apply KeptOut.next; split; assumption; apply State.postFlags_kept; apply Kept.upd
  assumption

theorem execSeqFlagSet_kept {s₀ s : State} (h : Kept s₀ s) (c : CoreIx) (v : DWord) :
    KeptOut s₀ (execSeqFlagSet c v s) := by
  unfold execSeqFlagSet; apply KeptOut.next; apply State.handFlags_kept; assumption

theorem execSeqFlagClr_kept {s₀ s : State} (h : Kept s₀ s) (c : CoreIx) (v : DWord) :
    KeptOut s₀ (execSeqFlagClr c v s) := by
  unfold execSeqFlagClr; apply KeptOut.next; apply State.clearFlags_kept; assumption

theorem execItemEnd_kept {s₀ s : State} (h : Kept s₀ s) (cmd : Nat) (item : Nat) :
    KeptOut s₀ (execItemEnd cmd item s) := by
  unfold execItemEnd; apply KeptOut.next; dsimp only; split; assumption; apply Kept.ite; assumption; apply Kept.ite
  assumption; split; apply Kept.ite; apply Kept.foldl; (intro _; intros; try dsimp only); apply State.ttEnd_kept
  assumption; apply State.endItem_kept; assumption; apply State.endItem_kept; assumption; apply State.endItem_kept
  assumption

end Sys2Proof.Machine
end

