-- ==== Sys2Proof/Laws/KeptQueue.lean ====
section
/-!
SUPPORT. Laws/KeptQueue.lean: the operations of Machine/Queue.lean lead only to states that keep what Laws/Kept.lean names.
-/
namespace Sys2Proof.Machine

theorem State.setQReg_kept {s₀ s : State} (h : Kept s₀ s) (q : Nat) (off : Nat) (v : Nat) :
    Kept s₀ (State.setQReg s q off v) := by
  unfold State.setQReg; apply State.setRegN_kept; assumption

theorem State.setQStat_kept {s₀ s : State} (h : Kept s₀ s) (q : Nat) (i : Nat) (v : Bool) :
    Kept s₀ (State.setQStat s q i v) := by
  unfold State.setQStat; apply State.setField_kept; assumption

theorem State.qIgnored_kept {s₀ s : State} (h : Kept s₀ s) (q : Nat) :
    Kept s₀ (State.qIgnored s q) := by
  unfold State.qIgnored; apply State.logCorr_kept; assumption

theorem State.qRange_kept {s₀ s : State} (h : Kept s₀ s) (q : Nat) :
    Kept s₀ (State.qRange s q) := by
  unfold State.qRange; apply State.raiseEvent_kept; apply State.logCorr_kept; assumption

theorem State.qShow_kept {s₀ s : State} (h : Kept s₀ s) (q : Nat) :
    Kept s₀ (State.qShow s q) := by
  unfold State.qShow; apply State.setRegN_kept; apply State.setQStat_kept; apply State.setQReg_kept
  apply State.setField_kept; assumption

theorem State.cqSignal_kept {s₀ s : State} (h : Kept s₀ s) (q : Nat) :
    Kept s₀ (State.cqSignal s q) := by
  unfold State.cqSignal; apply Kept.ite; assumption; apply Kept.ite; apply State.raiseEvent_kept; assumption
  apply State.sendMsix_kept; assumption

theorem State.dockSignal_kept {s₀ s : State} (h : Kept s₀ s) (q : Nat) :
    Kept s₀ (State.dockSignal s q) := by
  unfold State.dockSignal; apply Kept.ite; split; apply State.imsic_kept; assumption; assumption; assumption

theorem State.recBytes_kept {s₀ s : State} (h : Kept s₀ s) (a : Nat) (b : Bytes) :
    Kept s₀ (State.recBytes s a b) := by
  unfold State.recBytes; apply State.wrBytes_kept; apply State.homeWrite_kept; assumption

theorem State.writeMirror_kept {s₀ s : State} (h : Kept s₀ s) (q : Nat) :
    Kept s₀ (State.writeMirror s q) := by
  unfold State.writeMirror; apply Kept.ite; assumption; apply State.recBytes_kept; assumption

theorem State.ringWrite_kept {s₀ s : State} (h : Kept s₀ s) (q : Nat) (r : CplRec) (msi : Bool) :
    Kept s₀ (State.ringWrite s q r msi) := by
  unfold State.ringWrite; apply Kept.ite; apply Kept.ite; apply State.cqSignal_kept; apply State.setQReg_kept
  apply State.recBytes_kept; assumption; apply State.setQReg_kept; apply State.recBytes_kept; assumption
  apply State.dockSignal_kept; apply State.writeMirror_kept; apply State.setQReg_kept; apply State.recBytes_kept
  assumption

theorem State.ringPut_kept {s₀ s : State} (h : Kept s₀ s) (q : Nat) (r : CplRec) (msi : Bool) :
    Kept s₀ (State.ringPut s q r msi) := by
  unfold State.ringPut; apply Kept.ite; apply State.setQueue_kept; assumption; apply State.ringWrite_kept; assumption

theorem State.writeOwed_kept {s₀ s : State} (h : Kept s₀ s) (q : Nat) :
    Kept s₀ (State.writeOwed s q) := by
  unfold State.writeOwed; dsimp only; split; apply State.ringWrite_kept; apply State.setQueue_kept; apply Kept.upd
  assumption; apply State.setQueue_kept; assumption

theorem State.writeWaiting_kept {s₀ s : State} (h : Kept s₀ s) (q : Nat) :
    Kept s₀ (State.writeWaiting s q) := by
  unfold State.writeWaiting; apply Kept.ite; apply State.writeOwed_kept; assumption; split
  apply State.ringWrite_kept; apply State.setQueue_kept; assumption; apply State.setQueue_kept; assumption; split
  assumption; apply State.ringWrite_kept; apply State.setQueue_kept; assumption

theorem State.drainWaiting_kept {s₀ : State} (q : Nat) :
    ∀ (n : Nat) {s : State} (_ : Kept s₀ s), Kept s₀ (State.drainWaiting q n s)
  | 0, _, h => h
  | n + 1, s, h => by
    unfold State.drainWaiting
    apply Kept.ite; assumption; apply State.drainWaiting_kept; apply State.writeWaiting_kept; assumption

theorem State.drain_kept {s₀ s : State} (h : Kept s₀ s) (q : Nat) :
    Kept s₀ (State.drain s q) := by
  unfold State.drain; apply State.qShow_kept; apply State.drainWaiting_kept; assumption

theorem State.toLog_kept {s₀ s : State} (h : Kept s₀ s) (q : Nat) (r : CplRec) :
    Kept s₀ (State.toLog s q r) := by
  unfold State.toLog; apply Kept.ite; apply Kept.upd; assumption; apply State.logCorr_kept; apply State.bump_kept
  apply State.setQueue_kept; assumption

theorem State.putRec_kept {s₀ s : State} (h : Kept s₀ s) (q : Nat) (addr : Option Nat) (r : CplRec) (msi : Bool) :
    Kept s₀ (State.putRec s q addr r msi) := by
  unfold State.putRec; apply Kept.ite; apply State.toLog_kept; assumption; dsimp only; split
  apply State.ringPut_kept; assumption; apply Kept.ite; apply Kept.ite; apply State.cqSignal_kept
  apply State.recBytes_kept; assumption; apply State.recBytes_kept; assumption; apply State.dockSignal_kept
  apply State.recBytes_kept; assumption

theorem State.flushes_kept {s₀ s : State} (h : Kept s₀ s) (k : Cmd) (a : Nat) :
    Kept s₀ (State.flushes s k a) := by
  unfold State.flushes; apply State.updCmd_kept; apply Kept.foldl; (intro _; intros; try dsimp only)
  apply State.send_kept; assumption; assumption

theorem State.nextRec_kept {s₀ s : State} (h : Kept s₀ s) (k : Cmd) :
    Kept s₀ (State.nextRec s k) := by
  unfold State.nextRec; dsimp only; split; assumption; apply Kept.ite; assumption; apply Kept.ite; assumption
  apply Kept.ite; assumption; apply Kept.ite; assumption; apply State.qShow_kept; apply State.updCmd_kept
  apply State.putRec_kept; apply State.flushes_kept; assumption

theorem execCompletionRecordWrite_kept {s₀ s : State} (h : Kept s₀ s) (cmd : Nat) :
    KeptOut s₀ (execCompletionRecordWrite cmd s) := by
  unfold execCompletionRecordWrite; apply KeptOut.next; split; apply Kept.ite; apply State.nextRec_kept; assumption
  assumption; assumption

theorem execDockCompletion_kept {s₀ s : State} (h : Kept s₀ s) (d : DockIx) (cmd : Nat) :
    KeptOut s₀ (execDockCompletion d cmd s) := by
  unfold execDockCompletion; apply KeptOut.next; split; apply Kept.ite; apply State.nextRec_kept; assumption
  assumption; assumption

theorem State.zeroIndices_kept {s₀ s : State} (h : Kept s₀ s) (q : Nat) :
    Kept s₀ (State.zeroIndices s q) := by
  unfold State.zeroIndices; apply State.setQueue_kept; apply State.setQReg_kept; apply State.setQReg_kept
  apply State.setQReg_kept; apply State.setQReg_kept; assumption

theorem State.reattach_kept {s₀ s : State} (h : Kept s₀ s) (q : Nat) :
    Kept s₀ (State.reattach s q) := by
  unfold State.reattach; apply State.drain_kept; apply State.setField_kept; apply State.setQueue_kept
  apply State.setQStat_kept; apply State.zeroIndices_kept; assumption

theorem State.qEnable_kept {s₀ s : State} (h : Kept s₀ s) (q : Nat) :
    Kept s₀ (State.qEnable s q) := by
  unfold State.qEnable; apply Kept.ite; apply State.qIgnored_kept; assumption; apply Kept.ite; assumption
  apply Kept.ite; apply State.logCorr_kept; assumption; apply Kept.ite; apply State.reattach_kept
  apply State.setField_kept; apply State.setQStat_kept; assumption; apply State.zeroIndices_kept
  apply State.setField_kept; apply State.setQStat_kept; assumption

theorem State.qDisable_kept {s₀ s : State} (h : Kept s₀ s) (q : Nat) :
    Kept s₀ (State.qDisable s q) := by
  unfold State.qDisable; apply Kept.ite; apply State.qIgnored_kept; assumption; apply State.setQueue_kept
  apply Kept.ite; apply State.setQStat_kept; apply State.setField_kept; apply State.setQStat_kept; assumption
  apply State.setField_kept; apply State.setQStat_kept; assumption

theorem execCqEnable_kept {s₀ s : State} (h : Kept s₀ s) (q : QueueIx) :
    KeptOut s₀ (execCqEnable q s) := by
  unfold execCqEnable; apply KeptOut.next; apply State.qEnable_kept; assumption

theorem execCqDisable_kept {s₀ s : State} (h : Kept s₀ s) (q : QueueIx) :
    KeptOut s₀ (execCqDisable q s) := by
  unfold execCqDisable; apply KeptOut.next; apply State.qDisable_kept; assumption

theorem execDockEnable_kept {s₀ s : State} (h : Kept s₀ s) (d : DockIx) :
    KeptOut s₀ (execDockEnable d s) := by
  unfold execDockEnable; apply KeptOut.next; apply State.qEnable_kept; assumption

theorem execDockDisable_kept {s₀ s : State} (h : Kept s₀ s) (d : DockIx) :
    KeptOut s₀ (execDockDisable d s) := by
  unfold execDockDisable; apply KeptOut.next; apply State.qDisable_kept; assumption

theorem State.doorbell_kept {s₀ s : State} (h : Kept s₀ s) (q : Nat) (cyc : Nat) (v : Nat) :
    Kept s₀ (State.doorbell s q cyc v) := by
  unfold State.doorbell; apply Kept.ite; apply State.logCorr_kept; assumption; apply Kept.ite
  apply State.qRange_kept; assumption; apply State.setQueue_kept; apply State.setQReg_kept; assumption

theorem State.returnSlots_kept {s₀ s : State} (h : Kept s₀ s) (q : Nat) (v : Nat) :
    Kept s₀ (State.returnSlots s q v) := by
  unfold State.returnSlots; apply Kept.ite; apply State.qRange_kept; assumption; apply State.drain_kept
  apply State.setQReg_kept; assumption

theorem execCqTailWrite_kept {s₀ s : State} (h : Kept s₀ s) (q : QueueIx) (v : Word) (cyc : Nat) :
    KeptOut s₀ (execCqTailWrite q v cyc s) := by
  unfold execCqTailWrite; apply KeptOut.next; apply State.doorbell_kept; assumption

theorem execCqCplHeadWrite_kept {s₀ s : State} (h : Kept s₀ s) (q : QueueIx) (v : Word) :
    KeptOut s₀ (execCqCplHeadWrite q v s) := by
  unfold execCqCplHeadWrite; apply KeptOut.next; apply Kept.ite; apply State.logCorr_kept; assumption
  apply State.returnSlots_kept; assumption

theorem execDockTailWrite_kept {s₀ s : State} (h : Kept s₀ s) (d : DockIx) (v : Word) (cyc : Nat) :
    KeptOut s₀ (execDockTailWrite d v cyc s) := by
  unfold execDockTailWrite; apply KeptOut.next; apply State.doorbell_kept; assumption

theorem execDockCplHeadWrite_kept {s₀ s : State} (h : Kept s₀ s) (d : DockIx) (v : Word) :
    KeptOut s₀ (execDockCplHeadWrite d v s) := by
  unfold execDockCplHeadWrite; apply KeptOut.next; apply State.returnSlots_kept; assumption

theorem State.fetchEntry_kept {s₀ s : State} (h : Kept s₀ s) (q : Nat) :
    Kept s₀ (State.fetchEntry s q) := by
  unfold State.fetchEntry; apply State.setQueue_kept; apply State.engineRead_kept; assumption

theorem State.fetchEntries_kept {s₀ : State} (q : Nat) :
    ∀ (n : Nat) {s : State} (_ : Kept s₀ s), Kept s₀ (State.fetchEntries q n s)
  | 0, _, h => h
  | n + 1, s, h => by
    unfold State.fetchEntries
    apply State.fetchEntries_kept; apply State.fetchEntry_kept; assumption

theorem execCqEntryFetch_kept {s₀ s : State} (h : Kept s₀ s) (q : QueueIx) :
    KeptOut s₀ (execCqEntryFetch q s) := by
  unfold execCqEntryFetch; apply KeptOut.next; apply Kept.ite; assumption; apply State.fetchEntries_kept; assumption

theorem execDockEntryRead_kept {s₀ s : State} (h : Kept s₀ s) (d : DockIx) :
    KeptOut s₀ (execDockEntryRead d s) := by
  unfold execDockEntryRead; apply KeptOut.next; dsimp only; split; assumption; apply Kept.ite; assumption
  apply Kept.ite; assumption; apply State.setQReg_kept; apply State.fetchEntries_kept; apply State.fetchEntry_kept
  assumption

end Sys2Proof.Machine
end

