-- ==== Sys2Proof/Laws/KeptCommand.lean ====
section
/-!
SUPPORT. Laws/KeptCommand.lean: the operations of Machine/Command.lean lead only to states that keep what Laws/Kept.lean names.
-/
namespace Sys2Proof.Machine

theorem State.headPast_kept {s₀ s : State} (h : Kept s₀ s) (q : Nat) (n : Nat) :
    Kept s₀ (State.headPast s q n) := by
  unfold State.headPast; apply Kept.ite; apply State.setQReg_kept; assumption; assumption

theorem State.passQuery_kept {s₀ s : State} (h : Kept s₀ s) (q : Nat) (k : Cmd) :
    Kept s₀ (State.passQuery s q k) := by
  unfold State.passQuery; apply Kept.ite; apply State.headPast_kept; apply State.setQStat_kept
  apply State.setQueue_kept; assumption; assumption

theorem State.passEnded_kept {s₀ s : State} (h : Kept s₀ s) (q : Nat) :
    Kept s₀ (State.passEnded s q) := by
  unfold State.passEnded; split; split; apply State.passQuery_kept; assumption; assumption; assumption

theorem State.entryErr_kept {s₀ s : State} (h : Kept s₀ s) (k : Cmd) (code : Nat) (st : Nat) :
    Kept s₀ (State.entryErr s k code st) := by
  unfold State.entryErr; apply State.itemErr_kept; apply State.setRegN_kept; assumption

theorem State.accept_kept {s₀ s : State} (h : Kept s₀ s) (h : HeadCmd) :
    Kept s₀ (State.accept s h) := by
  unfold State.accept; apply State.qShow_kept; apply Kept.ite; apply State.failAll_kept; dsimp only; split
  apply State.failAll_kept; apply State.logErr_kept; apply State.setRegN_kept; apply Kept.ite
  apply State.setQStat_kept; apply State.bump64_kept; apply Kept.ite; apply State.setQueue_kept; apply Kept.upd
  apply State.setQueue_kept; apply State.passEnded_kept; assumption; apply State.headPast_kept; apply Kept.upd
  apply State.setQueue_kept; apply State.passEnded_kept; assumption; apply State.bump64_kept; apply Kept.ite
  apply State.setQueue_kept; apply Kept.upd; apply State.setQueue_kept; apply State.passEnded_kept; assumption
  apply State.headPast_kept; apply Kept.upd; apply State.setQueue_kept; apply State.passEnded_kept; assumption
  apply State.failAll_kept; apply Kept.ite; apply State.setQStat_kept; apply State.bump64_kept; apply Kept.ite
  apply State.setQueue_kept; apply Kept.upd; apply State.setQueue_kept; apply State.passEnded_kept; assumption
  apply State.headPast_kept; apply Kept.upd; apply State.setQueue_kept; apply State.passEnded_kept; assumption
  apply State.bump64_kept; apply Kept.ite; apply State.setQueue_kept; apply Kept.upd; apply State.setQueue_kept
  apply State.passEnded_kept; assumption; apply State.headPast_kept; apply Kept.upd; apply State.setQueue_kept
  apply State.passEnded_kept; assumption; apply Kept.ite; apply State.setQStat_kept; apply State.bump64_kept
  apply Kept.ite; apply State.setQueue_kept; apply Kept.upd; apply State.setQueue_kept; apply State.passEnded_kept
  assumption; apply State.headPast_kept; apply Kept.upd; apply State.setQueue_kept; apply State.passEnded_kept
  assumption; apply State.bump64_kept; apply Kept.ite; apply State.setQueue_kept; apply Kept.upd
  apply State.setQueue_kept; apply State.passEnded_kept; assumption; apply State.headPast_kept; apply Kept.upd
  apply State.setQueue_kept; apply State.passEnded_kept; assumption; apply Kept.ite; apply State.failAll_kept
  dsimp only; split; apply State.failAll_kept; apply State.logErr_kept; apply State.setRegN_kept; apply Kept.ite
  apply State.setQStat_kept; apply State.bump64_kept; apply Kept.ite; apply State.setQueue_kept; apply Kept.upd
  apply State.setQueue_kept; apply State.passEnded_kept; assumption; apply State.headPast_kept; apply Kept.upd
  apply State.setQueue_kept; apply State.passEnded_kept; assumption; apply State.bump64_kept; apply Kept.ite
  apply State.setQueue_kept; apply Kept.upd; apply State.setQueue_kept; apply State.passEnded_kept; assumption
  apply State.headPast_kept; apply Kept.upd; apply State.setQueue_kept; apply State.passEnded_kept; assumption
  apply State.failAll_kept; apply Kept.ite; apply State.setQStat_kept; apply State.bump64_kept; apply Kept.ite
  apply State.setQueue_kept; apply Kept.upd; apply State.setQueue_kept; apply State.passEnded_kept; assumption
  apply State.headPast_kept; apply Kept.upd; apply State.setQueue_kept; apply State.passEnded_kept; assumption
  apply State.bump64_kept; apply Kept.ite; apply State.setQueue_kept; apply Kept.upd; apply State.setQueue_kept
  apply State.passEnded_kept; assumption; apply State.headPast_kept; apply Kept.upd; apply State.setQueue_kept
  apply State.passEnded_kept; assumption; apply Kept.ite; apply State.setQStat_kept; apply State.bump64_kept
  apply Kept.ite; apply State.setQueue_kept; apply Kept.upd; apply State.setQueue_kept; apply State.passEnded_kept
  assumption; apply State.headPast_kept; apply Kept.upd; apply State.setQueue_kept; apply State.passEnded_kept
  assumption; apply State.bump64_kept; apply Kept.ite; apply State.setQueue_kept; apply Kept.upd
  apply State.setQueue_kept; apply State.passEnded_kept; assumption; apply State.headPast_kept; apply Kept.upd
  apply State.setQueue_kept; apply State.passEnded_kept; assumption; dsimp only; split; apply State.failAll_kept
  apply State.logErr_kept; apply State.setRegN_kept; apply Kept.ite; apply State.setQStat_kept
  apply State.bump64_kept; apply Kept.ite; apply State.setQueue_kept; apply Kept.upd; apply State.setQueue_kept
  apply State.passEnded_kept; assumption; apply State.headPast_kept; apply Kept.upd; apply State.setQueue_kept
  apply State.passEnded_kept; assumption; apply State.bump64_kept; apply Kept.ite; apply State.setQueue_kept
  apply Kept.upd; apply State.setQueue_kept; apply State.passEnded_kept; assumption; apply State.headPast_kept
  apply Kept.upd; apply State.setQueue_kept; apply State.passEnded_kept; assumption; apply State.failAll_kept
  apply Kept.ite; apply State.setQStat_kept; apply State.bump64_kept; apply Kept.ite; apply State.setQueue_kept
  apply Kept.upd; apply State.setQueue_kept; apply State.passEnded_kept; assumption; apply State.headPast_kept
  apply Kept.upd; apply State.setQueue_kept; apply State.passEnded_kept; assumption; apply State.bump64_kept
  apply Kept.ite; apply State.setQueue_kept; apply Kept.upd; apply State.setQueue_kept; apply State.passEnded_kept
  assumption; apply State.headPast_kept; apply Kept.upd; apply State.setQueue_kept; apply State.passEnded_kept
  assumption; apply Kept.ite; apply State.setQStat_kept; apply State.bump64_kept; apply Kept.ite
  apply State.setQueue_kept; apply Kept.upd; apply State.setQueue_kept; apply State.passEnded_kept; assumption
  apply State.headPast_kept; apply Kept.upd; apply State.setQueue_kept; apply State.passEnded_kept; assumption
  apply State.bump64_kept; apply Kept.ite; apply State.setQueue_kept; apply Kept.upd; apply State.setQueue_kept
  apply State.passEnded_kept; assumption; apply State.headPast_kept; apply Kept.upd; apply State.setQueue_kept
  apply State.passEnded_kept; assumption

theorem execCommandAccept_kept {s₀ s : State} (h : Kept s₀ s)  :
    KeptOut s₀ (execCommandAccept s) := by
  unfold execCommandAccept; apply KeptOut.next; split; apply Kept.foldl; (intro _; intros; try dsimp only)
  apply State.setQStat_kept; assumption; assumption; apply Kept.ite; apply Kept.foldl
  (intro _; intros; try dsimp only); apply State.setQStat_kept; assumption; assumption; apply State.accept_kept
  apply Kept.foldl; (intro _; intros; try dsimp only); apply State.setQStat_kept; assumption; assumption

theorem State.entryItem_kept {s₀ s : State} (h : Kept s₀ s) (k : Cmd) (item : Nat) :
    Kept s₀ (State.entryItem s k item) := by
  unfold State.entryItem; apply State.endItem_kept; apply State.itemErr_kept; apply State.setRegN_kept; assumption

theorem execWriteInline_kept {s₀ s : State} (h : Kept s₀ s) (cmd : Nat) :
    KeptOut s₀ (execWriteInline cmd s) := by
  unfold execWriteInline; apply KeptOut.next; dsimp only; split; assumption; apply Kept.ite
  apply State.entryItem_kept; apply State.updCmd_kept; assumption; apply Kept.ite; apply State.endItem_kept
  apply State.logDown_kept; apply State.updCmd_kept; assumption; apply Kept.ite; assumption
  apply State.endItem_kept; apply State.updCmd_kept; apply State.engineWrite_kept; apply State.updCmd_kept; assumption

theorem execCopy_kept {s₀ s : State} (h : Kept s₀ s) (cmd : Nat) :
    KeptOut s₀ (execCopy cmd s) := by
  unfold execCopy; apply KeptOut.next; split; assumption; apply State.beginCmd_kept; assumption

theorem State.copyItem_kept {s₀ s : State} (h : Kept s₀ s) (k : Cmd) (j : Nat) :
    Kept s₀ (State.copyItem s k j) := by
  unfold State.copyItem; apply Kept.ite; assumption; apply Kept.ite; apply State.endItem_kept
  apply State.updCmd_kept; apply State.engineRead_kept; assumption; apply Kept.ite; apply State.entryItem_kept
  apply State.updCmd_kept; apply State.engineRead_kept; assumption; apply Kept.ite; apply State.endItem_kept
  apply State.logDown_kept; apply State.updCmd_kept; apply State.engineRead_kept; assumption; apply Kept.ite
  apply State.endItem_kept; apply State.updCmd_kept; apply State.engineRead_kept; assumption; apply Kept.ite
  apply Kept.ite; apply State.endItem_kept; apply State.logDown_kept; apply State.updCmd_kept
  apply State.engineRead_kept; assumption; apply State.endItem_kept; apply State.updCmd_kept
  apply State.engineWrite_kept; apply State.engineRead_kept; apply State.updCmd_kept; apply State.engineRead_kept
  assumption; apply State.sendWrite_kept; apply State.newMsg_kept; apply State.engineRead_kept
  apply State.updCmd_kept; apply State.engineRead_kept; assumption

theorem execCopyItem_kept {s₀ s : State} (h : Kept s₀ s) (cmd : Nat) :
    KeptOut s₀ (execCopyItem cmd s) := by
  unfold execCopyItem; apply KeptOut.next; dsimp only; split; assumption; apply Kept.ite; assumption; apply Kept.ite
  apply State.updCmd_kept; assumption; apply State.copyItem_kept; assumption

theorem execFence_kept {s₀ s : State} (h : Kept s₀ s) (cmd : Nat) :
    KeptOut s₀ (execFence cmd s) := by
  unfold execFence; apply KeptOut.next; split; assumption; apply Kept.ite; assumption; apply State.endItem_kept
  apply State.beginCmd_kept; assumption

theorem execNop_kept {s₀ s : State} (h : Kept s₀ s) (cmd : Nat) :
    KeptOut s₀ (execNop cmd s) := by
  unfold execNop; apply KeptOut.next; split; assumption; apply Kept.ite; apply State.endItem_kept
  apply State.beginCmd_kept; assumption; assumption

theorem State.queryFail_kept {s₀ s : State} (h : Kept s₀ s) (k : Cmd) (code : Nat) (st : Nat) :
    Kept s₀ (State.queryFail s k code st) := by
  unfold State.queryFail; apply State.qShow_kept; apply State.passQuery_kept; apply State.endItem_kept
  apply Kept.ite; apply State.failItem_kept; assumption; apply State.entryErr_kept; assumption

theorem execQuery_kept {s₀ s : State} (h : Kept s₀ s) (cmd : Nat) :
    KeptOut s₀ (execQuery cmd s) := by
  unfold execQuery; apply KeptOut.next; dsimp only; split; assumption; apply Kept.ite; assumption; apply Kept.ite
  apply State.queryFail_kept; apply State.engineRead_kept; assumption; apply Kept.ite; apply State.queryFail_kept
  apply State.engineRead_kept; assumption; apply State.updCmd_kept; apply State.beginCmd_kept
  apply State.engineRead_kept; assumption

theorem State.writeSlot_kept {s₀ s : State} (h : Kept s₀ s) (x : QueryRun) :
    Kept s₀ (State.writeSlot s x) := by
  unfold State.writeSlot; dsimp only; split; assumption; apply Kept.ite; assumption; apply Kept.upd
  apply State.lbWr_kept; apply State.lbWr_kept; assumption

theorem State.placeQuery_kept {s₀ s : State} (h : Kept s₀ s) (k : Cmd) :
    Kept s₀ (State.placeQuery s k) := by
  unfold State.placeQuery; apply Kept.ite; apply State.queryFail_kept; assumption; dsimp only; split
  apply State.queryFail_kept; assumption; apply State.passQuery_kept; apply State.updCmd_kept
  apply State.writeSlot_kept; apply Kept.upd; assumption

theorem execQueryPlace_kept {s₀ s : State} (h : Kept s₀ s)  :
    KeptOut s₀ (execQueryPlace s) := by
  unfold execQueryPlace; apply KeptOut.next; split; apply Kept.foldl; (intro _; intros; try dsimp only)
  apply State.setQStat_kept; assumption; apply Kept.foldl; (intro _; intros; try dsimp only)
  apply State.writeSlot_kept; assumption; assumption; apply State.placeQuery_kept; apply Kept.foldl
  (intro _; intros; try dsimp only); apply State.setQStat_kept; assumption; apply Kept.foldl
  (intro _; intros; try dsimp only); apply State.writeSlot_kept; assumption; assumption

theorem execQueryResultCollect_kept {s₀ s : State} (h : Kept s₀ s)  :
    KeptOut s₀ (execQueryResultCollect s) := by
  unfold execQueryResultCollect; apply KeptOut.next; dsimp only; split; assumption; split; apply Kept.upd
  assumption; apply Kept.ite; apply Kept.upd; assumption; apply Kept.ite; apply State.endItem_kept
  apply State.failItem_kept; apply Kept.upd; assumption; apply Kept.ite; apply State.endItem_kept; apply Kept.upd
  assumption; apply Kept.ite; apply State.endItem_kept; apply Kept.upd; assumption; apply Kept.ite
  apply State.endItem_kept; apply State.logDown_kept; apply Kept.upd; assumption; apply Kept.ite; assumption
  apply State.endItem_kept; apply State.updCmd_kept; apply State.engineWrite_kept; apply Kept.upd; assumption

end Sys2Proof.Machine
end

