-- ==== Sys2Proof/Laws/KeptPcie.lean ====
section
/-!
SUPPORT. Laws/KeptPcie.lean: the operations of Machine/Pcie.lean lead only to states that keep what Laws/Kept.lean names.
-/
namespace Sys2Proof.Machine

theorem execPcieLinkTrain_kept {s₀ s : State} (h : Kept s₀ s) (p : PcieIx) (gen : Nat) (width : Nat) :
    KeptOut s₀ (execPcieLinkTrain p gen width s) := by
  unfold execPcieLinkTrain; apply KeptOut.next; apply Kept.ite; assumption; apply State.setRegN_kept; assumption

theorem execPcieRetrain_kept {s₀ s : State} (h : Kept s₀ s) (p : PcieIx) :
    KeptOut s₀ (execPcieRetrain p s) := by
  unfold execPcieRetrain; apply KeptOut.next; apply Kept.ite; apply State.logCorr_kept; apply State.bump_kept
  assumption; assumption

theorem State.stopItem_kept {s₀ s : State} (h : Kept s₀ s) (k : Cmd) (j : Nat) (st : Nat) :
    Kept s₀ (State.stopItem s k j st) := by
  unfold State.stopItem; apply Kept.ite; apply State.failItem_kept; assumption; apply State.endItem_kept
  apply State.failItem_kept; assumption

theorem State.stopCmd_kept {s₀ s : State} (h : Kept s₀ s) (k : Cmd) (st : Nat) :
    Kept s₀ (State.stopCmd s k st) := by
  unfold State.stopCmd; apply Kept.ite; apply Kept.foldl; (intro _; intros; try dsimp only)
  apply State.stopItem_kept; assumption; assumption; apply State.failAll_kept; assumption

theorem State.failHostItems_kept {s₀ s : State} (h : Kept s₀ s)  :
    Kept s₀ (State.failHostItems s) := by
  unfold State.failHostItems; apply Kept.foldl; (intro _; intros; try dsimp only); apply Kept.foldl
  (intro _; intros; try dsimp only); apply Kept.ite; apply State.stopItem_kept; assumption; assumption; assumption
  assumption

theorem State.detach_kept {s₀ s : State} (h : Kept s₀ s) (q : Nat) :
    Kept s₀ (State.detach s q) := by
  unfold State.detach; apply Kept.ite; assumption; apply State.qShow_kept; apply Kept.foldl
  (intro _; intros; try dsimp only); apply State.toLog_kept; assumption; apply State.setQStat_kept
  apply State.setQStat_kept; apply State.setQStat_kept; apply State.setQueue_kept; assumption

theorem State.copyCut_kept {s₀ s : State} (h : Kept s₀ s) (cmd : Nat) (j : Nat) (n : Nat) :
    Kept s₀ (State.copyCut s cmd j n) := by
  unfold State.copyCut; dsimp only; split; assumption; apply Kept.ite; assumption; apply State.updCmd_kept
  apply State.wrBytes_kept; assumption

theorem State.resetCfg_kept {s₀ s : State} (h : Kept s₀ s)  :
    Kept s₀ (State.resetCfg s) := by
  unfold State.resetCfg; apply Kept.upd; assumption

theorem execPcieLinkLoss_kept {s₀ s : State} (h : Kept s₀ s) (p : PcieIx) (loss : LinkEnd) :
    KeptOut s₀ (execPcieLinkLoss p loss s) := by
  unfold execPcieLinkLoss; apply KeptOut.next; apply Kept.ite; assumption; apply Kept.ite; apply State.logCorr_kept
  apply State.bump_kept; apply Kept.ite; dsimp only; apply Kept.upd; apply State.setField_kept; assumption
  dsimp only; apply Kept.upd; apply State.setField_kept; assumption; dsimp only; apply Kept.upd
  apply State.resetCfg_kept; apply State.setField_kept; apply Kept.foldl; (intro _; intros; try dsimp only)
  apply State.detach_kept; assumption; apply State.failHostItems_kept; split; apply State.copyCut_kept
  apply State.logCorr_kept; apply State.bump_kept; apply Kept.ite; apply Kept.upd; apply State.setField_kept
  assumption; apply Kept.upd; apply State.setField_kept; assumption; apply State.logCorr_kept; apply State.bump_kept
  apply Kept.ite; apply Kept.upd; apply State.setField_kept; assumption; apply Kept.upd; apply State.setField_kept
  assumption

theorem execPcieD3hotExit_kept {s₀ s : State} (h : Kept s₀ s)  :
    KeptOut s₀ (execPcieD3hotExit s) := by
  unfold execPcieD3hotExit; apply KeptOut.next; apply Kept.ite; dsimp only; apply Kept.upd
  apply State.setField_kept; assumption; assumption

theorem execHostDetachAbort_kept {s₀ s : State} (h : Kept s₀ s)  :
    KeptOut s₀ (execHostDetachAbort s) := by
  unfold execHostDetachAbort; apply KeptOut.next; dsimp only; split; assumption; apply Kept.ite; assumption
  apply Kept.foldl; (intro _; intros; try dsimp only); apply State.stopCmd_kept; assumption; apply Kept.upd
  assumption

theorem State.answered_kept {s₀ s : State} (h : Kept s₀ s) (d : Bytes) (poison : Bool) (err : Bool) :
    Kept s₀ (State.answered s d poison err) := by
  unfold State.answered; apply Kept.upd; assumption

theorem execBar2Access_kept {s₀ s : State} (h : Kept s₀ s) (off : Nat) (n : Nat) (wr : Bool) (data : Bytes) (fault : TlpFault) :
    KeptOut s₀ (execBar2Access off n wr data fault s) := by
  unfold execBar2Access; apply KeptOut.next; apply Kept.ite; apply Kept.ite; assumption; apply State.bump_kept
  assumption; apply Kept.ite; apply State.answered_kept; assumption; apply Kept.ite; apply Kept.ite
  apply State.logAddr_kept; assumption; apply State.answered_kept; apply State.logAddr_kept; assumption
  apply Kept.ite; assumption; apply Kept.ite; apply Kept.ite; apply State.bump_kept; apply State.poisonRange_kept
  apply State.bump64_kept; apply State.wrBytes_kept; apply State.homeWrite_kept; assumption; apply State.bump64_kept
  apply State.wrBytes_kept; apply State.homeWrite_kept; assumption; apply State.answered_kept
  apply State.bump64_kept; apply State.homeRead_kept; assumption

theorem State.cacheXlat_kept {s₀ s : State} (h : Kept s₀ s) (e : AtcEntry) :
    Kept s₀ (State.cacheXlat s e) := by
  unfold State.cacheXlat; dsimp only; apply Kept.upd; assumption

theorem execOutboundAccess_kept {s₀ s : State} (h : Kept s₀ s) (a : Nat) (n : Nat) (wr : Bool) (data : Bytes) (xl : Option (Nat × Nat)) :
    KeptOut s₀ (execOutboundAccess a n wr data xl s) := by
  unfold execOutboundAccess; apply KeptOut.next; apply Kept.ite; assumption; apply Kept.ite; apply Kept.ite
  assumption; apply State.answered_kept; assumption; apply Kept.ite; apply Kept.ite; apply State.logDown_kept
  assumption; apply State.answered_kept; apply State.logDown_kept; assumption; apply Kept.ite
  apply State.bump64_kept; apply State.wrBytes_kept; split; apply Kept.ite; apply State.cacheXlat_kept; assumption
  assumption; assumption; apply State.answered_kept; apply State.bump64_kept; split; apply Kept.ite
  apply State.cacheXlat_kept; assumption; assumption; assumption

theorem execAtsInvalidation_kept {s₀ s : State} (h : Kept s₀ s) (a : Nat) (n : Nat) :
    KeptOut s₀ (execAtsInvalidation a n s) := by
  unfold execAtsInvalidation; apply KeptOut.next; apply Kept.upd; assumption

theorem State.flushMsix_kept {s₀ s : State} (h : Kept s₀ s)  :
    Kept s₀ (State.flushMsix s) := by
  unfold State.flushMsix; apply Kept.foldl; (intro _; intros; try dsimp only); apply State.sendMsix_kept; assumption
  apply Kept.upd; assumption

theorem State.configWrite_kept {s₀ s : State} (h : Kept s₀ s) (r : CfgReg) (v : Nat) :
    Kept s₀ (State.configWrite s r v) := by
  unfold State.configWrite; dsimp only; split; apply Kept.upd; assumption; apply State.flushMsix_kept
  apply Kept.upd; assumption; apply State.flushMsix_kept; apply Kept.upd; assumption; apply Kept.upd; assumption
  apply Kept.ite; apply Kept.upd; assumption; assumption; apply Kept.upd; assumption

theorem State.msixWrite_kept {s₀ s : State} (h : Kept s₀ s) (v : Nat) (w : Nat) (n : Nat) :
    Kept s₀ (State.msixWrite s v w n) := by
  unfold State.msixWrite; apply State.flushMsix_kept; apply Kept.upd; assumption

theorem State.bar4Word_kept {s₀ s : State} (h : Kept s₀ s) (off : Nat) (n : Nat) (cyc : Nat) :
    Kept s₀ (State.bar4Word s off n cyc) := by
  unfold State.bar4Word; apply Kept.ite; apply Kept.ite; apply State.doorbell_kept; assumption; assumption
  apply Kept.ite; apply Kept.ite; assumption; apply Kept.ite; apply State.logCorr_kept; assumption
  apply State.returnSlots_kept; assumption; apply Kept.ite; apply State.msixWrite_kept; assumption; assumption

theorem execPcieUnexpCpl_kept {s₀ s : State} (h : Kept s₀ s) (p : PcieIx) :
    KeptOut s₀ (execPcieUnexpCpl p s) := by
  unfold execPcieUnexpCpl; apply KeptOut.next; apply State.logCorr_kept; apply State.bump_kept
  apply State.bump_kept; assumption

theorem execPcieCplTimeout_kept {s₀ s : State} (h : Kept s₀ s) (p : PcieIx) (cmd : Nat) (item : Nat) :
    KeptOut s₀ (execPcieCplTimeout p cmd item s) := by
  unfold execPcieCplTimeout; apply KeptOut.next; split; assumption; apply Kept.ite; assumption
  apply State.stopItem_kept; apply State.logErr_kept; apply State.bump_kept; assumption

theorem execPciePoisonedTlp_kept {s₀ s : State} (h : Kept s₀ s) (p : PcieIx) (item : Option (Nat × Nat)) (a : Nat) (n : Nat) :
    KeptOut s₀ (execPciePoisonedTlp p item a n s) := by
  unfold execPciePoisonedTlp; apply KeptOut.next; split; apply Kept.ite; assumption; apply Kept.ite
  apply State.poisonRange_kept; apply State.homeWrite_kept; apply State.bump_kept; assumption; apply State.bump_kept
  assumption; split; apply State.bump_kept; assumption; apply Kept.ite; apply State.bump_kept; assumption
  apply State.stopItem_kept; apply State.bump_kept; assumption

theorem execPcieBar2BaseWrite_kept {s₀ s : State} (h : Kept s₀ s) (v : DWord) :
    KeptOut s₀ (execPcieBar2BaseWrite v s) := by
  unfold execPcieBar2BaseWrite; apply KeptOut.next; apply Kept.ite; apply State.setReg_kept; assumption
  apply State.logCorr_kept; assumption

theorem execPcieCtrlWrite_kept {s₀ s : State} (h : Kept s₀ s) (p : PcieIx) (v : Word) :
    KeptOut s₀ (execPcieCtrlWrite p v s) := by
  unfold execPcieCtrlWrite; apply KeptOut.next; apply Kept.ite; apply State.logCorr_kept; assumption
  apply State.setRegN_kept; assumption

end Sys2Proof.Machine
end

