-- ==== Sys2Proof/Laws/KeptMemory.lean ====
section
/-!
SUPPORT. Laws/KeptMemory.lean: the operations of Machine/Memory.lean lead only to states that keep what Laws/Kept.lean names.
-/
namespace Sys2Proof.Machine

theorem State.memCorrected_kept {s₀ s : State} (h : Kept s₀ s) (a : Nat) :
    Kept s₀ (State.memCorrected s a) := by
  unfold State.memCorrected; apply Kept.ite; apply Kept.upd; apply State.ev_kept; apply State.bump_kept; assumption
  apply State.logAddr_kept; apply State.setRegN_kept; apply Kept.upd; apply Kept.upd; apply State.ev_kept
  apply State.bump_kept; assumption

theorem State.memUncorrectable_kept {s₀ s : State} (h : Kept s₀ s) (a : Nat) (scrub : Bool) :
    Kept s₀ (State.memUncorrectable s a scrub) := by
  unfold State.memUncorrectable; apply State.setPoison_kept; apply Kept.ite; apply State.logAddr_kept
  apply State.setRegN_kept; apply State.ev_kept; apply State.bump_kept; assumption; apply State.logErr_kept
  apply State.setRegN_kept; apply State.ev_kept; apply State.bump_kept; assumption

theorem execMemoryReadError_kept {s₀ s : State} (h : Kept s₀ s) (a : Nat) (kind : ReadErr) :
    KeptOut s₀ (execMemoryReadError a kind s) := by
  unfold execMemoryReadError; apply KeptOut.next; dsimp only; split; split; apply State.logAddr_kept
  apply State.ev_kept; apply State.bump_kept; apply State.setRegN_kept; assumption; apply State.setPoison_kept
  apply State.setRegN_kept; assumption; apply State.setRegN_kept; assumption; split; apply State.memCorrected_kept
  assumption; apply State.memUncorrectable_kept; assumption; assumption; split; apply State.memCorrected_kept
  assumption; apply State.memUncorrectable_kept; assumption; apply State.logAddr_kept; apply State.bump_kept
  assumption; assumption

theorem State.scrub_kept {s₀ s : State} (h : Kept s₀ s) (u : Nat) (ce : List Nat) (ue : List Nat) :
    Kept s₀ (State.scrub s u ce ue) := by
  unfold State.scrub; apply Kept.foldl; (intro _; intros; try dsimp only); apply Kept.ite
  apply State.memUncorrectable_kept; assumption; assumption; apply Kept.foldl; (intro _; intros; try dsimp only)
  apply Kept.ite; apply State.memCorrected_kept; assumption; assumption; assumption

theorem State.scrubPass_kept {s₀ s : State} (h : Kept s₀ s) (u : Nat) (n : Nat) (ce : List Nat) (ue : List Nat) :
    Kept s₀ (State.scrubPass s u n ce ue) := by
  unfold State.scrubPass; apply Kept.ite; dsimp only; apply Kept.upd; apply State.scrub_kept; assumption; assumption

theorem execHbmcScrubPass_kept {s₀ s : State} (h : Kept s₀ s) (k : StackIx) (ce : List Nat) (ue : List Nat) :
    KeptOut s₀ (execHbmcScrubPass k ce ue s) := by
  unfold execHbmcScrubPass; apply KeptOut.next; apply State.scrubPass_kept; assumption

theorem execLpdcScrubPass_kept {s₀ s : State} (h : Kept s₀ s) (l : LpIx) (ce : List Nat) (ue : List Nat) :
    KeptOut s₀ (execLpdcScrubPass l ce ue s) := by
  unfold execLpdcScrubPass; apply KeptOut.next; apply Kept.ite; apply State.scrubPass_kept; assumption; assumption

theorem execHbmcMapWrite_kept {s₀ s : State} (h : Kept s₀ s) (v : Word) :
    KeptOut s₀ (execHbmcMapWrite v s) := by
  unfold execHbmcMapWrite; apply KeptOut.next; apply Kept.ite; apply State.logCorr_kept; assumption; apply Kept.ite
  apply State.logCorr_kept; apply State.setField_kept; assumption; apply State.setField_kept
  apply State.setField_kept; assumption

theorem execLpdcTierWrite_kept {s₀ s : State} (h : Kept s₀ s) (v : Word) :
    KeptOut s₀ (execLpdcTierWrite v s) := by
  unfold execLpdcTierWrite; apply KeptOut.next; apply Kept.ite; apply State.logCorr_kept; assumption
  apply State.setRegN_kept; assumption

theorem execLandClear_kept {s₀ s : State} (h : Kept s₀ s) (c : CoreIx) :
    KeptOut s₀ (execLandClear c s) := by
  unfold execLandClear; apply KeptOut.next; apply Kept.ite; apply State.setRegN_kept; assumption
  apply State.logCorr_kept; assumption

theorem execLandClearDone_kept {s₀ s : State} (h : Kept s₀ s) (c : CoreIx) :
    KeptOut s₀ (execLandClearDone c s) := by
  unfold execLandClearDone; apply KeptOut.next; apply Kept.ite; apply State.setRegN_kept; apply State.zeroRange_kept
  assumption; assumption

theorem State.answer_kept {s₀ s : State} (h : Kept s₀ s) (b : Bytes) (poison : Bool) :
    Kept s₀ (State.answer s b poison) := by
  unfold State.answer; apply Kept.upd; assumption

theorem State.landRead_kept {s₀ s : State} (h : Kept s₀ s) (c : Nat) (off : Nat) :
    Kept s₀ (State.landRead s c off) := by
  unfold State.landRead; apply State.logErr_kept; apply State.setRegN_kept; apply State.ev_kept
  apply State.bump_kept; assumption

theorem execDeckLbAccess_kept {s₀ s : State} (h : Kept s₀ s) (c : CoreIx) (off : Nat) (n : Nat) (wr : Bool) (data : Bytes) :
    KeptOut s₀ (execDeckLbAccess c off n wr data s) := by
  unfold execDeckLbAccess; apply KeptOut.next; apply Kept.ite; assumption; apply Kept.ite; apply State.lbWr_kept
  assumption; split; apply State.answer_kept; apply State.landRead_kept; assumption; apply State.answer_kept
  assumption

end Sys2Proof.Machine
end

