-- ==== Sys2Proof/Laws/KeptPrep.lean ====
section
/-!
SUPPORT. Laws/KeptPrep.lean: the operations of Machine/Prep.lean lead only to states that keep what Laws/Kept.lean names.
-/
namespace Sys2Proof.Machine

theorem execRngSeedWrite_kept {s₀ s : State} (h : Kept s₀ s) (c : CoreIx) (v : DWord) :
    KeptOut s₀ (execRngSeedWrite c v s) := by
  unfold execRngSeedWrite; apply KeptOut.next; apply Kept.ite; apply State.setReg_kept; assumption
  apply State.logCorr_kept; assumption

theorem execRngRestoreStepWrite_kept {s₀ s : State} (h : Kept s₀ s) (c : CoreIx) (v : DWord) :
    KeptOut s₀ (execRngRestoreStepWrite c v s) := by
  unfold execRngRestoreStepWrite; apply KeptOut.next; apply Kept.ite; apply State.logCorr_kept; assumption
  apply Kept.ite; assumption; apply State.setRegN_kept; apply State.logCorr_kept; apply State.bump_kept
  apply State.setReg_kept; assumption

theorem State.setPrepState_kept {s₀ s : State} (h : Kept s₀ s) (c : Nat) (v : Nat) :
    Kept s₀ (State.setPrepState s c v) := by
  unfold State.setPrepState; apply State.setField_kept; assumption

theorem State.setPrep_kept {s₀ s : State} (h : Kept s₀ s) (c : Nat) (x : PrepSt) :
    Kept s₀ (State.setPrep s c x) := by
  unfold State.setPrep; apply State.setCore_kept; assumption

theorem State.setHart_kept {s₀ s : State} (h : Kept s₀ s) (c : Nat) (h : HartSt) :
    Kept s₀ (State.setHart s c h) := by
  unfold State.setHart; apply State.setPrep_kept; assumption

theorem execPrepRun_kept {s₀ s : State} (h : Kept s₀ s) (c : CoreIx) :
    KeptOut s₀ (execPrepRun c s) := by
  unfold execPrepRun; apply KeptOut.next; apply Kept.ite; apply State.setHart_kept; apply State.setRegN_kept
  apply State.setField_kept; assumption; apply State.setField_kept; assumption

theorem execPrepHalt_kept {s₀ s : State} (h : Kept s₀ s) (c : CoreIx) :
    KeptOut s₀ (execPrepHalt c s) := by
  unfold execPrepHalt; apply KeptOut.next; apply Kept.ite; apply State.setPrepState_kept; apply State.setField_kept
  assumption; apply State.setField_kept; assumption

theorem execPrepReset_kept {s₀ s : State} (h : Kept s₀ s) (c : CoreIx) :
    KeptOut s₀ (execPrepReset c s) := by
  unfold execPrepReset; apply KeptOut.next; apply Kept.ite; apply State.setHart_kept; apply State.setPrepState_kept
  apply State.setRegN_kept; apply State.setPrep_kept; assumption; apply State.setRegN_kept; apply State.setPrep_kept
  assumption

theorem State.prepTrap_kept {s₀ s : State} (h : Kept s₀ s) (c : Nat) (cause : DWord) (epc : DWord) (tval : DWord) :
    Kept s₀ (State.prepTrap s c cause epc tval) := by
  unfold State.prepTrap; apply State.setHart_kept; apply State.setReg_kept; apply State.setReg_kept
  apply State.setReg_kept; assumption

theorem State.prepIrq_kept {s₀ s : State} (h : Kept s₀ s) (c : Nat) :
    Kept s₀ (State.prepIrq s c) := by
  unfold State.prepIrq; apply Kept.ite; apply Kept.ite; apply State.setPrepState_kept; assumption; assumption
  apply State.prepTrap_kept; apply Kept.ite; apply State.setPrepState_kept; assumption; assumption

theorem State.setSrvHart_kept {s₀ s : State} (h : Kept s₀ s) (k : Nat) (h : HartSt) :
    Kept s₀ (State.setSrvHart s k h) := by
  unfold State.setSrvHart; apply State.setServer_kept; assumption

theorem State.serverTrap_kept {s₀ s : State} (h : Kept s₀ s) (k : Nat) (cause : Nat) (epc : Nat) (tval : Nat) :
    Kept s₀ (State.serverTrap s k cause epc tval) := by
  unfold State.serverTrap; apply State.setSrvHart_kept; assumption

theorem State.prepCsr_kept {s₀ s : State} (h : Kept s₀ s) (c : Nat) (n : Nat) :
    Kept s₀ (State.prepCsr s c n).1 := by
  unfold State.prepCsr; split; dsimp only; assumption; split; dsimp only; assumption; split; dsimp only; assumption
  split; dsimp only; assumption; split; dsimp only; assumption; split; dsimp only; apply State.draw_kept; assumption
  split; dsimp only; assumption; dsimp only; assumption

theorem State.prepLoad_kept {s₀ s : State} (h : Kept s₀ s) (c : Nat) (a : Nat) (n : Nat) (epc : DWord) :
    Kept s₀ (State.prepLoad s c a n epc).1 := by
  unfold State.prepLoad; split; dsimp only; apply State.logAddr_kept; apply State.prepTrap_kept; assumption; split
  dsimp only; apply State.prepTrap_kept; assumption; dsimp only; assumption

theorem State.prepStore_kept {s₀ s : State} (h : Kept s₀ s) (c : Nat) (a : Nat) (b : Bytes) (epc : DWord) :
    Kept s₀ (State.prepStore s c a b epc) := by
  unfold State.prepStore; apply Kept.ite; apply State.logAddr_kept; apply State.prepTrap_kept; assumption
  apply State.wrBytes_kept; assumption

theorem execPtflagset_kept {s₀ s : State} (h : Kept s₀ s) (c : CoreIx) (v : DWord) :
    KeptOut s₀ (execPtflagset c v s) := by
  unfold execPtflagset; apply KeptOut.next; apply Kept.ite; assumption; apply State.handFlags_kept; apply Kept.ite
  apply State.bump_kept; assumption; assumption

theorem execPtickcmpIrq_kept {s₀ s : State} (h : Kept s₀ s) (c : CoreIx) (cmp : DWord) :
    KeptOut s₀ (execPtickcmpIrq c cmp s) := by
  unfold execPtickcmpIrq; apply KeptOut.next; apply Kept.ite; apply State.prepIrq_kept; apply State.setPrep_kept
  assumption; apply State.setPrep_kept; assumption

theorem execPrepBusError_kept {s₀ s : State} (h : Kept s₀ s) (c : CoreIx) (cause : DWord) (epc : DWord) (addr : DWord) :
    KeptOut s₀ (execPrepBusError c cause epc addr s) := by
  unfold execPrepBusError; apply KeptOut.next; apply Kept.ite; apply State.logAddr_kept; apply State.prepTrap_kept
  assumption; assumption

theorem execPrepDoubleTrap_kept {s₀ s : State} (h : Kept s₀ s) (c : CoreIx) (cause : DWord) (epc : DWord) (tval : DWord) :
    KeptOut s₀ (execPrepDoubleTrap c cause epc tval s) := by
  unfold execPrepDoubleTrap; apply KeptOut.next; apply Kept.ite; apply State.logCorr_kept; apply State.setRegN_kept
  apply State.prepTrap_kept; assumption; assumption

theorem execUnitErrorIrq_kept {s₀ s : State} (h : Kept s₀ s) (c : CoreIx) (u : Fin 9) :
    KeptOut s₀ (execUnitErrorIrq c u s) := by
  unfold execUnitErrorIrq; apply KeptOut.next; apply Kept.ite; apply State.prepIrq_kept; apply State.setField_kept
  assumption; assumption

end Sys2Proof.Machine
end

