-- ==== Sys2Proof/Laws/KeptCoherence.lean ====
section
/-!
SUPPORT. Laws/KeptCoherence.lean: the operations of Machine/Coherence.lean lead only to states that keep what Laws/Kept.lean names.
-/
namespace Sys2Proof.Machine

theorem State.reply_kept {s₀ s : State} (h : Kept s₀ s) (t : HomeTx) (line : Nat) (kind : ReplyKind) (data : Bytes) :
    Kept s₀ (State.reply s t line kind data) := by
  unfold State.reply; apply State.setCoh_kept; assumption

theorem State.sendAck_kept {s₀ s : State} (h : Kept s₀ s) (p : PartIx) (line : Nat) :
    Kept s₀ (State.sendAck s p line) := by
  unfold State.sendAck; apply State.reply_kept; assumption

theorem State.countReq_kept {s₀ s : State} (h : Kept s₀ s) (line : Nat) (t : HomeTx) :
    Kept s₀ (State.countReq s line t) := by
  unfold State.countReq; split; apply Kept.ite; assumption; apply State.bump64_kept; assumption
  apply State.bump64_kept; assumption

theorem State.writeDone_kept {s₀ s : State} (h : Kept s₀ s) (line : Nat) (t : HomeTx) :
    Kept s₀ (State.writeDone s line t) := by
  unfold State.writeDone; split; apply Kept.ite; assumption; apply State.reply_kept; assumption
  apply State.reply_kept; assumption

theorem State.wrMask_kept {s₀ s : State} (h : Kept s₀ s) (line : Nat) (mask : Nat) (data : Bytes) :
    Kept s₀ (State.wrMask s line mask data) := by
  unfold State.wrMask; apply Kept.foldl; (intro _; intros; try dsimp only); apply Kept.ite; apply State.wr8_kept
  assumption; assumption; assumption

theorem State.ownTo_kept {s₀ s : State} (h : Kept s₀ s) (line : Nat) (p : Nat) :
    Kept s₀ (State.ownTo s line p) := by
  unfold State.ownTo; apply State.setCoh_kept; apply State.dirSet_kept; assumption

theorem State.homeLeft_kept {s₀ s : State} (h : Kept s₀ s) (line : Nat) :
    Kept s₀ (State.homeLeft s line) := by
  unfold State.homeLeft; apply State.setCoh_kept; apply State.dirFree_kept; assumption

theorem State.cohFinish_kept {s₀ s : State} (h : Kept s₀ s) (line : Nat) :
    Kept s₀ (State.cohFinish s line) := by
  unfold State.cohFinish; dsimp only; split; assumption; split; apply Kept.ite; apply State.reply_kept
  apply Kept.ite; apply State.dirFree_kept; apply State.countReq_kept; apply State.setFifo_kept; assumption
  apply State.countReq_kept; apply State.setFifo_kept; assumption; apply Kept.ite; apply State.reply_kept
  apply State.ownTo_kept; apply State.countReq_kept; apply State.setFifo_kept; assumption; apply State.reply_kept
  apply State.dirSet_kept; apply State.countReq_kept; apply State.setFifo_kept; assumption; apply State.reply_kept
  apply State.ownTo_kept; apply State.countReq_kept; apply State.setFifo_kept; assumption; apply Kept.ite
  apply State.reply_kept; apply State.ownTo_kept; apply State.countReq_kept; apply State.setFifo_kept; assumption
  apply State.reply_kept; apply State.ownTo_kept; apply State.countReq_kept; apply State.setFifo_kept; assumption
  apply State.reply_kept; apply State.countReq_kept; apply State.setFifo_kept; assumption; apply State.reply_kept
  apply State.countReq_kept; apply State.setFifo_kept; assumption; apply State.writeDone_kept
  apply State.countReq_kept; apply State.wrBytes_kept; apply State.homeLeft_kept; apply State.setFifo_kept
  assumption; apply State.writeDone_kept; apply State.countReq_kept; apply State.wrBytes_kept
  apply State.homeLeft_kept; apply State.setFifo_kept; assumption; apply State.writeDone_kept
  apply State.countReq_kept; apply State.wrMask_kept; apply State.homeLeft_kept; apply State.setFifo_kept
  assumption; apply State.reply_kept; apply State.bump64_kept; apply State.countReq_kept; apply State.setCoh_kept
  apply State.wrRaw_kept; apply State.dirFree_kept; apply State.setFifo_kept; assumption; apply State.countReq_kept
  apply State.dirFree_kept; apply State.setFifo_kept; assumption; apply State.reply_kept; apply State.dirDrop_kept
  apply State.setFifo_kept; assumption; apply State.reply_kept; apply State.dirDrop_kept; apply State.setFifo_kept
  assumption; apply State.dirFree_kept; apply State.setFifo_kept; assumption

theorem State.sendSnoops_kept {s₀ s : State} (h : Kept s₀ s) (line : Nat) (k : SnoopKind) (ps : List Nat) :
    Kept s₀ (State.sendSnoops s line k ps) := by
  unfold State.sendSnoops; apply State.bump64_kept; apply State.setCoh_kept; assumption

theorem State.cohServe_kept {s₀ s : State} (h : Kept s₀ s) (line : Nat) :
    Kept s₀ (State.cohServe s line) := by
  unfold State.cohServe; dsimp only; split; assumption; apply Kept.ite; apply Kept.ite; apply State.cohFinish_kept
  assumption; assumption; apply Kept.ite; apply Kept.ite; assumption; split; apply State.bump64_kept
  apply State.enter_kept; assumption; assumption; apply Kept.ite; apply State.cohFinish_kept; assumption
  apply State.sendSnoops_kept; apply State.setFifo_kept; assumption

theorem State.request_kept {s₀ s : State} (h : Kept s₀ s) (line : Nat) (t : HomeTx) :
    Kept s₀ (State.request s line t) := by
  unfold State.request; apply Kept.ite; apply State.cohProtocol_kept; assumption; dsimp only; split
  apply State.enter_kept; apply State.setCoh_kept; assumption; assumption; apply Kept.ite; assumption
  apply State.enter_kept; split; apply Kept.ite; apply State.bump64_kept; assumption; assumption; assumption

theorem State.requestAt_kept {s₀ s : State} (h : Kept s₀ s) (a : Nat) (t : HomeTx) :
    Kept s₀ (State.requestAt s a t) := by
  unfold State.requestAt; apply Kept.ite; apply State.request_kept; assumption; assumption

theorem State.bulkRequest_kept {s₀ s : State} (h : Kept s₀ s) (a : Nat) (n : Nat) (kind : TxKind) (g : CohAgent) (data : Bytes) :
    Kept s₀ (State.bulkRequest s a n kind g data) := by
  unfold State.bulkRequest; apply Kept.ite; assumption; apply Kept.ite; apply State.cohProtocol_kept; assumption
  apply Kept.foldl; (intro _; intros; try dsimp only); apply State.enter_kept; assumption; apply State.setCoh_kept
  assumption

theorem execHomeRdShared_kept {s₀ s : State} (h : Kept s₀ s) (p : PartIx) (core : Fin 64) (a : Nat) :
    KeptOut s₀ (execHomeRdShared p core a s) := by
  unfold execHomeRdShared; apply KeptOut.next; apply State.requestAt_kept; assumption

theorem execHomeRdOwn_kept {s₀ s : State} (h : Kept s₀ s) (p : PartIx) (core : Fin 64) (a : Nat) :
    KeptOut s₀ (execHomeRdOwn p core a s) := by
  unfold execHomeRdOwn; apply KeptOut.next; apply State.requestAt_kept; assumption

theorem execHomeUpgrade_kept {s₀ s : State} (h : Kept s₀ s) (p : PartIx) (core : Fin 64) (a : Nat) :
    KeptOut s₀ (execHomeUpgrade p core a s) := by
  unfold execHomeUpgrade; apply KeptOut.next; apply State.requestAt_kept; assumption

theorem execHomeRdOnce_kept {s₀ s : State} (h : Kept s₀ s) (g : CohAgent) (a : Nat) :
    KeptOut s₀ (execHomeRdOnce g a s) := by
  unfold execHomeRdOnce; apply KeptOut.next; apply State.requestAt_kept; assumption

theorem execHomeBulkRd_kept {s₀ s : State} (h : Kept s₀ s) (g : CohAgent) (a : Nat) (n : Nat) :
    KeptOut s₀ (execHomeBulkRd g a n s) := by
  unfold execHomeBulkRd; apply KeptOut.next; apply State.bulkRequest_kept; assumption

theorem execHomeWrLine_kept {s₀ s : State} (h : Kept s₀ s) (g : CohAgent) (a : Nat) (data : Bytes) :
    KeptOut s₀ (execHomeWrLine g a data s) := by
  unfold execHomeWrLine; apply KeptOut.next; apply State.requestAt_kept; assumption

theorem execHomeBulkWr_kept {s₀ s : State} (h : Kept s₀ s) (g : CohAgent) (a : Nat) (data : Bytes) :
    KeptOut s₀ (execHomeBulkWr g a data s) := by
  unfold execHomeBulkWr; apply KeptOut.next; apply State.bulkRequest_kept; assumption

theorem execHomeWrPart_kept {s₀ s : State} (h : Kept s₀ s) (g : CohAgent) (a : Nat) (mask : DWord) (data : Bytes) :
    KeptOut s₀ (execHomeWrPart g a mask data s) := by
  unfold execHomeWrPart; apply KeptOut.next; apply State.requestAt_kept; assumption

theorem execHomeAmoFar_kept {s₀ s : State} (h : Kept s₀ s) (p : PartIx) (core : Fin 64) (op : AmoOp) (wide : Bool) (a : Nat) (v : DWord) :
    KeptOut s₀ (execHomeAmoFar p core op wide a v s) := by
  unfold execHomeAmoFar; apply KeptOut.next; apply Kept.ite; apply State.requestAt_kept; assumption; assumption

theorem execHomeRecall_kept {s₀ s : State} (h : Kept s₀ s) (g : CohAgent) (a : Nat) (n : Nat) :
    KeptOut s₀ (execHomeRecall g a n s) := by
  unfold execHomeRecall; apply KeptOut.next; apply State.bulkRequest_kept; assumption

theorem execHomeTransactionServe_kept {s₀ s : State} (h : Kept s₀ s) (a : Nat) :
    KeptOut s₀ (execHomeTransactionServe a s) := by
  unfold execHomeTransactionServe; apply KeptOut.next; apply State.cohServe_kept; assumption

theorem State.updHead_kept {s₀ s : State} (h : Kept s₀ s) (line : Nat) (g : HomeTx → HomeTx) :
    Kept s₀ (State.updHead s line g) := by
  unfold State.updHead; split; assumption; apply State.setFifo_kept; assumption

theorem State.settle_kept {s₀ s : State} (h : Kept s₀ s) (line : Nat) (p : Nat) (dirty : Bool) :
    Kept s₀ (State.settle s line p dirty) := by
  unfold State.settle; dsimp only; split; apply State.updHead_kept; assumption; apply Kept.ite
  apply State.cohFinish_kept; apply State.updHead_kept; assumption; apply State.updHead_kept; assumption

theorem State.takeLeave_kept {s₀ s : State} (h : Kept s₀ s) (line : Nat) (p : PartIx) (k : TxKind) :
    Kept s₀ (State.takeLeave s line p k) := by
  unfold State.takeLeave; split; assumption; apply State.sendAck_kept; apply State.setFifo_kept; assumption

theorem State.crossing_kept {s₀ s : State} (h : Kept s₀ s) (line : Nat) (p : PartIx) :
    Kept s₀ (State.crossing s line p) := by
  unfold State.crossing; apply State.settle_kept; apply State.bump_kept; apply State.dirDrop_kept; assumption

theorem execHomeWb_kept {s₀ s : State} (h : Kept s₀ s) (p : PartIx) (a : Nat) :
    KeptOut s₀ (execHomeWb p a s) := by
  unfold execHomeWb; apply KeptOut.next; dsimp only; split; apply State.cohProtocol_kept; assumption; assumption
  apply Kept.ite; apply State.cohProtocol_kept; apply State.setCoh_kept; assumption; apply Kept.ite
  apply State.crossing_kept; apply State.sendAck_kept; apply State.setCoh_kept; assumption; apply State.enter_kept
  apply State.setCoh_kept; assumption

theorem execHomeEvict_kept {s₀ s : State} (h : Kept s₀ s) (p : PartIx) (a : Nat) :
    KeptOut s₀ (execHomeEvict p a s) := by
  unfold execHomeEvict; apply KeptOut.next; dsimp only; split; apply State.cohProtocol_kept; assumption; assumption
  apply Kept.ite; apply State.enter_kept; apply State.setCoh_kept; assumption; apply State.bump_kept
  apply State.sendAck_kept; apply State.setCoh_kept; assumption

theorem execHomeSnoopAnswer_kept {s₀ s : State} (h : Kept s₀ s) (p : PartIx) (a : Nat) :
    KeptOut s₀ (execHomeSnoopAnswer p a s) := by
  unfold execHomeSnoopAnswer; apply KeptOut.next; dsimp only; split; apply State.cohProtocol_kept; assumption
  assumption; apply State.cohProtocol_kept; apply State.setCoh_kept; assumption; split; apply State.settle_kept
  apply Kept.ite; apply State.bump_kept; apply State.takeLeave_kept; apply State.dirDrop_kept
  apply State.setCoh_kept; assumption; apply State.dirDrop_kept; apply State.setCoh_kept; assumption
  apply State.settle_kept; apply Kept.ite; apply State.dirSet_kept; apply State.setCoh_kept; assumption
  apply State.dirDrop_kept; apply State.setCoh_kept; assumption; apply Kept.ite; apply State.crossing_kept
  apply State.takeLeave_kept; apply State.setCoh_kept; assumption; apply State.updHead_kept; apply State.setCoh_kept
  assumption; apply State.updHead_kept; apply State.bump_kept; apply State.setCoh_kept; assumption

theorem execSnoopResend_kept {s₀ s : State} (h : Kept s₀ s) (p : PartIx) (a : Nat) :
    KeptOut s₀ (execSnoopResend p a s) := by
  unfold execSnoopResend; apply KeptOut.next; dsimp only; split; apply Kept.ite; apply State.bump64_kept
  apply State.setCoh_kept; apply State.updHead_kept; assumption; assumption; assumption

theorem execCohSnoopTimeout_kept {s₀ s : State} (h : Kept s₀ s) (p : PartIx) (a : Nat) :
    KeptOut s₀ (execCohSnoopTimeout p a s) := by
  unfold execCohSnoopTimeout; apply KeptOut.next; split; apply Kept.ite; apply State.cohFatal_kept; assumption
  assumption; assumption

theorem State.ansSnoop_kept {s₀ s : State} (h : Kept s₀ s) (p : Nat) (line : Nat) (r : SnoopRsp) :
    Kept s₀ (State.ansSnoop s p line r) := by
  unfold State.ansSnoop; apply State.setCoh_kept; assumption

theorem State.snooped_kept {s₀ s : State} (h : Kept s₀ s) (p : PartIx) (line : Nat) (k : SnoopKind) (left : Nat) :
    Kept s₀ (State.snooped s p line k left) := by
  unfold State.snooped; dsimp only; split; apply State.cohProtocol_kept; assumption; assumption; apply Kept.ite
  assumption; split; apply State.ansSnoop_kept; apply State.setCoh_kept; assumption; apply Kept.ite
  apply State.ansSnoop_kept; apply Kept.ite; apply State.bump_kept; apply State.setCoh_kept; assumption
  apply State.setCoh_kept; assumption; split; apply State.ansSnoop_kept; apply State.setCoh_kept; assumption
  apply Kept.ite; apply State.ansSnoop_kept; apply State.setCoh_kept; apply State.setCoh_kept; assumption
  apply State.ansSnoop_kept; apply State.setCoh_kept; apply State.setCoh_kept; assumption; apply Kept.ite
  apply Kept.ite; apply State.ansSnoop_kept; apply State.setCoh_kept; apply State.setCoh_kept; assumption
  apply State.ansSnoop_kept; apply State.setCoh_kept; apply State.setCoh_kept; assumption; apply State.ansSnoop_kept
  apply State.setCoh_kept; apply State.setCoh_kept; assumption; apply Kept.ite; apply State.ansSnoop_kept
  apply State.setCoh_kept; assumption; apply State.ansSnoop_kept; apply State.setCoh_kept; apply State.setCoh_kept
  assumption

theorem execSnpInv_kept {s₀ s : State} (h : Kept s₀ s) (p : PartIx) (a : Nat) (left : Fin 64) :
    KeptOut s₀ (execSnpInv p a left s) := by
  unfold execSnpInv; apply KeptOut.next; apply State.snooped_kept; assumption

theorem execSnpShare_kept {s₀ s : State} (h : Kept s₀ s) (p : PartIx) (a : Nat) (left : Fin 64) :
    KeptOut s₀ (execSnpShare p a left s) := by
  unfold execSnpShare; apply KeptOut.next; apply State.snooped_kept; assumption

theorem execBackInv_kept {s₀ s : State} (h : Kept s₀ s) (p : PartIx) (a : Nat) (left : Fin 64) :
    KeptOut s₀ (execBackInv p a left s) := by
  unfold execBackInv; apply KeptOut.next; apply State.snooped_kept; assumption

theorem execBollardHoldEnd_kept {s₀ s : State} (h : Kept s₀ s) (p : PartIx) (a : Nat) :
    KeptOut s₀ (execBollardHoldEnd p a s) := by
  unfold execBollardHoldEnd; apply KeptOut.next; split; apply Kept.ite; apply State.setCoh_kept; assumption
  assumption; assumption

theorem execCacheEviction_kept {s₀ s : State} (h : Kept s₀ s) (p : PartIx) (a : Nat) :
    KeptOut s₀ (execCacheEviction p a s) := by
  unfold execCacheEviction; apply KeptOut.next; apply State.evictLine_kept; assumption

theorem State.atomAnswer_kept {s₀ s : State} (h : Kept s₀ s) (r : AtomRun) (v : Nat) :
    Kept s₀ (State.atomAnswer s r v) := by
  unfold State.atomAnswer; apply State.answer_kept; assumption

theorem State.l2Drop_kept {s₀ s : State} (h : Kept s₀ s) (p : PartIx) (c : CacheCopy) (k : Nat) :
    Kept s₀ (State.l2Drop s p c k) := by
  unfold State.l2Drop; apply Kept.ite; apply State.evictLine_kept; assumption; apply State.setCoh_kept; assumption

theorem State.makeRoom_kept {s₀ s : State} (h : Kept s₀ s) (p : PartIx) (k : Nat) :
    Kept s₀ (State.makeRoom s p k) := by
  unfold State.makeRoom; apply Kept.ite; split; apply Kept.ite; apply State.evictLine_kept; split; apply Kept.ite
  apply State.setCoh_kept; assumption; assumption; assumption; split; apply Kept.ite; apply State.setCoh_kept
  assumption; assumption; assumption; split; apply Kept.ite; apply State.setCoh_kept; assumption; assumption
  assumption; dsimp only; split; apply Kept.ite; apply State.l2Drop_kept; split; apply Kept.ite
  apply State.setCoh_kept; assumption; assumption; assumption; split; apply Kept.ite; apply State.setCoh_kept
  assumption; assumption; assumption; split; apply Kept.ite; apply State.setCoh_kept; assumption; assumption
  assumption

theorem State.atomNear_kept {s₀ s : State} (h : Kept s₀ s) (r : AtomRun) :
    Kept s₀ (State.atomNear s r) := by
  unfold State.atomNear; dsimp only; split; apply State.atomAnswer_kept; apply State.wrRaw_kept
  apply State.setCoh_kept; split; apply State.bump_kept; assumption; assumption; apply State.atomAnswer_kept
  apply Kept.ite; apply State.wrRaw_kept; apply State.setCoh_kept; split; apply State.bump_kept; assumption
  assumption; apply State.setCoh_kept; split; apply State.bump_kept; assumption; assumption
  apply State.atomAnswer_kept; apply State.setCoh_kept; apply State.setCoh_kept; split; apply State.bump_kept
  assumption; assumption; apply Kept.ite; apply State.atomAnswer_kept; apply State.wrRaw_kept
  apply State.setCoh_kept; apply State.setCoh_kept; split; apply State.bump_kept; assumption; assumption
  apply State.atomAnswer_kept; apply State.setCoh_kept; split; apply State.bump_kept; assumption; assumption

theorem State.atomStart_kept {s₀ s : State} (h : Kept s₀ s) (r : AtomRun) (rl : Bool) :
    Kept s₀ (State.atomStart s r rl) := by
  unfold State.atomStart; apply Kept.ite; assumption; apply Kept.ite; apply State.atomNear_kept; assumption
  dsimp only; split; apply Kept.ite; apply State.atomNear_kept; apply State.makeRoom_kept; split
  apply State.bump64_kept; assumption; assumption; apply State.setCoh_kept; split; apply State.bump64_kept
  assumption; assumption; apply State.setCoh_kept; split; apply State.bump_kept; apply State.bump64_kept; assumption
  assumption

theorem State.atomTrap_kept {s₀ s : State} (h : Kept s₀ s) (core : AtomCore) (cause : Nat) (tval : Nat) :
    Kept s₀ (State.atomTrap s core cause tval) := by
  unfold State.atomTrap; split; apply Kept.ite; apply State.serverTrap_kept; assumption; assumption; apply Kept.ite
  apply State.prepTrap_kept; assumption; assumption

theorem execAtomicOp_kept {s₀ s : State} (h : Kept s₀ s) (core : AtomCore) (op : AtomOp) (form : AtomForm) (a : Nat) (v : BitVec 128) :
    KeptOut s₀ (execAtomicOp core op form a v s) := by
  unfold execAtomicOp; apply KeptOut.next; apply Kept.ite; apply State.atomTrap_kept; assumption; apply Kept.ite
  apply State.atomTrap_kept; assumption; apply Kept.ite; apply State.atomStart_kept; assumption; assumption

theorem State.atomsGranted_kept {s₀ s : State} (h : Kept s₀ s) (p : Nat) (line : Nat) (core : Nat) (contended : Bool) :
    Kept s₀ (State.atomsGranted s p line core contended) := by
  unfold State.atomsGranted; apply Kept.foldl; (intro _; intros; try dsimp only); apply State.atomNear_kept
  apply State.setCoh_kept; assumption; apply State.setCoh_kept; assumption

theorem execGntReceive_kept {s₀ s : State} (h : Kept s₀ s) (p : PartIx) (a : Nat) :
    KeptOut s₀ (execGntReceive p a s) := by
  unfold execGntReceive; apply KeptOut.next; dsimp only; split; apply State.cohProtocol_kept; assumption; assumption
  apply Kept.ite; apply State.setCoh_kept; apply State.makeRoom_kept; apply State.setCoh_kept; assumption
  apply State.atomsGranted_kept; apply State.setCoh_kept; apply State.makeRoom_kept; apply State.setCoh_kept
  assumption

theorem execGntUp_kept {s₀ s : State} (h : Kept s₀ s) (p : PartIx) (a : Nat) :
    KeptOut s₀ (execGntUp p a s) := by
  unfold execGntUp; apply KeptOut.next; dsimp only; split; apply State.cohProtocol_kept; assumption; assumption
  apply Kept.ite; apply State.atomsGranted_kept; apply State.setCoh_kept; assumption; apply State.cohProtocol_kept
  apply State.setCoh_kept; assumption; apply State.cohProtocol_kept; apply State.setCoh_kept; assumption

theorem execDataOnce_kept {s₀ s : State} (h : Kept s₀ s) (g : CohAgent) (a : Nat) :
    KeptOut s₀ (execDataOnce g a s) := by
  unfold execDataOnce; apply KeptOut.next; dsimp only; split; apply State.cohProtocol_kept; assumption; assumption
  split; apply Kept.ite; apply State.bump64_kept; apply State.answer_kept; apply State.setCoh_kept; assumption
  apply State.answer_kept; apply State.setCoh_kept; assumption; apply State.answer_kept; apply State.setCoh_kept
  assumption

theorem execWrDone_kept {s₀ s : State} (h : Kept s₀ s) (g : CohAgent) (a : Nat) :
    KeptOut s₀ (execWrDone g a s) := by
  unfold execWrDone; apply KeptOut.next; dsimp only; split; apply State.cohProtocol_kept; assumption; assumption
  apply State.setCoh_kept; assumption

theorem execAmoRsp_kept {s₀ s : State} (h : Kept s₀ s) (p : PartIx) (a : Nat) :
    KeptOut s₀ (execAmoRsp p a s) := by
  unfold execAmoRsp; apply KeptOut.next; dsimp only; split; apply State.cohProtocol_kept; assumption; assumption
  apply State.answer_kept; split; apply State.setCoh_kept; apply State.setCoh_kept; assumption
  apply State.setCoh_kept; assumption

theorem execWbAck_kept {s₀ s : State} (h : Kept s₀ s) (p : PartIx) (a : Nat) :
    KeptOut s₀ (execWbAck p a s) := by
  unfold execWbAck; apply KeptOut.next; dsimp only; split; apply State.cohProtocol_kept; assumption; assumption
  apply Kept.ite; apply State.setCoh_kept; apply State.setCoh_kept; assumption; apply Kept.ite
  apply State.setCoh_kept; apply State.setCoh_kept; assumption; apply State.cohProtocol_kept
  apply State.setCoh_kept; assumption

theorem execDcacheFlush_kept {s₀ s : State} (h : Kept s₀ s) (t : DieIx) :
    KeptOut s₀ (execDcacheFlush t s) := by
  unfold execDcacheFlush; apply KeptOut.next; apply Kept.ite; apply State.logCorr_kept; assumption
  apply State.setRegN_kept; apply Kept.foldl; (intro _; intros; try dsimp only); apply State.evictLine_kept
  assumption; assumption

theorem execDcacheFlushDone_kept {s₀ s : State} (h : Kept s₀ s) (t : DieIx) :
    KeptOut s₀ (execDcacheFlushDone t s) := by
  unfold execDcacheFlushDone; apply KeptOut.next; apply Kept.ite; assumption; apply State.setRegN_kept; assumption

theorem execDcachePredClr_kept {s₀ s : State} (h : Kept s₀ s) (t : DieIx) :
    KeptOut s₀ (execDcachePredClr t s) := by
  unfold execDcachePredClr; apply KeptOut.next; apply Kept.ite; apply State.logCorr_kept; assumption
  apply State.setCoh_kept; assumption

theorem execDcPoisonConsumed_kept {s₀ s : State} (h : Kept s₀ s) (c : CoreIx) (epc : DWord) (a : Nat) :
    KeptOut s₀ (execDcPoisonConsumed c epc a s) := by
  unfold execDcPoisonConsumed; apply KeptOut.next; apply Kept.ite; apply State.logAddr_kept
  apply State.setRegN_kept; apply State.prepTrap_kept; assumption; assumption

theorem execHomeCfgWrite_kept {s₀ s : State} (h : Kept s₀ s) (h : SliceIx) (v : Word) :
    KeptOut s₀ (execHomeCfgWrite h v s) := by
  unfold execHomeCfgWrite; apply KeptOut.next; apply Kept.ite; apply State.logCorr_kept; assumption
  apply State.setRegN_kept; assumption

end Sys2Proof.Machine
end

