-- ==== Sys2Proof/Laws/KeptServer.lean ====
section
/-!
SUPPORT. Laws/KeptServer.lean: the operations of Machine/Server.lean lead only to states that keep what Laws/Kept.lean names.
-/
namespace Sys2Proof.Machine

theorem execSrvcRun_kept {s₀ s : State} (h : Kept s₀ s) (k : ServerIx) :
    KeptOut s₀ (execSrvcRun k s) := by
  unfold execSrvcRun; apply KeptOut.next; apply Kept.ite; apply State.logCorr_kept; assumption; apply Kept.ite
  apply State.setSrvHart_kept; apply State.setField_kept; apply State.setField_kept; assumption
  apply State.setField_kept; assumption

theorem execSrvcStop_kept {s₀ s : State} (h : Kept s₀ s) (k : ServerIx) :
    KeptOut s₀ (execSrvcStop k s) := by
  unfold execSrvcStop; apply KeptOut.next; apply Kept.ite; apply State.logCorr_kept; assumption
  apply State.setCoh_kept; apply State.setServer_kept; apply State.setField_kept; apply State.setField_kept
  assumption

theorem State.flushCore_kept {s₀ s : State} (h : Kept s₀ s) (k : ServerIx) :
    Kept s₀ (State.flushCore s k) := by
  unfold State.flushCore; apply Kept.foldl; (intro _; intros; try dsimp only); apply State.l2Drop_kept; assumption
  assumption

theorem execSrvcReserve_kept {s₀ s : State} (h : Kept s₀ s) (k : ServerIx) :
    KeptOut s₀ (execSrvcReserve k s) := by
  unfold execSrvcReserve; apply KeptOut.next; apply Kept.ite; apply State.setField_kept; apply State.setField_kept
  assumption; apply State.logCorr_kept; assumption

theorem execSrvcRelease_kept {s₀ s : State} (h : Kept s₀ s) (k : ServerIx) :
    KeptOut s₀ (execSrvcRelease k s) := by
  unfold execSrvcRelease; apply KeptOut.next; apply Kept.ite; assumption; apply Kept.ite; apply State.logCorr_kept
  assumption; apply State.flushCore_kept; apply State.setField_kept; apply State.setField_kept; assumption

theorem execSrvcPredClr_kept {s₀ s : State} (h : Kept s₀ s) (k : ServerIx) :
    KeptOut s₀ (execSrvcPredClr k s) := by
  unfold execSrvcPredClr; apply KeptOut.next; apply Kept.ite; apply State.logCorr_kept; assumption
  apply State.setCoh_kept; assumption

theorem execSrvcL2Flush_kept {s₀ s : State} (h : Kept s₀ s) (k : ServerIx) :
    KeptOut s₀ (execSrvcL2Flush k s) := by
  unfold execSrvcL2Flush; apply KeptOut.next; apply Kept.ite; apply State.logCorr_kept; assumption
  apply State.setField_kept; apply State.flushCore_kept; assumption

theorem execL2FlushDone_kept {s₀ s : State} (h : Kept s₀ s) (k : ServerIx) :
    KeptOut s₀ (execL2FlushDone k s) := by
  unfold execL2FlushDone; apply KeptOut.next; apply State.setField_kept; assumption

theorem execSrvcClkWrite_kept {s₀ s : State} (h : Kept s₀ s) (k : ServerIx) (mhz : BitVec 12) :
    KeptOut s₀ (execSrvcClkWrite k mhz s) := by
  unfold execSrvcClkWrite; apply KeptOut.next; apply Kept.ite; apply State.logCorr_kept; assumption
  apply State.setCluster_kept; apply State.setField_kept; assumption

theorem execSrvPoisonConsumed_kept {s₀ s : State} (h : Kept s₀ s) (k : ServerIx) (fetch : Bool) (epc : DWord) (a : Nat) :
    KeptOut s₀ (execSrvPoisonConsumed k fetch epc a s) := by
  unfold execSrvPoisonConsumed; apply KeptOut.next; apply Kept.ite; apply State.logAddr_kept
  apply State.setRegN_kept; apply State.bump_kept; apply State.serverTrap_kept; assumption; assumption

theorem execSrvCacheError_kept {s₀ s : State} (h : Kept s₀ s) (k : ServerIx) (a : Nat) (kind : CacheErr) :
    KeptOut s₀ (execSrvCacheError k a kind s) := by
  unfold execSrvCacheError; apply KeptOut.next; dsimp only; split; apply State.logAddr_kept
  apply State.setRegN_kept; apply State.ev_kept; apply State.bump_kept; assumption; assumption
  apply State.logAddr_kept; apply State.setRegN_kept; apply State.ev_kept; apply State.bump_kept
  apply State.setPoison_kept; assumption

end Sys2Proof.Machine
end

