-- ==== Sys2Proof/Laws/KeptUpdate.lean ====
section
/-!
SUPPORT. Laws/KeptUpdate.lean: the operations of Machine/Update.lean lead only to states that keep what Laws/Kept.lean names.
-/
namespace Sys2Proof.Machine

theorem State.logUpd_kept {s₀ s : State} (h : Kept s₀ s) (ev : Nat) (cls : Nat) (li : LogInfo) :
    Kept s₀ (State.logUpd s ev cls li) := by
  unfold State.logUpd; apply Kept.ite; apply Kept.ite; apply State.appendLog_kept; apply Kept.upd; assumption
  assumption; apply State.appendLog_kept; assumption

theorem State.updFail_kept {s₀ s : State} (h : Kept s₀ s) (cmd : Nat) (item : Nat) (ev : Nat) (st : Nat) :
    Kept s₀ (State.updFail s cmd item ev st) := by
  unfold State.updFail; apply State.endItem_kept; apply State.failItem_kept; apply State.logUpd_kept; assumption

theorem State.updFailAll_kept {s₀ s : State} (h : Kept s₀ s) (k : Cmd) (ev : Nat) (st : Nat) :
    Kept s₀ (State.updFailAll s k ev st) := by
  unfold State.updFailAll; apply State.failAll_kept; apply State.beginCmd_kept; apply State.logUpd_kept; assumption

theorem State.momentSub_kept {s₀ s : State} (h : Kept s₀ s) (x : UpdCtx) (t : State) (ht : Kept s₀ t) (q : Nat) :
    Kept s₀ (State.momentSub s x t q) := by
  unfold State.momentSub; apply Kept.ite; apply State.wrBytes_kept; apply State.wrNat_kept; assumption
  apply State.wrBytes_kept; apply State.wrNat_kept; apply State.wrBytes_kept; apply State.wrNat_kept; assumption

theorem State.momentHalf_kept {s₀ s : State} (h : Kept s₀ s) (x : UpdCtx) (b : Nat) :
    Kept s₀ (State.momentHalf s x b) := by
  unfold State.momentHalf; apply Kept.foldl; (intro _; intros; try dsimp only); apply State.momentSub_kept
  assumption; assumption; assumption

theorem State.weightOne_kept {s₀ s : State} (h : Kept s₀ s) (x : UpdCtx) (t : State) (ht : Kept s₀ t) (i : Nat) :
    Kept s₀ (State.weightOne s x t i) := by
  unfold State.weightOne; apply State.wrNat_kept; apply State.wrNat_kept; assumption

theorem State.weightHalf_kept {s₀ s : State} (h : Kept s₀ s) (x : UpdCtx) (b : Nat) :
    Kept s₀ (State.weightHalf s x b) := by
  unfold State.weightHalf; apply Kept.foldl; (intro _; intros; try dsimp only); apply State.weightOne_kept
  assumption; assumption; assumption

theorem State.setUpd_kept {s₀ s : State} (h : Kept s₀ s) (r : UpdRun) :
    Kept s₀ (State.setUpd s r) := by
  unfold State.setUpd; apply Kept.upd; assumption

theorem State.updUE_kept {s₀ s : State} (h : Kept s₀ s) (k : Cmd) (item : Nat) (stack : Option Nat) :
    Kept s₀ (State.updUE s k item stack) := by
  unfold State.updUE; apply State.endItem_kept; apply State.failItem_kept; split; apply State.logErr_kept
  apply State.setRegN_kept; assumption; assumption

theorem State.runHalf_kept {s₀ s : State} (h : Kept s₀ s) (k : Cmd) (r : UpdRun) (x : UpdCtx) (it : UpdItem) (weights : Bool) (next : UpdItem) (stack : Option Nat) :
    Kept s₀ (State.runHalf s k r x it weights next stack) := by
  unfold State.runHalf; apply Kept.ite; apply State.updUE_kept; assumption; apply State.setUpd_kept
  apply State.wrNat_kept; apply State.updCmd_kept; apply Kept.ite; apply State.weightHalf_kept; assumption
  apply State.momentHalf_kept; assumption

theorem State.putCommit_kept {s₀ s : State} (h : Kept s₀ s) (k : Cmd) (d : Shard) (item : Nat) (c : CommitRec) :
    Kept s₀ (State.putCommit s k d item c) := by
  unfold State.putCommit; apply State.updCmd_kept; apply State.wrBytes_kept; assumption

theorem State.commitItem_kept {s₀ s : State} (h : Kept s₀ s) (k : Cmd) (r : UpdRun) (d : Shard) (c : CommitRec) (item : Nat) :
    Kept s₀ (State.commitItem s k r d c item) := by
  unfold State.commitItem; apply State.endItem_kept; apply State.putCommit_kept; assumption

theorem State.updNext_kept {s₀ s : State} (h : Kept s₀ s) (k : Cmd) (r : UpdRun) (d : Shard) (it : UpdItem) (stack : Option Nat) :
    Kept s₀ (State.updNext s k r d it stack) := by
  unfold State.updNext; apply Kept.ite; apply State.updUE_kept; assumption; apply Kept.ite; apply Kept.ite
  apply State.runHalf_kept; assumption; apply Kept.ite; apply State.setUpd_kept; assumption; apply Kept.ite
  apply Kept.ite; apply State.runHalf_kept; assumption; apply State.updFail_kept; assumption; apply Kept.ite
  apply Kept.ite; apply State.setUpd_kept; assumption; apply State.runHalf_kept; assumption; apply Kept.ite
  apply State.runHalf_kept; assumption; apply State.updFail_kept; assumption; apply Kept.ite
  apply State.setUpd_kept; apply State.putCommit_kept; assumption; apply State.commitItem_kept; assumption

theorem State.updStart_kept {s₀ s : State} (h : Kept s₀ s) (k : Cmd) (r : UpdRun) (d : Shard) (item : Nat) :
    Kept s₀ (State.updStart s k r d item) := by
  unfold State.updStart; apply Kept.ite; apply State.updFail_kept; assumption; apply Kept.ite
  apply State.endItem_kept; assumption; apply Kept.ite; apply Kept.ite; apply State.endItem_kept
  apply State.putCommit_kept; assumption; apply State.setUpd_kept; apply State.putCommit_kept; assumption
  apply Kept.ite; apply State.setUpd_kept; apply State.logUpd_kept; assumption; apply State.updFail_kept; assumption

theorem State.verifyItem_kept {s₀ s : State} (h : Kept s₀ s) (k : Cmd) (d : Shard) (item : Nat) (stack : Option Nat) :
    Kept s₀ (State.verifyItem s k d item stack) := by
  unfold State.verifyItem; apply Kept.ite; apply State.updFail_kept; assumption; apply Kept.ite
  apply State.updUE_kept; assumption; apply Kept.ite; apply State.endItem_kept; assumption; apply Kept.ite
  apply State.endItem_kept; apply State.logUpd_kept; apply Kept.foldl; (intro _; intros; try dsimp only)
  apply State.wrNat_kept; assumption; apply State.updCmd_kept; assumption; apply State.endItem_kept
  apply State.failItem_kept; apply State.logUpd_kept; assumption

theorem State.updCount_kept {s₀ s : State} (h : Kept s₀ s) (k : Cmd) (item : Nat) (stack : Option Nat) :
    Kept s₀ (State.updCount s k item stack) := by
  unfold State.updCount; dsimp only; split; assumption; split; apply Kept.ite; apply State.setPont_kept
  apply State.bump64_kept; apply State.bump64_kept; apply State.bump64_kept; apply State.draw_kept
  apply State.draw_kept; assumption; assumption; assumption

theorem execUpdShardItem_kept {s₀ s : State} (h : Kept s₀ s) (cmd : Nat) (item : Nat) :
    KeptOut s₀ (execUpdShardItem cmd item s) := by
  unfold execUpdShardItem; apply KeptOut.next; dsimp only; split; apply Kept.ite; assumption; split; apply Kept.ite
  apply State.updCount_kept; apply State.updNext_kept; apply State.homeRecall_kept; assumption; assumption
  apply Kept.ite; apply State.updUE_kept; apply State.updCmd_kept; assumption; apply Kept.ite
  apply State.updFail_kept; apply State.updCmd_kept; assumption; apply Kept.ite; apply State.updFail_kept
  apply State.updCmd_kept; assumption; apply Kept.ite; assumption; apply State.updCount_kept; apply Kept.ite
  apply State.updUE_kept; apply State.updCmd_kept; apply State.homeRecall_kept; assumption; apply Kept.ite
  apply State.verifyItem_kept; apply State.updCmd_kept; apply State.homeRecall_kept; assumption
  apply State.updStart_kept; apply State.updCmd_kept; apply State.homeRecall_kept; assumption; assumption

theorem State.queueItems_kept {s₀ s : State} (h : Kept s₀ s) (k : Cmd) (r : UpdRun) :
    Kept s₀ (State.queueItems s k r) := by
  unfold State.queueItems; apply Kept.foldl; (intro _; intros; try dsimp only); apply Kept.ite; assumption; split
  apply State.setPont_kept; assumption; assumption; assumption

theorem State.updBegin_kept {s₀ s : State} (h : Kept s₀ s) (k : Cmd) :
    Kept s₀ (State.updBegin s k) := by
  unfold State.updBegin; dsimp only; split; apply State.updFailAll_kept; assumption; apply Kept.ite
  apply State.queueItems_kept; apply State.setUpd_kept; apply State.beginCmd_kept; assumption; apply Kept.ite
  apply State.updFailAll_kept; assumption; apply Kept.ite; apply State.failAll_kept; apply State.beginCmd_kept
  assumption; apply Kept.ite; apply State.updFailAll_kept; assumption; apply Kept.ite; apply State.updFailAll_kept
  assumption; apply Kept.ite; apply State.updFailAll_kept; assumption; apply State.queueItems_kept
  apply State.setUpd_kept; apply State.beginCmd_kept; assumption

theorem State.updateParams_kept {s₀ s : State} (h : Kept s₀ s) (cmd : Nat) (algo : Nat) :
    Kept s₀ (State.updateParams s cmd algo) := by
  unfold State.updateParams; split; assumption; apply Kept.ite; assumption; apply Kept.ite
  apply State.setField_kept; assumption; apply Kept.ite; assumption; apply State.updBegin_kept; assumption

theorem execUpdateParamsAdamw_kept {s₀ s : State} (h : Kept s₀ s) (cmd : Nat) :
    KeptOut s₀ (execUpdateParamsAdamw cmd s) := by
  unfold execUpdateParamsAdamw; apply KeptOut.next; apply State.updateParams_kept; assumption

theorem execUpdateParamsLamb_kept {s₀ s : State} (h : Kept s₀ s) (cmd : Nat) :
    KeptOut s₀ (execUpdateParamsLamb cmd s) := by
  unfold execUpdateParamsLamb; apply KeptOut.next; apply State.updateParams_kept; assumption

theorem execUpdateParamsSgd_kept {s₀ s : State} (h : Kept s₀ s) (cmd : Nat) :
    KeptOut s₀ (execUpdateParamsSgd cmd s) := by
  unfold execUpdateParamsSgd; apply KeptOut.next; apply State.updateParams_kept; assumption

theorem execUpdateParamsVerify_kept {s₀ s : State} (h : Kept s₀ s) (cmd : Nat) :
    KeptOut s₀ (execUpdateParamsVerify cmd s) := by
  unfold execUpdateParamsVerify; apply KeptOut.next; apply State.updateParams_kept; assumption

theorem execUpdHoldRelease_kept {s₀ s : State} (h : Kept s₀ s)  :
    KeptOut s₀ (execUpdHoldRelease s) := by
  unfold execUpdHoldRelease; apply KeptOut.next; apply Kept.ite; assumption; apply State.setField_kept; assumption

theorem State.moveRange_kept {s₀ s : State} (h : Kept s₀ s) (a : Nat) (n : Nat) (up : Bool) :
    Kept s₀ (State.moveRange s a n up) := by
  unfold State.moveRange; apply Kept.foldl; (intro _; intros; try dsimp only); apply State.wrNat_kept; assumption
  assumption

theorem State.refail_kept {s₀ s : State} (h : Kept s₀ s) (cmd : Nat) (item : Nat) (st : Nat) :
    Kept s₀ (State.refail s cmd item st) := by
  unfold State.refail; apply State.updCmd_kept; assumption

theorem State.serverMove_kept {s₀ s : State} (h : Kept s₀ s) (cmd : Nat) (ds : List (Nat × Shard)) (up : Bool) :
    Kept s₀ (State.serverMove s cmd ds up) := by
  unfold State.serverMove; split; apply Kept.foldl; (intro _; intros; try dsimp only); apply State.moveRange_kept
  apply State.homeRecall_kept; assumption; assumption; apply Kept.foldl; (intro _; intros; try dsimp only)
  apply State.refail_kept; assumption; assumption

theorem execUpdExponentMove_kept {s₀ s : State} (h : Kept s₀ s) (cmd : Nat) :
    KeptOut s₀ (execUpdExponentMove cmd s) := by
  unfold execUpdExponentMove; apply KeptOut.next; dsimp only; split; apply Kept.ite; assumption; apply Kept.ite
  apply State.setUpd_kept; assumption; split; apply State.setUpd_kept; apply State.wrBytes_kept; assumption
  apply Kept.ite; apply Kept.ite; assumption; apply Kept.ite; apply State.setUpd_kept; apply State.wrBytes_kept
  apply State.serverMove_kept; assumption; apply State.serverMove_kept; assumption; apply Kept.ite; apply Kept.foldl
  (intro _; intros; try dsimp only); split; apply State.setPont_kept; assumption; assumption
  apply State.setUpd_kept; assumption; apply Kept.ite; assumption; apply State.setUpd_kept; apply State.wrBytes_kept
  assumption; assumption

theorem execPontGexp_kept {s₀ s : State} (h : Kept s₀ s) (k : StackIx) :
    KeptOut s₀ (execPontGexp k s) := by
  unfold execPontGexp; apply KeptOut.next; dsimp only; split; apply Kept.ite; apply State.pontDone_kept
  apply State.refail_kept; apply State.itemErrAt_kept; apply State.setRegN_kept; assumption; apply Kept.ite
  assumption; apply Kept.ite; apply State.pontDone_kept; apply State.refail_kept; apply State.itemErrAt_kept
  apply State.setRegN_kept; assumption; apply State.pontDone_kept; apply State.moveRange_kept
  apply State.homeRecall_kept; assumption; assumption

end Sys2Proof.Machine
end

