-- ==== Sys2Proof/Laws/KeptRas.lean ====
section
/-!
SUPPORT. Laws/KeptRas.lean: the operations of Machine/Ras.lean lead only to states that keep what Laws/Kept.lean names.
-/
namespace Sys2Proof.Machine

theorem State.cacheErr_kept {s₀ s : State} (h : Kept s₀ s) (b : Blk) (page : Nat) (code : Nat) (addr : Option Nat) :
    Kept s₀ (State.cacheErr s b page code addr) := by
  unfold State.cacheErr; dsimp only; split; split; apply State.setRegN_kept; apply State.bump_kept; split
  apply State.ev_kept; assumption; apply State.ev_kept; assumption; apply State.ev_kept; assumption
  apply State.ev_kept; assumption; apply State.ev_kept; assumption; assumption; apply State.bump_kept; split
  apply State.ev_kept; assumption; apply State.ev_kept; assumption; apply State.ev_kept; assumption
  apply State.ev_kept; assumption; apply State.ev_kept; assumption; assumption; split; apply State.setRegN_kept
  apply State.bump_kept; split; apply State.ev_kept; assumption; apply State.ev_kept; assumption
  apply State.ev_kept; assumption; apply State.ev_kept; assumption; apply State.ev_kept; assumption; assumption
  apply State.bump_kept; split; apply State.ev_kept; assumption; apply State.ev_kept; assumption
  apply State.ev_kept; assumption; apply State.ev_kept; assumption; apply State.ev_kept; assumption; assumption
  split; apply State.setRegN_kept; split; apply State.ev_kept; assumption; apply State.ev_kept; assumption
  apply State.ev_kept; assumption; apply State.ev_kept; assumption; apply State.ev_kept; assumption; assumption
  split; apply State.ev_kept; assumption; apply State.ev_kept; assumption; apply State.ev_kept; assumption
  apply State.ev_kept; assumption; apply State.ev_kept; assumption; assumption; split; apply Kept.ite
  apply State.setPoison_kept; apply State.setRegN_kept; apply State.bump_kept; split; apply State.ev_kept
  assumption; apply State.ev_kept; assumption; apply State.ev_kept; assumption; apply State.ev_kept; assumption
  apply State.ev_kept; assumption; assumption; apply State.setRegN_kept; apply State.bump_kept; split
  apply State.ev_kept; assumption; apply State.ev_kept; assumption; apply State.ev_kept; assumption
  apply State.ev_kept; assumption; apply State.ev_kept; assumption; assumption; apply State.bump_kept; split
  apply State.ev_kept; assumption; apply State.ev_kept; assumption; apply State.ev_kept; assumption
  apply State.ev_kept; assumption; apply State.ev_kept; assumption; assumption; split; apply State.setRegN_kept
  apply State.bump_kept; split; apply State.ev_kept; assumption; apply State.ev_kept; assumption
  apply State.ev_kept; assumption; apply State.ev_kept; assumption; apply State.ev_kept; assumption; assumption
  apply State.bump_kept; split; apply State.ev_kept; assumption; apply State.ev_kept; assumption
  apply State.ev_kept; assumption; apply State.ev_kept; assumption; apply State.ev_kept; assumption; assumption
  split; apply Kept.ite; apply State.setPoison_kept; apply State.setRegN_kept; apply State.bump_kept; split
  apply State.ev_kept; assumption; apply State.ev_kept; assumption; apply State.ev_kept; assumption
  apply State.ev_kept; assumption; apply State.ev_kept; assumption; assumption; apply State.setRegN_kept
  apply State.bump_kept; split; apply State.ev_kept; assumption; apply State.ev_kept; assumption
  apply State.ev_kept; assumption; apply State.ev_kept; assumption; apply State.ev_kept; assumption; assumption
  apply State.bump_kept; split; apply State.ev_kept; assumption; apply State.ev_kept; assumption
  apply State.ev_kept; assumption; apply State.ev_kept; assumption; apply State.ev_kept; assumption; assumption
  split; apply State.ev_kept; assumption; apply State.ev_kept; assumption; apply State.ev_kept; assumption
  apply State.ev_kept; assumption; apply State.ev_kept; assumption; assumption

theorem State.pageError_kept {s₀ s : State} (h : Kept s₀ s) (b : Blk) (i : Nat) (code : Nat) (c : Nat × Nat) (item : Option (Nat × Nat)) (addr : Option Nat) (info : Nat) :
    Kept s₀ (State.pageError s b i code c item addr info) := by
  unfold State.pageError; dsimp only; split; split; apply Kept.ite; apply State.logErr_kept
  apply State.cacheErr_kept; assumption; apply Kept.ite; apply State.mbVoid_kept; apply State.cacheErr_kept
  assumption; apply Kept.ite; apply State.stopItem_kept; apply State.logErr_kept; apply State.cacheErr_kept
  assumption; apply State.logErr_kept; apply State.cacheErr_kept; assumption; apply State.logErr_kept
  apply State.cacheErr_kept; assumption; apply State.logErr_kept; apply State.cacheErr_kept; assumption

theorem execRasLogAppend_kept {s₀ s : State} (h : Kept s₀ s) (b : Blk) (i : Nat) (code : Nat) (item : Option (Nat × Nat)) (addr : Option Nat) (info : Nat) :
    KeptOut s₀ (execRasLogAppend b i code item addr info s) := by
  unfold execRasLogAppend; apply KeptOut.next; split; apply Kept.ite; apply State.pageError_kept; assumption
  assumption; assumption

theorem execDeviceFatalFault_kept {s₀ s : State} (h : Kept s₀ s) (b : Blk) (i : Nat) (code : Nat) (item : Option (Nat × Nat)) (addr : Option Nat) :
    KeptOut s₀ (execDeviceFatalFault b i code item addr s) := by
  unfold execDeviceFatalFault; apply KeptOut.next; split; apply Kept.ite; apply State.pageError_kept; assumption
  assumption; assumption

theorem execRasLogTailWrite_kept {s₀ s : State} (h : Kept s₀ s) (v : DWord) :
    KeptOut s₀ (execRasLogTailWrite v s) := by
  unfold execRasLogTailWrite; apply KeptOut.next; apply Kept.ite; apply State.logCorr_kept; assumption
  apply State.setReg_kept; assumption

theorem State.dropFerries_kept {s₀ s : State} (h : Kept s₀ s) (c : Nat) :
    Kept s₀ (State.dropFerries s c) := by
  unfold State.dropFerries; apply Kept.foldl; (intro _; intros; try dsimp only); apply State.useSlots_kept
  assumption; assumption

theorem State.stopCores_kept {s₀ s : State} (h : Kept s₀ s)  :
    Kept s₀ (State.stopCores s) := by
  unfold State.stopCores; apply State.mapCores_kept; apply State.foldCores_kept; apply State.foldCores_kept
  assumption; (intro _; intros; try dsimp only); apply Kept.ite; apply State.slipLeftover_kept
  apply State.dropFerries_kept; assumption; apply State.dropFerries_kept; assumption
  (intro _; intros; try dsimp only); apply State.setField_kept; apply State.setField_kept; apply State.setRegN_kept
  assumption

theorem State.stopUnits_kept {s₀ s : State} (h : Kept s₀ s)  :
    Kept s₀ (State.stopUnits s) := by
  unfold State.stopUnits; apply State.setField_kept; apply Kept.upd; assumption

theorem State.leaveCmd_kept {s₀ s : State} (h : Kept s₀ s) (k : Cmd) :
    Kept s₀ (State.leaveCmd s k) := by
  unfold State.leaveCmd; apply Kept.ite; assumption; apply Kept.ite; apply State.failAll_kept; assumption
  apply Kept.foldl; (intro _; intros; try dsimp only); apply Kept.ite; assumption; apply State.updCmd_kept
  assumption; assumption

theorem execLeaveStop_kept {s₀ s : State} (h : Kept s₀ s)  :
    KeptOut s₀ (execLeaveStop s) := by
  unfold execLeaveStop; apply KeptOut.next; apply Kept.ite; assumption; dsimp only; apply Kept.upd; apply Kept.foldl
  (intro _; intros; try dsimp only); apply Kept.ite; apply State.portLeave_kept; assumption; apply Kept.ite
  apply State.portIdle_kept; assumption; assumption; apply State.stopUnits_kept; apply State.stopCores_kept
  apply Kept.foldl; (intro _; intros; try dsimp only); apply State.leaveCmd_kept; assumption; assumption

theorem State.flushRecs_kept {s₀ s : State} (h : Kept s₀ s) (k : Cmd) :
    Kept s₀ (State.flushRecs s k) := by
  unfold State.flushRecs; apply State.qShow_kept; apply State.updCmd_kept; apply Kept.foldl
  (intro _; intros; try dsimp only); apply Kept.ite; apply State.logErr_kept; apply State.bump_kept; assumption
  apply State.putRec_kept; assumption; assumption

theorem execLeaveRecords_kept {s₀ s : State} (h : Kept s₀ s)  :
    KeptOut s₀ (execLeaveRecords s) := by
  unfold execLeaveRecords; apply KeptOut.next; apply Kept.ite; assumption; apply Kept.foldl
  (intro _; intros; try dsimp only); apply State.flushRecs_kept; assumption; apply Kept.foldl
  (intro _; intros; try dsimp only); apply State.leaveCmd_kept; assumption; assumption

theorem State.sendFlood_kept {s₀ s : State} (h : Kept s₀ s) (p : Nat) (b : Bytes) :
    Kept s₀ (State.sendFlood s p b) := by
  unfold State.sendFlood; apply State.queueFlit_kept; assumption

theorem State.floodDown_kept {s₀ s : State} (h : Kept s₀ s) (b : Bytes) :
    Kept s₀ (State.floodDown s b) := by
  unfold State.floodDown; apply Kept.foldl; (intro _; intros; try dsimp only); apply State.sendFlood_kept
  assumption; assumption

theorem State.takeSnapAt_kept {s₀ s : State} (h : Kept s₀ s) (t : Nat) :
    Kept s₀ (State.takeSnapAt s t) := by
  unfold State.takeSnapAt; dsimp only; split; apply State.logCorr_kept; apply Kept.upd; apply State.setRegN_kept
  assumption; apply Kept.ite; apply State.setRegN_kept; apply Kept.upd; apply State.setRegN_kept; assumption
  apply Kept.upd; apply State.setRegN_kept; assumption

theorem State.announce_kept {s₀ s : State} (h : Kept s₀ s) (t : Nat) :
    Kept s₀ (State.announce s t) := by
  unfold State.announce; apply State.takeSnapAt_kept; apply Kept.upd; apply State.floodDown_kept; assumption

theorem State.answerReq_kept {s₀ s : State} (h : Kept s₀ s) (kind : Nat) :
    Kept s₀ (State.answerReq s kind) := by
  unfold State.answerReq; apply Kept.ite; apply Kept.ite; apply State.logCorr_kept; assumption
  apply State.announce_kept; assumption; apply Kept.ite; apply Kept.ite; apply State.floodDown_kept; assumption
  apply Kept.upd; apply State.floodDown_kept; assumption; apply State.logCorr_kept; assumption

theorem State.request3_kept {s₀ s : State} (h : Kept s₀ s) (kind : Nat) :
    Kept s₀ (State.request3 s kind) := by
  unfold State.request3; apply Kept.ite; apply State.answerReq_kept; assumption; apply State.sendFlood_kept
  assumption

theorem State.takeFlood_kept {s₀ s : State} (h : Kept s₀ s) (p : Nat) (kind : Nat) :
    Kept s₀ (State.takeFlood s p kind).1 := by
  unfold State.takeFlood; split; dsimp only; assumption; split; dsimp only; apply State.viol_kept
  refine State.takeRx_kept (by assumption) ?_; assumption; split; dsimp only
  refine State.takeRx_kept (by assumption) ?_; assumption; dsimp only; assumption

theorem execFloodSnapshotAt_kept {s₀ s : State} (h : Kept s₀ s) (p : PortIx) :
    KeptOut s₀ (execFloodSnapshotAt p s) := by
  unfold execFloodSnapshotAt; apply KeptOut.next; dsimp only; split; refine Kept.fst_of (by assumption) ?_
  apply State.takeFlood_kept; assumption; apply Kept.ite; apply State.logCorr_kept; apply State.floodDown_kept
  refine Kept.fst_of (by assumption) ?_; apply State.takeFlood_kept; assumption; apply State.takeSnapAt_kept
  apply State.floodDown_kept; refine Kept.fst_of (by assumption) ?_; apply State.takeFlood_kept; assumption

theorem execFloodGlobalReset_kept {s₀ s : State} (h : Kept s₀ s) (p : PortIx) :
    KeptOut s₀ (execFloodGlobalReset p s) := by
  unfold execFloodGlobalReset; apply KeptOut.next; dsimp only; split; refine Kept.fst_of (by assumption) ?_
  apply State.takeFlood_kept; assumption; apply Kept.ite; apply State.floodDown_kept
  refine Kept.fst_of (by assumption) ?_; apply State.takeFlood_kept; assumption; apply Kept.upd
  apply State.floodDown_kept; refine Kept.fst_of (by assumption) ?_; apply State.takeFlood_kept; assumption

theorem execFloodRequest_kept {s₀ s : State} (h : Kept s₀ s) (p : PortIx) :
    KeptOut s₀ (execFloodRequest p s) := by
  unfold execFloodRequest; apply KeptOut.next; split; refine Kept.fst_of (by assumption) ?_
  apply State.takeFlood_kept; assumption; apply Kept.ite; apply State.answerReq_kept
  refine Kept.fst_of (by assumption) ?_; apply State.takeFlood_kept; assumption; apply State.sendFlood_kept
  refine Kept.fst_of (by assumption) ?_; apply State.takeFlood_kept; assumption

theorem execMbHalt_kept {s₀ s : State} (h : Kept s₀ s)  :
    KeptOut s₀ (execMbHalt s) := by
  unfold execMbHalt; apply KeptOut.next; apply Kept.ite; assumption; apply Kept.ite; apply State.request3_kept
  apply State.raiseEvent_kept; apply State.logCorr_kept; apply State.setField_kept; apply Kept.foldl
  (intro _; intros; try dsimp only); apply State.stopCmd_kept; assumption; apply Kept.upd; assumption
  apply State.raiseEvent_kept; apply State.logCorr_kept; apply State.setField_kept; apply Kept.foldl
  (intro _; intros; try dsimp only); apply State.stopCmd_kept; assumption; apply Kept.upd; assumption

theorem State.emptyCores_kept {s₀ s : State} (h : Kept s₀ s)  :
    Kept s₀ (State.emptyCores s) := by
  unfold State.emptyCores; apply Kept.foldl; (intro _; intros; try dsimp only); apply State.emptySegment_kept
  assumption; apply State.foldCores_kept; apply State.foldCores_kept; assumption; (intro _; intros; try dsimp only)
  apply State.discardSets_kept; assumption; (intro _; intros; try dsimp only); apply State.setFlags_kept; assumption

theorem State.localReset_kept {s₀ s : State} (h : Kept s₀ s)  :
    Kept s₀ (State.localReset s) := by
  unfold State.localReset; apply Kept.ite; assumption; dsimp only; apply Kept.upd; apply State.setField_kept
  apply State.clearAcc_kept; apply State.emptyCores_kept; apply State.stopUnits_kept; apply State.stopCores_kept
  apply Kept.foldl; (intro _; intros; try dsimp only); apply State.failAll_kept; assumption; assumption

theorem execLocalReset_kept {s₀ s : State} (h : Kept s₀ s)  :
    KeptOut s₀ (execLocalReset s) := by
  unfold execLocalReset; apply KeptOut.next; apply Kept.ite; apply State.localReset_kept; assumption; assumption

theorem execGlobalResetDone_kept {s₀ s : State} (h : Kept s₀ s)  :
    KeptOut s₀ (execGlobalResetDone s) := by
  unfold execGlobalResetDone; apply KeptOut.next; apply Kept.ite; apply State.logCorr_kept
  apply State.setField_kept; assumption; assumption

end Sys2Proof.Machine
end

