-- ==== Sys2Proof/Laws/KeptAgeing.lean ====
section
/-!
SUPPORT. Laws/KeptAgeing.lean: the operations of Machine/Ageing.lean lead only to states that keep what Laws/Kept.lean names.
-/
namespace Sys2Proof.Machine

theorem State.flashWr_kept {s₀ : State} :
    ∀ (a : Nat) (l : Bytes) {s : State} (_ : Kept s₀ s), Kept s₀ (s.flashWr a l)
  | _, [], _, h => h
  | a, b :: bs, _, h =>
    State.flashWr_kept (a + 1) bs (h.maps rfl (fun w => { w with flash := smWf_set _ _ w.flash }) rfl rfl rfl)

theorem State.flashErase_kept {s₀ s : State} (h : Kept s₀ s) (a : Nat) : Kept s₀ (s.flashErase a) :=
  h.maps rfl (fun w => { w with flash := smWf_filter _ w.flash }) rfl rfl rfl

theorem State.dieSample_kept {s₀ s : State} (h : Kept s₀ s) (d : Nat) (t : Int) :
    Kept s₀ (State.dieSample s d t) := by
  unfold State.dieSample; apply Kept.ite; apply State.bump_kept; apply State.ev_kept; apply Kept.upd; assumption
  apply Kept.upd; assumption

theorem State.thermTrip_kept {s₀ s : State} (h : Kept s₀ s)  :
    Kept s₀ (State.thermTrip s) := by
  unfold State.thermTrip; apply State.unpower_kept; apply Kept.upd; apply State.logErr_kept; assumption

theorem State.tjSample_kept {s₀ s : State} (h : Kept s₀ s) (tj : List Int) :
    Kept s₀ (State.tjSample s tj) := by
  unfold State.tjSample; apply Kept.ite; apply State.thermTrip_kept; apply Kept.ite; apply Kept.upd
  apply State.setRegN_kept; apply Kept.foldl; (intro _; intros; try dsimp only); apply State.dieSample_kept
  assumption; assumption; apply Kept.upd; apply Kept.upd; apply State.setRegN_kept; apply Kept.foldl
  (intro _; intros; try dsimp only); apply State.dieSample_kept; assumption; assumption; apply Kept.ite
  apply Kept.upd; apply State.setRegN_kept; apply Kept.foldl; (intro _; intros; try dsimp only)
  apply State.dieSample_kept; assumption; assumption; apply Kept.upd; apply Kept.upd; apply State.setRegN_kept
  apply Kept.foldl; (intro _; intros; try dsimp only); apply State.dieSample_kept; assumption; assumption

theorem execTjSample_kept {s₀ s : State} (h : Kept s₀ s) (tj : List Int) :
    KeptOut s₀ (execTjSample tj s) := by
  unfold execTjSample; apply KeptOut.next; apply Kept.ite; apply State.tjSample_kept; assumption; assumption

theorem execOscSample_kept {s₀ s : State} (h : Kept s₀ s) (f : List (Nat × Nat)) :
    KeptOut s₀ (execOscSample f s) := by
  unfold execOscSample; apply KeptOut.next; apply Kept.upd; assumption

theorem execSentinelSample_kept {s₀ s : State} (h : Kept s₀ s) (codes : List (BitVec 7)) :
    KeptOut s₀ (execSentinelSample codes s) := by
  unfold execSentinelSample; apply KeptOut.next; apply Kept.ite; apply Kept.upd; apply Kept.foldl
  (intro _; intros; try dsimp only); apply State.setRegN_kept; assumption; assumption; apply Kept.foldl
  (intro _; intros; try dsimp only); apply State.setRegN_kept; assumption; assumption

theorem State.ageDomain_kept {s₀ s : State} (h : Kept s₀ s) (e : Nat × (List Nat × List Nat)) :
    Kept s₀ (State.ageDomain s e) := by
  unfold State.ageDomain; apply Kept.ite; apply State.setField_kept; apply Kept.upd; apply Kept.ite
  apply State.logErr_kept; assumption; assumption; apply Kept.upd; apply Kept.ite; apply State.logErr_kept
  assumption; assumption

theorem State.tideAgeing_kept {s₀ s : State} (h : Kept s₀ s)  :
    Kept s₀ (State.tideAgeing s) := by
  unfold State.tideAgeing; dsimp only; apply Kept.upd; apply Kept.foldl; (intro _; intros; try dsimp only)
  apply State.ageDomain_kept; assumption; assumption

theorem State.setMarginCap_kept {s₀ s : State} (h : Kept s₀ s) (c : Nat) :
    Kept s₀ (State.setMarginCap s c) := by
  unfold State.setMarginCap; apply State.setField_kept; apply State.setPwrStat_kept; assumption

theorem State.exhaust_kept {s₀ s : State} (h : Kept s₀ s) (i : Nat) :
    Kept s₀ (State.exhaust s i) := by
  unfold State.exhaust; apply Kept.ite; assumption; apply State.send_kept; apply State.logErr_kept
  apply State.bump_kept; apply Kept.upd; assumption

theorem State.showPlan_kept {s₀ s : State} (h : Kept s₀ s) (m : Nat) (i : Nat) :
    Kept s₀ (State.showPlan s m i) := by
  unfold State.showPlan; apply State.setField_kept; apply State.setField_kept; apply State.setField_kept; assumption

theorem State.relaxMargin_kept {s₀ s : State} (h : Kept s₀ s)  :
    Kept s₀ (State.relaxMargin s) := by
  unfold State.relaxMargin; apply Kept.ite; apply Kept.upd; assumption; apply Kept.ite; apply Kept.ite
  apply State.setMarginCap_kept; apply Kept.upd; assumption; apply Kept.upd; assumption; apply Kept.upd; assumption

theorem State.replan_kept {s₀ s : State} (h : Kept s₀ s)  :
    Kept s₀ (State.replan s) := by
  unfold State.replan; apply State.setField_kept; apply State.setRegN_kept; apply Kept.foldl
  (intro _; intros; try dsimp only); apply State.showPlan_kept; assumption; apply Kept.ite; apply Kept.foldl
  (intro _; intros; try dsimp only); apply State.exhaust_kept; assumption; apply Kept.ite
  apply State.setMarginCap_kept; apply Kept.foldl; (intro _; intros; try dsimp only); apply State.exhaust_kept
  assumption; apply State.relaxMargin_kept; assumption; apply Kept.foldl; (intro _; intros; try dsimp only)
  apply State.exhaust_kept; assumption; apply State.relaxMargin_kept; assumption; apply Kept.ite
  apply State.setMarginCap_kept; apply Kept.foldl; (intro _; intros; try dsimp only); apply State.exhaust_kept
  assumption; apply State.relaxMargin_kept; assumption; apply Kept.foldl; (intro _; intros; try dsimp only)
  apply State.exhaust_kept; assumption; apply State.relaxMargin_kept; assumption

theorem execMarginReplan_kept {s₀ s : State} (h : Kept s₀ s)  :
    KeptOut s₀ (execMarginReplan s) := by
  unfold execMarginReplan; apply KeptOut.next; apply Kept.ite; assumption; dsimp only; apply Kept.upd
  apply State.replan_kept; assumption

theorem State.showLife_kept {s₀ s : State} (h : Kept s₀ s)  :
    Kept s₀ (State.showLife s) := by
  unfold State.showLife; apply State.setRegN_kept; assumption

theorem State.askHull_kept {s₀ s : State} (h : Kept s₀ s) (reason : Nat) :
    Kept s₀ (State.askHull s reason) := by
  unfold State.askHull; apply Kept.upd; assumption

theorem State.beginHull_kept {s₀ s : State} (h : Kept s₀ s) (b : Bytes) (slot : Nat) (again : Bool) :
    Kept s₀ (State.beginHull s b slot again) := by
  unfold State.beginHull; apply State.setField_kept; apply Kept.upd; apply State.flashWr_kept; apply Kept.ite
  apply State.flashErase_kept; assumption; assumption

theorem execHullWrite_kept {s₀ s : State} (h : Kept s₀ s)  :
    KeptOut s₀ (execHullWrite s) := by
  unfold execHullWrite; apply KeptOut.next; dsimp only; split; apply State.beginHull_kept; apply Kept.upd
  assumption; assumption

theorem execHullWriteDone_kept {s₀ s : State} (h : Kept s₀ s) (ok : Bool) :
    KeptOut s₀ (execHullWriteDone ok s) := by
  unfold execHullWriteDone; apply KeptOut.next; dsimp only; split; assumption; apply Kept.ite; apply Kept.upd
  apply State.setRegN_kept; apply State.setRegN_kept; apply State.flashWr_kept; apply State.setField_kept
  apply Kept.upd; assumption; apply Kept.ite; apply State.logCorr_kept; apply State.setField_kept; apply Kept.upd
  assumption; apply State.beginHull_kept; apply State.setField_kept; apply Kept.upd; assumption

theorem execHullNow_kept {s₀ s : State} (h : Kept s₀ s)  :
    KeptOut s₀ (execHullNow s) := by
  unfold execHullNow; apply KeptOut.next; apply Kept.upd; assumption

theorem State.loadHull_kept {s₀ s : State} (h : Kept s₀ s)  :
    Kept s₀ (State.loadHull s) := by
  unfold State.loadHull; dsimp only; split; apply State.logCorr_kept; apply Kept.foldl
  (intro _; intros; try dsimp only); apply State.setField_kept; assumption; assumption; apply State.showLife_kept
  apply State.setMarginCap_kept; apply Kept.foldl; (intro _; intros; try dsimp only); apply State.setField_kept
  apply State.setField_kept; assumption; apply Kept.foldl; (intro _; intros; try dsimp only)
  apply State.setRegN_kept; assumption; apply State.setRegN_kept; apply State.setRegN_kept; apply State.setRegN_kept
  apply Kept.upd; assumption

theorem State.scoreEvent_kept {s₀ s : State} (h : Kept s₀ s) (bitNo : Nat) (thr : Nat) (code : Nat) (e : PldmEvent) (score : Nat) :
    Kept s₀ (State.scoreEvent s bitNo thr code e score).1 := by
  unfold State.scoreEvent; dsimp only; split; dsimp only; apply State.send_kept; apply State.raiseEvent_kept
  apply State.logCorr_kept; apply State.setField_kept; assumption; split; dsimp only; apply State.setField_kept
  assumption; dsimp only; assumption

theorem execHealthScore_kept {s₀ s : State} (h : Kept s₀ s)  :
    KeptOut s₀ (execHealthScore s) := by
  unfold execHealthScore; apply KeptOut.next; apply Kept.ite; assumption; apply Kept.ite; apply State.request3_kept
  apply State.logCorr_kept; apply State.scoreEvent_kept; apply State.scoreEvent_kept; apply Kept.upd
  apply State.setField_kept; apply State.setRegN_kept; apply Kept.upd; assumption; apply State.scoreEvent_kept
  apply State.scoreEvent_kept; apply Kept.upd; apply State.setField_kept; apply State.setRegN_kept; apply Kept.upd
  assumption

end Sys2Proof.Machine
end

