-- ==== Sys2Proof/Laws/KeptSnapshot.lean ====
section
/-!
SUPPORT. Laws/KeptSnapshot.lean: the operations of Machine/Snapshot.lean lead only to states that keep what Laws/Kept.lean names.
-/
namespace Sys2Proof.Machine

theorem State.showSnap_kept {s₀ s : State} (h : Kept s₀ s) (phase : Nat) :
    Kept s₀ (State.showSnap s phase) := by
  unfold State.showSnap; dsimp only; split; with_reducible assumption; split
  with_reducible apply State.setField_kept; with_reducible apply Kept.upd; with_reducible assumption
  with_reducible apply Kept.ite; with_reducible apply State.setField_kept; with_reducible apply State.setField_kept
  with_reducible apply Kept.upd; with_reducible assumption; with_reducible apply State.setField_kept
  with_reducible apply State.setField_kept; with_reducible assumption

theorem State.snapRefuse_kept {s₀ s : State} (h : Kept s₀ s) (k : Cmd) (code : Nat) :
    Kept s₀ (State.snapRefuse s k code) := by
  unfold State.snapRefuse; with_reducible apply State.failAll_kept; with_reducible apply State.beginCmd_kept
  with_reducible apply State.logErr_kept; with_reducible assumption

theorem execSnapshot_kept {s₀ s : State} (h : Kept s₀ s) (cmd : Nat) :
    KeptOut s₀ (execSnapshot cmd s) := by
  unfold execSnapshot; with_reducible apply KeptOut.next; dsimp only; split; with_reducible assumption
  with_reducible apply Kept.ite; with_reducible apply State.failAll_kept; with_reducible apply State.entryErr_kept
  with_reducible apply State.beginCmd_kept; with_reducible assumption; with_reducible apply Kept.ite
  with_reducible apply State.snapRefuse_kept; with_reducible assumption; with_reducible apply Kept.ite
  with_reducible apply State.snapRefuse_kept; with_reducible assumption; with_reducible apply Kept.ite
  with_reducible apply State.snapRefuse_kept; with_reducible assumption; with_reducible apply Kept.ite
  with_reducible apply State.showSnap_kept; with_reducible apply Kept.foldl; (intro _; intros; try dsimp only)
  with_reducible apply Kept.ite; with_reducible apply State.endItem_kept; with_reducible assumption
  with_reducible apply Kept.ite; with_reducible assumption; with_reducible apply State.endItem_kept
  with_reducible apply State.itemErr_kept; with_reducible assumption; with_reducible apply Kept.ite
  with_reducible apply Kept.upd; with_reducible apply State.beginCmd_kept; with_reducible assumption
  with_reducible apply State.setRegN_kept; with_reducible apply Kept.upd; with_reducible apply State.beginCmd_kept
  with_reducible assumption; with_reducible apply Kept.ite; with_reducible apply State.request3_kept
  with_reducible apply State.showSnap_kept; with_reducible apply Kept.foldl; (intro _; intros; try dsimp only)
  with_reducible apply Kept.ite; with_reducible apply State.endItem_kept; with_reducible assumption
  with_reducible apply Kept.ite; with_reducible assumption; with_reducible apply State.endItem_kept
  with_reducible apply State.itemErr_kept; with_reducible assumption; with_reducible apply Kept.ite
  with_reducible apply Kept.upd; with_reducible apply State.beginCmd_kept; with_reducible assumption
  with_reducible apply State.setRegN_kept; with_reducible apply Kept.upd; with_reducible apply State.beginCmd_kept
  with_reducible assumption; with_reducible apply Kept.ite; with_reducible apply State.showSnap_kept
  with_reducible apply Kept.foldl; (intro _; intros; try dsimp only); with_reducible apply Kept.ite
  with_reducible apply State.endItem_kept; with_reducible assumption; with_reducible apply Kept.ite
  with_reducible assumption; with_reducible apply State.endItem_kept; with_reducible apply State.itemErr_kept
  with_reducible assumption; with_reducible apply Kept.ite; with_reducible apply Kept.upd
  with_reducible apply State.beginCmd_kept; with_reducible assumption; with_reducible apply State.setRegN_kept
  with_reducible apply Kept.upd; with_reducible apply State.beginCmd_kept; with_reducible assumption
  with_reducible apply State.announce_kept; with_reducible apply State.showSnap_kept
  with_reducible apply Kept.foldl; (intro _; intros; try dsimp only); with_reducible apply Kept.ite
  with_reducible apply State.endItem_kept; with_reducible assumption; with_reducible apply Kept.ite
  with_reducible assumption; with_reducible apply State.endItem_kept; with_reducible apply State.itemErr_kept
  with_reducible assumption; with_reducible apply Kept.ite; with_reducible apply Kept.upd
  with_reducible apply State.beginCmd_kept; with_reducible assumption; with_reducible apply State.setRegN_kept
  with_reducible apply Kept.upd; with_reducible apply State.beginCmd_kept; with_reducible assumption

theorem execSnapshotFreeze_kept {s₀ s : State} (h : Kept s₀ s)  :
    KeptOut s₀ (execSnapshotFreeze s) := by
  unfold execSnapshotFreeze; with_reducible apply KeptOut.next; dsimp only; split; with_reducible assumption; split
  with_reducible apply Kept.ite; with_reducible assumption; with_reducible apply Kept.ite
  with_reducible apply State.showSnap_kept; with_reducible assumption; with_reducible apply State.showSnap_kept
  with_reducible apply Kept.upd; with_reducible apply Kept.foldl; (intro _; intros; try dsimp only)
  with_reducible apply Kept.ite; with_reducible apply State.endItem_kept; with_reducible apply State.updCmd_kept
  with_reducible assumption; with_reducible apply Kept.ite; split; with_reducible apply State.setPont_kept
  with_reducible apply State.updCmd_kept; with_reducible assumption; with_reducible apply State.updCmd_kept
  with_reducible assumption; with_reducible apply State.endItem_kept; with_reducible apply State.itemErr_kept
  with_reducible apply State.updCmd_kept; with_reducible assumption; with_reducible apply State.setRegN_kept
  with_reducible assumption; with_reducible assumption

theorem State.keepDigs_kept {s₀ s : State} (h : Kept s₀ s) (cmd : Nat) (item : Nat) (l : List Nat) :
    Kept s₀ (State.keepDigs s cmd item l) := by
  unfold State.keepDigs; with_reducible apply Kept.upd; with_reducible assumption

theorem execPontDig_kept {s₀ s : State} (h : Kept s₀ s) (p : StackIx) :
    KeptOut s₀ (execPontDig p s) := by
  unfold execPontDig; with_reducible apply KeptOut.next; dsimp only; split; split
  with_reducible apply State.pontDone_kept; with_reducible assumption; with_reducible apply Kept.ite
  with_reducible apply Kept.ite; with_reducible apply State.showSnap_kept; with_reducible apply State.pontDone_kept
  with_reducible apply State.endItem_kept; with_reducible apply State.itemErr_kept
  with_reducible apply State.setRegN_kept; with_reducible assumption; with_reducible apply State.pontDone_kept
  with_reducible apply State.endItem_kept; with_reducible apply State.itemErr_kept
  with_reducible apply State.setRegN_kept; with_reducible assumption; with_reducible apply Kept.ite
  with_reducible assumption; with_reducible apply Kept.ite; with_reducible apply Kept.ite
  with_reducible apply State.showSnap_kept; with_reducible apply State.pontDone_kept
  with_reducible apply State.endItem_kept; with_reducible apply State.itemErr_kept
  with_reducible apply State.setRegN_kept; with_reducible assumption; with_reducible apply State.pontDone_kept
  with_reducible apply State.endItem_kept; with_reducible apply State.itemErr_kept
  with_reducible apply State.setRegN_kept; with_reducible assumption; with_reducible apply State.pontDone_kept
  with_reducible apply State.keepDigs_kept; with_reducible apply State.homeRecall_kept; with_reducible assumption
  with_reducible assumption

theorem execSnapshotItemDone_kept {s₀ s : State} (h : Kept s₀ s) (item : Nat) :
    KeptOut s₀ (execSnapshotItemDone item s) := by
  unfold execSnapshotItemDone; with_reducible apply KeptOut.next; dsimp only; split; with_reducible assumption
  split; with_reducible assumption; with_reducible apply Kept.ite; with_reducible assumption; split
  with_reducible assumption; with_reducible apply State.showSnap_kept; with_reducible apply Kept.ite
  with_reducible apply State.endItem_kept; with_reducible apply State.itemErr_kept; with_reducible assumption
  with_reducible apply Kept.ite; with_reducible apply State.endItem_kept; with_reducible assumption
  with_reducible apply Kept.ite; with_reducible apply State.endItem_kept; with_reducible apply State.logDown_kept
  with_reducible assumption; with_reducible apply State.endItem_kept; with_reducible apply State.updCmd_kept
  with_reducible apply State.engineWrite_kept; with_reducible assumption

theorem State.rvErr_kept {s₀ s : State} (h : Kept s₀ s) (k : Cmd) (j : Nat) (code : Nat) (st : Nat) :
    Kept s₀ (State.rvErr s k j code st) := by
  unfold State.rvErr; with_reducible apply State.endItem_kept; with_reducible apply State.itemErr_kept
  with_reducible assumption

theorem State.rvItem_kept {s₀ s : State} (h : Kept s₀ s) (cmd : Nat) (item : Nat) (mode : Nat) :
    Kept s₀ (State.rvItem s cmd item mode).1 := by
  unfold State.rvItem; split; dsimp only; with_reducible assumption; split; dsimp only; with_reducible assumption
  split; dsimp only; with_reducible assumption; split; dsimp only; with_reducible apply State.failAll_kept
  with_reducible apply State.entryErr_kept; with_reducible apply State.beginCmd_kept; with_reducible assumption
  dsimp only; with_reducible apply State.updCmd_kept; with_reducible apply State.beginCmd_kept
  with_reducible assumption

theorem execRestoreVerifyServe_kept {s₀ s : State} (h : Kept s₀ s) (cmd : Nat) (item : Nat) :
    KeptOut s₀ (execRestoreVerifyServe cmd item s) := by
  unfold execRestoreVerifyServe; with_reducible apply KeptOut.next; dsimp only; split
  with_reducible refine Kept.fst_of (by assumption) ?_; with_reducible apply State.rvItem_kept
  with_reducible assumption; split; with_reducible apply State.rvErr_kept
  with_reducible refine Kept.fst_of (by assumption) ?_; with_reducible apply State.rvItem_kept
  with_reducible assumption; with_reducible apply Kept.ite; with_reducible apply State.rvErr_kept
  with_reducible refine Kept.fst_of (by assumption) ?_; with_reducible apply State.rvItem_kept
  with_reducible assumption; with_reducible apply Kept.ite; with_reducible apply State.endItem_kept
  with_reducible refine Kept.fst_of (by assumption) ?_; with_reducible apply State.rvItem_kept
  with_reducible assumption; with_reducible apply Kept.ite; with_reducible apply State.rvErr_kept
  with_reducible refine Kept.fst_of (by assumption) ?_; with_reducible apply State.rvItem_kept
  with_reducible assumption; split; with_reducible apply State.endItem_kept; with_reducible apply State.wrBytes_kept
  with_reducible apply State.updCmd_kept; with_reducible apply State.wrBytes_kept
  with_reducible apply State.wrBytes_kept; with_reducible apply Kept.upd
  with_reducible refine Kept.fst_of (by assumption) ?_; with_reducible apply State.rvItem_kept
  with_reducible assumption; with_reducible apply State.setPont_kept; with_reducible apply Kept.upd
  with_reducible refine Kept.fst_of (by assumption) ?_; with_reducible apply State.rvItem_kept
  with_reducible assumption; with_reducible apply Kept.ite; with_reducible apply State.endItem_kept
  with_reducible apply State.wrBytes_kept; with_reducible apply State.updCmd_kept
  with_reducible apply State.wrBytes_kept; with_reducible apply State.wrBytes_kept; with_reducible apply Kept.upd
  with_reducible refine Kept.fst_of (by assumption) ?_; with_reducible apply State.rvItem_kept
  with_reducible assumption; with_reducible refine Kept.fst_of (by assumption) ?_
  with_reducible apply State.rvItem_kept; with_reducible assumption

theorem State.copyBody_kept {s₀ s : State} (h : Kept s₀ s) (d : Shard) (img : Nat) :
    Kept s₀ (State.copyBody s d img) := by
  unfold State.copyBody; with_reducible apply Kept.foldl; (intro _; intros; try dsimp only)
  with_reducible apply State.wrBytes_kept; with_reducible assumption; with_reducible apply State.homeWrite_kept
  with_reducible assumption

theorem State.regenWork_kept {s₀ s : State} (h : Kept s₀ s) (d : Shard) :
    Kept s₀ (State.regenWork s d) := by
  unfold State.regenWork; with_reducible apply Kept.foldl; (intro _; intros; try dsimp only)
  with_reducible apply State.wrNat_kept; with_reducible assumption; with_reducible assumption

theorem State.rvDone_kept {s₀ s : State} (h : Kept s₀ s) (k : Cmd) (j : Nat) (d : Shard) :
    Kept s₀ (State.rvDone s k j d) := by
  unfold State.rvDone; with_reducible apply Kept.ite; with_reducible apply State.rvErr_kept
  with_reducible apply Kept.upd; with_reducible assumption; with_reducible apply State.endItem_kept
  with_reducible apply State.updCmd_kept; with_reducible apply State.regenWork_kept; split
  with_reducible apply State.updCmd_kept; with_reducible apply State.wrBytes_kept; with_reducible apply Kept.upd
  with_reducible assumption; with_reducible apply Kept.upd; with_reducible assumption

theorem execRestoreVerifyStored_kept {s₀ s : State} (h : Kept s₀ s) (cmd : Nat) (item : Nat) :
    KeptOut s₀ (execRestoreVerifyStored cmd item s) := by
  unfold execRestoreVerifyStored; with_reducible apply KeptOut.next; dsimp only; split
  with_reducible refine Kept.fst_of (by assumption) ?_; with_reducible apply State.rvItem_kept
  with_reducible assumption; split; with_reducible apply State.rvErr_kept
  with_reducible refine Kept.fst_of (by assumption) ?_; with_reducible apply State.rvItem_kept
  with_reducible assumption; split; with_reducible apply Kept.ite; with_reducible apply State.rvErr_kept
  with_reducible refine Kept.fst_of (by assumption) ?_; with_reducible apply State.rvItem_kept
  with_reducible assumption; with_reducible apply State.endItem_kept
  with_reducible refine Kept.fst_of (by assumption) ?_; with_reducible apply State.rvItem_kept
  with_reducible assumption; with_reducible apply Kept.ite; with_reducible apply State.rvErr_kept
  with_reducible refine Kept.fst_of (by assumption) ?_; with_reducible apply State.rvItem_kept
  with_reducible assumption; with_reducible apply Kept.ite; with_reducible apply State.rvDone_kept
  with_reducible apply State.updCmd_kept; with_reducible apply State.copyBody_kept
  with_reducible refine Kept.fst_of (by assumption) ?_; with_reducible apply State.rvItem_kept
  with_reducible assumption; with_reducible apply State.rvErr_kept; with_reducible apply State.updCmd_kept
  with_reducible apply State.copyBody_kept; with_reducible refine Kept.fst_of (by assumption) ?_
  with_reducible apply State.rvItem_kept; with_reducible assumption

theorem State.rvAsk_kept {s₀ s : State} (h : Kept s₀ s) (k : Cmd) (j : Nat) (buf : Bool) (remote : Nat) (localAddr : Nat) (n : Nat) :
    Kept s₀ (State.rvAsk s k j buf remote localAddr n) := by
  unfold State.rvAsk; with_reducible apply State.sendRead_kept; with_reducible apply State.newMsg_kept
  with_reducible assumption

theorem State.putRv_kept {s₀ s : State} (h : Kept s₀ s) (r : RvRun) :
    Kept s₀ (State.putRv s r) := by
  unfold State.putRv; with_reducible apply Kept.upd; with_reducible assumption

theorem State.rvFetch_kept {s₀ s : State} (h : Kept s₀ s) (k : Cmd) (r : RvRun) (d : Shard) (bad : List Nat) :
    Kept s₀ (State.rvFetch s k r d bad) := by
  unfold State.rvFetch; with_reducible apply Kept.foldl; (intro _; intros; try dsimp only)
  with_reducible apply Kept.foldl; (intro _; intros; try dsimp only); with_reducible apply State.rvAsk_kept
  with_reducible assumption; with_reducible assumption; with_reducible apply State.putRv_kept
  with_reducible assumption

theorem execRestoreVerifyReplica_kept {s₀ s : State} (h : Kept s₀ s) (cmd : Nat) (item : Nat) :
    KeptOut s₀ (execRestoreVerifyReplica cmd item s) := by
  unfold execRestoreVerifyReplica; with_reducible apply KeptOut.next; dsimp only; split
  with_reducible refine Kept.fst_of (by assumption) ?_; with_reducible apply State.rvItem_kept
  with_reducible assumption; with_reducible apply Kept.ite; with_reducible apply State.endItem_kept
  with_reducible apply Kept.upd; with_reducible refine Kept.fst_of (by assumption) ?_
  with_reducible apply State.rvItem_kept; with_reducible assumption; with_reducible apply Kept.ite
  with_reducible refine Kept.fst_of (by assumption) ?_; with_reducible apply State.rvItem_kept
  with_reducible assumption; split; with_reducible apply State.rvErr_kept
  with_reducible refine Kept.fst_of (by assumption) ?_; with_reducible apply State.rvItem_kept
  with_reducible assumption; with_reducible apply State.rvAsk_kept; with_reducible apply State.putRv_kept
  with_reducible refine Kept.fst_of (by assumption) ?_; with_reducible apply State.rvItem_kept
  with_reducible assumption; split; with_reducible apply Kept.ite; with_reducible apply State.rvErr_kept
  with_reducible refine Kept.fst_of (by assumption) ?_; with_reducible apply State.rvItem_kept
  with_reducible assumption; with_reducible apply State.rvAsk_kept; with_reducible apply State.putRv_kept
  with_reducible refine Kept.fst_of (by assumption) ?_; with_reducible apply State.rvItem_kept
  with_reducible assumption; with_reducible apply Kept.ite; with_reducible apply Kept.ite
  with_reducible apply State.rvErr_kept; with_reducible refine Kept.fst_of (by assumption) ?_
  with_reducible apply State.rvItem_kept; with_reducible assumption; with_reducible apply State.rvAsk_kept
  with_reducible apply State.putRv_kept; with_reducible refine Kept.fst_of (by assumption) ?_
  with_reducible apply State.rvItem_kept; with_reducible assumption; with_reducible apply Kept.ite
  with_reducible apply State.endItem_kept; with_reducible apply State.failItem_kept
  with_reducible refine Kept.fst_of (by assumption) ?_; with_reducible apply State.rvItem_kept
  with_reducible assumption; with_reducible apply State.rvAsk_kept; with_reducible apply State.putRv_kept
  with_reducible refine Kept.fst_of (by assumption) ?_; with_reducible apply State.rvItem_kept
  with_reducible assumption; with_reducible apply Kept.ite; with_reducible apply State.rvFetch_kept
  with_reducible refine Kept.fst_of (by assumption) ?_; with_reducible apply State.rvItem_kept
  with_reducible assumption; split; with_reducible apply Kept.ite; with_reducible apply State.rvErr_kept
  with_reducible refine Kept.fst_of (by assumption) ?_; with_reducible apply State.rvItem_kept
  with_reducible assumption; with_reducible apply State.endItem_kept
  with_reducible refine Kept.fst_of (by assumption) ?_; with_reducible apply State.rvItem_kept
  with_reducible assumption; with_reducible apply Kept.ite; with_reducible apply State.rvErr_kept
  with_reducible refine Kept.fst_of (by assumption) ?_; with_reducible apply State.rvItem_kept
  with_reducible assumption; with_reducible apply Kept.ite; with_reducible apply State.rvDone_kept
  with_reducible apply State.updCmd_kept; with_reducible apply State.copyBody_kept
  with_reducible refine Kept.fst_of (by assumption) ?_; with_reducible apply State.rvItem_kept
  with_reducible assumption; with_reducible apply State.rvFetch_kept; with_reducible apply State.updCmd_kept
  with_reducible apply State.copyBody_kept; with_reducible refine Kept.fst_of (by assumption) ?_
  with_reducible apply State.rvItem_kept; with_reducible assumption; with_reducible apply Kept.ite
  with_reducible apply State.rvErr_kept; with_reducible refine Kept.fst_of (by assumption) ?_
  with_reducible apply State.rvItem_kept; with_reducible assumption; with_reducible apply State.rvDone_kept
  with_reducible refine Kept.fst_of (by assumption) ?_; with_reducible apply State.rvItem_kept
  with_reducible assumption

end Sys2Proof.Machine
end

