-- ==== Sys2Proof/Laws/KeptSecurity.lean ====
section
/-!
SUPPORT. Laws/KeptSecurity.lean: the operations of Machine/Security.lean lead only to states that keep what Laws/Kept.lean names.
-/
namespace Sys2Proof.Machine

theorem State.setSecStat_kept {s₀ s : State} (h : Kept s₀ s) (hi : Nat) (lo : Nat) (v : Nat) :
    Kept s₀ (State.setSecStat s hi lo v) := by
  unfold State.setSecStat; apply State.setField_kept; assumption

theorem State.writeDir_kept {s₀ s : State} (h : Kept s₀ s) (d : Dir) :
    Kept s₀ (State.writeDir s d) := by
  unfold State.writeDir; apply State.flashWr_kept; apply State.flashErase_kept; assumption

theorem State.imageBad_kept {s₀ s : State} (h : Kept s₀ s) (k : Nat) :
    Kept s₀ (State.imageBad s k) := by
  unfold State.imageBad; apply State.logErr_kept; assumption

theorem State.runImage_kept {s₀ s : State} (h : Kept s₀ s) (k : Nat) (trial : Bool) :
    Kept s₀ (State.runImage s k trial) := by
  unfold State.runImage; apply State.setSecStat_kept; apply State.setSecStat_kept; apply State.setSecStat_kept
  apply State.setField_kept; apply State.setRegN_kept; refine Kept.updSecSame ?_ rfl rfl rfl rfl rfl rfl rfl rfl
  assumption

theorem State.bootRom_kept {s₀ s : State} (h : Kept s₀ s)  :
    Kept s₀ (State.bootRom s).1 := by
  unfold State.bootRom; dsimp only; split; split; dsimp only; split; split; dsimp only; apply State.runImage_kept
  apply State.writeDir_kept; apply State.logCorr_kept; apply State.logCorr_kept; assumption; split; dsimp only
  apply State.runImage_kept; apply State.imageBad_kept; apply State.writeDir_kept; apply State.logCorr_kept
  apply State.logCorr_kept; assumption; dsimp only; apply State.setSecStat_kept; apply State.imageBad_kept
  apply State.imageBad_kept; apply State.writeDir_kept; apply State.logCorr_kept; apply State.logCorr_kept
  assumption; split; dsimp only; apply State.runImage_kept; apply State.writeDir_kept; apply State.logCorr_kept
  assumption; split; dsimp only; apply State.runImage_kept; apply State.imageBad_kept; apply State.writeDir_kept
  apply State.logCorr_kept; assumption; dsimp only; apply State.setSecStat_kept; apply State.imageBad_kept
  apply State.imageBad_kept; apply State.writeDir_kept; apply State.logCorr_kept; assumption; dsimp only; split
  split; dsimp only; apply State.runImage_kept; apply State.writeDir_kept; apply State.logCorr_kept; assumption
  split; dsimp only; apply State.runImage_kept; apply State.imageBad_kept; apply State.writeDir_kept
  apply State.logCorr_kept; assumption; dsimp only; apply State.setSecStat_kept; apply State.imageBad_kept
  apply State.imageBad_kept; apply State.writeDir_kept; apply State.logCorr_kept; assumption; split; dsimp only
  apply State.runImage_kept; apply State.writeDir_kept; assumption; split; dsimp only; apply State.runImage_kept
  apply State.imageBad_kept; apply State.writeDir_kept; assumption; dsimp only; apply State.setSecStat_kept
  apply State.imageBad_kept; apply State.imageBad_kept; apply State.writeDir_kept; assumption; dsimp only; split
  split; dsimp only; apply State.runImage_kept; apply State.logCorr_kept; assumption; split; dsimp only
  apply State.runImage_kept; apply State.imageBad_kept; apply State.logCorr_kept; assumption; dsimp only
  apply State.setSecStat_kept; apply State.imageBad_kept; apply State.imageBad_kept; apply State.logCorr_kept
  assumption; split; dsimp only; apply State.runImage_kept; assumption; split; dsimp only; apply State.runImage_kept
  apply State.imageBad_kept; assumption; dsimp only; apply State.setSecStat_kept; apply State.imageBad_kept
  apply State.imageBad_kept; assumption

theorem execSecConfirm_kept {s₀ s : State} (h : Kept s₀ s)  :
    KeptOut s₀ (execSecConfirm s) := by
  unfold execSecConfirm; apply KeptOut.next; apply Kept.ite; apply State.setSecStat_kept; apply State.writeDir_kept
  assumption; assumption

theorem execSecSvnCommit_kept {s₀ s : State} (h : Kept s₀ s) : KeptOut s₀ (execSecSvnCommit s) := by
  unfold execSecSvnCommit
  apply KeptOut.next
  split
  · exact State.logCorr_kept h _ _
  · rename_i n
    split
    · exact h
    · apply State.setSecStat_kept
      refine h.updSec fun _ => ⟨?_, Nat.le_refl _, fun _ k => k, fun _ k => k, rfl, rfl, rfl, rfl⟩
      simp only [SecSt.fuseOk, decide_eq_true_eq]
      simp only [Bool.or_eq_true, decide_eq_true_eq, not_or, Nat.not_le] at n
      omega

theorem execFusingDone_kept {s₀ s : State} (h : Kept s₀ s) : KeptOut s₀ (execFusingDone s) := by
  unfold execFusingDone
  apply KeptOut.next
  split
  · exact h
  · rename_i t e
    apply State.setSecStat_kept
    refine h.updSec fun f => ⟨rfl, ?_, fun _ k => k, fun _ k => k, rfl, rfl, rfl, rfl⟩
    simpa [SecSt.fuseOk, e] using f

theorem bit_or_left {x : Nat} (y : Nat) {i : Nat} (h : bit x i = true) : bit (x ||| y) i = true := by
  simp only [bit, Nat.testBit_or, Bool.or_eq_true] at h ⊢
  exact Or.inl h

theorem execSecRevoke_kept {s₀ s : State} (h : Kept s₀ s) (v : Word) : KeptOut s₀ (execSecRevoke v s) := by
  unfold execSecRevoke
  apply KeptOut.next
  split
  · exact h.updSec fun f => ⟨f, Nat.le_refl _, fun _ k => bit_or_left _ k, fun _ k => bit_or_left _ k, rfl, rfl, rfl, rfl⟩
  · exact State.logCorr_kept h _ _

theorem State.drawNonce_kept {s₀ s : State} (h : Kept s₀ s)  :
    Kept s₀ (State.drawNonce s) := by
  unfold State.drawNonce; dsimp only; apply Kept.updFree; apply Kept.foldl; (intro _; intros; try dsimp only)
  apply State.setReg_kept; assumption; assumption; omega

theorem execSecDbgNonceRead_kept {s₀ s : State} (h : Kept s₀ s)  :
    KeptOut s₀ (execSecDbgNonceRead s) := by
  unfold execSecDbgNonceRead; apply KeptOut.next; apply Kept.upd; apply State.drawNonce_kept; assumption

theorem execSecDbgUnlock_kept {s₀ s : State} (h : Kept s₀ s)  :
    KeptOut s₀ (execSecDbgUnlock s) := by
  unfold execSecDbgUnlock; apply KeptOut.next; apply Kept.ite; apply State.setSecStat_kept; assumption
  apply State.logCorr_kept; apply State.drawNonce_kept; assumption

theorem execSecDbgLock_kept {s₀ s : State} (h : Kept s₀ s)  :
    KeptOut s₀ (execSecDbgLock s) := by
  unfold execSecDbgLock; apply KeptOut.next; apply State.setSecStat_kept; assumption

theorem State.takePacket_kept {s₀ s : State} (h : Kept s₀ s) (chan : Nat) (typ : Nat) :
    Kept s₀ (State.takePacket s chan typ).1 := by
  unfold State.takePacket; dsimp only; split; dsimp only; assumption; split; dsimp only; apply State.logCorr_kept
  apply State.bump_kept; apply Kept.upd; assumption; split; dsimp only; apply Kept.upd; assumption; dsimp only
  assumption

theorem State.mgmtReq_kept {s₀ s : State} (h : Kept s₀ s) (c : MgmtChan) (typ : Nat) :
    Kept s₀ (State.mgmtReq s c typ).1 := by
  unfold State.mgmtReq; split; dsimp only; assumption; split; apply State.takePacket_kept; assumption; split
  dsimp only; assumption; dsimp only; assumption

theorem State.spdm_kept {s₀ s : State} (h : Kept s₀ s) (c : MgmtChan) (f : State → SpdmAns) :
    Kept s₀ (State.spdm s c f) := by
  unfold State.spdm; split; apply Kept.ite; refine Kept.fst_of (by assumption) ?_; apply State.mgmtReq_kept
  assumption; apply State.send_kept; apply State.bump_kept; refine Kept.fst_of (by assumption) ?_
  apply State.mgmtReq_kept; assumption; refine Kept.fst_of (by assumption) ?_; apply State.mgmtReq_kept; assumption

theorem execSpdmGetVersion_kept {s₀ s : State} (h : Kept s₀ s) (c : MgmtChan) :
    KeptOut s₀ (execSpdmGetVersion c s) := by
  unfold execSpdmGetVersion; apply KeptOut.next; apply State.spdm_kept; assumption

theorem execSpdmGetCapabilities_kept {s₀ s : State} (h : Kept s₀ s) (c : MgmtChan) :
    KeptOut s₀ (execSpdmGetCapabilities c s) := by
  unfold execSpdmGetCapabilities; apply KeptOut.next; apply State.spdm_kept; assumption

theorem execSpdmNegotiateAlgorithms_kept {s₀ s : State} (h : Kept s₀ s) (c : MgmtChan) (ed : Bool) (sha : Bool) :
    KeptOut s₀ (execSpdmNegotiateAlgorithms c ed sha s) := by
  unfold execSpdmNegotiateAlgorithms; apply KeptOut.next; apply State.spdm_kept; assumption

theorem execSpdmGetDigests_kept {s₀ s : State} (h : Kept s₀ s) (c : MgmtChan) :
    KeptOut s₀ (execSpdmGetDigests c s) := by
  unfold execSpdmGetDigests; apply KeptOut.next; apply State.spdm_kept; assumption

theorem execSpdmGetCertificate_kept {s₀ s : State} (h : Kept s₀ s) (c : MgmtChan) (slot : Nat) (off : Nat) (len : Nat) :
    KeptOut s₀ (execSpdmGetCertificate c slot off len s) := by
  unfold execSpdmGetCertificate; apply KeptOut.next; apply State.spdm_kept; assumption

theorem execSpdmChallenge_kept {s₀ s : State} (h : Kept s₀ s) (c : MgmtChan) (slot : Nat) (nonce : Bytes) :
    KeptOut s₀ (execSpdmChallenge c slot nonce s) := by
  unfold execSpdmChallenge; apply KeptOut.next; apply State.spdm_kept; assumption

theorem execSpdmGetMeasurements_kept {s₀ s : State} (h : Kept s₀ s) (c : MgmtChan) (ix : Nat) (nonce : Bytes) :
    KeptOut s₀ (execSpdmGetMeasurements c ix nonce s) := by
  unfold execSpdmGetMeasurements; apply KeptOut.next; apply State.spdm_kept; assumption

theorem execSpdmUnsupported_kept {s₀ s : State} (h : Kept s₀ s) (c : MgmtChan) :
    KeptOut s₀ (execSpdmUnsupported c s) := by
  unfold execSpdmUnsupported; apply KeptOut.next; apply State.spdm_kept; assumption

theorem State.pldmAnswer_kept {s₀ s : State} (h : Kept s₀ s) (c : MgmtChan) (a : PldmAns) :
    Kept s₀ (State.pldmAnswer s c a) := by
  unfold State.pldmAnswer; apply State.send_kept; apply State.bump_kept; assumption

theorem execPldmPlatformRequest_kept {s₀ s : State} (h : Kept s₀ s) (c : MgmtChan) (q : PldmReq) :
    KeptOut s₀ (execPldmPlatformRequest c q s) := by
  unfold execPldmPlatformRequest; apply KeptOut.next; split; apply Kept.ite; refine Kept.fst_of (by assumption) ?_
  apply State.mgmtReq_kept; assumption; apply State.pldmAnswer_kept; refine Kept.fst_of (by assumption) ?_
  apply State.mgmtReq_kept; assumption; refine Kept.fst_of (by assumption) ?_; apply State.mgmtReq_kept; assumption

theorem State.updateWrite_kept {s₀ s : State} (h : Kept s₀ s) (slot : Nat) (n : Nat) (b : Bytes) :
    Kept s₀ (State.updateWrite s slot n b) := by
  unfold State.updateWrite; apply State.flashWr_kept; apply Kept.foldl; (intro _; intros; try dsimp only)
  apply State.flashErase_kept; assumption; assumption

theorem State.endUpdate_kept {s₀ s : State} (h : Kept s₀ s) (ok : Bool) :
    Kept s₀ (State.endUpdate s ok) := by
  unfold State.endUpdate; apply State.setSecStat_kept; apply State.setSecStat_kept
  refine Kept.updSecSame ?_ rfl rfl rfl rfl rfl rfl rfl rfl; assumption

theorem State.updateStep_kept {s₀ s : State} (h : Kept s₀ s) (q : FwStep) :
    Kept s₀ (State.updateStep s q).1 := by
  unfold State.updateStep; dsimp only; split; dsimp only; apply State.setSecStat_kept
  refine Kept.updSecSame ?_ rfl rfl rfl rfl rfl rfl rfl rfl; assumption; dsimp only; assumption; split; dsimp only
  assumption; dsimp only; refine Kept.updSecSame ?_ rfl rfl rfl rfl rfl rfl rfl rfl; apply State.updateWrite_kept
  assumption; split; dsimp only; apply State.endUpdate_kept; apply State.writeDir_kept; assumption; dsimp only
  apply State.endUpdate_kept; apply State.imageBad_kept; assumption; dsimp only; assumption

theorem execPldmFirmwareUpdate_kept {s₀ s : State} (h : Kept s₀ s) (c : MgmtChan) (q : FwStep) :
    KeptOut s₀ (execPldmFirmwareUpdate c q s) := by
  unfold execPldmFirmwareUpdate; apply KeptOut.next; apply Kept.ite; assumption; split; apply State.pldmAnswer_kept
  apply State.updateStep_kept; refine Kept.fst_of (by assumption) ?_; apply State.mgmtReq_kept; assumption
  refine Kept.fst_of (by assumption) ?_; apply State.mgmtReq_kept; assumption

theorem execI3cBroadcastTimeout_kept {s₀ s : State} (h : Kept s₀ s)  :
    KeptOut s₀ (execI3cBroadcastTimeout s) := by
  unfold execI3cBroadcastTimeout; apply KeptOut.next; apply Kept.ite; apply State.setField_kept
  apply State.setField_kept; assumption; assumption

theorem execI3cDynamicAddressAssignment_kept {s₀ s : State} (h : Kept s₀ s) (addr : BitVec 7) :
    KeptOut s₀ (execI3cDynamicAddressAssignment addr s) := by
  unfold execI3cDynamicAddressAssignment; apply KeptOut.next; apply Kept.ite; assumption; apply State.setField_kept
  apply State.setField_kept; assumption

theorem execMctpSetEndpointId_kept {s₀ s : State} (h : Kept s₀ s) (c : MgmtChan) (eid : BitVec 8) :
    KeptOut s₀ (execMctpSetEndpointId c eid s) := by
  unfold execMctpSetEndpointId; apply KeptOut.next; split; apply State.setRegN_kept
  refine Kept.fst_of (by assumption) ?_; apply State.mgmtReq_kept; assumption; refine Kept.fst_of (by assumption) ?_
  apply State.mgmtReq_kept; assumption

theorem State.mgmtCtrl_kept {s₀ s : State} (h : Kept s₀ s) (r : Requester) (v : Nat) :
    Kept s₀ (State.mgmtCtrl s r v) := by
  unfold State.mgmtCtrl; apply Kept.ite; apply State.logCorr_kept; assumption; apply State.setRegN_kept; assumption

theorem execMgmtCtrlWrite_kept {s₀ s : State} (h : Kept s₀ s) (r : Requester) (v : Word) :
    KeptOut s₀ (execMgmtCtrlWrite r v s) := by
  unfold execMgmtCtrlWrite; apply KeptOut.next; apply State.mgmtCtrl_kept; assumption

end Sys2Proof.Machine
end

