-- ==== Sys2Proof/Laws/KeptStartup.lean ====
section
/-!
SUPPORT. Laws/KeptStartup.lean: the operations of Machine/Startup.lean lead only to states that keep what Laws/Kept.lean names.
-/
namespace Sys2Proof.Machine

theorem State.enterStage_kept {s₀ s : State} (h : Kept s₀ s) (n : Nat) :
    Kept s₀ (State.enterStage s n) := by
  unfold State.enterStage; apply State.setPwrStat_kept; apply Kept.upd; assumption

theorem State.startFail_kept {s₀ s : State} (h : Kept s₀ s)  :
    Kept s₀ (State.startFail s) := by
  unfold State.startFail; apply State.logErr_kept; apply State.setPwrStat_kept; apply Kept.upd; assumption

theorem State.tierTrained_kept {s₀ s : State} (h : Kept s₀ s) (o : Option LpTrain) : Kept s₀ (s.tierTrained o) := by
  unfold State.tierTrained
  split; assumption; apply Kept.ite; apply Kept.foldl; (intro _; intros; try dsimp only); apply State.setRegN_kept
  apply State.setRegN_kept; assumption; assumption; assumption

theorem State.startLoader_kept {s₀ s : State} (h : Kept s₀ s)  :
    Kept s₀ (State.startLoader s) := by
  unfold State.startLoader; apply Kept.ite; assumption; apply State.after_kept; apply State.setReg_kept
  apply State.draw_kept; assumption; apply execSrvcRun_kept; apply State.setReg_kept; apply State.draw_kept
  assumption

theorem State.becomeReady_kept {s₀ s : State} (h : Kept s₀ s)  :
    Kept s₀ (State.becomeReady s) := by
  unfold State.becomeReady; apply State.startLoader_kept; apply State.setRegN_kept; apply Kept.upd; assumption

theorem State.stageOne_kept {s₀ s : State} (h : Kept s₀ s)  :
    Kept s₀ (State.stageOne s) := by
  unfold State.stageOne; apply Kept.ite; apply State.startFail_kept; apply State.setSecStat_kept; assumption
  apply Kept.ite; apply State.enterStage_kept; apply State.bootRom_kept; assumption; apply State.startFail_kept
  apply State.bootRom_kept; assumption

theorem State.stageEnd_kept {s₀ s : State} (h : Kept s₀ s) (lp : Option LpTrain) :
    Kept s₀ (State.stageEnd s lp) := by
  unfold State.stageEnd; split; apply State.stageOne_kept; assumption; apply State.enterStage_kept
  apply State.loadHull_kept; assumption; apply State.enterStage_kept; apply State.tierTrained_kept; assumption
  apply Kept.ite; apply State.enterStage_kept; assumption; assumption; apply State.becomeReady_kept; assumption
  apply State.enterStage_kept; assumption

theorem State.groupDone_kept {s₀ s : State} (h : Kept s₀ s)  :
    Kept s₀ (State.groupDone s) := by
  unfold State.groupDone; apply Kept.ite; apply State.zeroRange_kept; assumption; assumption

theorem execStartupStageDone_kept {s₀ s : State} (h : Kept s₀ s) (lp : Option LpTrain) (ms : Nat) :
    KeptOut s₀ (execStartupStageDone lp ms s) := by
  unfold execStartupStageDone; apply KeptOut.next; apply Kept.ite; assumption; apply Kept.ite; apply Kept.upd
  apply State.groupDone_kept; assumption; apply State.stageEnd_kept; apply Kept.upd; apply State.groupDone_kept
  assumption

theorem execStartFail_kept {s₀ s : State} (h : Kept s₀ s)  :
    KeptOut s₀ (execStartFail s) := by
  unfold execStartFail; apply KeptOut.next; apply Kept.ite; assumption; dsimp only; split; apply Kept.upd
  assumption; apply State.startFail_kept; assumption; apply State.startFail_kept; assumption
  apply State.startFail_kept; assumption; apply State.startFail_kept; assumption; assumption

theorem State.startUp_kept {s₀ s : State} (h : Kept s₀ s)  :
    Kept s₀ (State.startUp s) := by
  unfold State.startUp; apply State.enterStage_kept; apply State.setField_kept; apply State.setRegN_kept; assumption

theorem execSysResetDeassert_kept {s₀ s : State} (h : Kept s₀ s) (straps : BitVec 6) :
    KeptOut s₀ (execSysResetDeassert straps s) := by
  unfold execSysResetDeassert; apply KeptOut.next; apply Kept.ite; assumption; apply State.startUp_kept
  apply Kept.upd; assumption

theorem execSysResetAssert_kept {s₀ s : State} (h : Kept s₀ s)  :
    KeptOut s₀ (execSysResetAssert s) := by
  unfold execSysResetAssert; apply KeptOut.next; apply State.dark_kept; assumption

theorem execVbusLoss_kept {s₀ s : State} (h : Kept s₀ s) (mv : BitVec 16) :
    KeptOut s₀ (execVbusLoss mv s) := by
  unfold execVbusLoss; apply KeptOut.next; apply Kept.ite; assumption; apply Kept.ite; assumption
  apply State.setPwrStat_kept; apply State.dark_kept; assumption

theorem execVauxLoss_kept {s₀ s : State} (h : Kept s₀ s)  :
    KeptOut s₀ (execVauxLoss s) := by
  unfold execVauxLoss; apply KeptOut.next; apply State.dark_kept; assumption

theorem execVbusReturn_kept {s₀ s : State} (h : Kept s₀ s) (mv : BitVec 16) :
    KeptOut s₀ (execVbusReturn mv s) := by
  unfold execVbusReturn; apply KeptOut.next; apply Kept.ite; apply State.startUp_kept; apply State.setPwrStat_kept
  apply State.setRegN_kept; assumption; apply Kept.ite; apply State.setPwrStat_kept; apply State.setField_kept
  assumption; assumption

theorem State.deviceReset_kept {s₀ s : State} (h : Kept s₀ s) : Kept s₀ s.deviceReset := by
  unfold State.deviceReset
  apply State.enterStage_kept
  apply State.setField_kept
  apply State.setField_kept
  apply State.unlocked_kept
  exact h.trans ⟨rfl, fun w => ⟨smWf_filter _ w.mem, smWf_filter _ w.regs, rfl, w.flash, rfl, rfl, rfl, rfl, rfl, rfl⟩, List.suffix_refl _,
    Nat.le_refl _, fun f => ⟨f, SecSt.Grown.refl _⟩⟩

theorem execDeviceReset_kept {s₀ s : State} (h : Kept s₀ s)  :
    KeptOut s₀ (execDeviceReset s) := by
  unfold execDeviceReset; apply KeptOut.next; apply Kept.ite; assumption; split; apply Kept.ite
  apply State.deviceReset_kept; assumption; assumption; apply Kept.ite; apply State.deviceReset_kept; assumption
  assumption; apply Kept.ite; apply State.deviceReset_kept; assumption; assumption; assumption

end Sys2Proof.Machine
end

