-- ==== Sys2Proof/Laws/KeptView.lean ====
section
/-!
SUPPORT. Laws/KeptView.lean: the operations of Machine/View.lean lead only to states that keep what Laws/Kept.lean names.
-/
namespace Sys2Proof.Machine

theorem State.clearLoose_kept {s₀ s : State} (h : Kept s₀ s) (off : Nat) :
    Kept s₀ (State.clearLoose s off) := by
  unfold State.clearLoose; apply Kept.upd; assumption

theorem State.clearCounter_kept {s₀ s : State} (h : Kept s₀ s) (off : Nat) :
    Kept s₀ (State.clearCounter s off) := by
  unfold State.clearCounter; split; apply Kept.ite; apply State.clearLoose_kept; assumption
  apply State.setRegN_kept; assumption; assumption

theorem State.readReg_kept {s₀ s : State} (h : Kept s₀ s) (off : Nat) :
    Kept s₀ (State.readReg s off).1 := by
  unfold State.readReg; dsimp only; split; dsimp only; apply Kept.ite; apply State.clearCounter_kept; apply Kept.ite
  apply State.drawNonce_kept; assumption; assumption; apply Kept.ite; apply State.drawNonce_kept; assumption
  assumption; dsimp only; assumption

theorem State.dropLatch_kept {s₀ s : State} (h : Kept s₀ s) (r : Requester) (p : Nat) :
    Kept s₀ (State.dropLatch s r p) := by
  unfold State.dropLatch; apply Kept.upd; assumption

theorem State.freeLatch_kept {s₀ s : State} (h : Kept s₀ s) (r : Requester) (off : Nat) :
    Kept s₀ (State.freeLatch s r off) := by
  unfold State.freeLatch; split; apply State.logCorr_kept; apply State.dropLatch_kept; assumption
  apply State.dropLatch_kept; assumption; assumption

theorem State.setLatch_kept {s₀ s : State} (h : Kept s₀ s) (r : Requester) (off : Nat) (w : Word) (write : Bool) :
    Kept s₀ (State.setLatch s r off w write) := by
  unfold State.setLatch; dsimp only; apply Kept.upd; apply State.dropLatch_kept; assumption

theorem State.readHalf_kept {s₀ s : State} (h : Kept s₀ s) (r : Requester) (off : Nat) (high : Bool) :
    Kept s₀ (State.readHalf s r off high).1 := by
  unfold State.readHalf; dsimp only; split; split; split; dsimp only; apply State.dropLatch_kept; assumption
  dsimp only; apply State.freeLatch_kept; assumption; dsimp only; apply State.freeLatch_kept; assumption; dsimp only
  apply State.setLatch_kept; apply State.readReg_kept; apply State.freeLatch_kept; assumption

theorem State.readWord_kept {s₀ s : State} (h : Kept s₀ s) (r : Requester) (off : Nat) :
    Kept s₀ (State.readWord s r off).1 := by
  unfold State.readWord; dsimp only; split; apply State.readHalf_kept; assumption; dsimp only
  apply State.readReg_kept; apply State.freeLatch_kept; assumption

theorem State.readAt_kept {s₀ s : State} (h : Kept s₀ s) (r : Requester) (off : Nat) (wide : Bool) :
    Kept s₀ (State.readAt s r off wide).1 := by
  unfold State.readAt; dsimp only; split; apply State.readWord_kept; assumption; split; apply State.readReg_kept
  apply State.freeLatch_kept; assumption; dsimp only; apply State.readWord_kept; apply State.readWord_kept; assumption

end Sys2Proof.Machine
end

