-- ==== Sys2Proof/Laws/KeptAperture.lean ====
section
/-!
SUPPORT. Laws/KeptAperture.lean: the operations of Machine/Aperture.lean lead only to states that keep what Laws/Kept.lean names.
-/
namespace Sys2Proof.Machine

theorem State.levelWrite_kept {s₀ s : State} (h : Kept s₀ s) (p : Nat) (v : Nat) :
    Kept s₀ (State.levelWrite s p v) := by
  unfold State.levelWrite; apply Kept.ite; apply State.logCorr_kept; assumption; apply Kept.ite
  apply State.logCorr_kept; assumption; apply State.setField_kept; assumption

theorem State.freezeWrite_kept {s₀ s : State} (h : Kept s₀ s) (p : Nat) (v : Bool) :
    Kept s₀ (State.freezeWrite s p v) := by
  unfold State.freezeWrite; apply State.setField_kept; apply Kept.ite; apply State.clearLoose_kept; assumption
  assumption

theorem State.irqClear_kept {s₀ s : State} (h : Kept s₀ s) (b : Blk) (i : Nat) (v : Nat) :
    Kept s₀ (State.irqClear s b i v) := by
  unfold State.irqClear; dsimp only; split; apply Kept.ite; apply State.setField_kept; apply State.setRegN_kept
  assumption; apply State.setRegN_kept; assumption; apply State.setRegN_kept; assumption

theorem State.errClear_kept {s₀ s : State} (h : Kept s₀ s) (p : Nat) :
    Kept s₀ (State.errClear s p) := by
  unfold State.errClear; apply State.setRegN_kept; apply State.setRegN_kept; assumption

theorem State.clearRc_kept {s₀ s : State} (h : Kept s₀ s) (b : Blk) (i : Nat) :
    Kept s₀ (State.clearRc s b i) := by
  unfold State.clearRc; apply Kept.foldl; (intro _; intros; try dsimp only); apply Kept.foldl
  (intro _; intros; try dsimp only); apply Kept.foldl; (intro _; intros; try dsimp only)
  apply State.clearCounter_kept; assumption; assumption; assumption; assumption

theorem State.softResetWrite_kept {s₀ s : State} (h : Kept s₀ s) (b : Blk) (i : Nat) :
    Kept s₀ (State.softResetWrite s b i) := by
  unfold State.softResetWrite; apply Kept.ite; apply State.clearRc_kept; assumption; apply Kept.ite; assumption
  apply Kept.upd; assumption

theorem State.softResetDue_kept {s₀ s : State} (h : Kept s₀ s) (b : Blk) (i : Nat) :
    Kept s₀ (State.softResetDue s b i) := by
  unfold State.softResetDue; apply Kept.ite; apply State.logCorr_kept; assumption; dsimp only; split
  apply State.discardSets_kept; apply State.clearRc_kept; assumption; apply Kept.foldl
  (intro _; intros; try dsimp only); apply State.emptySegment_kept; apply State.setField_kept; assumption
  apply State.clearRc_kept; assumption; apply State.clearAcc_kept; apply State.clearRc_kept; assumption

theorem State.writeHeader_kept {s₀ s : State} (h : Kept s₀ s) (b : Blk) (i : Nat) (o : Nat) (v : Nat) :
    Kept s₀ (State.writeHeader s b i o v) := by
  unfold State.writeHeader; apply Kept.ite; apply State.levelWrite_kept; assumption; apply Kept.ite; apply Kept.ite
  apply State.softResetWrite_kept; apply State.freezeWrite_kept; assumption; apply State.freezeWrite_kept
  assumption; apply Kept.ite; apply State.irqClear_kept; assumption; apply Kept.ite; apply State.irqEdge_kept
  assumption; (intro _; intros; try dsimp only); apply State.setRegN_kept; assumption; apply Kept.ite
  apply State.raiseIrq_kept; assumption; apply Kept.ite; apply Kept.ite; apply State.errClear_kept; assumption
  assumption; assumption

theorem State.writePlain_kept {s₀ s : State} (h : Kept s₀ s) (a : Nat) (mask : Nat) (v : Nat) :
    Kept s₀ (State.writePlain s a mask v) := by
  unfold State.writePlain; apply State.setRegN_kept; assumption

theorem State.writeIf_kept {s₀ s : State} (h : Kept s₀ s) (ok : Bool) (p : Nat) (code : Nat) (a : Nat) (mask : Nat) (v : Nat) :
    Kept s₀ (State.writeIf s ok p code a mask v) := by
  unfold State.writeIf; apply Kept.ite; apply State.writePlain_kept; assumption; apply State.logCorr_kept; assumption

theorem State.writeTick_kept {s₀ s : State} (h : Kept s₀ s) (o : Nat) (v : Nat) :
    Kept s₀ (State.writeTick s o v) := by
  unfold State.writeTick; apply Kept.ite; apply State.after_kept; assumption; apply execTickCfgWrite_kept
  assumption; apply State.writePlain_kept; assumption

theorem State.writeSeq_kept {s₀ s : State} (h : Kept s₀ s) (c : Nat) (o : Nat) (v : Nat) :
    Kept s₀ (State.writeSeq s c o v) := by
  unfold State.writeSeq; apply Kept.ite; apply State.after_kept; assumption; apply execSeqFlagSet_kept; assumption
  apply Kept.ite; apply State.after_kept; assumption; apply execSeqFlagClr_kept; assumption; assumption

theorem State.writeRng_kept {s₀ s : State} (h : Kept s₀ s) (c : Nat) (o : Nat) (v : Nat) :
    Kept s₀ (State.writeRng s c o v) := by
  unfold State.writeRng; apply Kept.ite; apply State.after_kept; assumption; apply execRngSeedWrite_kept; assumption
  apply Kept.ite; apply State.after_kept; assumption; apply execRngRestoreStepWrite_kept; assumption
  apply State.writePlain_kept; assumption

theorem State.writePrep_kept {s₀ s : State} (h : Kept s₀ s) (c : Nat) (o : Nat) (v : Nat) :
    Kept s₀ (State.writePrep s c o v) := by
  unfold State.writePrep; apply Kept.ite; apply Kept.ite; apply State.after_kept; apply State.after_kept; assumption
  split; apply execPrepRun_kept; assumption; apply execPrepHalt_kept; assumption; apply execPrepReset_kept
  apply State.after_kept; assumption; split; apply execPrepRun_kept; assumption; apply execPrepHalt_kept; assumption
  apply State.after_kept; assumption; split; apply execPrepRun_kept; assumption; apply execPrepHalt_kept; assumption
  apply State.writePlain_kept; assumption

theorem State.writeSlip_kept {s₀ s : State} (h : Kept s₀ s) (c : Nat) (o : Nat) (v : Nat) :
    Kept s₀ (State.writeSlip s c o v) := by
  unfold State.writeSlip; apply Kept.ite; apply Kept.ite; apply State.slipEnable_kept; apply Kept.ite; assumption
  apply Kept.ite; apply State.slipLog_kept; assumption; apply State.setField_kept; assumption
  apply State.slipDisable_kept; apply Kept.ite; assumption; apply Kept.ite; apply State.slipLog_kept; assumption
  apply State.setField_kept; assumption; apply Kept.ite; apply State.slipLog_kept; assumption
  apply State.setBerth_kept; apply State.writePlain_kept; assumption

theorem State.writeHbmc_kept {s₀ s : State} (h : Kept s₀ s) (k : Nat) (o : Nat) (v : Nat) :
    Kept s₀ (State.writeHbmc s k o v) := by
  unfold State.writeHbmc; apply Kept.ite; apply State.after_kept; assumption; apply execHbmcMapWrite_kept
  assumption; apply State.writePlain_kept; assumption

theorem State.writeLpdc_kept {s₀ s : State} (h : Kept s₀ s) (k : Nat) (o : Nat) (v : Nat) :
    Kept s₀ (State.writeLpdc s k o v) := by
  unfold State.writeLpdc; apply Kept.ite; apply State.after_kept; assumption; apply execLpdcTierWrite_kept
  assumption; apply State.writePlain_kept; assumption

theorem State.writeFerry_kept {s₀ s : State} (h : Kept s₀ s) (c : Nat) (f : Nat) (o : Nat) (v : Nat) :
    Kept s₀ (State.writeFerry s c f o v) := by
  unfold State.writeFerry; apply Kept.ite; apply State.after_kept; assumption; apply execFerryQtailWrite_kept
  assumption; apply State.after_kept; assumption; apply execFerryQcfgWrite_kept; assumption

theorem State.writeCtab_kept {s₀ s : State} (h : Kept s₀ s) (d : Nat) (o : Nat) (v : Nat) :
    Kept s₀ (State.writeCtab s d o v) := by
  unfold State.writeCtab; apply Kept.ite; apply Kept.ite; apply State.after_kept; apply State.setRegN_kept
  assumption; apply execCtabLoadGo_kept; apply State.setRegN_kept; assumption; apply State.setRegN_kept; assumption
  apply Kept.ite; apply State.after_kept; assumption; apply execCtabRetire_kept; assumption
  apply State.writePlain_kept; assumption

theorem State.writeTagr_kept {s₀ s : State} (h : Kept s₀ s) (o : Nat) (v : Nat) :
    Kept s₀ (State.writeTagr s o v) := by
  unfold State.writeTagr; apply Kept.ite; apply Kept.ite; apply State.after_kept; apply State.setRegN_kept
  assumption; apply execTagrRetag_kept; apply State.setRegN_kept; assumption; apply State.setRegN_kept; assumption
  apply Kept.ite; apply State.writePlain_kept; assumption; apply Kept.ite; apply State.after_kept; assumption
  apply execTagrRgenWrite_kept; assumption; apply Kept.ite; apply State.tagIgnored_kept; assumption; apply Kept.ite
  apply Kept.ite; apply State.after_kept; apply State.writePlain_kept; assumption; apply execTagrRegionEnable_kept
  apply State.writePlain_kept; assumption; apply State.writePlain_kept; assumption; apply State.writePlain_kept
  assumption

theorem State.writeDcache_kept {s₀ s : State} (h : Kept s₀ s) (d : Nat) (o : Nat) (v : Nat) :
    Kept s₀ (State.writeDcache s d o v) := by
  unfold State.writeDcache; apply Kept.ite; apply State.after_kept; apply Kept.ite; apply State.after_kept
  apply State.writePlain_kept; assumption; apply execDcacheFlush_kept; apply State.writePlain_kept; assumption
  apply State.writePlain_kept; assumption; apply execDcachePredClr_kept; apply Kept.ite; apply State.after_kept
  apply State.writePlain_kept; assumption; apply execDcacheFlush_kept; apply State.writePlain_kept; assumption
  apply State.writePlain_kept; assumption; apply Kept.ite; apply State.after_kept; apply State.writePlain_kept
  assumption; apply execDcacheFlush_kept; apply State.writePlain_kept; assumption; apply State.writePlain_kept
  assumption

theorem State.writeQueue_kept {s₀ s : State} (h : Kept s₀ s) (q : Nat) (o : Nat) (mask : Nat) (v : Nat) :
    Kept s₀ (State.writeQueue s q o mask v) := by
  unfold State.writeQueue; apply Kept.ite; apply Kept.ite; apply State.qEnable_kept; apply State.writePlain_kept
  assumption; apply Kept.ite; apply State.qDisable_kept; apply State.writePlain_kept; assumption
  apply State.writePlain_kept; assumption; apply Kept.ite; apply State.doorbell_kept; assumption; apply Kept.ite
  apply Kept.ite; apply State.logCorr_kept; assumption; apply State.returnSlots_kept; assumption; apply Kept.ite
  apply State.writePlain_kept; assumption; apply Kept.ite; apply State.qIgnored_kept; assumption
  apply State.writePlain_kept; assumption

theorem State.writeSrvc_kept {s₀ s : State} (h : Kept s₀ s) (k o v : Nat) : Kept s₀ (s.writeSrvc k o v) := by
  unfold State.writeSrvc
  extract_lets n ctrl s1 s2 s3 s4
  have h1 : Kept s₀ s1 := State.writePlain_kept h _ _ _
  have h2 : Kept s₀ s2 :=
    Kept.ite (State.after_kept h1 (execSrvcReserve_kept h1 _)) (Kept.ite (State.after_kept h1 (execSrvcRelease_kept h1 _)) h1)
  have h3 : Kept s₀ s3 :=
    Kept.ite (State.after_kept h2 (execSrvcRun_kept h2 _)) (Kept.ite (State.after_kept h2 (execSrvcStop_kept h2 _)) h2)
  have h4 : Kept s₀ s4 := Kept.ite (State.after_kept h3 (execSrvcPredClr_kept h3 _)) h3
  exact Kept.ite (Kept.ite (State.after_kept h4 (execSrvcL2Flush_kept h4 _)) h4)
    (Kept.ite (State.after_kept h (execSrvcClkWrite_kept h _ _)) (State.writePlain_kept h _ _ _))

theorem State.writePcie_kept {s₀ s : State} (h : Kept s₀ s) (p : Nat) (o : Nat) (v : Nat) :
    Kept s₀ (State.writePcie s p o v) := by
  unfold State.writePcie; apply Kept.ite; apply State.after_kept; assumption; apply execPcieCtrlWrite_kept
  assumption; apply Kept.ite; assumption; apply Kept.ite; apply State.after_kept; assumption
  apply execPcieBar2BaseWrite_kept; assumption; apply State.writePlain_kept; assumption

theorem State.writeSlnkCtrl_kept {s₀ s : State} (h : Kept s₀ s) (p v : Nat) : Kept s₀ (s.writeSlnkCtrl p v) := by
  unfold State.writeSlnkCtrl
  extract_lets a k s1 s2 s3 s4 s5 s6
  have h1 : Kept s₀ s1 := State.setField_kept h _ _ _ _
  have h2 : Kept s₀ s2 := Kept.ite (State.logCorr_kept h1 _ _) (State.setField_kept h1 _ _ _ _)
  have h3 : Kept s₀ s3 := Kept.ite (State.logCorr_kept h2 _ _) (State.setField_kept h2 _ _ _ _)
  have h4 : Kept s₀ s4 := State.setField_kept h3 _ _ _ _
  have h5 : Kept s₀ s5 := Kept.ite h4 (State.after_kept h4 (execPortDown_kept h4 _ _))
  have h6 : Kept s₀ s6 := Kept.ite (State.after_kept h5 (execSlnkRetrainWrite_kept h5 _)) h5
  exact Kept.ite (State.after_kept h6 (execSlnkQuarClr_kept h6 _)) h6

theorem State.writeSlnk_kept {s₀ s : State} (h : Kept s₀ s) (p : Nat) (o : Nat) (v : Nat) :
    Kept s₀ (State.writeSlnk s p o v) := by
  unfold State.writeSlnk; apply Kept.ite; apply State.writeSlnkCtrl_kept; assumption; apply Kept.ite
  apply State.after_kept; assumption; apply execSlnkNodeWrite_kept; assumption; apply Kept.ite
  apply State.writeIf_kept; assumption; apply Kept.ite; apply State.writeIf_kept; assumption; apply Kept.ite
  apply State.writeIf_kept; assumption; apply Kept.ite; apply State.writeIf_kept; assumption; apply Kept.ite
  apply Kept.ite; apply State.after_kept; assumption; apply execSlnkRouteReload_kept; assumption; assumption
  apply Kept.ite; apply State.writeIf_kept; assumption; apply Kept.ite; apply State.writePlain_kept; assumption
  apply State.writePlain_kept; assumption

theorem State.writeColl_kept {s₀ s : State} (h : Kept s₀ s) (o : Nat) (v : Nat) :
    Kept s₀ (State.writeColl s o v) := by
  unfold State.writeColl; apply Kept.ite; apply State.writeIf_kept; assumption; apply State.treeWrite_kept; assumption

theorem State.writeRas_kept {s₀ s : State} (h : Kept s₀ s) (o : Nat) (v : Nat) :
    Kept s₀ (State.writeRas s o v) := by
  unfold State.writeRas; apply Kept.ite; apply Kept.ite; apply State.after_kept; apply Kept.ite; apply Kept.upd
  apply Kept.ite; assumption; apply State.writeIf_kept; assumption; apply Kept.ite; assumption
  apply State.writeIf_kept; assumption; apply execDeviceReset_kept; apply Kept.ite; apply Kept.upd; apply Kept.ite
  assumption; apply State.writeIf_kept; assumption; apply Kept.ite; assumption; apply State.writeIf_kept; assumption
  apply Kept.ite; apply Kept.upd; apply Kept.ite; assumption; apply State.writeIf_kept; assumption; apply Kept.ite
  assumption; apply State.writeIf_kept; assumption; apply Kept.ite; apply State.after_kept; assumption
  apply execRasLogTailWrite_kept; assumption; apply Kept.ite; apply State.writeIf_kept; assumption; apply Kept.ite
  apply State.writeIf_kept; assumption; apply State.writePlain_kept; assumption

theorem State.writePwr_kept {s₀ s : State} (h : Kept s₀ s) (o : Nat) (v : Nat) :
    Kept s₀ (State.writePwr s o v) := by
  unfold State.writePwr; apply Kept.ite; apply Kept.ite; apply State.after_kept; apply State.after_kept; assumption
  apply execPwrModeReqWrite_kept; assumption; apply execPwrShutdown_kept; apply State.after_kept; assumption
  apply execPwrModeReqWrite_kept; assumption; apply State.after_kept; assumption; apply execPwrModeReqWrite_kept
  assumption; apply State.after_kept; assumption; apply execPwrCapWrite_kept; assumption

theorem State.writeAge_kept {s₀ s : State} (h : Kept s₀ s) (v : Nat) :
    Kept s₀ (State.writeAge s v) := by
  unfold State.writeAge; apply Kept.ite; apply State.after_kept; apply Kept.ite; assumption
  apply State.writeIf_kept; assumption; apply execHullNow_kept; apply Kept.ite; assumption; apply State.writeIf_kept
  assumption; apply Kept.ite; assumption; apply State.writeIf_kept; assumption

theorem State.writeSec_kept {s₀ s : State} (h : Kept s₀ s) (o : Nat) (v : Nat) :
    Kept s₀ (State.writeSec s o v) := by
  unfold State.writeSec; apply Kept.ite; apply Kept.ite; apply State.after_kept; apply Kept.ite
  apply State.after_kept; assumption; apply execSecConfirm_kept; assumption; assumption; apply execSecSvnCommit_kept
  apply Kept.ite; apply State.after_kept; assumption; apply execSecConfirm_kept; assumption; assumption
  apply Kept.ite; apply State.after_kept; assumption; apply execSecConfirm_kept; assumption; assumption
  apply Kept.ite; apply State.after_kept; assumption; apply execSecRevoke_kept; assumption; apply Kept.ite
  apply Kept.ite; apply State.after_kept; apply Kept.ite; apply State.after_kept; assumption
  apply execSecDbgUnlock_kept; assumption; assumption; apply execSecDbgLock_kept; apply Kept.ite
  apply State.after_kept; assumption; apply execSecDbgUnlock_kept; assumption; assumption; apply Kept.ite
  apply State.after_kept; assumption; apply execSecDbgUnlock_kept; assumption; assumption
  apply State.writePlain_kept; assumption

theorem State.writeMgmt_kept {s₀ s : State} (h : Kept s₀ s) (r : Requester) (o : Nat) (v : Nat) :
    Kept s₀ (State.writeMgmt s r o v) := by
  unfold State.writeMgmt; apply Kept.ite; apply State.mgmtCtrl_kept; assumption; apply State.writePlain_kept
  assumption

theorem State.writeBlock_kept {s₀ s : State} (h : Kept s₀ s) (r : Requester) (x : PageRef) (o : Nat) (mask : Nat) (v : Nat) :
    Kept s₀ (State.writeBlock s r x o mask v) := by
  unfold State.writeBlock; split; apply State.writeTick_kept; assumption; apply State.writeSeq_kept; assumption
  apply State.writeRng_kept; assumption; apply State.writePrep_kept; assumption; apply State.writeSlip_kept
  assumption; apply State.writeHbmc_kept; assumption; apply State.writeLpdc_kept; assumption
  apply State.writeFerry_kept; assumption; apply Kept.ite; apply State.after_kept; assumption
  apply execLandClear_kept; assumption; assumption; apply State.writeCtab_kept; assumption
  apply State.writeTagr_kept; assumption; apply State.after_kept; assumption; apply execHomeCfgWrite_kept
  assumption; apply State.writeDcache_kept; assumption; apply State.writeQueue_kept; assumption
  apply State.writeQueue_kept; assumption; apply State.writeSrvc_kept; assumption; apply State.writePcie_kept
  assumption; apply State.writeSlnk_kept; assumption; apply State.writeColl_kept; assumption
  apply State.writeRas_kept; assumption; apply State.writePwr_kept; assumption; apply State.writeAge_kept
  assumption; apply State.writeSec_kept; assumption; apply State.writeMgmt_kept; assumption; assumption

theorem State.writeReg_kept {s₀ s : State} (h : Kept s₀ s) (r : Requester) (off : Nat) (v : Nat) :
    Kept s₀ (State.writeReg s r off v) := by
  unfold State.writeReg; split; apply Kept.ite; apply State.writeHeader_kept; assumption; apply Kept.ite
  apply State.writeBlock_kept; assumption; assumption; assumption

theorem State.writeHalf_kept {s₀ s : State} (h : Kept s₀ s) (r : Requester) (off : Nat) (high : Bool) (v : Word) :
    Kept s₀ (State.writeHalf s r off high v) := by
  unfold State.writeHalf; apply Kept.ite; apply State.setLatch_kept; apply State.freeLatch_kept; assumption
  dsimp only; split; apply Kept.ite; apply State.writeReg_kept; apply State.dropLatch_kept; assumption
  apply State.writeReg_kept; apply State.freeLatch_kept; assumption; apply State.writeReg_kept
  apply State.freeLatch_kept; assumption

theorem State.writeWord_kept {s₀ s : State} (h : Kept s₀ s) (r : Requester) (off : Nat) (v : Word) :
    Kept s₀ (State.writeWord s r off v) := by
  unfold State.writeWord; split; apply State.writeHalf_kept; assumption; apply State.writeReg_kept
  apply State.freeLatch_kept; assumption

theorem State.writeAt_kept {s₀ s : State} (h : Kept s₀ s) (r : Requester) (off : Nat) (wide : Bool) (v : DWord) :
    Kept s₀ (State.writeAt s r off wide v) := by
  unfold State.writeAt; apply Kept.ite; apply State.writeWord_kept; assumption; split; apply State.writeReg_kept
  apply State.freeLatch_kept; assumption; apply State.writeWord_kept; apply State.writeWord_kept; assumption

theorem State.badAccess_kept {s₀ s : State} (h : Kept s₀ s) (code : Nat) (off : Nat) :
    Kept s₀ (State.badAccess s code off) := by
  unfold State.badAccess; apply State.logCorr_kept; apply State.setRegN_kept; apply State.bump_kept; assumption

theorem State.aperWrite_kept {s₀ s : State} (h : Kept s₀ s) (r : Requester) (off : Nat) (wide : Bool) (v : DWord) :
    Kept s₀ (State.aperWrite s r off wide v) := by
  unfold State.aperWrite; apply Kept.ite; assumption; apply Kept.ite; apply State.badAccess_kept; assumption
  apply Kept.ite; apply State.badAccess_kept; assumption; apply State.writeAt_kept; assumption

theorem State.aperRead_kept {s₀ s : State} (h : Kept s₀ s) (r : Requester) (off : Nat) (wide : Bool) :
    Kept s₀ (State.aperRead s r off wide) := by
  unfold State.aperRead; apply Kept.ite; apply Kept.upd; assumption; apply Kept.ite; dsimp only; apply Kept.upd
  apply State.badAccess_kept; assumption; apply Kept.ite; apply Kept.upd; assumption; dsimp only; apply Kept.upd
  apply State.readAt_kept; assumption

theorem State.bar4Write_kept {s₀ s : State} (h : Kept s₀ s) (off : Nat) (wide : Bool) (v : DWord) (cyc : Nat) :
    Kept s₀ (State.bar4Write s off wide v cyc) := by
  unfold State.bar4Write; apply Kept.ite; assumption; apply Kept.ite; apply State.bar4Word_kept
  apply State.bar4Word_kept; assumption; apply State.bar4Word_kept; assumption

theorem execRegisterWrite_kept {s₀ s : State} (h : Kept s₀ s) (r : Requester) (at_ : RegAddr) (wide : Bool) (v : BusWord) :
    KeptOut s₀ (execRegisterWrite r at_ wide v s) := by
  unfold execRegisterWrite; apply KeptOut.next; split; apply Kept.ite; assumption; apply State.aperWrite_kept
  apply Kept.upd; assumption; apply Kept.ite; apply State.bar4Write_kept; assumption; assumption; apply Kept.ite
  apply State.configWrite_kept; assumption; assumption

theorem execAperBadAccess_kept {s₀ s : State} (h : Kept s₀ s) (r : Requester) (off : Nat) (size : Nat) (write : Bool) :
    KeptOut s₀ (execAperBadAccess r off size write s) := by
  unfold execAperBadAccess; apply KeptOut.next; apply Kept.ite; assumption; apply Kept.ite; apply Kept.ite
  apply State.badAccess_kept; assumption; assumption; apply Kept.upd; apply Kept.ite; apply State.badAccess_kept
  assumption; assumption

theorem execAperAbsent_kept {s₀ s : State} (h : Kept s₀ s) (r : Requester) (off : Nat) :
    KeptOut s₀ (execAperAbsent r off s) := by
  unfold execAperAbsent; apply KeptOut.next; apply Kept.ite; assumption; apply Kept.ite; apply State.badAccess_kept
  assumption; assumption

theorem execAperSplitAccess_kept {s₀ s : State} (h : Kept s₀ s) (r : Requester) (off : Nat) (write : Bool) (v : Word) :
    KeptOut s₀ (execAperSplitAccess r off write v s) := by
  unfold execAperSplitAccess; apply KeptOut.next; apply Kept.ite; assumption; apply Kept.ite
  apply State.aperWrite_kept; assumption; apply State.aperRead_kept; assumption

theorem State.header_kept {s₀ s : State} (h : Kept s₀ s) (r : Requester) (b : Blk) (i : Nat) (f : State → State) (hf : ∀ (u0 : State), Kept s₀ u0 → Kept s₀ (f u0)) :
    KeptOut s₀ (State.header s r b i f) := by
  unfold State.header; apply KeptOut.next; apply Kept.ite; assumption; apply Kept.ite; apply hf
  apply State.freeLatch_kept; assumption; assumption

theorem execPgSoftReset_kept {s₀ s : State} (h : Kept s₀ s) (r : Requester) (b : Blk) (i : Nat) :
    KeptOut s₀ (execPgSoftReset r b i s) := by
  unfold execPgSoftReset; apply State.header_kept; assumption; (intro _; intros; try dsimp only)
  apply State.softResetWrite_kept; assumption

theorem execPgFreezeWrite_kept {s₀ s : State} (h : Kept s₀ s) (r : Requester) (b : Blk) (i : Nat) (v : Bool) :
    KeptOut s₀ (execPgFreezeWrite r b i v s) := by
  unfold execPgFreezeWrite; apply State.header_kept; assumption; (intro _; intros; try dsimp only)
  apply State.freezeWrite_kept; assumption

theorem execPgLevelWrite_kept {s₀ s : State} (h : Kept s₀ s) (r : Requester) (b : Blk) (i : Nat) (v : BitVec 8) :
    KeptOut s₀ (execPgLevelWrite r b i v s) := by
  unfold execPgLevelWrite; apply State.header_kept; assumption; (intro _; intros; try dsimp only)
  apply State.levelWrite_kept; assumption

theorem execPgIrqStatClear_kept {s₀ s : State} (h : Kept s₀ s) (r : Requester) (b : Blk) (i : Nat) (v : Word) :
    KeptOut s₀ (execPgIrqStatClear r b i v s) := by
  unfold execPgIrqStatClear; apply State.header_kept; assumption; (intro _; intros; try dsimp only)
  apply State.irqClear_kept; assumption

theorem execPgIrqForce_kept {s₀ s : State} (h : Kept s₀ s) (r : Requester) (b : Blk) (i : Nat) (v : Word) :
    KeptOut s₀ (execPgIrqForce r b i v s) := by
  unfold execPgIrqForce; apply State.header_kept; assumption; (intro _; intros; try dsimp only)
  apply State.raiseIrq_kept; assumption

theorem execPgErrFirstClear_kept {s₀ s : State} (h : Kept s₀ s) (r : Requester) (b : Blk) (i : Nat) :
    KeptOut s₀ (execPgErrFirstClear r b i s) := by
  unfold execPgErrFirstClear; apply State.header_kept; assumption; (intro _; intros; try dsimp only)
  apply State.errClear_kept; assumption

theorem execMctpApertureAccess_kept {s₀ s : State} (h : Kept s₀ s) (c : MgmtChan) (write : Bool) (off : Nat) (wide : Bool) (v : BusWord) :
    KeptOut s₀ (execMctpApertureAccess c write off wide v s) := by
  unfold execMctpApertureAccess; apply KeptOut.next; dsimp only; split; refine Kept.fst_of (by assumption) ?_
  apply State.mgmtReq_kept; assumption; apply Kept.ite; apply State.send_kept; refine Kept.fst_of (by assumption) ?_
  apply State.mgmtReq_kept; assumption; apply Kept.ite; apply State.send_kept; apply State.aperWrite_kept
  apply Kept.upd; refine Kept.fst_of (by assumption) ?_; apply State.mgmtReq_kept; assumption; apply State.send_kept
  apply State.aperRead_kept; refine Kept.fst_of (by assumption) ?_; apply State.mgmtReq_kept; assumption

end Sys2Proof.Machine
end

