-- ==== Sys2Proof/Laws/KeptBoundary.lean ====
section
/-!
SUPPORT. Laws/KeptBoundary.lean: the operations of Machine/Boundary.lean lead only to states that keep what Laws/Kept.lean names.
-/
namespace Sys2Proof.Machine

theorem State.clearEngines_kept {s₀ s : State} (h : Kept s₀ s) (c : Nat) (x : SailingRun) :
    Kept s₀ (State.clearEngines s c x) := by
  unfold State.clearEngines; apply State.setCore_kept; apply Kept.ite; apply State.setField_kept
  apply State.setField_kept; apply Kept.ite; apply State.setField_kept; apply State.setField_kept; assumption
  assumption; apply Kept.ite; apply State.setField_kept; apply State.setField_kept; assumption; assumption

theorem State.overrun_kept {s₀ s : State} (h : Kept s₀ s) (c : Nat) (x : SailingRun) :
    Kept s₀ (State.overrun s c x) := by
  unfold State.overrun; apply State.endSailing_kept; apply State.discardSets_kept; apply State.clearEngines_kept
  apply State.failItem_kept; apply Kept.ite; apply State.logErr_kept; apply State.setRegN_kept; assumption; assumption

theorem State.lateCore_kept {s₀ s : State} (h : Kept s₀ s) (c : Nat) :
    Kept s₀ (State.lateCore s c).1 := by
  unfold State.lateCore; dsimp only; split; dsimp only; apply State.setCore_kept; apply Kept.foldl
  (intro _; intros; try dsimp only); apply State.overrun_kept; assumption; assumption; dsimp only
  apply State.bump_kept; apply State.setRegN_kept; apply State.setCore_kept; apply Kept.foldl
  (intro _; intros; try dsimp only); apply State.overrun_kept; assumption; assumption

theorem lateCores_kept {s₀ : State} : ∀ (l : List Nat) {s : State} (_ : Kept s₀ s), Kept s₀ (lateCores l s).1
  | [], _, h => h
  | c :: cs, s, h => by
    unfold lateCores
    dsimp only; apply lateCores_kept; apply State.lateCore_kept; assumption

theorem State.notice_kept {s₀ s : State} (h : Kept s₀ s) (late : Bool) :
    Kept s₀ (State.notice s late) := by
  unfold State.notice; apply Kept.ite; apply State.ev_kept; apply State.bump_kept; apply State.setRegN_kept
  apply Kept.upd; assumption; apply Kept.upd; assumption

theorem State.linkStretch_kept {s₀ s : State} (h : Kept s₀ s)  :
    Kept s₀ (State.linkStretch s) := by
  unfold State.linkStretch; apply State.govCredit_kept; apply State.addStretch_kept; assumption

theorem State.dueNotices_kept {s₀ s : State} (h : Kept s₀ s)  :
    Kept s₀ (State.dueNotices s) := by
  unfold State.dueNotices; apply State.setTickStat_kept; apply Kept.upd; apply Kept.foldl
  (intro _; intros; try dsimp only); apply State.linkStretch_kept; assumption; assumption

theorem State.prepTimer_kept {s₀ s : State} (h : Kept s₀ s) (c : Nat) :
    Kept s₀ (State.prepTimer s c) := by
  unfold State.prepTimer; apply Kept.ite; apply State.prepIrq_kept; assumption; assumption

theorem State.softResets_kept {s₀ s : State} (h : Kept s₀ s)  :
    Kept s₀ (State.softResets s) := by
  unfold State.softResets; apply Kept.foldl; (intro _; intros; try dsimp only); apply State.softResetDue_kept
  assumption; apply Kept.upd; assumption

theorem State.shutDown_kept {s₀ s : State} (h : Kept s₀ s)  :
    Kept s₀ (State.shutDown s) := by
  unfold State.shutDown; dsimp only; apply Kept.upd; apply State.askHull_kept; apply Kept.foldl
  (intro _; intros; try dsimp only); apply State.flushRecs_kept; assumption; apply State.clearAcc_kept
  apply State.emptyCores_kept; apply State.stopUnits_kept; apply State.stopCores_kept; apply Kept.ite; assumption
  apply Kept.foldl; (intro _; intros; try dsimp only); apply State.failAll_kept; assumption; assumption

theorem State.endTick_kept {s₀ s : State} (h : Kept s₀ s)  :
    Kept s₀ (State.endTick s) := by
  unfold State.endTick; dsimp only; apply Kept.upd; apply State.setNow_kept; apply State.notice_kept
  apply lateCores_kept; assumption

theorem State.beginCores_kept {s₀ s : State} (h : Kept s₀ s)  :
    Kept s₀ (State.beginCores s) := by
  unfold State.beginCores; apply Kept.foldl; (intro _; intros; try dsimp only); apply State.dropFailed_kept
  assumption; apply Kept.foldl; (intro _; intros; try dsimp only); apply State.slipFailEmpty_kept; assumption
  apply Kept.foldl; (intro _; intros; try dsimp only); apply State.prepTimer_kept; assumption; apply Kept.foldl
  (intro _; intros; try dsimp only); apply State.handOver_kept; assumption; assumption

theorem execTickBoundary_kept {s₀ s : State} (h : Kept s₀ s)  :
    KeptOut s₀ (execTickBoundary s) := by
  unfold execTickBoundary; apply KeptOut.next; apply Kept.ite; assumption; apply Kept.ite; apply State.shutDown_kept
  apply State.beginCores_kept; apply State.applyRgen_kept; apply State.softResets_kept; apply State.dueNotices_kept
  apply State.endTick_kept; assumption; apply State.beginCores_kept; apply State.applyRgen_kept
  apply State.softResets_kept; apply State.dueNotices_kept; apply State.endTick_kept; assumption

theorem State.tideCheck_kept {s₀ s : State} (h : Kept s₀ s)  :
    Kept s₀ (State.tideCheck s) := by
  unfold State.tideCheck; apply Kept.ite; apply State.logErr_kept; apply Kept.upd; assumption; apply Kept.upd
  assumption

theorem State.sendTide_kept {s₀ s : State} (h : Kept s₀ s)  :
    Kept s₀ (State.sendTide s) := by
  unfold State.sendTide; apply Kept.foldl; (intro _; intros; try dsimp only); apply State.queueFlit_kept; assumption
  assumption

theorem State.settleRails_kept {s₀ s : State} (h : Kept s₀ s)  :
    Kept s₀ (State.settleRails s) := by
  unfold State.settleRails; apply Kept.foldl; (intro _; intros; try dsimp only); apply State.setField_kept
  assumption; assumption

theorem State.showMeas_kept {s₀ s : State} (h : Kept s₀ s) (m : TideMeas) :
    Kept s₀ (State.showMeas s m) := by
  unfold State.showMeas; apply State.setPwrStat_kept; apply State.setRegN_kept; apply Kept.foldl
  (intro _; intros; try dsimp only); apply State.setRegN_kept; assumption; apply Kept.foldl
  (intro _; intros; try dsimp only); apply State.setRegN_kept; assumption; assumption

theorem State.ageMeas_kept {s₀ s : State} (h : Kept s₀ s) (m : TideMeas) :
    Kept s₀ (State.ageMeas s m) := by
  unfold State.ageMeas; apply State.setRegN_kept; apply Kept.upd; assumption

theorem State.tideSensors_kept {s₀ s : State} (h : Kept s₀ s)  :
    Kept s₀ (State.tideSensors s) := by
  unfold State.tideSensors; dsimp only; apply Kept.upd; assumption

theorem State.newTide_kept {s₀ s : State} (h : Kept s₀ s) : Kept s₀ s.newTide := by
  unfold State.newTide
  apply Kept.foldl
  · intro u p k
    exact State.setRegN_kept k _ _
  · exact h.trans ⟨rfl,
      fun w => { w with ports := smWf_map (d := fun _ => PortSt.reset) (fun _ x => { x with rsvdLogged := false }) w.ports },
      List.suffix_refl _, Nat.le_refl _, fun f => ⟨f, SecSt.Grown.refl _⟩⟩

theorem State.tideHull_kept {s₀ s : State} (h : Kept s₀ s)  :
    Kept s₀ (State.tideHull s) := by
  unfold State.tideHull; apply Kept.ite; dsimp only; apply Kept.upd; apply State.askHull_kept; apply Kept.ite
  apply State.askHull_kept; assumption; assumption; apply Kept.ite; apply State.askHull_kept; assumption; assumption

theorem State.modeFalls_kept {s₀ s : State} (h : Kept s₀ s)  :
    Kept s₀ (State.modeFalls s) := by
  unfold State.modeFalls; apply Kept.upd; assumption

theorem State.newTideAt_kept {s₀ s : State} (h : Kept s₀ s) (m : TideMeas) :
    Kept s₀ (State.newTideAt s m) := by
  unfold State.newTideAt; dsimp only; apply Kept.upd; apply State.modeFalls_kept; apply State.tideHull_kept
  apply State.sendTide_kept; apply State.newTide_kept; apply State.tideSensors_kept; apply State.setAllowances_kept
  apply State.settleRails_kept; apply State.showMeas_kept; apply State.showLife_kept; apply State.ageMeas_kept
  apply State.tideAgeing_kept; apply State.tideCaps_kept; apply State.tideThermal_kept; apply State.tideEnergy_kept
  apply State.tideCheck_kept; assumption

theorem execTideBoundary_kept {s₀ s : State} (h : Kept s₀ s) (m : TideMeas) :
    KeptOut s₀ (execTideBoundary m s) := by
  unfold execTideBoundary; apply KeptOut.next; apply Kept.ite; apply State.newTideAt_kept; assumption; assumption

end Sys2Proof.Machine
end

