-- ==== Sys2Proof/Laws/KeptExec.lean ====
section
/-!
SUPPORT. Laws/KeptExec.lean: what every command keeps, over all of them.
-/
namespace Sys2Proof.Machine

theorem kept_tmarkPulse (s : State) (a0 : Nat) (a1 : Bool) : KeptOut s (exec (.tmarkPulse a0 a1) s) :=
  execTmarkPulse_kept (Kept.refl s) a0 a1

theorem kept_tmarkMissing (s : State) : KeptOut s (exec .tmarkMissing s) :=
  execTmarkMissing_kept (Kept.refl s)

theorem kept_tmarkMissLimit (s : State) : KeptOut s (exec .tmarkMissLimit s) :=
  execTmarkMissLimit_kept (Kept.refl s)

theorem kept_gridLock (s : State) : KeptOut s (exec .gridLock s) :=
  execGridLock_kept (Kept.refl s)

theorem kept_tickLockWaitTimeout (s : State) : KeptOut s (exec .tickLockWaitTimeout s) :=
  execTickLockWaitTimeout_kept (Kept.refl s)

theorem kept_tlateSample (s : State) (a0 : Nat) (a1 : Bool) : KeptOut s (exec (.tlateSample a0 a1) s) :=
  execTlateSample_kept (Kept.refl s) a0 a1

theorem kept_tickCopyCompare (s : State) (a0 : DWord) (a1 : DWord) (a2 : Nat) : KeptOut s (exec (.tickCopyCompare a0 a1 a2) s) :=
  execTickCopyCompare_kept (Kept.refl s) a0 a1 a2

theorem kept_tickSourceLoss (s : State) : KeptOut s (exec .tickSourceLoss s) :=
  execTickSourceLoss_kept (Kept.refl s)

theorem kept_tickFailover (s : State) : KeptOut s (exec .tickFailover s) :=
  execTickFailover_kept (Kept.refl s)

theorem kept_tickBoundary (s : State) : KeptOut s (exec .tickBoundary s) :=
  execTickBoundary_kept (Kept.refl s)

theorem kept_tideBoundary (s : State) (a0 : TideMeas) : KeptOut s (exec (.tideBoundary a0) s) :=
  execTideBoundary_kept (Kept.refl s) a0

theorem kept_tideRecordRx (s : State) (a0 : PortIx) : KeptOut s (exec (.tideRecordRx a0) s) :=
  execTideRecordRx_kept (Kept.refl s) a0

theorem kept_joinRecordRx (s : State) (a0 : PortIx) : KeptOut s (exec (.joinRecordRx a0) s) :=
  execJoinRecordRx_kept (Kept.refl s) a0

theorem kept_tickRejoin (s : State) : KeptOut s (exec .tickRejoin s) :=
  execTickRejoin_kept (Kept.refl s)

theorem kept_tickCfgWrite (s : State) (a0 : Word) : KeptOut s (exec (.tickCfgWrite a0) s) :=
  execTickCfgWrite_kept (Kept.refl s) a0

theorem kept_tickCfgApply (s : State) : KeptOut s (exec .tickCfgApply s) :=
  execTickCfgApply_kept (Kept.refl s)

theorem kept_runTimetable (s : State) (a0 : Nat) : KeptOut s (exec (.runTimetable a0) s) :=
  execRunTimetable_kept (Kept.refl s) a0

theorem kept_timetableLoadCheck (s : State) (a0 : CoreIx) : KeptOut s (exec (.timetableLoadCheck a0) s) :=
  execTimetableLoadCheck_kept (Kept.refl s) a0

theorem kept_sailingIssue (s : State) (a0 : CoreIx) : KeptOut s (exec (.sailingIssue a0) s) :=
  execSailingIssue_kept (Kept.refl s) a0

theorem kept_engineStart (s : State) (a0 : CoreIx) (a1 : Engine) : KeptOut s (exec (.engineStart a0 a1) s) :=
  execEngineStart_kept (Kept.refl s) a0 a1

theorem kept_sailingComplete (s : State) (a0 : CoreIx) (a1 : Nat) : KeptOut s (exec (.sailingComplete a0 a1) s) :=
  execSailingComplete_kept (Kept.refl s) a0 a1

theorem kept_signalArrival (s : State) (a0 : CoreIx) : KeptOut s (exec (.signalArrival a0) s) :=
  execSignalArrival_kept (Kept.refl s) a0

theorem kept_itemEnd (s : State) (a0 : Nat) (a1 : Nat) : KeptOut s (exec (.itemEnd a0 a1) s) :=
  execItemEnd_kept (Kept.refl s) a0 a1

theorem kept_seqFlagSet (s : State) (a0 : CoreIx) (a1 : DWord) : KeptOut s (exec (.seqFlagSet a0 a1) s) :=
  execSeqFlagSet_kept (Kept.refl s) a0 a1

theorem kept_seqFlagClr (s : State) (a0 : CoreIx) (a1 : DWord) : KeptOut s (exec (.seqFlagClr a0 a1) s) :=
  execSeqFlagClr_kept (Kept.refl s) a0 a1

theorem kept_meMma (s : State) (a0 : CoreIx) : KeptOut s (exec (.meMma a0) s) :=
  execMeMma_kept (Kept.refl s) a0

theorem kept_meMmaF3 (s : State) (a0 : CoreIx) : KeptOut s (exec (.meMmaF3 a0) s) :=
  execMeMmaF3_kept (Kept.refl s) a0

theorem kept_meMmaD (s : State) (a0 : CoreIx) : KeptOut s (exec (.meMmaD a0) s) :=
  execMeMmaD_kept (Kept.refl s) a0

theorem kept_meMerge (s : State) (a0 : CoreIx) : KeptOut s (exec (.meMerge a0) s) :=
  execMeMerge_kept (Kept.refl s) a0

theorem kept_meMergePartial (s : State) (a0 : CoreIx) : KeptOut s (exec (.meMergePartial a0) s) :=
  execMeMergePartial_kept (Kept.refl s) a0

theorem kept_meMergeD (s : State) (a0 : CoreIx) : KeptOut s (exec (.meMergeD a0) s) :=
  execMeMergeD_kept (Kept.refl s) a0

theorem kept_meDrain (s : State) (a0 : CoreIx) : KeptOut s (exec (.meDrain a0) s) :=
  execMeDrain_kept (Kept.refl s) a0

theorem kept_meDscan (s : State) (a0 : CoreIx) : KeptOut s (exec (.meDscan a0) s) :=
  execMeDscan_kept (Kept.refl s) a0

theorem kept_meDslice (s : State) (a0 : CoreIx) : KeptOut s (exec (.meDslice a0) s) :=
  execMeDslice_kept (Kept.refl s) a0

theorem kept_meOpComplete (s : State) (a0 : CoreIx) : KeptOut s (exec (.meOpComplete a0) s) :=
  execMeOpComplete_kept (Kept.refl s) a0

theorem kept_veAdd (s : State) (a0 : CoreIx) : KeptOut s (exec (.veAdd a0) s) :=
  execVeAdd_kept (Kept.refl s) a0

theorem kept_veSub (s : State) (a0 : CoreIx) : KeptOut s (exec (.veSub a0) s) :=
  execVeSub_kept (Kept.refl s) a0

theorem kept_veMul (s : State) (a0 : CoreIx) : KeptOut s (exec (.veMul a0) s) :=
  execVeMul_kept (Kept.refl s) a0

theorem kept_veFma (s : State) (a0 : CoreIx) : KeptOut s (exec (.veFma a0) s) :=
  execVeFma_kept (Kept.refl s) a0

theorem kept_veMax2 (s : State) (a0 : CoreIx) : KeptOut s (exec (.veMax2 a0) s) :=
  execVeMax2_kept (Kept.refl s) a0

theorem kept_veMin2 (s : State) (a0 : CoreIx) : KeptOut s (exec (.veMin2 a0) s) :=
  execVeMin2_kept (Kept.refl s) a0

theorem kept_veScale (s : State) (a0 : CoreIx) : KeptOut s (exec (.veScale a0) s) :=
  execVeScale_kept (Kept.refl s) a0

theorem kept_veConvert (s : State) (a0 : CoreIx) : KeptOut s (exec (.veConvert a0) s) :=
  execVeConvert_kept (Kept.refl s) a0

theorem kept_veDiv (s : State) (a0 : CoreIx) : KeptOut s (exec (.veDiv a0) s) :=
  execVeDiv_kept (Kept.refl s) a0

theorem kept_veSqrt (s : State) (a0 : CoreIx) : KeptOut s (exec (.veSqrt a0) s) :=
  execVeSqrt_kept (Kept.refl s) a0

theorem kept_veExp2 (s : State) (a0 : CoreIx) : KeptOut s (exec (.veExp2 a0) s) :=
  execVeExp2_kept (Kept.refl s) a0

theorem kept_veExp (s : State) (a0 : CoreIx) : KeptOut s (exec (.veExp a0) s) :=
  execVeExp_kept (Kept.refl s) a0

theorem kept_veLog2 (s : State) (a0 : CoreIx) : KeptOut s (exec (.veLog2 a0) s) :=
  execVeLog2_kept (Kept.refl s) a0

theorem kept_veRcp (s : State) (a0 : CoreIx) : KeptOut s (exec (.veRcp a0) s) :=
  execVeRcp_kept (Kept.refl s) a0

theorem kept_veRsqrt (s : State) (a0 : CoreIx) : KeptOut s (exec (.veRsqrt a0) s) :=
  execVeRsqrt_kept (Kept.refl s) a0

theorem kept_veAct (s : State) (a0 : CoreIx) : KeptOut s (exec (.veAct a0) s) :=
  execVeAct_kept (Kept.refl s) a0

theorem kept_veRsum (s : State) (a0 : CoreIx) : KeptOut s (exec (.veRsum a0) s) :=
  execVeRsum_kept (Kept.refl s) a0

theorem kept_veRmax (s : State) (a0 : CoreIx) : KeptOut s (exec (.veRmax a0) s) :=
  execVeRmax_kept (Kept.refl s) a0

theorem kept_veRmin (s : State) (a0 : CoreIx) : KeptOut s (exec (.veRmin a0) s) :=
  execVeRmin_kept (Kept.refl s) a0

theorem kept_veRargmax (s : State) (a0 : CoreIx) : KeptOut s (exec (.veRargmax a0) s) :=
  execVeRargmax_kept (Kept.refl s) a0

theorem kept_veRsumsq (s : State) (a0 : CoreIx) : KeptOut s (exec (.veRsumsq a0) s) :=
  execVeRsumsq_kept (Kept.refl s) a0

theorem kept_veRmeanvar (s : State) (a0 : CoreIx) : KeptOut s (exec (.veRmeanvar a0) s) :=
  execVeRmeanvar_kept (Kept.refl s) a0

theorem kept_veSoftmax (s : State) (a0 : CoreIx) : KeptOut s (exec (.veSoftmax a0) s) :=
  execVeSoftmax_kept (Kept.refl s) a0

theorem kept_veLayernorm (s : State) (a0 : CoreIx) : KeptOut s (exec (.veLayernorm a0) s) :=
  execVeLayernorm_kept (Kept.refl s) a0

theorem kept_veRmsnorm (s : State) (a0 : CoreIx) : KeptOut s (exec (.veRmsnorm a0) s) :=
  execVeRmsnorm_kept (Kept.refl s) a0

theorem kept_veDropout (s : State) (a0 : CoreIx) : KeptOut s (exec (.veDropout a0) s) :=
  execVeDropout_kept (Kept.refl s) a0

theorem kept_veUniform (s : State) (a0 : CoreIx) : KeptOut s (exec (.veUniform a0) s) :=
  execVeUniform_kept (Kept.refl s) a0

theorem kept_veNormal (s : State) (a0 : CoreIx) : KeptOut s (exec (.veNormal a0) s) :=
  execVeNormal_kept (Kept.refl s) a0

theorem kept_veTranspose (s : State) (a0 : CoreIx) : KeptOut s (exec (.veTranspose a0) s) :=
  execVeTranspose_kept (Kept.refl s) a0

theorem kept_veMxRelayout (s : State) (a0 : CoreIx) : KeptOut s (exec (.veMxRelayout a0) s) :=
  execVeMxRelayout_kept (Kept.refl s) a0

theorem kept_veHazardClear (s : State) (a0 : CoreIx) : KeptOut s (exec (.veHazardClear a0) s) :=
  execVeHazardClear_kept (Kept.refl s) a0

theorem kept_veOpComplete (s : State) (a0 : CoreIx) : KeptOut s (exec (.veOpComplete a0) s) :=
  execVeOpComplete_kept (Kept.refl s) a0

theorem kept_veWconv (s : State) (a0 : CoreIx) : KeptOut s (exec (.veWconv a0) s) :=
  execVeWconv_kept (Kept.refl s) a0

theorem kept_veMaxpool (s : State) (a0 : CoreIx) : KeptOut s (exec (.veMaxpool a0) s) :=
  execVeMaxpool_kept (Kept.refl s) a0

theorem kept_veAvgpool (s : State) (a0 : CoreIx) : KeptOut s (exec (.veAvgpool a0) s) :=
  execVeAvgpool_kept (Kept.refl s) a0

theorem kept_veWconvBwdData (s : State) (a0 : CoreIx) : KeptOut s (exec (.veWconvBwdData a0) s) :=
  execVeWconvBwdData_kept (Kept.refl s) a0

theorem kept_veWconvBwdWeight (s : State) (a0 : CoreIx) : KeptOut s (exec (.veWconvBwdWeight a0) s) :=
  execVeWconvBwdWeight_kept (Kept.refl s) a0

theorem kept_veMaxpoolBwd (s : State) (a0 : CoreIx) : KeptOut s (exec (.veMaxpoolBwd a0) s) :=
  execVeMaxpoolBwd_kept (Kept.refl s) a0

theorem kept_veAvgpoolBwd (s : State) (a0 : CoreIx) : KeptOut s (exec (.veAvgpoolBwd a0) s) :=
  execVeAvgpoolBwd_kept (Kept.refl s) a0

theorem kept_veUpsampleNearest (s : State) (a0 : CoreIx) : KeptOut s (exec (.veUpsampleNearest a0) s) :=
  execVeUpsampleNearest_kept (Kept.refl s) a0

theorem kept_veUpsampleBilinear (s : State) (a0 : CoreIx) : KeptOut s (exec (.veUpsampleBilinear a0) s) :=
  execVeUpsampleBilinear_kept (Kept.refl s) a0

theorem kept_veUpsampleNearestBwd (s : State) (a0 : CoreIx) : KeptOut s (exec (.veUpsampleNearestBwd a0) s) :=
  execVeUpsampleNearestBwd_kept (Kept.refl s) a0

theorem kept_veUpsampleBilinearBwd (s : State) (a0 : CoreIx) : KeptOut s (exec (.veUpsampleBilinearBwd a0) s) :=
  execVeUpsampleBilinearBwd_kept (Kept.refl s) a0

theorem kept_vePadFold (s : State) (a0 : CoreIx) : KeptOut s (exec (.vePadFold a0) s) :=
  execVePadFold_kept (Kept.refl s) a0

theorem kept_veGmask (s : State) (a0 : CoreIx) : KeptOut s (exec (.veGmask a0) s) :=
  execVeGmask_kept (Kept.refl s) a0

theorem kept_veSoftmaxBwd (s : State) (a0 : CoreIx) : KeptOut s (exec (.veSoftmaxBwd a0) s) :=
  execVeSoftmaxBwd_kept (Kept.refl s) a0

theorem kept_veLayernormBwd (s : State) (a0 : CoreIx) : KeptOut s (exec (.veLayernormBwd a0) s) :=
  execVeLayernormBwd_kept (Kept.refl s) a0

theorem kept_veRmsnormBwd (s : State) (a0 : CoreIx) : KeptOut s (exec (.veRmsnormBwd a0) s) :=
  execVeRmsnormBwd_kept (Kept.refl s) a0

theorem kept_veActBwd (s : State) (a0 : CoreIx) : KeptOut s (exec (.veActBwd a0) s) :=
  execVeActBwd_kept (Kept.refl s) a0

theorem kept_rngSeedWrite (s : State) (a0 : CoreIx) (a1 : DWord) : KeptOut s (exec (.rngSeedWrite a0 a1) s) :=
  execRngSeedWrite_kept (Kept.refl s) a0 a1

theorem kept_rngRestoreStepWrite (s : State) (a0 : CoreIx) (a1 : DWord) : KeptOut s (exec (.rngRestoreStepWrite a0 a1) s) :=
  execRngRestoreStepWrite_kept (Kept.refl s) a0 a1

theorem kept_prepRun (s : State) (a0 : CoreIx) : KeptOut s (exec (.prepRun a0) s) :=
  execPrepRun_kept (Kept.refl s) a0

theorem kept_prepHalt (s : State) (a0 : CoreIx) : KeptOut s (exec (.prepHalt a0) s) :=
  execPrepHalt_kept (Kept.refl s) a0

theorem kept_prepReset (s : State) (a0 : CoreIx) : KeptOut s (exec (.prepReset a0) s) :=
  execPrepReset_kept (Kept.refl s) a0

theorem kept_ptflagset (s : State) (a0 : CoreIx) (a1 : DWord) : KeptOut s (exec (.ptflagset a0 a1) s) :=
  execPtflagset_kept (Kept.refl s) a0 a1

theorem kept_ptickcmpIrq (s : State) (a0 : CoreIx) (a1 : DWord) : KeptOut s (exec (.ptickcmpIrq a0 a1) s) :=
  execPtickcmpIrq_kept (Kept.refl s) a0 a1

theorem kept_prepBusError (s : State) (a0 : CoreIx) (a1 : DWord) (a2 : DWord) (a3 : DWord) : KeptOut s (exec (.prepBusError a0 a1 a2 a3) s) :=
  execPrepBusError_kept (Kept.refl s) a0 a1 a2 a3

theorem kept_prepDoubleTrap (s : State) (a0 : CoreIx) (a1 : DWord) (a2 : DWord) (a3 : DWord) : KeptOut s (exec (.prepDoubleTrap a0 a1 a2 a3) s) :=
  execPrepDoubleTrap_kept (Kept.refl s) a0 a1 a2 a3

theorem kept_unitErrorIrq (s : State) (a0 : CoreIx) (a1 : Fin 9) : KeptOut s (exec (.unitErrorIrq a0 a1) s) :=
  execUnitErrorIrq_kept (Kept.refl s) a0 a1

theorem kept_ferryEnqueue (s : State) (a0 : CoreIx) (a1 : FerryIx) : KeptOut s (exec (.ferryEnqueue a0 a1) s) :=
  execFerryEnqueue_kept (Kept.refl s) a0 a1

theorem kept_ferryOpStart (s : State) (a0 : CoreIx) (a1 : FerryIx) : KeptOut s (exec (.ferryOpStart a0 a1) s) :=
  execFerryOpStart_kept (Kept.refl s) a0 a1

theorem kept_ferryCopyIn (s : State) (a0 : CoreIx) (a1 : FerryIx) : KeptOut s (exec (.ferryCopyIn a0 a1) s) :=
  execFerryCopyIn_kept (Kept.refl s) a0 a1

theorem kept_ferryGather (s : State) (a0 : CoreIx) (a1 : FerryIx) : KeptOut s (exec (.ferryGather a0 a1) s) :=
  execFerryGather_kept (Kept.refl s) a0 a1

theorem kept_ferryGatherT (s : State) (a0 : CoreIx) (a1 : FerryIx) : KeptOut s (exec (.ferryGatherT a0 a1) s) :=
  execFerryGatherT_kept (Kept.refl s) a0 a1

theorem kept_ferryHalo (s : State) (a0 : CoreIx) (a1 : FerryIx) : KeptOut s (exec (.ferryHalo a0 a1) s) :=
  execFerryHalo_kept (Kept.refl s) a0 a1

theorem kept_ferryIndexIn (s : State) (a0 : CoreIx) (a1 : FerryIx) : KeptOut s (exec (.ferryIndexIn a0 a1) s) :=
  execFerryIndexIn_kept (Kept.refl s) a0 a1

theorem kept_ferryMxtIn (s : State) (a0 : CoreIx) (a1 : FerryIx) : KeptOut s (exec (.ferryMxtIn a0 a1) s) :=
  execFerryMxtIn_kept (Kept.refl s) a0 a1

theorem kept_ferryQrun (s : State) (a0 : CoreIx) (a1 : FerryIx) : KeptOut s (exec (.ferryQrun a0 a1) s) :=
  execFerryQrun_kept (Kept.refl s) a0 a1

theorem kept_ferryCopyOut (s : State) (a0 : CoreIx) (a1 : FerryIx) : KeptOut s (exec (.ferryCopyOut a0 a1) s) :=
  execFerryCopyOut_kept (Kept.refl s) a0 a1

theorem kept_ferryIndexOut (s : State) (a0 : CoreIx) (a1 : FerryIx) : KeptOut s (exec (.ferryIndexOut a0 a1) s) :=
  execFerryIndexOut_kept (Kept.refl s) a0 a1

theorem kept_ferryPfill (s : State) (a0 : CoreIx) (a1 : FerryIx) : KeptOut s (exec (.ferryPfill a0 a1) s) :=
  execFerryPfill_kept (Kept.refl s) a0 a1

theorem kept_ferryPeerGet (s : State) (a0 : CoreIx) (a1 : FerryIx) : KeptOut s (exec (.ferryPeerGet a0 a1) s) :=
  execFerryPeerGet_kept (Kept.refl s) a0 a1

theorem kept_ferryPeerPut (s : State) (a0 : CoreIx) (a1 : FerryIx) : KeptOut s (exec (.ferryPeerPut a0 a1) s) :=
  execFerryPeerPut_kept (Kept.refl s) a0 a1

theorem kept_ferryOpComplete (s : State) (a0 : CoreIx) (a1 : FerryIx) : KeptOut s (exec (.ferryOpComplete a0 a1) s) :=
  execFerryOpComplete_kept (Kept.refl s) a0 a1

theorem kept_slipPush (s : State) (a0 : CoreIx) (a1 : FerryIx) : KeptOut s (exec (.slipPush a0 a1) s) :=
  execSlipPush_kept (Kept.refl s) a0 a1

theorem kept_slipPop (s : State) (a0 : CoreIx) (a1 : FerryIx) : KeptOut s (exec (.slipPop a0 a1) s) :=
  execSlipPop_kept (Kept.refl s) a0 a1

theorem kept_slipTrailerReread (s : State) (a0 : CoreIx) (a1 : FerryIx) : KeptOut s (exec (.slipTrailerReread a0 a1) s) :=
  execSlipTrailerReread_kept (Kept.refl s) a0 a1

theorem kept_slipEnable (s : State) (a0 : CoreIx) (a1 : BerthIx) : KeptOut s (exec (.slipEnable a0 a1) s) :=
  execSlipEnable_kept (Kept.refl s) a0 a1

theorem kept_slipDisable (s : State) (a0 : CoreIx) (a1 : BerthIx) : KeptOut s (exec (.slipDisable a0 a1) s) :=
  execSlipDisable_kept (Kept.refl s) a0 a1

theorem kept_updateParamsAdamw (s : State) (a0 : Nat) : KeptOut s (exec (.updateParamsAdamw a0) s) :=
  execUpdateParamsAdamw_kept (Kept.refl s) a0

theorem kept_updateParamsLamb (s : State) (a0 : Nat) : KeptOut s (exec (.updateParamsLamb a0) s) :=
  execUpdateParamsLamb_kept (Kept.refl s) a0

theorem kept_updateParamsSgd (s : State) (a0 : Nat) : KeptOut s (exec (.updateParamsSgd a0) s) :=
  execUpdateParamsSgd_kept (Kept.refl s) a0

theorem kept_updateParamsVerify (s : State) (a0 : Nat) : KeptOut s (exec (.updateParamsVerify a0) s) :=
  execUpdateParamsVerify_kept (Kept.refl s) a0

theorem kept_updShardItem (s : State) (a0 : Nat) (a1 : Nat) : KeptOut s (exec (.updShardItem a0 a1) s) :=
  execUpdShardItem_kept (Kept.refl s) a0 a1

theorem kept_updExponentMove (s : State) (a0 : Nat) : KeptOut s (exec (.updExponentMove a0) s) :=
  execUpdExponentMove_kept (Kept.refl s) a0

theorem kept_pontGexp (s : State) (a0 : StackIx) : KeptOut s (exec (.pontGexp a0) s) :=
  execPontGexp_kept (Kept.refl s) a0

theorem kept_pontDig (s : State) (a0 : StackIx) : KeptOut s (exec (.pontDig a0) s) :=
  execPontDig_kept (Kept.refl s) a0

theorem kept_pontFill (s : State) (a0 : StackIx) : KeptOut s (exec (.pontFill a0) s) :=
  execPontFill_kept (Kept.refl s) a0

theorem kept_hbmcScrubPass (s : State) (a0 : StackIx) (a1 : List Nat) (a2 : List Nat) : KeptOut s (exec (.hbmcScrubPass a0 a1 a2) s) :=
  execHbmcScrubPass_kept (Kept.refl s) a0 a1 a2

theorem kept_lpdcScrubPass (s : State) (a0 : LpIx) (a1 : List Nat) (a2 : List Nat) : KeptOut s (exec (.lpdcScrubPass a0 a1 a2) s) :=
  execLpdcScrubPass_kept (Kept.refl s) a0 a1 a2

theorem kept_memoryReadError (s : State) (a0 : Nat) (a1 : ReadErr) : KeptOut s (exec (.memoryReadError a0 a1) s) :=
  execMemoryReadError_kept (Kept.refl s) a0 a1

theorem kept_hbmcMapWrite (s : State) (a0 : Word) : KeptOut s (exec (.hbmcMapWrite a0) s) :=
  execHbmcMapWrite_kept (Kept.refl s) a0

theorem kept_lpdcTierWrite (s : State) (a0 : Word) : KeptOut s (exec (.lpdcTierWrite a0) s) :=
  execLpdcTierWrite_kept (Kept.refl s) a0

theorem kept_landClear (s : State) (a0 : CoreIx) : KeptOut s (exec (.landClear a0) s) :=
  execLandClear_kept (Kept.refl s) a0

theorem kept_landClearDone (s : State) (a0 : CoreIx) : KeptOut s (exec (.landClearDone a0) s) :=
  execLandClearDone_kept (Kept.refl s) a0

theorem kept_deckLbAccess (s : State) (a0 : CoreIx) (a1 : Nat) (a2 : Nat) (a3 : Bool) (a4 : Bytes) : KeptOut s (exec (.deckLbAccess a0 a1 a2 a3 a4) s) :=
  execDeckLbAccess_kept (Kept.refl s) a0 a1 a2 a3 a4

theorem kept_ferryQcfgWrite (s : State) (a0 : CoreIx) (a1 : FerryIx) (a2 : Bool) (a3 : DWord) : KeptOut s (exec (.ferryQcfgWrite a0 a1 a2 a3) s) :=
  execFerryQcfgWrite_kept (Kept.refl s) a0 a1 a2 a3

theorem kept_ferryQtailWrite (s : State) (a0 : CoreIx) (a1 : FerryIx) (a2 : Word) : KeptOut s (exec (.ferryQtailWrite a0 a1 a2) s) :=
  execFerryQtailWrite_kept (Kept.refl s) a0 a1 a2

theorem kept_tagRefetch (s : State) (a0 : CoreIx) (a1 : FerryIx) : KeptOut s (exec (.tagRefetch a0 a1) s) :=
  execTagRefetch_kept (Kept.refl s) a0 a1

theorem kept_expBlockExpand (s : State) (a0 : CoreIx) (a1 : FerryIx) : KeptOut s (exec (.expBlockExpand a0 a1) s) :=
  execExpBlockExpand_kept (Kept.refl s) a0 a1

theorem kept_expRefetch (s : State) (a0 : CoreIx) (a1 : FerryIx) : KeptOut s (exec (.expRefetch a0 a1) s) :=
  execExpRefetch_kept (Kept.refl s) a0 a1

theorem kept_loadDecodeTable (s : State) (a0 : Nat) : KeptOut s (exec (.loadDecodeTable a0) s) :=
  execLoadDecodeTable_kept (Kept.refl s) a0

theorem kept_ctabLoadGo (s : State) (a0 : DieIx) (a1 : Fin 8) : KeptOut s (exec (.ctabLoadGo a0 a1) s) :=
  execCtabLoadGo_kept (Kept.refl s) a0 a1

theorem kept_ctabRetire (s : State) (a0 : DieIx) (a1 : BitVec 8) : KeptOut s (exec (.ctabRetire a0 a1) s) :=
  execCtabRetire_kept (Kept.refl s) a0 a1

theorem kept_ctabSlotLive (s : State) (a0 : DieIx) (a1 : Fin 8) : KeptOut s (exec (.ctabSlotLive a0 a1) s) :=
  execCtabSlotLive_kept (Kept.refl s) a0 a1

theorem kept_ctabSlotDraining (s : State) (a0 : DieIx) (a1 : Fin 8) : KeptOut s (exec (.ctabSlotDraining a0 a1) s) :=
  execCtabSlotDraining_kept (Kept.refl s) a0 a1

theorem kept_ctabSlotFree (s : State) (a0 : DieIx) (a1 : Fin 8) : KeptOut s (exec (.ctabSlotFree a0 a1) s) :=
  execCtabSlotFree_kept (Kept.refl s) a0 a1

theorem kept_tagrRegionEnable (s : State) (a0 : Fin 64) : KeptOut s (exec (.tagrRegionEnable a0) s) :=
  execTagrRegionEnable_kept (Kept.refl s) a0

theorem kept_tagrRgenWrite (s : State) (a0 : Fin 64) (a1 : BitVec 16) : KeptOut s (exec (.tagrRgenWrite a0 a1) s) :=
  execTagrRgenWrite_kept (Kept.refl s) a0 a1

theorem kept_tagrRetag (s : State) (a0 : Fin 64) : KeptOut s (exec (.tagrRetag a0) s) :=
  execTagrRetag_kept (Kept.refl s) a0

theorem kept_tagrRetagDone (s : State) : KeptOut s (exec .tagrRetagDone s) :=
  execTagrRetagDone_kept (Kept.refl s)

theorem kept_homeRdShared (s : State) (a0 : PartIx) (a1 : (Fin 64)) (a2 : Nat) : KeptOut s (exec (.homeRdShared a0 a1 a2) s) :=
  execHomeRdShared_kept (Kept.refl s) a0 a1 a2

theorem kept_homeRdOwn (s : State) (a0 : PartIx) (a1 : (Fin 64)) (a2 : Nat) : KeptOut s (exec (.homeRdOwn a0 a1 a2) s) :=
  execHomeRdOwn_kept (Kept.refl s) a0 a1 a2

theorem kept_homeUpgrade (s : State) (a0 : PartIx) (a1 : (Fin 64)) (a2 : Nat) : KeptOut s (exec (.homeUpgrade a0 a1 a2) s) :=
  execHomeUpgrade_kept (Kept.refl s) a0 a1 a2

theorem kept_homeRdOnce (s : State) (a0 : CohAgent) (a1 : Nat) : KeptOut s (exec (.homeRdOnce a0 a1) s) :=
  execHomeRdOnce_kept (Kept.refl s) a0 a1

theorem kept_homeBulkRd (s : State) (a0 : CohAgent) (a1 : Nat) (a2 : Nat) : KeptOut s (exec (.homeBulkRd a0 a1 a2) s) :=
  execHomeBulkRd_kept (Kept.refl s) a0 a1 a2

theorem kept_homeWrLine (s : State) (a0 : CohAgent) (a1 : Nat) (a2 : Bytes) : KeptOut s (exec (.homeWrLine a0 a1 a2) s) :=
  execHomeWrLine_kept (Kept.refl s) a0 a1 a2

theorem kept_homeBulkWr (s : State) (a0 : CohAgent) (a1 : Nat) (a2 : Bytes) : KeptOut s (exec (.homeBulkWr a0 a1 a2) s) :=
  execHomeBulkWr_kept (Kept.refl s) a0 a1 a2

theorem kept_homeWrPart (s : State) (a0 : CohAgent) (a1 : Nat) (a2 : DWord) (a3 : Bytes) : KeptOut s (exec (.homeWrPart a0 a1 a2 a3) s) :=
  execHomeWrPart_kept (Kept.refl s) a0 a1 a2 a3

theorem kept_homeWb (s : State) (a0 : PartIx) (a1 : Nat) : KeptOut s (exec (.homeWb a0 a1) s) :=
  execHomeWb_kept (Kept.refl s) a0 a1

theorem kept_homeEvict (s : State) (a0 : PartIx) (a1 : Nat) : KeptOut s (exec (.homeEvict a0 a1) s) :=
  execHomeEvict_kept (Kept.refl s) a0 a1

theorem kept_homeAmoFar (s : State) (a0 : PartIx) (a1 : (Fin 64)) (a2 : AmoOp) (a3 : Bool) (a4 : Nat) (a5 : DWord) : KeptOut s (exec (.homeAmoFar a0 a1 a2 a3 a4 a5) s) :=
  execHomeAmoFar_kept (Kept.refl s) a0 a1 a2 a3 a4 a5

theorem kept_homeRecall (s : State) (a0 : CohAgent) (a1 : Nat) (a2 : Nat) : KeptOut s (exec (.homeRecall a0 a1 a2) s) :=
  execHomeRecall_kept (Kept.refl s) a0 a1 a2

theorem kept_homeTransactionServe (s : State) (a0 : Nat) : KeptOut s (exec (.homeTransactionServe a0) s) :=
  execHomeTransactionServe_kept (Kept.refl s) a0

theorem kept_homeSnoopAnswer (s : State) (a0 : PartIx) (a1 : Nat) : KeptOut s (exec (.homeSnoopAnswer a0 a1) s) :=
  execHomeSnoopAnswer_kept (Kept.refl s) a0 a1

theorem kept_snoopResend (s : State) (a0 : PartIx) (a1 : Nat) : KeptOut s (exec (.snoopResend a0 a1) s) :=
  execSnoopResend_kept (Kept.refl s) a0 a1

theorem kept_cohSnoopTimeout (s : State) (a0 : PartIx) (a1 : Nat) : KeptOut s (exec (.cohSnoopTimeout a0 a1) s) :=
  execCohSnoopTimeout_kept (Kept.refl s) a0 a1

theorem kept_snpInv (s : State) (a0 : PartIx) (a1 : Nat) (a2 : (Fin 64)) : KeptOut s (exec (.snpInv a0 a1 a2) s) :=
  execSnpInv_kept (Kept.refl s) a0 a1 a2

theorem kept_snpShare (s : State) (a0 : PartIx) (a1 : Nat) (a2 : (Fin 64)) : KeptOut s (exec (.snpShare a0 a1 a2) s) :=
  execSnpShare_kept (Kept.refl s) a0 a1 a2

theorem kept_backInv (s : State) (a0 : PartIx) (a1 : Nat) (a2 : (Fin 64)) : KeptOut s (exec (.backInv a0 a1 a2) s) :=
  execBackInv_kept (Kept.refl s) a0 a1 a2

theorem kept_gntReceive (s : State) (a0 : PartIx) (a1 : Nat) : KeptOut s (exec (.gntReceive a0 a1) s) :=
  execGntReceive_kept (Kept.refl s) a0 a1

theorem kept_gntUp (s : State) (a0 : PartIx) (a1 : Nat) : KeptOut s (exec (.gntUp a0 a1) s) :=
  execGntUp_kept (Kept.refl s) a0 a1

theorem kept_dataOnce (s : State) (a0 : CohAgent) (a1 : Nat) : KeptOut s (exec (.dataOnce a0 a1) s) :=
  execDataOnce_kept (Kept.refl s) a0 a1

theorem kept_wrDone (s : State) (a0 : CohAgent) (a1 : Nat) : KeptOut s (exec (.wrDone a0 a1) s) :=
  execWrDone_kept (Kept.refl s) a0 a1

theorem kept_amoRsp (s : State) (a0 : PartIx) (a1 : Nat) : KeptOut s (exec (.amoRsp a0 a1) s) :=
  execAmoRsp_kept (Kept.refl s) a0 a1

theorem kept_wbAck (s : State) (a0 : PartIx) (a1 : Nat) : KeptOut s (exec (.wbAck a0 a1) s) :=
  execWbAck_kept (Kept.refl s) a0 a1

theorem kept_bollardHoldEnd (s : State) (a0 : PartIx) (a1 : Nat) : KeptOut s (exec (.bollardHoldEnd a0 a1) s) :=
  execBollardHoldEnd_kept (Kept.refl s) a0 a1

theorem kept_atomicOp (s : State) (a0 : AtomCore) (a1 : AtomOp) (a2 : AtomForm) (a3 : Nat) (a4 : BitVec 128) : KeptOut s (exec (.atomicOp a0 a1 a2 a3 a4) s) :=
  execAtomicOp_kept (Kept.refl s) a0 a1 a2 a3 a4

theorem kept_dcacheFlush (s : State) (a0 : DieIx) : KeptOut s (exec (.dcacheFlush a0) s) :=
  execDcacheFlush_kept (Kept.refl s) a0

theorem kept_dcachePredClr (s : State) (a0 : DieIx) : KeptOut s (exec (.dcachePredClr a0) s) :=
  execDcachePredClr_kept (Kept.refl s) a0

theorem kept_dcPoisonConsumed (s : State) (a0 : CoreIx) (a1 : DWord) (a2 : Nat) : KeptOut s (exec (.dcPoisonConsumed a0 a1 a2) s) :=
  execDcPoisonConsumed_kept (Kept.refl s) a0 a1 a2

theorem kept_homeCfgWrite (s : State) (a0 : SliceIx) (a1 : Word) : KeptOut s (exec (.homeCfgWrite a0 a1) s) :=
  execHomeCfgWrite_kept (Kept.refl s) a0 a1

theorem kept_srvcRun (s : State) (a0 : ServerIx) : KeptOut s (exec (.srvcRun a0) s) :=
  execSrvcRun_kept (Kept.refl s) a0

theorem kept_srvcStop (s : State) (a0 : ServerIx) : KeptOut s (exec (.srvcStop a0) s) :=
  execSrvcStop_kept (Kept.refl s) a0

theorem kept_srvcReserve (s : State) (a0 : ServerIx) : KeptOut s (exec (.srvcReserve a0) s) :=
  execSrvcReserve_kept (Kept.refl s) a0

theorem kept_srvcRelease (s : State) (a0 : ServerIx) : KeptOut s (exec (.srvcRelease a0) s) :=
  execSrvcRelease_kept (Kept.refl s) a0

theorem kept_srvcPredClr (s : State) (a0 : ServerIx) : KeptOut s (exec (.srvcPredClr a0) s) :=
  execSrvcPredClr_kept (Kept.refl s) a0

theorem kept_srvcL2Flush (s : State) (a0 : ServerIx) : KeptOut s (exec (.srvcL2Flush a0) s) :=
  execSrvcL2Flush_kept (Kept.refl s) a0

theorem kept_srvcClkWrite (s : State) (a0 : ServerIx) (a1 : (BitVec 12)) : KeptOut s (exec (.srvcClkWrite a0 a1) s) :=
  execSrvcClkWrite_kept (Kept.refl s) a0 a1

theorem kept_srvPoisonConsumed (s : State) (a0 : ServerIx) (a1 : Bool) (a2 : DWord) (a3 : Nat) : KeptOut s (exec (.srvPoisonConsumed a0 a1 a2 a3) s) :=
  execSrvPoisonConsumed_kept (Kept.refl s) a0 a1 a2 a3

theorem kept_srvCacheError (s : State) (a0 : ServerIx) (a1 : Nat) (a2 : CacheErr) : KeptOut s (exec (.srvCacheError a0 a1 a2) s) :=
  execSrvCacheError_kept (Kept.refl s) a0 a1 a2

theorem kept_dockEnable (s : State) (a0 : DockIx) : KeptOut s (exec (.dockEnable a0) s) :=
  execDockEnable_kept (Kept.refl s) a0

theorem kept_dockDisable (s : State) (a0 : DockIx) : KeptOut s (exec (.dockDisable a0) s) :=
  execDockDisable_kept (Kept.refl s) a0

theorem kept_dockTailWrite (s : State) (a0 : DockIx) (a1 : Word) (a2 : Nat) : KeptOut s (exec (.dockTailWrite a0 a1 a2) s) :=
  execDockTailWrite_kept (Kept.refl s) a0 a1 a2

theorem kept_dockCplHeadWrite (s : State) (a0 : DockIx) (a1 : Word) : KeptOut s (exec (.dockCplHeadWrite a0 a1) s) :=
  execDockCplHeadWrite_kept (Kept.refl s) a0 a1

theorem kept_dockEntryRead (s : State) (a0 : DockIx) : KeptOut s (exec (.dockEntryRead a0) s) :=
  execDockEntryRead_kept (Kept.refl s) a0

theorem kept_dockCompletion (s : State) (a0 : DockIx) (a1 : Nat) : KeptOut s (exec (.dockCompletion a0 a1) s) :=
  execDockCompletion_kept (Kept.refl s) a0 a1

theorem kept_commandAccept (s : State) : KeptOut s (exec .commandAccept s) :=
  execCommandAccept_kept (Kept.refl s)

theorem kept_cqEntryFetch (s : State) (a0 : QueueIx) : KeptOut s (exec (.cqEntryFetch a0) s) :=
  execCqEntryFetch_kept (Kept.refl s) a0

theorem kept_cqTailWrite (s : State) (a0 : QueueIx) (a1 : Word) (a2 : Nat) : KeptOut s (exec (.cqTailWrite a0 a1 a2) s) :=
  execCqTailWrite_kept (Kept.refl s) a0 a1 a2

theorem kept_cqCplHeadWrite (s : State) (a0 : QueueIx) (a1 : Word) : KeptOut s (exec (.cqCplHeadWrite a0 a1) s) :=
  execCqCplHeadWrite_kept (Kept.refl s) a0 a1

theorem kept_cqEnable (s : State) (a0 : QueueIx) : KeptOut s (exec (.cqEnable a0) s) :=
  execCqEnable_kept (Kept.refl s) a0

theorem kept_cqDisable (s : State) (a0 : QueueIx) : KeptOut s (exec (.cqDisable a0) s) :=
  execCqDisable_kept (Kept.refl s) a0

theorem kept_writeInline (s : State) (a0 : Nat) : KeptOut s (exec (.writeInline a0) s) :=
  execWriteInline_kept (Kept.refl s) a0

theorem kept_copy (s : State) (a0 : Nat) : KeptOut s (exec (.copy a0) s) :=
  execCopy_kept (Kept.refl s) a0

theorem kept_copyItem (s : State) (a0 : Nat) : KeptOut s (exec (.copyItem a0) s) :=
  execCopyItem_kept (Kept.refl s) a0

theorem kept_fence (s : State) (a0 : Nat) : KeptOut s (exec (.fence a0) s) :=
  execFence_kept (Kept.refl s) a0

theorem kept_nop (s : State) (a0 : Nat) : KeptOut s (exec (.nop a0) s) :=
  execNop_kept (Kept.refl s) a0

theorem kept_query (s : State) (a0 : Nat) : KeptOut s (exec (.query a0) s) :=
  execQuery_kept (Kept.refl s) a0

theorem kept_queryPlace (s : State) : KeptOut s (exec .queryPlace s) :=
  execQueryPlace_kept (Kept.refl s)

theorem kept_queryResultCollect (s : State) : KeptOut s (exec .queryResultCollect s) :=
  execQueryResultCollect_kept (Kept.refl s)

theorem kept_completionRecordWrite (s : State) (a0 : Nat) : KeptOut s (exec (.completionRecordWrite a0) s) :=
  execCompletionRecordWrite_kept (Kept.refl s) a0

theorem kept_pcieLinkTrain (s : State) (a0 : PcieIx) (a1 : Nat) (a2 : Nat) : KeptOut s (exec (.pcieLinkTrain a0 a1 a2) s) :=
  execPcieLinkTrain_kept (Kept.refl s) a0 a1 a2

theorem kept_pcieRetrain (s : State) (a0 : PcieIx) : KeptOut s (exec (.pcieRetrain a0) s) :=
  execPcieRetrain_kept (Kept.refl s) a0

theorem kept_pcieLinkLoss (s : State) (a0 : PcieIx) (a1 : LinkEnd) : KeptOut s (exec (.pcieLinkLoss a0 a1) s) :=
  execPcieLinkLoss_kept (Kept.refl s) a0 a1

theorem kept_hostDetachAbort (s : State) : KeptOut s (exec .hostDetachAbort s) :=
  execHostDetachAbort_kept (Kept.refl s)

theorem kept_bar2Access (s : State) (a0 : Nat) (a1 : Nat) (a2 : Bool) (a3 : Bytes) (a4 : TlpFault) : KeptOut s (exec (.bar2Access a0 a1 a2 a3 a4) s) :=
  execBar2Access_kept (Kept.refl s) a0 a1 a2 a3 a4

theorem kept_outboundAccess (s : State) (a0 : Nat) (a1 : Nat) (a2 : Bool) (a3 : Bytes) (a4 : Option (Nat × Nat)) : KeptOut s (exec (.outboundAccess a0 a1 a2 a3 a4) s) :=
  execOutboundAccess_kept (Kept.refl s) a0 a1 a2 a3 a4

theorem kept_pcieUnexpCpl (s : State) (a0 : PcieIx) : KeptOut s (exec (.pcieUnexpCpl a0) s) :=
  execPcieUnexpCpl_kept (Kept.refl s) a0

theorem kept_pcieCplTimeout (s : State) (a0 : PcieIx) (a1 : Nat) (a2 : Nat) : KeptOut s (exec (.pcieCplTimeout a0 a1 a2) s) :=
  execPcieCplTimeout_kept (Kept.refl s) a0 a1 a2

theorem kept_pciePoisonedTlp (s : State) (a0 : PcieIx) (a1 : Option (Nat × Nat)) (a2 : Nat) (a3 : Nat) : KeptOut s (exec (.pciePoisonedTlp a0 a1 a2 a3) s) :=
  execPciePoisonedTlp_kept (Kept.refl s) a0 a1 a2 a3

theorem kept_pcieBar2BaseWrite (s : State) (a0 : DWord) : KeptOut s (exec (.pcieBar2BaseWrite a0) s) :=
  execPcieBar2BaseWrite_kept (Kept.refl s) a0

theorem kept_pcieCtrlWrite (s : State) (a0 : PcieIx) (a1 : Word) : KeptOut s (exec (.pcieCtrlWrite a0 a1) s) :=
  execPcieCtrlWrite_kept (Kept.refl s) a0 a1

theorem kept_flitGrant (s : State) (a0 : PortIx) : KeptOut s (exec (.flitGrant a0) s) :=
  execFlitGrant_kept (Kept.refl s) a0

theorem kept_flitCrcError (s : State) (a0 : PortIx) (a1 : Bytes) (a2 : Bool) : KeptOut s (exec (.flitCrcError a0 a1 a2) s) :=
  execFlitCrcError_kept (Kept.refl s) a0 a1 a2

theorem kept_flitAccept (s : State) (a0 : PortIx) (a1 : Bytes) : KeptOut s (exec (.flitAccept a0 a1) s) :=
  execFlitAccept_kept (Kept.refl s) a0 a1

theorem kept_ackRx (s : State) (a0 : PortIx) (a1 : Bytes) : KeptOut s (exec (.ackRx a0 a1) s) :=
  execAckRx_kept (Kept.refl s) a0 a1

theorem kept_nakRx (s : State) (a0 : PortIx) (a1 : Bytes) : KeptOut s (exec (.nakRx a0 a1) s) :=
  execNakRx_kept (Kept.refl s) a0 a1

theorem kept_ackTimer (s : State) (a0 : PortIx) : KeptOut s (exec (.ackTimer a0) s) :=
  execAckTimer_kept (Kept.refl s) a0

theorem kept_replayTimeout (s : State) (a0 : PortIx) : KeptOut s (exec (.replayTimeout a0) s) :=
  execReplayTimeout_kept (Kept.refl s) a0

theorem kept_replayExhausted (s : State) (a0 : PortIx) : KeptOut s (exec (.replayExhausted a0) s) :=
  execReplayExhausted_kept (Kept.refl s) a0

theorem kept_creditSyncRx (s : State) (a0 : PortIx) (a1 : Bytes) : KeptOut s (exec (.creditSyncRx a0 a1) s) :=
  execCreditSyncRx_kept (Kept.refl s) a0 a1

theorem kept_nullFlitRx (s : State) (a0 : PortIx) (a1 : Bytes) : KeptOut s (exec (.nullFlitRx a0 a1) s) :=
  execNullFlitRx_kept (Kept.refl s) a0 a1

theorem kept_sdataRx (s : State) (a0 : PortIx) : KeptOut s (exec (.sdataRx a0) s) :=
  execSdataRx_kept (Kept.refl s) a0

theorem kept_slNoRecv (s : State) (a0 : PortIx) : KeptOut s (exec (.slNoRecv a0) s) :=
  execSlNoRecv_kept (Kept.refl s) a0

theorem kept_linkSend (s : State) (a0 : CoreIx) : KeptOut s (exec (.linkSend a0) s) :=
  execLinkSend_kept (Kept.refl s) a0

theorem kept_linkRecv (s : State) (a0 : CoreIx) : KeptOut s (exec (.linkRecv a0) s) :=
  execLinkRecv_kept (Kept.refl s) a0

theorem kept_rreqRx (s : State) (a0 : PortIx) : KeptOut s (exec (.rreqRx a0) s) :=
  execRreqRx_kept (Kept.refl s) a0

theorem kept_bulkRx (s : State) (a0 : PortIx) : KeptOut s (exec (.bulkRx a0) s) :=
  execBulkRx_kept (Kept.refl s) a0

theorem kept_rackRx (s : State) (a0 : PortIx) : KeptOut s (exec (.rackRx a0) s) :=
  execRackRx_kept (Kept.refl s) a0

theorem kept_slMsgTimeout (s : State) (a0 : Nat) : KeptOut s (exec (.slMsgTimeout a0) s) :=
  execSlMsgTimeout_kept (Kept.refl s) a0

theorem kept_mgmtFlitRx (s : State) (a0 : PortIx) : KeptOut s (exec (.mgmtFlitRx a0) s) :=
  execMgmtFlitRx_kept (Kept.refl s) a0

theorem kept_slnkRouteReload (s : State) : KeptOut s (exec .slnkRouteReload s) :=
  execSlnkRouteReload_kept (Kept.refl s)

theorem kept_portTrain (s : State) (a0 : PortIx) : KeptOut s (exec (.portTrain a0) s) :=
  execPortTrain_kept (Kept.refl s) a0

theorem kept_trainRateStep (s : State) (a0 : PortIx) : KeptOut s (exec (.trainRateStep a0) s) :=
  execTrainRateStep_kept (Kept.refl s) a0

theorem kept_trainFlitTx (s : State) (a0 : PortIx) : KeptOut s (exec (.trainFlitTx a0) s) :=
  execTrainFlitTx_kept (Kept.refl s) a0

theorem kept_trainFlitRx (s : State) (a0 : PortIx) (a1 : Bytes) (a2 : Bool) : KeptOut s (exec (.trainFlitRx a0 a1 a2) s) :=
  execTrainFlitRx_kept (Kept.refl s) a0 a1 a2

theorem kept_trainTimeout (s : State) (a0 : PortIx) : KeptOut s (exec (.trainTimeout a0) s) :=
  execTrainTimeout_kept (Kept.refl s) a0

theorem kept_portRetrain (s : State) (a0 : PortIx) : KeptOut s (exec (.portRetrain a0) s) :=
  execPortRetrain_kept (Kept.refl s) a0

theorem kept_fecLockLoss (s : State) (a0 : PortIx) : KeptOut s (exec (.fecLockLoss a0) s) :=
  execFecLockLoss_kept (Kept.refl s) a0

theorem kept_portQuarantine (s : State) (a0 : PortIx) : KeptOut s (exec (.portQuarantine a0) s) :=
  execPortQuarantine_kept (Kept.refl s) a0

theorem kept_portDown (s : State) (a0 : PortIx) (a1 : Bool) : KeptOut s (exec (.portDown a0 a1) s) :=
  execPortDown_kept (Kept.refl s) a0 a1

theorem kept_slnkRetrainWrite (s : State) (a0 : PortIx) : KeptOut s (exec (.slnkRetrainWrite a0) s) :=
  execSlnkRetrainWrite_kept (Kept.refl s) a0

theorem kept_slnkQuarClr (s : State) (a0 : PortIx) : KeptOut s (exec (.slnkQuarClr a0) s) :=
  execSlnkQuarClr_kept (Kept.refl s) a0

theorem kept_slnkNodeWrite (s : State) (a0 : BitVec 15) : KeptOut s (exec (.slnkNodeWrite a0) s) :=
  execSlnkNodeWrite_kept (Kept.refl s) a0

theorem kept_ethFrameRx (s : State) (a0 : PortIx) (a1 : Bytes) : KeptOut s (exec (.ethFrameRx a0 a1) s) :=
  execEthFrameRx_kept (Kept.refl s) a0 a1

theorem kept_ethFrameResend (s : State) (a0 : PortIx) : KeptOut s (exec (.ethFrameResend a0) s) :=
  execEthFrameResend_kept (Kept.refl s) a0

theorem kept_collReduce (s : State) (a0 : CoreIx) : KeptOut s (exec (.collReduce a0) s) :=
  execCollReduce_kept (Kept.refl s) a0

theorem kept_collBcast (s : State) (a0 : CoreIx) : KeptOut s (exec (.collBcast a0) s) :=
  execCollBcast_kept (Kept.refl s) a0

theorem kept_collBarrier (s : State) (a0 : CoreIx) : KeptOut s (exec (.collBarrier a0) s) :=
  execCollBarrier_kept (Kept.refl s) a0

theorem kept_collSummary (s : State) (a0 : CoreIx) : KeptOut s (exec (.collSummary a0) s) :=
  execCollSummary_kept (Kept.refl s) a0

theorem kept_cdataRx (s : State) (a0 : PortIx) : KeptOut s (exec (.cdataRx a0) s) :=
  execCdataRx_kept (Kept.refl s) a0

theorem kept_collChildTimeout (s : State) (a0 : CoreIx) : KeptOut s (exec (.collChildTimeout a0) s) :=
  execCollChildTimeout_kept (Kept.refl s) a0

theorem kept_collTreeEnable (s : State) (a0 : Fin 8) (a1 : DWord) : KeptOut s (exec (.collTreeEnable a0 a1) s) :=
  execCollTreeEnable_kept (Kept.refl s) a0 a1

theorem kept_floodSnapshotAt (s : State) (a0 : PortIx) : KeptOut s (exec (.floodSnapshotAt a0) s) :=
  execFloodSnapshotAt_kept (Kept.refl s) a0

theorem kept_floodGlobalReset (s : State) (a0 : PortIx) : KeptOut s (exec (.floodGlobalReset a0) s) :=
  execFloodGlobalReset_kept (Kept.refl s) a0

theorem kept_floodRequest (s : State) (a0 : PortIx) : KeptOut s (exec (.floodRequest a0) s) :=
  execFloodRequest_kept (Kept.refl s) a0

theorem kept_deviceFatalFault (s : State) (a0 : Blk) (a1 : Nat) (a2 : Nat) (a3 : (Option (Nat × Nat))) (a4 : (Option Nat)) : KeptOut s (exec (.deviceFatalFault a0 a1 a2 a3 a4) s) :=
  execDeviceFatalFault_kept (Kept.refl s) a0 a1 a2 a3 a4

theorem kept_leaveStop (s : State) : KeptOut s (exec .leaveStop s) :=
  execLeaveStop_kept (Kept.refl s)

theorem kept_leaveRecords (s : State) : KeptOut s (exec .leaveRecords s) :=
  execLeaveRecords_kept (Kept.refl s)

theorem kept_mbHalt (s : State) : KeptOut s (exec .mbHalt s) :=
  execMbHalt_kept (Kept.refl s)

theorem kept_localReset (s : State) : KeptOut s (exec .localReset s) :=
  execLocalReset_kept (Kept.refl s)

theorem kept_deviceReset (s : State) : KeptOut s (exec .deviceReset s) :=
  execDeviceReset_kept (Kept.refl s)

theorem kept_snapshot (s : State) (a0 : Nat) : KeptOut s (exec (.snapshot a0) s) :=
  execSnapshot_kept (Kept.refl s) a0

theorem kept_snapshotFreeze (s : State) : KeptOut s (exec .snapshotFreeze s) :=
  execSnapshotFreeze_kept (Kept.refl s)

theorem kept_snapshotItemDone (s : State) (a0 : Nat) : KeptOut s (exec (.snapshotItemDone a0) s) :=
  execSnapshotItemDone_kept (Kept.refl s) a0

theorem kept_updHoldRelease (s : State) : KeptOut s (exec .updHoldRelease s) :=
  execUpdHoldRelease_kept (Kept.refl s)

theorem kept_restoreVerifyStored (s : State) (a0 : Nat) (a1 : Nat) : KeptOut s (exec (.restoreVerifyStored a0 a1) s) :=
  execRestoreVerifyStored_kept (Kept.refl s) a0 a1

theorem kept_restoreVerifyReplica (s : State) (a0 : Nat) (a1 : Nat) : KeptOut s (exec (.restoreVerifyReplica a0 a1) s) :=
  execRestoreVerifyReplica_kept (Kept.refl s) a0 a1

theorem kept_restoreVerifyServe (s : State) (a0 : Nat) (a1 : Nat) : KeptOut s (exec (.restoreVerifyServe a0 a1) s) :=
  execRestoreVerifyServe_kept (Kept.refl s) a0 a1

theorem kept_rasLogTailWrite (s : State) (a0 : DWord) : KeptOut s (exec (.rasLogTailWrite a0) s) :=
  execRasLogTailWrite_kept (Kept.refl s) a0

theorem kept_rasLogAppend (s : State) (a0 : Blk) (a1 : Nat) (a2 : Nat) (a3 : (Option (Nat × Nat))) (a4 : (Option Nat)) (a5 : Nat) : KeptOut s (exec (.rasLogAppend a0 a1 a2 a3 a4 a5) s) :=
  execRasLogAppend_kept (Kept.refl s) a0 a1 a2 a3 a4 a5

theorem kept_sysResetDeassert (s : State) (a0 : BitVec 6) : KeptOut s (exec (.sysResetDeassert a0) s) :=
  execSysResetDeassert_kept (Kept.refl s) a0

theorem kept_startupStageDone (s : State) (a0 : Option LpTrain) (a1 : Nat) : KeptOut s (exec (.startupStageDone a0 a1) s) :=
  execStartupStageDone_kept (Kept.refl s) a0 a1

theorem kept_startFail (s : State) : KeptOut s (exec .startFail s) :=
  execStartFail_kept (Kept.refl s)

theorem kept_sysResetAssert (s : State) : KeptOut s (exec .sysResetAssert s) :=
  execSysResetAssert_kept (Kept.refl s)

theorem kept_vbusLow (s : State) (a0 : BitVec 16) : KeptOut s (exec (.vbusLow a0) s) :=
  execVbusLow_kept (Kept.refl s) a0

theorem kept_vbusLoss (s : State) (a0 : BitVec 16) : KeptOut s (exec (.vbusLoss a0) s) :=
  execVbusLoss_kept (Kept.refl s) a0

theorem kept_vauxLoss (s : State) : KeptOut s (exec .vauxLoss s) :=
  execVauxLoss_kept (Kept.refl s)

theorem kept_pwrOvercurrent (s : State) (a0 : BitVec 16) : KeptOut s (exec (.pwrOvercurrent a0) s) :=
  execPwrOvercurrent_kept (Kept.refl s) a0

theorem kept_governorDecision (s : State) : KeptOut s (exec .governorDecision s) :=
  execGovernorDecision_kept (Kept.refl s)

theorem kept_powerModeChange (s : State) : KeptOut s (exec .powerModeChange s) :=
  execPowerModeChange_kept (Kept.refl s)

theorem kept_tjSample (s : State) (a0 : List Int) : KeptOut s (exec (.tjSample a0) s) :=
  execTjSample_kept (Kept.refl s) a0

theorem kept_pwrShutdown (s : State) : KeptOut s (exec .pwrShutdown s) :=
  execPwrShutdown_kept (Kept.refl s)

theorem kept_pwrModeReqWrite (s : State) (a0 : BitVec 2) : KeptOut s (exec (.pwrModeReqWrite a0) s) :=
  execPwrModeReqWrite_kept (Kept.refl s) a0

theorem kept_pwrCapWrite (s : State) (a0 : Bool) (a1 : BitVec 16) : KeptOut s (exec (.pwrCapWrite a0 a1) s) :=
  execPwrCapWrite_kept (Kept.refl s) a0 a1

theorem kept_oscSample (s : State) (a0 : List (Nat × Nat)) : KeptOut s (exec (.oscSample a0) s) :=
  execOscSample_kept (Kept.refl s) a0

theorem kept_sentinelSample (s : State) (a0 : List (BitVec 7)) : KeptOut s (exec (.sentinelSample a0) s) :=
  execSentinelSample_kept (Kept.refl s) a0

theorem kept_marginReplan (s : State) : KeptOut s (exec .marginReplan s) :=
  execMarginReplan_kept (Kept.refl s)

theorem kept_healthScore (s : State) : KeptOut s (exec .healthScore s) :=
  execHealthScore_kept (Kept.refl s)

theorem kept_hullWrite (s : State) : KeptOut s (exec .hullWrite s) :=
  execHullWrite_kept (Kept.refl s)

theorem kept_hullNow (s : State) : KeptOut s (exec .hullNow s) :=
  execHullNow_kept (Kept.refl s)

theorem kept_secConfirm (s : State) : KeptOut s (exec .secConfirm s) :=
  execSecConfirm_kept (Kept.refl s)

theorem kept_secSvnCommit (s : State) : KeptOut s (exec .secSvnCommit s) :=
  execSecSvnCommit_kept (Kept.refl s)

theorem kept_secRevoke (s : State) (a0 : Word) : KeptOut s (exec (.secRevoke a0) s) :=
  execSecRevoke_kept (Kept.refl s) a0

theorem kept_secDbgNonceRead (s : State) : KeptOut s (exec .secDbgNonceRead s) :=
  execSecDbgNonceRead_kept (Kept.refl s)

theorem kept_secDbgUnlock (s : State) : KeptOut s (exec .secDbgUnlock s) :=
  execSecDbgUnlock_kept (Kept.refl s)

theorem kept_secDbgLock (s : State) : KeptOut s (exec .secDbgLock s) :=
  execSecDbgLock_kept (Kept.refl s)

theorem kept_spdmGetVersion (s : State) (a0 : MgmtChan) : KeptOut s (exec (.spdmGetVersion a0) s) :=
  execSpdmGetVersion_kept (Kept.refl s) a0

theorem kept_spdmGetCapabilities (s : State) (a0 : MgmtChan) : KeptOut s (exec (.spdmGetCapabilities a0) s) :=
  execSpdmGetCapabilities_kept (Kept.refl s) a0

theorem kept_spdmNegotiateAlgorithms (s : State) (a0 : MgmtChan) (a1 : Bool) (a2 : Bool) : KeptOut s (exec (.spdmNegotiateAlgorithms a0 a1 a2) s) :=
  execSpdmNegotiateAlgorithms_kept (Kept.refl s) a0 a1 a2

theorem kept_spdmGetDigests (s : State) (a0 : MgmtChan) : KeptOut s (exec (.spdmGetDigests a0) s) :=
  execSpdmGetDigests_kept (Kept.refl s) a0

theorem kept_spdmGetCertificate (s : State) (a0 : MgmtChan) (a1 : Nat) (a2 : Nat) (a3 : Nat) : KeptOut s (exec (.spdmGetCertificate a0 a1 a2 a3) s) :=
  execSpdmGetCertificate_kept (Kept.refl s) a0 a1 a2 a3

theorem kept_spdmChallenge (s : State) (a0 : MgmtChan) (a1 : Nat) (a2 : Bytes) : KeptOut s (exec (.spdmChallenge a0 a1 a2) s) :=
  execSpdmChallenge_kept (Kept.refl s) a0 a1 a2

theorem kept_spdmGetMeasurements (s : State) (a0 : MgmtChan) (a1 : Nat) (a2 : Bytes) : KeptOut s (exec (.spdmGetMeasurements a0 a1 a2) s) :=
  execSpdmGetMeasurements_kept (Kept.refl s) a0 a1 a2

theorem kept_spdmUnsupported (s : State) (a0 : MgmtChan) : KeptOut s (exec (.spdmUnsupported a0) s) :=
  execSpdmUnsupported_kept (Kept.refl s) a0

theorem kept_pldmPlatformRequest (s : State) (a0 : MgmtChan) (a1 : PldmReq) : KeptOut s (exec (.pldmPlatformRequest a0 a1) s) :=
  execPldmPlatformRequest_kept (Kept.refl s) a0 a1

theorem kept_pldmFirmwareUpdate (s : State) (a0 : MgmtChan) (a1 : FwStep) : KeptOut s (exec (.pldmFirmwareUpdate a0 a1) s) :=
  execPldmFirmwareUpdate_kept (Kept.refl s) a0 a1

theorem kept_mctpApertureAccess (s : State) (a0 : MgmtChan) (a1 : Bool) (a2 : Nat) (a3 : Bool) (a4 : BusWord) : KeptOut s (exec (.mctpApertureAccess a0 a1 a2 a3 a4) s) :=
  execMctpApertureAccess_kept (Kept.refl s) a0 a1 a2 a3 a4

theorem kept_i3cBroadcastTimeout (s : State) : KeptOut s (exec .i3cBroadcastTimeout s) :=
  execI3cBroadcastTimeout_kept (Kept.refl s)

theorem kept_mgmtCtrlWrite (s : State) (a0 : Requester) (a1 : Word) : KeptOut s (exec (.mgmtCtrlWrite a0 a1) s) :=
  execMgmtCtrlWrite_kept (Kept.refl s) a0 a1

theorem kept_aperBadAccess (s : State) (a0 : Requester) (a1 : Nat) (a2 : Nat) (a3 : Bool) : KeptOut s (exec (.aperBadAccess a0 a1 a2 a3) s) :=
  execAperBadAccess_kept (Kept.refl s) a0 a1 a2 a3

theorem kept_aperAbsent (s : State) (a0 : Requester) (a1 : Nat) : KeptOut s (exec (.aperAbsent a0 a1) s) :=
  execAperAbsent_kept (Kept.refl s) a0 a1

theorem kept_aperSplitAccess (s : State) (a0 : Requester) (a1 : Nat) (a2 : Bool) (a3 : Word) : KeptOut s (exec (.aperSplitAccess a0 a1 a2 a3) s) :=
  execAperSplitAccess_kept (Kept.refl s) a0 a1 a2 a3

theorem kept_pgSoftReset (s : State) (a0 : Requester) (a1 : Blk) (a2 : Nat) : KeptOut s (exec (.pgSoftReset a0 a1 a2) s) :=
  execPgSoftReset_kept (Kept.refl s) a0 a1 a2

theorem kept_pgFreezeWrite (s : State) (a0 : Requester) (a1 : Blk) (a2 : Nat) (a3 : Bool) : KeptOut s (exec (.pgFreezeWrite a0 a1 a2 a3) s) :=
  execPgFreezeWrite_kept (Kept.refl s) a0 a1 a2 a3

theorem kept_pgLevelWrite (s : State) (a0 : Requester) (a1 : Blk) (a2 : Nat) (a3 : BitVec 8) : KeptOut s (exec (.pgLevelWrite a0 a1 a2 a3) s) :=
  execPgLevelWrite_kept (Kept.refl s) a0 a1 a2 a3

theorem kept_pgIrqStatClear (s : State) (a0 : Requester) (a1 : Blk) (a2 : Nat) (a3 : Word) : KeptOut s (exec (.pgIrqStatClear a0 a1 a2 a3) s) :=
  execPgIrqStatClear_kept (Kept.refl s) a0 a1 a2 a3

theorem kept_pgIrqForce (s : State) (a0 : Requester) (a1 : Blk) (a2 : Nat) (a3 : Word) : KeptOut s (exec (.pgIrqForce a0 a1 a2 a3) s) :=
  execPgIrqForce_kept (Kept.refl s) a0 a1 a2 a3

theorem kept_pgErrFirstClear (s : State) (a0 : Requester) (a1 : Blk) (a2 : Nat) : KeptOut s (exec (.pgErrFirstClear a0 a1 a2) s) :=
  execPgErrFirstClear_kept (Kept.refl s) a0 a1 a2

theorem kept_registerWrite (s : State) (a0 : Requester) (a1 : RegAddr) (a2 : Bool) (a3 : BusWord) : KeptOut s (exec (.registerWrite a0 a1 a2 a3) s) :=
  execRegisterWrite_kept (Kept.refl s) a0 a1 a2 a3

theorem kept_lanesLocked (s : State) (a0 : PortIx) : KeptOut s (exec (.lanesLocked a0) s) :=
  execLanesLocked_kept (Kept.refl s) a0

theorem kept_creditReturn (s : State) (a0 : PortIx) (a1 : Bytes) : KeptOut s (exec (.creditReturn a0 a1) s) :=
  execCreditReturn_kept (Kept.refl s) a0 a1

theorem kept_atsInvalidation (s : State) (a0 : Nat) (a1 : Nat) : KeptOut s (exec (.atsInvalidation a0 a1) s) :=
  execAtsInvalidation_kept (Kept.refl s) a0 a1

theorem kept_pcieD3hotExit (s : State) : KeptOut s (exec .pcieD3hotExit s) :=
  execPcieD3hotExit_kept (Kept.refl s)

theorem kept_vbusReturn (s : State) (a0 : BitVec 16) : KeptOut s (exec (.vbusReturn a0) s) :=
  execVbusReturn_kept (Kept.refl s) a0

theorem kept_hullWriteDone (s : State) (a0 : Bool) : KeptOut s (exec (.hullWriteDone a0) s) :=
  execHullWriteDone_kept (Kept.refl s) a0

theorem kept_fusingDone (s : State) : KeptOut s (exec .fusingDone s) :=
  execFusingDone_kept (Kept.refl s)

theorem kept_dcacheFlushDone (s : State) (a0 : DieIx) : KeptOut s (exec (.dcacheFlushDone a0) s) :=
  execDcacheFlushDone_kept (Kept.refl s) a0

theorem kept_l2FlushDone (s : State) (a0 : ServerIx) : KeptOut s (exec (.l2FlushDone a0) s) :=
  execL2FlushDone_kept (Kept.refl s) a0

theorem kept_globalResetDone (s : State) : KeptOut s (exec .globalResetDone s) :=
  execGlobalResetDone_kept (Kept.refl s)

theorem kept_offReady (s : State) : KeptOut s (exec .offReady s) :=
  execOffReady_kept (Kept.refl s)

theorem kept_i3cDynamicAddressAssignment (s : State) (a0 : BitVec 7) : KeptOut s (exec (.i3cDynamicAddressAssignment a0) s) :=
  execI3cDynamicAddressAssignment_kept (Kept.refl s) a0

theorem kept_mctpSetEndpointId (s : State) (a0 : MgmtChan) (a1 : BitVec 8) : KeptOut s (exec (.mctpSetEndpointId a0 a1) s) :=
  execMctpSetEndpointId_kept (Kept.refl s) a0 a1

theorem kept_cacheEviction (s : State) (a0 : PartIx) (a1 : Nat) : KeptOut s (exec (.cacheEviction a0 a1) s) :=
  execCacheEviction_kept (Kept.refl s) a0 a1

/-- Every command leads only to states that keep the queue, the sparse maps' form, the output so far and the fuses. -/
theorem exec_kept (i : Instr) (s : State) : KeptOut s (exec i s) := by
  cases i with
  | tmarkPulse a0 a1 => exact kept_tmarkPulse s a0 a1
  | tmarkMissing => exact kept_tmarkMissing s
  | tmarkMissLimit => exact kept_tmarkMissLimit s
  | gridLock => exact kept_gridLock s
  | tickLockWaitTimeout => exact kept_tickLockWaitTimeout s
  | tlateSample a0 a1 => exact kept_tlateSample s a0 a1
  | tickCopyCompare a0 a1 a2 => exact kept_tickCopyCompare s a0 a1 a2
  | tickSourceLoss => exact kept_tickSourceLoss s
  | tickFailover => exact kept_tickFailover s
  | tickBoundary => exact kept_tickBoundary s
  | tideBoundary a0 => exact kept_tideBoundary s a0
  | tideRecordRx a0 => exact kept_tideRecordRx s a0
  | joinRecordRx a0 => exact kept_joinRecordRx s a0
  | tickRejoin => exact kept_tickRejoin s
  | tickCfgWrite a0 => exact kept_tickCfgWrite s a0
  | tickCfgApply => exact kept_tickCfgApply s
  | runTimetable a0 => exact kept_runTimetable s a0
  | timetableLoadCheck a0 => exact kept_timetableLoadCheck s a0
  | sailingIssue a0 => exact kept_sailingIssue s a0
  | engineStart a0 a1 => exact kept_engineStart s a0 a1
  | sailingComplete a0 a1 => exact kept_sailingComplete s a0 a1
  | signalArrival a0 => exact kept_signalArrival s a0
  | itemEnd a0 a1 => exact kept_itemEnd s a0 a1
  | seqFlagSet a0 a1 => exact kept_seqFlagSet s a0 a1
  | seqFlagClr a0 a1 => exact kept_seqFlagClr s a0 a1
  | meMma a0 => exact kept_meMma s a0
  | meMmaF3 a0 => exact kept_meMmaF3 s a0
  | meMmaD a0 => exact kept_meMmaD s a0
  | meMerge a0 => exact kept_meMerge s a0
  | meMergePartial a0 => exact kept_meMergePartial s a0
  | meMergeD a0 => exact kept_meMergeD s a0
  | meDrain a0 => exact kept_meDrain s a0
  | meDscan a0 => exact kept_meDscan s a0
  | meDslice a0 => exact kept_meDslice s a0
  | meOpComplete a0 => exact kept_meOpComplete s a0
  | veAdd a0 => exact kept_veAdd s a0
  | veSub a0 => exact kept_veSub s a0
  | veMul a0 => exact kept_veMul s a0
  | veFma a0 => exact kept_veFma s a0
  | veMax2 a0 => exact kept_veMax2 s a0
  | veMin2 a0 => exact kept_veMin2 s a0
  | veScale a0 => exact kept_veScale s a0
  | veConvert a0 => exact kept_veConvert s a0
  | veDiv a0 => exact kept_veDiv s a0
  | veSqrt a0 => exact kept_veSqrt s a0
  | veExp2 a0 => exact kept_veExp2 s a0
  | veExp a0 => exact kept_veExp s a0
  | veLog2 a0 => exact kept_veLog2 s a0
  | veRcp a0 => exact kept_veRcp s a0
  | veRsqrt a0 => exact kept_veRsqrt s a0
  | veAct a0 => exact kept_veAct s a0
  | veRsum a0 => exact kept_veRsum s a0
  | veRmax a0 => exact kept_veRmax s a0
  | veRmin a0 => exact kept_veRmin s a0
  | veRargmax a0 => exact kept_veRargmax s a0
  | veRsumsq a0 => exact kept_veRsumsq s a0
  | veRmeanvar a0 => exact kept_veRmeanvar s a0
  | veSoftmax a0 => exact kept_veSoftmax s a0
  | veLayernorm a0 => exact kept_veLayernorm s a0
  | veRmsnorm a0 => exact kept_veRmsnorm s a0
  | veDropout a0 => exact kept_veDropout s a0
  | veUniform a0 => exact kept_veUniform s a0
  | veNormal a0 => exact kept_veNormal s a0
  | veTranspose a0 => exact kept_veTranspose s a0
  | veMxRelayout a0 => exact kept_veMxRelayout s a0
  | veHazardClear a0 => exact kept_veHazardClear s a0
  | veOpComplete a0 => exact kept_veOpComplete s a0
  | veWconv a0 => exact kept_veWconv s a0
  | veMaxpool a0 => exact kept_veMaxpool s a0
  | veAvgpool a0 => exact kept_veAvgpool s a0
  | veWconvBwdData a0 => exact kept_veWconvBwdData s a0
  | veWconvBwdWeight a0 => exact kept_veWconvBwdWeight s a0
  | veMaxpoolBwd a0 => exact kept_veMaxpoolBwd s a0
  | veAvgpoolBwd a0 => exact kept_veAvgpoolBwd s a0
  | veUpsampleNearest a0 => exact kept_veUpsampleNearest s a0
  | veUpsampleBilinear a0 => exact kept_veUpsampleBilinear s a0
  | veUpsampleNearestBwd a0 => exact kept_veUpsampleNearestBwd s a0
  | veUpsampleBilinearBwd a0 => exact kept_veUpsampleBilinearBwd s a0
  | vePadFold a0 => exact kept_vePadFold s a0
  | veGmask a0 => exact kept_veGmask s a0
  | veSoftmaxBwd a0 => exact kept_veSoftmaxBwd s a0
  | veLayernormBwd a0 => exact kept_veLayernormBwd s a0
  | veRmsnormBwd a0 => exact kept_veRmsnormBwd s a0
  | veActBwd a0 => exact kept_veActBwd s a0
  | rngSeedWrite a0 a1 => exact kept_rngSeedWrite s a0 a1
  | rngRestoreStepWrite a0 a1 => exact kept_rngRestoreStepWrite s a0 a1
  | prepRun a0 => exact kept_prepRun s a0
  | prepHalt a0 => exact kept_prepHalt s a0
  | prepReset a0 => exact kept_prepReset s a0
  | ptflagset a0 a1 => exact kept_ptflagset s a0 a1
  | ptickcmpIrq a0 a1 => exact kept_ptickcmpIrq s a0 a1
  | prepBusError a0 a1 a2 a3 => exact kept_prepBusError s a0 a1 a2 a3
  | prepDoubleTrap a0 a1 a2 a3 => exact kept_prepDoubleTrap s a0 a1 a2 a3
  | unitErrorIrq a0 a1 => exact kept_unitErrorIrq s a0 a1
  | ferryEnqueue a0 a1 => exact kept_ferryEnqueue s a0 a1
  | ferryOpStart a0 a1 => exact kept_ferryOpStart s a0 a1
  | ferryCopyIn a0 a1 => exact kept_ferryCopyIn s a0 a1
  | ferryGather a0 a1 => exact kept_ferryGather s a0 a1
  | ferryGatherT a0 a1 => exact kept_ferryGatherT s a0 a1
  | ferryHalo a0 a1 => exact kept_ferryHalo s a0 a1
  | ferryIndexIn a0 a1 => exact kept_ferryIndexIn s a0 a1
  | ferryMxtIn a0 a1 => exact kept_ferryMxtIn s a0 a1
  | ferryQrun a0 a1 => exact kept_ferryQrun s a0 a1
  | ferryCopyOut a0 a1 => exact kept_ferryCopyOut s a0 a1
  | ferryIndexOut a0 a1 => exact kept_ferryIndexOut s a0 a1
  | ferryPfill a0 a1 => exact kept_ferryPfill s a0 a1
  | ferryPeerGet a0 a1 => exact kept_ferryPeerGet s a0 a1
  | ferryPeerPut a0 a1 => exact kept_ferryPeerPut s a0 a1
  | ferryOpComplete a0 a1 => exact kept_ferryOpComplete s a0 a1
  | slipPush a0 a1 => exact kept_slipPush s a0 a1
  | slipPop a0 a1 => exact kept_slipPop s a0 a1
  | slipTrailerReread a0 a1 => exact kept_slipTrailerReread s a0 a1
  | slipEnable a0 a1 => exact kept_slipEnable s a0 a1
  | slipDisable a0 a1 => exact kept_slipDisable s a0 a1
  | updateParamsAdamw a0 => exact kept_updateParamsAdamw s a0
  | updateParamsLamb a0 => exact kept_updateParamsLamb s a0
  | updateParamsSgd a0 => exact kept_updateParamsSgd s a0
  | updateParamsVerify a0 => exact kept_updateParamsVerify s a0
  | updShardItem a0 a1 => exact kept_updShardItem s a0 a1
  | updExponentMove a0 => exact kept_updExponentMove s a0
  | pontGexp a0 => exact kept_pontGexp s a0
  | pontDig a0 => exact kept_pontDig s a0
  | pontFill a0 => exact kept_pontFill s a0
  | hbmcScrubPass a0 a1 a2 => exact kept_hbmcScrubPass s a0 a1 a2
  | lpdcScrubPass a0 a1 a2 => exact kept_lpdcScrubPass s a0 a1 a2
  | memoryReadError a0 a1 => exact kept_memoryReadError s a0 a1
  | hbmcMapWrite a0 => exact kept_hbmcMapWrite s a0
  | lpdcTierWrite a0 => exact kept_lpdcTierWrite s a0
  | landClear a0 => exact kept_landClear s a0
  | landClearDone a0 => exact kept_landClearDone s a0
  | deckLbAccess a0 a1 a2 a3 a4 => exact kept_deckLbAccess s a0 a1 a2 a3 a4
  | ferryQcfgWrite a0 a1 a2 a3 => exact kept_ferryQcfgWrite s a0 a1 a2 a3
  | ferryQtailWrite a0 a1 a2 => exact kept_ferryQtailWrite s a0 a1 a2
  | tagRefetch a0 a1 => exact kept_tagRefetch s a0 a1
  | expBlockExpand a0 a1 => exact kept_expBlockExpand s a0 a1
  | expRefetch a0 a1 => exact kept_expRefetch s a0 a1
  | loadDecodeTable a0 => exact kept_loadDecodeTable s a0
  | ctabLoadGo a0 a1 => exact kept_ctabLoadGo s a0 a1
  | ctabRetire a0 a1 => exact kept_ctabRetire s a0 a1
  | ctabSlotLive a0 a1 => exact kept_ctabSlotLive s a0 a1
  | ctabSlotDraining a0 a1 => exact kept_ctabSlotDraining s a0 a1
  | ctabSlotFree a0 a1 => exact kept_ctabSlotFree s a0 a1
  | tagrRegionEnable a0 => exact kept_tagrRegionEnable s a0
  | tagrRgenWrite a0 a1 => exact kept_tagrRgenWrite s a0 a1
  | tagrRetag a0 => exact kept_tagrRetag s a0
  | tagrRetagDone => exact kept_tagrRetagDone s
  | homeRdShared a0 a1 a2 => exact kept_homeRdShared s a0 a1 a2
  | homeRdOwn a0 a1 a2 => exact kept_homeRdOwn s a0 a1 a2
  | homeUpgrade a0 a1 a2 => exact kept_homeUpgrade s a0 a1 a2
  | homeRdOnce a0 a1 => exact kept_homeRdOnce s a0 a1
  | homeBulkRd a0 a1 a2 => exact kept_homeBulkRd s a0 a1 a2
  | homeWrLine a0 a1 a2 => exact kept_homeWrLine s a0 a1 a2
  | homeBulkWr a0 a1 a2 => exact kept_homeBulkWr s a0 a1 a2
  | homeWrPart a0 a1 a2 a3 => exact kept_homeWrPart s a0 a1 a2 a3
  | homeWb a0 a1 => exact kept_homeWb s a0 a1
  | homeEvict a0 a1 => exact kept_homeEvict s a0 a1
  | homeAmoFar a0 a1 a2 a3 a4 a5 => exact kept_homeAmoFar s a0 a1 a2 a3 a4 a5
  | homeRecall a0 a1 a2 => exact kept_homeRecall s a0 a1 a2
  | homeTransactionServe a0 => exact kept_homeTransactionServe s a0
  | homeSnoopAnswer a0 a1 => exact kept_homeSnoopAnswer s a0 a1
  | snoopResend a0 a1 => exact kept_snoopResend s a0 a1
  | cohSnoopTimeout a0 a1 => exact kept_cohSnoopTimeout s a0 a1
  | snpInv a0 a1 a2 => exact kept_snpInv s a0 a1 a2
  | snpShare a0 a1 a2 => exact kept_snpShare s a0 a1 a2
  | backInv a0 a1 a2 => exact kept_backInv s a0 a1 a2
  | gntReceive a0 a1 => exact kept_gntReceive s a0 a1
  | gntUp a0 a1 => exact kept_gntUp s a0 a1
  | dataOnce a0 a1 => exact kept_dataOnce s a0 a1
  | wrDone a0 a1 => exact kept_wrDone s a0 a1
  | amoRsp a0 a1 => exact kept_amoRsp s a0 a1
  | wbAck a0 a1 => exact kept_wbAck s a0 a1
  | bollardHoldEnd a0 a1 => exact kept_bollardHoldEnd s a0 a1
  | atomicOp a0 a1 a2 a3 a4 => exact kept_atomicOp s a0 a1 a2 a3 a4
  | dcacheFlush a0 => exact kept_dcacheFlush s a0
  | dcachePredClr a0 => exact kept_dcachePredClr s a0
  | dcPoisonConsumed a0 a1 a2 => exact kept_dcPoisonConsumed s a0 a1 a2
  | homeCfgWrite a0 a1 => exact kept_homeCfgWrite s a0 a1
  | srvcRun a0 => exact kept_srvcRun s a0
  | srvcStop a0 => exact kept_srvcStop s a0
  | srvcReserve a0 => exact kept_srvcReserve s a0
  | srvcRelease a0 => exact kept_srvcRelease s a0
  | srvcPredClr a0 => exact kept_srvcPredClr s a0
  | srvcL2Flush a0 => exact kept_srvcL2Flush s a0
  | srvcClkWrite a0 a1 => exact kept_srvcClkWrite s a0 a1
  | srvPoisonConsumed a0 a1 a2 a3 => exact kept_srvPoisonConsumed s a0 a1 a2 a3
  | srvCacheError a0 a1 a2 => exact kept_srvCacheError s a0 a1 a2
  | dockEnable a0 => exact kept_dockEnable s a0
  | dockDisable a0 => exact kept_dockDisable s a0
  | dockTailWrite a0 a1 a2 => exact kept_dockTailWrite s a0 a1 a2
  | dockCplHeadWrite a0 a1 => exact kept_dockCplHeadWrite s a0 a1
  | dockEntryRead a0 => exact kept_dockEntryRead s a0
  | dockCompletion a0 a1 => exact kept_dockCompletion s a0 a1
  | commandAccept => exact kept_commandAccept s
  | cqEntryFetch a0 => exact kept_cqEntryFetch s a0
  | cqTailWrite a0 a1 a2 => exact kept_cqTailWrite s a0 a1 a2
  | cqCplHeadWrite a0 a1 => exact kept_cqCplHeadWrite s a0 a1
  | cqEnable a0 => exact kept_cqEnable s a0
  | cqDisable a0 => exact kept_cqDisable s a0
  | writeInline a0 => exact kept_writeInline s a0
  | copy a0 => exact kept_copy s a0
  | copyItem a0 => exact kept_copyItem s a0
  | fence a0 => exact kept_fence s a0
  | nop a0 => exact kept_nop s a0
  | query a0 => exact kept_query s a0
  | queryPlace => exact kept_queryPlace s
  | queryResultCollect => exact kept_queryResultCollect s
  | completionRecordWrite a0 => exact kept_completionRecordWrite s a0
  | pcieLinkTrain a0 a1 a2 => exact kept_pcieLinkTrain s a0 a1 a2
  | pcieRetrain a0 => exact kept_pcieRetrain s a0
  | pcieLinkLoss a0 a1 => exact kept_pcieLinkLoss s a0 a1
  | hostDetachAbort => exact kept_hostDetachAbort s
  | bar2Access a0 a1 a2 a3 a4 => exact kept_bar2Access s a0 a1 a2 a3 a4
  | outboundAccess a0 a1 a2 a3 a4 => exact kept_outboundAccess s a0 a1 a2 a3 a4
  | pcieUnexpCpl a0 => exact kept_pcieUnexpCpl s a0
  | pcieCplTimeout a0 a1 a2 => exact kept_pcieCplTimeout s a0 a1 a2
  | pciePoisonedTlp a0 a1 a2 a3 => exact kept_pciePoisonedTlp s a0 a1 a2 a3
  | pcieBar2BaseWrite a0 => exact kept_pcieBar2BaseWrite s a0
  | pcieCtrlWrite a0 a1 => exact kept_pcieCtrlWrite s a0 a1
  | flitGrant a0 => exact kept_flitGrant s a0
  | flitCrcError a0 a1 a2 => exact kept_flitCrcError s a0 a1 a2
  | flitAccept a0 a1 => exact kept_flitAccept s a0 a1
  | ackRx a0 a1 => exact kept_ackRx s a0 a1
  | nakRx a0 a1 => exact kept_nakRx s a0 a1
  | ackTimer a0 => exact kept_ackTimer s a0
  | replayTimeout a0 => exact kept_replayTimeout s a0
  | replayExhausted a0 => exact kept_replayExhausted s a0
  | creditSyncRx a0 a1 => exact kept_creditSyncRx s a0 a1
  | nullFlitRx a0 a1 => exact kept_nullFlitRx s a0 a1
  | sdataRx a0 => exact kept_sdataRx s a0
  | slNoRecv a0 => exact kept_slNoRecv s a0
  | linkSend a0 => exact kept_linkSend s a0
  | linkRecv a0 => exact kept_linkRecv s a0
  | rreqRx a0 => exact kept_rreqRx s a0
  | bulkRx a0 => exact kept_bulkRx s a0
  | rackRx a0 => exact kept_rackRx s a0
  | slMsgTimeout a0 => exact kept_slMsgTimeout s a0
  | mgmtFlitRx a0 => exact kept_mgmtFlitRx s a0
  | slnkRouteReload => exact kept_slnkRouteReload s
  | portTrain a0 => exact kept_portTrain s a0
  | trainRateStep a0 => exact kept_trainRateStep s a0
  | trainFlitTx a0 => exact kept_trainFlitTx s a0
  | trainFlitRx a0 a1 a2 => exact kept_trainFlitRx s a0 a1 a2
  | trainTimeout a0 => exact kept_trainTimeout s a0
  | portRetrain a0 => exact kept_portRetrain s a0
  | fecLockLoss a0 => exact kept_fecLockLoss s a0
  | portQuarantine a0 => exact kept_portQuarantine s a0
  | portDown a0 a1 => exact kept_portDown s a0 a1
  | slnkRetrainWrite a0 => exact kept_slnkRetrainWrite s a0
  | slnkQuarClr a0 => exact kept_slnkQuarClr s a0
  | slnkNodeWrite a0 => exact kept_slnkNodeWrite s a0
  | ethFrameRx a0 a1 => exact kept_ethFrameRx s a0 a1
  | ethFrameResend a0 => exact kept_ethFrameResend s a0
  | collReduce a0 => exact kept_collReduce s a0
  | collBcast a0 => exact kept_collBcast s a0
  | collBarrier a0 => exact kept_collBarrier s a0
  | collSummary a0 => exact kept_collSummary s a0
  | cdataRx a0 => exact kept_cdataRx s a0
  | collChildTimeout a0 => exact kept_collChildTimeout s a0
  | collTreeEnable a0 a1 => exact kept_collTreeEnable s a0 a1
  | floodSnapshotAt a0 => exact kept_floodSnapshotAt s a0
  | floodGlobalReset a0 => exact kept_floodGlobalReset s a0
  | floodRequest a0 => exact kept_floodRequest s a0
  | deviceFatalFault a0 a1 a2 a3 a4 => exact kept_deviceFatalFault s a0 a1 a2 a3 a4
  | leaveStop => exact kept_leaveStop s
  | leaveRecords => exact kept_leaveRecords s
  | mbHalt => exact kept_mbHalt s
  | localReset => exact kept_localReset s
  | deviceReset => exact kept_deviceReset s
  | snapshot a0 => exact kept_snapshot s a0
  | snapshotFreeze => exact kept_snapshotFreeze s
  | snapshotItemDone a0 => exact kept_snapshotItemDone s a0
  | updHoldRelease => exact kept_updHoldRelease s
  | restoreVerifyStored a0 a1 => exact kept_restoreVerifyStored s a0 a1
  | restoreVerifyReplica a0 a1 => exact kept_restoreVerifyReplica s a0 a1
  | restoreVerifyServe a0 a1 => exact kept_restoreVerifyServe s a0 a1
  | rasLogTailWrite a0 => exact kept_rasLogTailWrite s a0
  | rasLogAppend a0 a1 a2 a3 a4 a5 => exact kept_rasLogAppend s a0 a1 a2 a3 a4 a5
  | sysResetDeassert a0 => exact kept_sysResetDeassert s a0
  | startupStageDone a0 a1 => exact kept_startupStageDone s a0 a1
  | startFail => exact kept_startFail s
  | sysResetAssert => exact kept_sysResetAssert s
  | vbusLow a0 => exact kept_vbusLow s a0
  | vbusLoss a0 => exact kept_vbusLoss s a0
  | vauxLoss => exact kept_vauxLoss s
  | pwrOvercurrent a0 => exact kept_pwrOvercurrent s a0
  | governorDecision => exact kept_governorDecision s
  | powerModeChange => exact kept_powerModeChange s
  | tjSample a0 => exact kept_tjSample s a0
  | pwrShutdown => exact kept_pwrShutdown s
  | pwrModeReqWrite a0 => exact kept_pwrModeReqWrite s a0
  | pwrCapWrite a0 a1 => exact kept_pwrCapWrite s a0 a1
  | oscSample a0 => exact kept_oscSample s a0
  | sentinelSample a0 => exact kept_sentinelSample s a0
  | marginReplan => exact kept_marginReplan s
  | healthScore => exact kept_healthScore s
  | hullWrite => exact kept_hullWrite s
  | hullNow => exact kept_hullNow s
  | secConfirm => exact kept_secConfirm s
  | secSvnCommit => exact kept_secSvnCommit s
  | secRevoke a0 => exact kept_secRevoke s a0
  | secDbgNonceRead => exact kept_secDbgNonceRead s
  | secDbgUnlock => exact kept_secDbgUnlock s
  | secDbgLock => exact kept_secDbgLock s
  | spdmGetVersion a0 => exact kept_spdmGetVersion s a0
  | spdmGetCapabilities a0 => exact kept_spdmGetCapabilities s a0
  | spdmNegotiateAlgorithms a0 a1 a2 => exact kept_spdmNegotiateAlgorithms s a0 a1 a2
  | spdmGetDigests a0 => exact kept_spdmGetDigests s a0
  | spdmGetCertificate a0 a1 a2 a3 => exact kept_spdmGetCertificate s a0 a1 a2 a3
  | spdmChallenge a0 a1 a2 => exact kept_spdmChallenge s a0 a1 a2
  | spdmGetMeasurements a0 a1 a2 => exact kept_spdmGetMeasurements s a0 a1 a2
  | spdmUnsupported a0 => exact kept_spdmUnsupported s a0
  | pldmPlatformRequest a0 a1 => exact kept_pldmPlatformRequest s a0 a1
  | pldmFirmwareUpdate a0 a1 => exact kept_pldmFirmwareUpdate s a0 a1
  | mctpApertureAccess a0 a1 a2 a3 a4 => exact kept_mctpApertureAccess s a0 a1 a2 a3 a4
  | i3cBroadcastTimeout => exact kept_i3cBroadcastTimeout s
  | mgmtCtrlWrite a0 a1 => exact kept_mgmtCtrlWrite s a0 a1
  | aperBadAccess a0 a1 a2 a3 => exact kept_aperBadAccess s a0 a1 a2 a3
  | aperAbsent a0 a1 => exact kept_aperAbsent s a0 a1
  | aperSplitAccess a0 a1 a2 a3 => exact kept_aperSplitAccess s a0 a1 a2 a3
  | pgSoftReset a0 a1 a2 => exact kept_pgSoftReset s a0 a1 a2
  | pgFreezeWrite a0 a1 a2 a3 => exact kept_pgFreezeWrite s a0 a1 a2 a3
  | pgLevelWrite a0 a1 a2 a3 => exact kept_pgLevelWrite s a0 a1 a2 a3
  | pgIrqStatClear a0 a1 a2 a3 => exact kept_pgIrqStatClear s a0 a1 a2 a3
  | pgIrqForce a0 a1 a2 a3 => exact kept_pgIrqForce s a0 a1 a2 a3
  | pgErrFirstClear a0 a1 a2 => exact kept_pgErrFirstClear s a0 a1 a2
  | registerWrite a0 a1 a2 a3 => exact kept_registerWrite s a0 a1 a2 a3
  | lanesLocked a0 => exact kept_lanesLocked s a0
  | creditReturn a0 a1 => exact kept_creditReturn s a0 a1
  | atsInvalidation a0 a1 => exact kept_atsInvalidation s a0 a1
  | pcieD3hotExit => exact kept_pcieD3hotExit s
  | vbusReturn a0 => exact kept_vbusReturn s a0
  | hullWriteDone a0 => exact kept_hullWriteDone s a0
  | fusingDone => exact kept_fusingDone s
  | dcacheFlushDone a0 => exact kept_dcacheFlushDone s a0
  | l2FlushDone a0 => exact kept_l2FlushDone s a0
  | globalResetDone => exact kept_globalResetDone s
  | offReady => exact kept_offReady s
  | i3cDynamicAddressAssignment a0 => exact kept_i3cDynamicAddressAssignment s a0
  | mctpSetEndpointId a0 a1 => exact kept_mctpSetEndpointId s a0 a1
  | cacheEviction a0 a1 => exact kept_cacheEviction s a0 a1

end Sys2Proof.Machine
end

