-- ==== Sys2Proof/Laws/State.lean ====
section
/-!
SUPPORT. Laws/State.lean: each named update of the state leaves every other field alone, one lemma per field and update,
and what the reading operations give after an update of something else.
-/
namespace Sys2Proof.Machine

/-! ### `State.setReg` -/

@[simp] theorem State.setReg_pending (s : State) (o : Nat) (v : DWord) : (s.setReg o v).pending = s.pending := rfl
@[simp] theorem State.setReg_busRead (s : State) (o : Nat) (v : DWord) : (s.setReg o v).busRead = s.busRead := rfl
@[simp] theorem State.setReg_rdData (s : State) (o : Nat) (v : DWord) : (s.setReg o v).rdData = s.rdData := rfl
@[simp] theorem State.setReg_rdPoison (s : State) (o : Nat) (v : DWord) : (s.setReg o v).rdPoison = s.rdPoison := rfl
@[simp] theorem State.setReg_rdError (s : State) (o : Nat) (v : DWord) : (s.setReg o v).rdError = s.rdError := rfl
@[simp] theorem State.setReg_latches (s : State) (o : Nat) (v : DWord) : (s.setReg o v).latches = s.latches := rfl
@[simp] theorem State.setReg_mem (s : State) (o : Nat) (v : DWord) : (s.setReg o v).mem = s.mem := rfl
@[simp] theorem State.setReg_poison (s : State) (o : Nat) (v : DWord) : (s.setReg o v).poison = s.poison := rfl
@[simp] theorem State.setReg_tick (s : State) (o : Nat) (v : DWord) : (s.setReg o v).tick = s.tick := rfl
@[simp] theorem State.setReg_cores (s : State) (o : Nat) (v : DWord) : (s.setReg o v).cores = s.cores := rfl
@[simp] theorem State.setReg_signals (s : State) (o : Nat) (v : DWord) : (s.setReg o v).signals = s.signals := rfl
@[simp] theorem State.setReg_cmds (s : State) (o : Nat) (v : DWord) : (s.setReg o v).cmds = s.cmds := rfl
@[simp] theorem State.setReg_nextCmd (s : State) (o : Nat) (v : DWord) : (s.setReg o v).nextCmd = s.nextCmd := rfl
@[simp] theorem State.setReg_queues (s : State) (o : Nat) (v : DWord) : (s.setReg o v).queues = s.queues := rfl
@[simp] theorem State.setReg_heldLog (s : State) (o : Nat) (v : DWord) : (s.setReg o v).heldLog = s.heldLog := rfl
@[simp] theorem State.setReg_queries (s : State) (o : Nat) (v : DWord) : (s.setReg o v).queries = s.queries := rfl
@[simp] theorem State.setReg_pcie (s : State) (o : Nat) (v : DWord) : (s.setReg o v).pcie = s.pcie := rfl
@[simp] theorem State.setReg_coh (s : State) (o : Nat) (v : DWord) : (s.setReg o v).coh = s.coh := rfl
@[simp] theorem State.setReg_servers (s : State) (o : Nat) (v : DWord) : (s.setReg o v).servers = s.servers := rfl
@[simp] theorem State.setReg_upd (s : State) (o : Nat) (v : DWord) : (s.setReg o v).upd = s.upd := rfl
@[simp] theorem State.setReg_snap (s : State) (o : Nat) (v : DWord) : (s.setReg o v).snap = s.snap := rfl
@[simp] theorem State.setReg_rvs (s : State) (o : Nat) (v : DWord) : (s.setReg o v).rvs = s.rvs := rfl
@[simp] theorem State.setReg_ras (s : State) (o : Nat) (v : DWord) : (s.setReg o v).ras = s.ras := rfl
@[simp] theorem State.setReg_pwr (s : State) (o : Nat) (v : DWord) : (s.setReg o v).pwr = s.pwr := rfl
@[simp] theorem State.setReg_age (s : State) (o : Nat) (v : DWord) : (s.setReg o v).age = s.age := rfl
@[simp] theorem State.setReg_sec (s : State) (o : Nat) (v : DWord) : (s.setReg o v).sec = s.sec := rfl
@[simp] theorem State.setReg_mgmt (s : State) (o : Nat) (v : DWord) : (s.setReg o v).mgmt = s.mgmt := rfl
@[simp] theorem State.setReg_flash (s : State) (o : Nat) (v : DWord) : (s.setReg o v).flash = s.flash := rfl
@[simp] theorem State.setReg_ports (s : State) (o : Nat) (v : DWord) : (s.setReg o v).ports = s.ports := rfl
@[simp] theorem State.setReg_msgs (s : State) (o : Nat) (v : DWord) : (s.setReg o v).msgs = s.msgs := rfl
@[simp] theorem State.setReg_nextMsg (s : State) (o : Nat) (v : DWord) : (s.setReg o v).nextMsg = s.nextMsg := rfl
@[simp] theorem State.setReg_inMsgs (s : State) (o : Nat) (v : DWord) : (s.setReg o v).inMsgs = s.inMsgs := rfl
@[simp] theorem State.setReg_mctpIn (s : State) (o : Nat) (v : DWord) : (s.setReg o v).mctpIn = s.mctpIn := rfl
@[simp] theorem State.setReg_colls (s : State) (o : Nat) (v : DWord) : (s.setReg o v).colls = s.colls := rfl
@[simp] theorem State.setReg_acc (s : State) (o : Nat) (v : DWord) : (s.setReg o v).acc = s.acc := rfl
@[simp] theorem State.setReg_routes (s : State) (o : Nat) (v : DWord) : (s.setReg o v).routes = s.routes := rfl
@[simp] theorem State.setReg_ceLogged (s : State) (o : Nat) (v : DWord) : (s.setReg o v).ceLogged = s.ceLogged := rfl
@[simp] theorem State.setReg_berths (s : State) (o : Nat) (v : DWord) : (s.setReg o v).berths = s.berths := rfl
@[simp] theorem State.setReg_tables (s : State) (o : Nat) (v : DWord) : (s.setReg o v).tables = s.tables := rfl
@[simp] theorem State.setReg_tabLoads (s : State) (o : Nat) (v : DWord) : (s.setReg o v).tabLoads = s.tabLoads := rfl
@[simp] theorem State.setReg_tabRetire (s : State) (o : Nat) (v : DWord) : (s.setReg o v).tabRetire = s.tabRetire := rfl
@[simp] theorem State.setReg_tabZero (s : State) (o : Nat) (v : DWord) : (s.setReg o v).tabZero = s.tabZero := rfl
@[simp] theorem State.setReg_rgenPend (s : State) (o : Nat) (v : DWord) : (s.setReg o v).rgenPend = s.rgenPend := rfl
@[simp] theorem State.setReg_coded (s : State) (o : Nat) (v : DWord) : (s.setReg o v).coded = s.coded := rfl
@[simp] theorem State.setReg_retag (s : State) (o : Nat) (v : DWord) : (s.setReg o v).retag = s.retag := rfl
@[simp] theorem State.setReg_ponts (s : State) (o : Nat) (v : DWord) : (s.setReg o v).ponts = s.ponts := rfl
@[simp] theorem State.setReg_softReset (s : State) (o : Nat) (v : DWord) : (s.setReg o v).softReset = s.softReset := rfl
@[simp] theorem State.setReg_out (s : State) (o : Nat) (v : DWord) : (s.setReg o v).out = s.out := rfl
@[simp] theorem State.setReg_looseFrom (s : State) (o : Nat) (v : DWord) : (s.setReg o v).looseFrom = s.looseFrom := rfl
@[simp] theorem State.setReg_aplic (s : State) (o : Nat) (v : DWord) : (s.setReg o v).aplic = s.aplic := rfl
@[simp] theorem State.setReg_scrubbed (s : State) (o : Nat) (v : DWord) : (s.setReg o v).scrubbed = s.scrubbed := rfl
@[simp] theorem State.setReg_busCycle (s : State) (o : Nat) (v : DWord) : (s.setReg o v).busCycle = s.busCycle := rfl
@[simp] theorem State.setReg_collRest (s : State) (o : Nat) (v : DWord) : (s.setReg o v).collRest = s.collRest := rfl
@[simp] theorem State.setReg_free (s : State) (o : Nat) (v : DWord) : (s.setReg o v).free = s.free := rfl
@[simp] theorem State.setReg_core (s : State) (o : Nat) (v : DWord) (k : Nat) : (s.setReg o v).core k = s.core k := rfl
@[simp] theorem State.setReg_port (s : State) (o : Nat) (v : DWord) (k : Nat) : (s.setReg o v).port k = s.port k := rfl
@[simp] theorem State.setReg_queue (s : State) (o : Nat) (v : DWord) (k : Nat) : (s.setReg o v).queue k = s.queue k := rfl
@[simp] theorem State.setReg_server (s : State) (o : Nat) (v : DWord) (k : Nat) : (s.setReg o v).server k = s.server k := rfl

/-! ### `State.setRegN` -/

@[simp] theorem State.setRegN_pending (s : State) (o v : Nat) : (s.setRegN o v).pending = s.pending := rfl
@[simp] theorem State.setRegN_busRead (s : State) (o v : Nat) : (s.setRegN o v).busRead = s.busRead := rfl
@[simp] theorem State.setRegN_rdData (s : State) (o v : Nat) : (s.setRegN o v).rdData = s.rdData := rfl
@[simp] theorem State.setRegN_rdPoison (s : State) (o v : Nat) : (s.setRegN o v).rdPoison = s.rdPoison := rfl
@[simp] theorem State.setRegN_rdError (s : State) (o v : Nat) : (s.setRegN o v).rdError = s.rdError := rfl
@[simp] theorem State.setRegN_latches (s : State) (o v : Nat) : (s.setRegN o v).latches = s.latches := rfl
@[simp] theorem State.setRegN_mem (s : State) (o v : Nat) : (s.setRegN o v).mem = s.mem := rfl
@[simp] theorem State.setRegN_poison (s : State) (o v : Nat) : (s.setRegN o v).poison = s.poison := rfl
@[simp] theorem State.setRegN_tick (s : State) (o v : Nat) : (s.setRegN o v).tick = s.tick := rfl
@[simp] theorem State.setRegN_cores (s : State) (o v : Nat) : (s.setRegN o v).cores = s.cores := rfl
@[simp] theorem State.setRegN_signals (s : State) (o v : Nat) : (s.setRegN o v).signals = s.signals := rfl
@[simp] theorem State.setRegN_cmds (s : State) (o v : Nat) : (s.setRegN o v).cmds = s.cmds := rfl
@[simp] theorem State.setRegN_nextCmd (s : State) (o v : Nat) : (s.setRegN o v).nextCmd = s.nextCmd := rfl
@[simp] theorem State.setRegN_queues (s : State) (o v : Nat) : (s.setRegN o v).queues = s.queues := rfl
@[simp] theorem State.setRegN_heldLog (s : State) (o v : Nat) : (s.setRegN o v).heldLog = s.heldLog := rfl
@[simp] theorem State.setRegN_queries (s : State) (o v : Nat) : (s.setRegN o v).queries = s.queries := rfl
@[simp] theorem State.setRegN_pcie (s : State) (o v : Nat) : (s.setRegN o v).pcie = s.pcie := rfl
@[simp] theorem State.setRegN_coh (s : State) (o v : Nat) : (s.setRegN o v).coh = s.coh := rfl
@[simp] theorem State.setRegN_servers (s : State) (o v : Nat) : (s.setRegN o v).servers = s.servers := rfl
@[simp] theorem State.setRegN_upd (s : State) (o v : Nat) : (s.setRegN o v).upd = s.upd := rfl
@[simp] theorem State.setRegN_snap (s : State) (o v : Nat) : (s.setRegN o v).snap = s.snap := rfl
@[simp] theorem State.setRegN_rvs (s : State) (o v : Nat) : (s.setRegN o v).rvs = s.rvs := rfl
@[simp] theorem State.setRegN_ras (s : State) (o v : Nat) : (s.setRegN o v).ras = s.ras := rfl
@[simp] theorem State.setRegN_pwr (s : State) (o v : Nat) : (s.setRegN o v).pwr = s.pwr := rfl
@[simp] theorem State.setRegN_age (s : State) (o v : Nat) : (s.setRegN o v).age = s.age := rfl
@[simp] theorem State.setRegN_sec (s : State) (o v : Nat) : (s.setRegN o v).sec = s.sec := rfl
@[simp] theorem State.setRegN_mgmt (s : State) (o v : Nat) : (s.setRegN o v).mgmt = s.mgmt := rfl
@[simp] theorem State.setRegN_flash (s : State) (o v : Nat) : (s.setRegN o v).flash = s.flash := rfl
@[simp] theorem State.setRegN_ports (s : State) (o v : Nat) : (s.setRegN o v).ports = s.ports := rfl
@[simp] theorem State.setRegN_msgs (s : State) (o v : Nat) : (s.setRegN o v).msgs = s.msgs := rfl
@[simp] theorem State.setRegN_nextMsg (s : State) (o v : Nat) : (s.setRegN o v).nextMsg = s.nextMsg := rfl
@[simp] theorem State.setRegN_inMsgs (s : State) (o v : Nat) : (s.setRegN o v).inMsgs = s.inMsgs := rfl
@[simp] theorem State.setRegN_mctpIn (s : State) (o v : Nat) : (s.setRegN o v).mctpIn = s.mctpIn := rfl
@[simp] theorem State.setRegN_colls (s : State) (o v : Nat) : (s.setRegN o v).colls = s.colls := rfl
@[simp] theorem State.setRegN_acc (s : State) (o v : Nat) : (s.setRegN o v).acc = s.acc := rfl
@[simp] theorem State.setRegN_routes (s : State) (o v : Nat) : (s.setRegN o v).routes = s.routes := rfl
@[simp] theorem State.setRegN_ceLogged (s : State) (o v : Nat) : (s.setRegN o v).ceLogged = s.ceLogged := rfl
@[simp] theorem State.setRegN_berths (s : State) (o v : Nat) : (s.setRegN o v).berths = s.berths := rfl
@[simp] theorem State.setRegN_tables (s : State) (o v : Nat) : (s.setRegN o v).tables = s.tables := rfl
@[simp] theorem State.setRegN_tabLoads (s : State) (o v : Nat) : (s.setRegN o v).tabLoads = s.tabLoads := rfl
@[simp] theorem State.setRegN_tabRetire (s : State) (o v : Nat) : (s.setRegN o v).tabRetire = s.tabRetire := rfl
@[simp] theorem State.setRegN_tabZero (s : State) (o v : Nat) : (s.setRegN o v).tabZero = s.tabZero := rfl
@[simp] theorem State.setRegN_rgenPend (s : State) (o v : Nat) : (s.setRegN o v).rgenPend = s.rgenPend := rfl
@[simp] theorem State.setRegN_coded (s : State) (o v : Nat) : (s.setRegN o v).coded = s.coded := rfl
@[simp] theorem State.setRegN_retag (s : State) (o v : Nat) : (s.setRegN o v).retag = s.retag := rfl
@[simp] theorem State.setRegN_ponts (s : State) (o v : Nat) : (s.setRegN o v).ponts = s.ponts := rfl
@[simp] theorem State.setRegN_softReset (s : State) (o v : Nat) : (s.setRegN o v).softReset = s.softReset := rfl
@[simp] theorem State.setRegN_out (s : State) (o v : Nat) : (s.setRegN o v).out = s.out := rfl
@[simp] theorem State.setRegN_looseFrom (s : State) (o v : Nat) : (s.setRegN o v).looseFrom = s.looseFrom := rfl
@[simp] theorem State.setRegN_aplic (s : State) (o v : Nat) : (s.setRegN o v).aplic = s.aplic := rfl
@[simp] theorem State.setRegN_scrubbed (s : State) (o v : Nat) : (s.setRegN o v).scrubbed = s.scrubbed := rfl
@[simp] theorem State.setRegN_busCycle (s : State) (o v : Nat) : (s.setRegN o v).busCycle = s.busCycle := rfl
@[simp] theorem State.setRegN_collRest (s : State) (o v : Nat) : (s.setRegN o v).collRest = s.collRest := rfl
@[simp] theorem State.setRegN_free (s : State) (o v : Nat) : (s.setRegN o v).free = s.free := rfl
@[simp] theorem State.setRegN_core (s : State) (o v : Nat) (k : Nat) : (s.setRegN o v).core k = s.core k := rfl
@[simp] theorem State.setRegN_port (s : State) (o v : Nat) (k : Nat) : (s.setRegN o v).port k = s.port k := rfl
@[simp] theorem State.setRegN_queue (s : State) (o v : Nat) (k : Nat) : (s.setRegN o v).queue k = s.queue k := rfl
@[simp] theorem State.setRegN_server (s : State) (o v : Nat) (k : Nat) : (s.setRegN o v).server k = s.server k := rfl

/-! ### `State.setField` -/

@[simp] theorem State.setField_pending (s : State) (o hi lo v : Nat) : (s.setField o hi lo v).pending = s.pending := rfl
@[simp] theorem State.setField_busRead (s : State) (o hi lo v : Nat) : (s.setField o hi lo v).busRead = s.busRead := rfl
@[simp] theorem State.setField_rdData (s : State) (o hi lo v : Nat) : (s.setField o hi lo v).rdData = s.rdData := rfl
@[simp] theorem State.setField_rdPoison (s : State) (o hi lo v : Nat) : (s.setField o hi lo v).rdPoison = s.rdPoison := rfl
@[simp] theorem State.setField_rdError (s : State) (o hi lo v : Nat) : (s.setField o hi lo v).rdError = s.rdError := rfl
@[simp] theorem State.setField_latches (s : State) (o hi lo v : Nat) : (s.setField o hi lo v).latches = s.latches := rfl
@[simp] theorem State.setField_mem (s : State) (o hi lo v : Nat) : (s.setField o hi lo v).mem = s.mem := rfl
@[simp] theorem State.setField_poison (s : State) (o hi lo v : Nat) : (s.setField o hi lo v).poison = s.poison := rfl
@[simp] theorem State.setField_tick (s : State) (o hi lo v : Nat) : (s.setField o hi lo v).tick = s.tick := rfl
@[simp] theorem State.setField_cores (s : State) (o hi lo v : Nat) : (s.setField o hi lo v).cores = s.cores := rfl
@[simp] theorem State.setField_signals (s : State) (o hi lo v : Nat) : (s.setField o hi lo v).signals = s.signals := rfl
@[simp] theorem State.setField_cmds (s : State) (o hi lo v : Nat) : (s.setField o hi lo v).cmds = s.cmds := rfl
@[simp] theorem State.setField_nextCmd (s : State) (o hi lo v : Nat) : (s.setField o hi lo v).nextCmd = s.nextCmd := rfl
@[simp] theorem State.setField_queues (s : State) (o hi lo v : Nat) : (s.setField o hi lo v).queues = s.queues := rfl
@[simp] theorem State.setField_heldLog (s : State) (o hi lo v : Nat) : (s.setField o hi lo v).heldLog = s.heldLog := rfl
@[simp] theorem State.setField_queries (s : State) (o hi lo v : Nat) : (s.setField o hi lo v).queries = s.queries := rfl
@[simp] theorem State.setField_pcie (s : State) (o hi lo v : Nat) : (s.setField o hi lo v).pcie = s.pcie := rfl
@[simp] theorem State.setField_coh (s : State) (o hi lo v : Nat) : (s.setField o hi lo v).coh = s.coh := rfl
@[simp] theorem State.setField_servers (s : State) (o hi lo v : Nat) : (s.setField o hi lo v).servers = s.servers := rfl
@[simp] theorem State.setField_upd (s : State) (o hi lo v : Nat) : (s.setField o hi lo v).upd = s.upd := rfl
@[simp] theorem State.setField_snap (s : State) (o hi lo v : Nat) : (s.setField o hi lo v).snap = s.snap := rfl
@[simp] theorem State.setField_rvs (s : State) (o hi lo v : Nat) : (s.setField o hi lo v).rvs = s.rvs := rfl
@[simp] theorem State.setField_ras (s : State) (o hi lo v : Nat) : (s.setField o hi lo v).ras = s.ras := rfl
@[simp] theorem State.setField_pwr (s : State) (o hi lo v : Nat) : (s.setField o hi lo v).pwr = s.pwr := rfl
@[simp] theorem State.setField_age (s : State) (o hi lo v : Nat) : (s.setField o hi lo v).age = s.age := rfl
@[simp] theorem State.setField_sec (s : State) (o hi lo v : Nat) : (s.setField o hi lo v).sec = s.sec := rfl
@[simp] theorem State.setField_mgmt (s : State) (o hi lo v : Nat) : (s.setField o hi lo v).mgmt = s.mgmt := rfl
@[simp] theorem State.setField_flash (s : State) (o hi lo v : Nat) : (s.setField o hi lo v).flash = s.flash := rfl
@[simp] theorem State.setField_ports (s : State) (o hi lo v : Nat) : (s.setField o hi lo v).ports = s.ports := rfl
@[simp] theorem State.setField_msgs (s : State) (o hi lo v : Nat) : (s.setField o hi lo v).msgs = s.msgs := rfl
@[simp] theorem State.setField_nextMsg (s : State) (o hi lo v : Nat) : (s.setField o hi lo v).nextMsg = s.nextMsg := rfl
@[simp] theorem State.setField_inMsgs (s : State) (o hi lo v : Nat) : (s.setField o hi lo v).inMsgs = s.inMsgs := rfl
@[simp] theorem State.setField_mctpIn (s : State) (o hi lo v : Nat) : (s.setField o hi lo v).mctpIn = s.mctpIn := rfl
@[simp] theorem State.setField_colls (s : State) (o hi lo v : Nat) : (s.setField o hi lo v).colls = s.colls := rfl
@[simp] theorem State.setField_acc (s : State) (o hi lo v : Nat) : (s.setField o hi lo v).acc = s.acc := rfl
@[simp] theorem State.setField_routes (s : State) (o hi lo v : Nat) : (s.setField o hi lo v).routes = s.routes := rfl
@[simp] theorem State.setField_ceLogged (s : State) (o hi lo v : Nat) : (s.setField o hi lo v).ceLogged = s.ceLogged := rfl
@[simp] theorem State.setField_berths (s : State) (o hi lo v : Nat) : (s.setField o hi lo v).berths = s.berths := rfl
@[simp] theorem State.setField_tables (s : State) (o hi lo v : Nat) : (s.setField o hi lo v).tables = s.tables := rfl
@[simp] theorem State.setField_tabLoads (s : State) (o hi lo v : Nat) : (s.setField o hi lo v).tabLoads = s.tabLoads := rfl
@[simp] theorem State.setField_tabRetire (s : State) (o hi lo v : Nat) : (s.setField o hi lo v).tabRetire = s.tabRetire := rfl
@[simp] theorem State.setField_tabZero (s : State) (o hi lo v : Nat) : (s.setField o hi lo v).tabZero = s.tabZero := rfl
@[simp] theorem State.setField_rgenPend (s : State) (o hi lo v : Nat) : (s.setField o hi lo v).rgenPend = s.rgenPend := rfl
@[simp] theorem State.setField_coded (s : State) (o hi lo v : Nat) : (s.setField o hi lo v).coded = s.coded := rfl
@[simp] theorem State.setField_retag (s : State) (o hi lo v : Nat) : (s.setField o hi lo v).retag = s.retag := rfl
@[simp] theorem State.setField_ponts (s : State) (o hi lo v : Nat) : (s.setField o hi lo v).ponts = s.ponts := rfl
@[simp] theorem State.setField_softReset (s : State) (o hi lo v : Nat) : (s.setField o hi lo v).softReset = s.softReset := rfl
@[simp] theorem State.setField_out (s : State) (o hi lo v : Nat) : (s.setField o hi lo v).out = s.out := rfl
@[simp] theorem State.setField_looseFrom (s : State) (o hi lo v : Nat) : (s.setField o hi lo v).looseFrom = s.looseFrom := rfl
@[simp] theorem State.setField_aplic (s : State) (o hi lo v : Nat) : (s.setField o hi lo v).aplic = s.aplic := rfl
@[simp] theorem State.setField_scrubbed (s : State) (o hi lo v : Nat) : (s.setField o hi lo v).scrubbed = s.scrubbed := rfl
@[simp] theorem State.setField_busCycle (s : State) (o hi lo v : Nat) : (s.setField o hi lo v).busCycle = s.busCycle := rfl
@[simp] theorem State.setField_collRest (s : State) (o hi lo v : Nat) : (s.setField o hi lo v).collRest = s.collRest := rfl
@[simp] theorem State.setField_free (s : State) (o hi lo v : Nat) : (s.setField o hi lo v).free = s.free := rfl
@[simp] theorem State.setField_core (s : State) (o hi lo v : Nat) (k : Nat) : (s.setField o hi lo v).core k = s.core k := rfl
@[simp] theorem State.setField_port (s : State) (o hi lo v : Nat) (k : Nat) : (s.setField o hi lo v).port k = s.port k := rfl
@[simp] theorem State.setField_queue (s : State) (o hi lo v : Nat) (k : Nat) : (s.setField o hi lo v).queue k = s.queue k := rfl
@[simp] theorem State.setField_server (s : State) (o hi lo v : Nat) (k : Nat) : (s.setField o hi lo v).server k = s.server k := rfl

/-! ### `State.setCore` -/

@[simp] theorem State.setCore_pending (s : State) (c : Nat) (x : CoreSt) : (s.setCore c x).pending = s.pending := rfl
@[simp] theorem State.setCore_regs (s : State) (c : Nat) (x : CoreSt) : (s.setCore c x).regs = s.regs := rfl
@[simp] theorem State.setCore_busRead (s : State) (c : Nat) (x : CoreSt) : (s.setCore c x).busRead = s.busRead := rfl
@[simp] theorem State.setCore_rdData (s : State) (c : Nat) (x : CoreSt) : (s.setCore c x).rdData = s.rdData := rfl
@[simp] theorem State.setCore_rdPoison (s : State) (c : Nat) (x : CoreSt) : (s.setCore c x).rdPoison = s.rdPoison := rfl
@[simp] theorem State.setCore_rdError (s : State) (c : Nat) (x : CoreSt) : (s.setCore c x).rdError = s.rdError := rfl
@[simp] theorem State.setCore_latches (s : State) (c : Nat) (x : CoreSt) : (s.setCore c x).latches = s.latches := rfl
@[simp] theorem State.setCore_mem (s : State) (c : Nat) (x : CoreSt) : (s.setCore c x).mem = s.mem := rfl
@[simp] theorem State.setCore_poison (s : State) (c : Nat) (x : CoreSt) : (s.setCore c x).poison = s.poison := rfl
@[simp] theorem State.setCore_tick (s : State) (c : Nat) (x : CoreSt) : (s.setCore c x).tick = s.tick := rfl
@[simp] theorem State.setCore_signals (s : State) (c : Nat) (x : CoreSt) : (s.setCore c x).signals = s.signals := rfl
@[simp] theorem State.setCore_cmds (s : State) (c : Nat) (x : CoreSt) : (s.setCore c x).cmds = s.cmds := rfl
@[simp] theorem State.setCore_nextCmd (s : State) (c : Nat) (x : CoreSt) : (s.setCore c x).nextCmd = s.nextCmd := rfl
@[simp] theorem State.setCore_queues (s : State) (c : Nat) (x : CoreSt) : (s.setCore c x).queues = s.queues := rfl
@[simp] theorem State.setCore_heldLog (s : State) (c : Nat) (x : CoreSt) : (s.setCore c x).heldLog = s.heldLog := rfl
@[simp] theorem State.setCore_queries (s : State) (c : Nat) (x : CoreSt) : (s.setCore c x).queries = s.queries := rfl
@[simp] theorem State.setCore_pcie (s : State) (c : Nat) (x : CoreSt) : (s.setCore c x).pcie = s.pcie := rfl
@[simp] theorem State.setCore_coh (s : State) (c : Nat) (x : CoreSt) : (s.setCore c x).coh = s.coh := rfl
@[simp] theorem State.setCore_servers (s : State) (c : Nat) (x : CoreSt) : (s.setCore c x).servers = s.servers := rfl
@[simp] theorem State.setCore_upd (s : State) (c : Nat) (x : CoreSt) : (s.setCore c x).upd = s.upd := rfl
@[simp] theorem State.setCore_snap (s : State) (c : Nat) (x : CoreSt) : (s.setCore c x).snap = s.snap := rfl
@[simp] theorem State.setCore_rvs (s : State) (c : Nat) (x : CoreSt) : (s.setCore c x).rvs = s.rvs := rfl
@[simp] theorem State.setCore_ras (s : State) (c : Nat) (x : CoreSt) : (s.setCore c x).ras = s.ras := rfl
@[simp] theorem State.setCore_pwr (s : State) (c : Nat) (x : CoreSt) : (s.setCore c x).pwr = s.pwr := rfl
@[simp] theorem State.setCore_age (s : State) (c : Nat) (x : CoreSt) : (s.setCore c x).age = s.age := rfl
@[simp] theorem State.setCore_sec (s : State) (c : Nat) (x : CoreSt) : (s.setCore c x).sec = s.sec := rfl
@[simp] theorem State.setCore_mgmt (s : State) (c : Nat) (x : CoreSt) : (s.setCore c x).mgmt = s.mgmt := rfl
@[simp] theorem State.setCore_flash (s : State) (c : Nat) (x : CoreSt) : (s.setCore c x).flash = s.flash := rfl
@[simp] theorem State.setCore_ports (s : State) (c : Nat) (x : CoreSt) : (s.setCore c x).ports = s.ports := rfl
@[simp] theorem State.setCore_msgs (s : State) (c : Nat) (x : CoreSt) : (s.setCore c x).msgs = s.msgs := rfl
@[simp] theorem State.setCore_nextMsg (s : State) (c : Nat) (x : CoreSt) : (s.setCore c x).nextMsg = s.nextMsg := rfl
@[simp] theorem State.setCore_inMsgs (s : State) (c : Nat) (x : CoreSt) : (s.setCore c x).inMsgs = s.inMsgs := rfl
@[simp] theorem State.setCore_mctpIn (s : State) (c : Nat) (x : CoreSt) : (s.setCore c x).mctpIn = s.mctpIn := rfl
@[simp] theorem State.setCore_colls (s : State) (c : Nat) (x : CoreSt) : (s.setCore c x).colls = s.colls := rfl
@[simp] theorem State.setCore_acc (s : State) (c : Nat) (x : CoreSt) : (s.setCore c x).acc = s.acc := rfl
@[simp] theorem State.setCore_routes (s : State) (c : Nat) (x : CoreSt) : (s.setCore c x).routes = s.routes := rfl
@[simp] theorem State.setCore_ceLogged (s : State) (c : Nat) (x : CoreSt) : (s.setCore c x).ceLogged = s.ceLogged := rfl
@[simp] theorem State.setCore_berths (s : State) (c : Nat) (x : CoreSt) : (s.setCore c x).berths = s.berths := rfl
@[simp] theorem State.setCore_tables (s : State) (c : Nat) (x : CoreSt) : (s.setCore c x).tables = s.tables := rfl
@[simp] theorem State.setCore_tabLoads (s : State) (c : Nat) (x : CoreSt) : (s.setCore c x).tabLoads = s.tabLoads := rfl
@[simp] theorem State.setCore_tabRetire (s : State) (c : Nat) (x : CoreSt) : (s.setCore c x).tabRetire = s.tabRetire := rfl
@[simp] theorem State.setCore_tabZero (s : State) (c : Nat) (x : CoreSt) : (s.setCore c x).tabZero = s.tabZero := rfl
@[simp] theorem State.setCore_rgenPend (s : State) (c : Nat) (x : CoreSt) : (s.setCore c x).rgenPend = s.rgenPend := rfl
@[simp] theorem State.setCore_coded (s : State) (c : Nat) (x : CoreSt) : (s.setCore c x).coded = s.coded := rfl
@[simp] theorem State.setCore_retag (s : State) (c : Nat) (x : CoreSt) : (s.setCore c x).retag = s.retag := rfl
@[simp] theorem State.setCore_ponts (s : State) (c : Nat) (x : CoreSt) : (s.setCore c x).ponts = s.ponts := rfl
@[simp] theorem State.setCore_softReset (s : State) (c : Nat) (x : CoreSt) : (s.setCore c x).softReset = s.softReset := rfl
@[simp] theorem State.setCore_out (s : State) (c : Nat) (x : CoreSt) : (s.setCore c x).out = s.out := rfl
@[simp] theorem State.setCore_looseFrom (s : State) (c : Nat) (x : CoreSt) : (s.setCore c x).looseFrom = s.looseFrom := rfl
@[simp] theorem State.setCore_aplic (s : State) (c : Nat) (x : CoreSt) : (s.setCore c x).aplic = s.aplic := rfl
@[simp] theorem State.setCore_scrubbed (s : State) (c : Nat) (x : CoreSt) : (s.setCore c x).scrubbed = s.scrubbed := rfl
@[simp] theorem State.setCore_busCycle (s : State) (c : Nat) (x : CoreSt) : (s.setCore c x).busCycle = s.busCycle := rfl
@[simp] theorem State.setCore_collRest (s : State) (c : Nat) (x : CoreSt) : (s.setCore c x).collRest = s.collRest := rfl
@[simp] theorem State.setCore_free (s : State) (c : Nat) (x : CoreSt) : (s.setCore c x).free = s.free := rfl
@[simp] theorem State.setCore_reg (s : State) (c : Nat) (x : CoreSt) (k : Nat) : (s.setCore c x).reg k = s.reg k := rfl
@[simp] theorem State.setCore_regN (s : State) (c : Nat) (x : CoreSt) (k : Nat) : (s.setCore c x).regN k = s.regN k := rfl
@[simp] theorem State.setCore_field (s : State) (c : Nat) (x : CoreSt) (k h l : Nat) : (s.setCore c x).field k h l = s.field k h l := rfl
@[simp] theorem State.setCore_rd8 (s : State) (c : Nat) (x : CoreSt) (k : Nat) : (s.setCore c x).rd8 k = s.rd8 k := rfl
@[simp] theorem State.setCore_poisoned (s : State) (c : Nat) (x : CoreSt) (k : Nat) : (s.setCore c x).poisoned k = s.poisoned k := rfl
@[simp] theorem State.setCore_port (s : State) (c : Nat) (x : CoreSt) (k : Nat) : (s.setCore c x).port k = s.port k := rfl
@[simp] theorem State.setCore_queue (s : State) (c : Nat) (x : CoreSt) (k : Nat) : (s.setCore c x).queue k = s.queue k := rfl
@[simp] theorem State.setCore_server (s : State) (c : Nat) (x : CoreSt) (k : Nat) : (s.setCore c x).server k = s.server k := rfl
@[simp] theorem State.setCore_now (s : State) (c : Nat) (x : CoreSt) : (s.setCore c x).now = s.now := rfl
@[simp] theorem State.setCore_tide (s : State) (c : Nat) (x : CoreSt) : (s.setCore c x).tide = s.tide := rfl

/-! ### `State.wr8` -/

@[simp] theorem State.wr8_pending (s : State) (a : Nat) (b : Byte) : (s.wr8 a b).pending = s.pending := rfl
@[simp] theorem State.wr8_regs (s : State) (a : Nat) (b : Byte) : (s.wr8 a b).regs = s.regs := rfl
@[simp] theorem State.wr8_busRead (s : State) (a : Nat) (b : Byte) : (s.wr8 a b).busRead = s.busRead := rfl
@[simp] theorem State.wr8_rdData (s : State) (a : Nat) (b : Byte) : (s.wr8 a b).rdData = s.rdData := rfl
@[simp] theorem State.wr8_rdPoison (s : State) (a : Nat) (b : Byte) : (s.wr8 a b).rdPoison = s.rdPoison := rfl
@[simp] theorem State.wr8_rdError (s : State) (a : Nat) (b : Byte) : (s.wr8 a b).rdError = s.rdError := rfl
@[simp] theorem State.wr8_latches (s : State) (a : Nat) (b : Byte) : (s.wr8 a b).latches = s.latches := rfl
@[simp] theorem State.wr8_poison (s : State) (a : Nat) (b : Byte) : (s.wr8 a b).poison = s.poison := rfl
@[simp] theorem State.wr8_tick (s : State) (a : Nat) (b : Byte) : (s.wr8 a b).tick = s.tick := rfl
@[simp] theorem State.wr8_cores (s : State) (a : Nat) (b : Byte) : (s.wr8 a b).cores = s.cores := rfl
@[simp] theorem State.wr8_signals (s : State) (a : Nat) (b : Byte) : (s.wr8 a b).signals = s.signals := rfl
@[simp] theorem State.wr8_cmds (s : State) (a : Nat) (b : Byte) : (s.wr8 a b).cmds = s.cmds := rfl
@[simp] theorem State.wr8_nextCmd (s : State) (a : Nat) (b : Byte) : (s.wr8 a b).nextCmd = s.nextCmd := rfl
@[simp] theorem State.wr8_queues (s : State) (a : Nat) (b : Byte) : (s.wr8 a b).queues = s.queues := rfl
@[simp] theorem State.wr8_heldLog (s : State) (a : Nat) (b : Byte) : (s.wr8 a b).heldLog = s.heldLog := rfl
@[simp] theorem State.wr8_queries (s : State) (a : Nat) (b : Byte) : (s.wr8 a b).queries = s.queries := rfl
@[simp] theorem State.wr8_pcie (s : State) (a : Nat) (b : Byte) : (s.wr8 a b).pcie = s.pcie := rfl
@[simp] theorem State.wr8_coh (s : State) (a : Nat) (b : Byte) : (s.wr8 a b).coh = s.coh := rfl
@[simp] theorem State.wr8_servers (s : State) (a : Nat) (b : Byte) : (s.wr8 a b).servers = s.servers := rfl
@[simp] theorem State.wr8_upd (s : State) (a : Nat) (b : Byte) : (s.wr8 a b).upd = s.upd := rfl
@[simp] theorem State.wr8_snap (s : State) (a : Nat) (b : Byte) : (s.wr8 a b).snap = s.snap := rfl
@[simp] theorem State.wr8_rvs (s : State) (a : Nat) (b : Byte) : (s.wr8 a b).rvs = s.rvs := rfl
@[simp] theorem State.wr8_ras (s : State) (a : Nat) (b : Byte) : (s.wr8 a b).ras = s.ras := rfl
@[simp] theorem State.wr8_pwr (s : State) (a : Nat) (b : Byte) : (s.wr8 a b).pwr = s.pwr := rfl
@[simp] theorem State.wr8_age (s : State) (a : Nat) (b : Byte) : (s.wr8 a b).age = s.age := rfl
@[simp] theorem State.wr8_sec (s : State) (a : Nat) (b : Byte) : (s.wr8 a b).sec = s.sec := rfl
@[simp] theorem State.wr8_mgmt (s : State) (a : Nat) (b : Byte) : (s.wr8 a b).mgmt = s.mgmt := rfl
@[simp] theorem State.wr8_flash (s : State) (a : Nat) (b : Byte) : (s.wr8 a b).flash = s.flash := rfl
@[simp] theorem State.wr8_ports (s : State) (a : Nat) (b : Byte) : (s.wr8 a b).ports = s.ports := rfl
@[simp] theorem State.wr8_msgs (s : State) (a : Nat) (b : Byte) : (s.wr8 a b).msgs = s.msgs := rfl
@[simp] theorem State.wr8_nextMsg (s : State) (a : Nat) (b : Byte) : (s.wr8 a b).nextMsg = s.nextMsg := rfl
@[simp] theorem State.wr8_inMsgs (s : State) (a : Nat) (b : Byte) : (s.wr8 a b).inMsgs = s.inMsgs := rfl
@[simp] theorem State.wr8_mctpIn (s : State) (a : Nat) (b : Byte) : (s.wr8 a b).mctpIn = s.mctpIn := rfl
@[simp] theorem State.wr8_colls (s : State) (a : Nat) (b : Byte) : (s.wr8 a b).colls = s.colls := rfl
@[simp] theorem State.wr8_acc (s : State) (a : Nat) (b : Byte) : (s.wr8 a b).acc = s.acc := rfl
@[simp] theorem State.wr8_routes (s : State) (a : Nat) (b : Byte) : (s.wr8 a b).routes = s.routes := rfl
@[simp] theorem State.wr8_ceLogged (s : State) (a : Nat) (b : Byte) : (s.wr8 a b).ceLogged = s.ceLogged := rfl
@[simp] theorem State.wr8_berths (s : State) (a : Nat) (b : Byte) : (s.wr8 a b).berths = s.berths := rfl
@[simp] theorem State.wr8_tables (s : State) (a : Nat) (b : Byte) : (s.wr8 a b).tables = s.tables := rfl
@[simp] theorem State.wr8_tabLoads (s : State) (a : Nat) (b : Byte) : (s.wr8 a b).tabLoads = s.tabLoads := rfl
@[simp] theorem State.wr8_tabRetire (s : State) (a : Nat) (b : Byte) : (s.wr8 a b).tabRetire = s.tabRetire := rfl
@[simp] theorem State.wr8_tabZero (s : State) (a : Nat) (b : Byte) : (s.wr8 a b).tabZero = s.tabZero := rfl
@[simp] theorem State.wr8_rgenPend (s : State) (a : Nat) (b : Byte) : (s.wr8 a b).rgenPend = s.rgenPend := rfl
@[simp] theorem State.wr8_coded (s : State) (a : Nat) (b : Byte) : (s.wr8 a b).coded = s.coded := rfl
@[simp] theorem State.wr8_retag (s : State) (a : Nat) (b : Byte) : (s.wr8 a b).retag = s.retag := rfl
@[simp] theorem State.wr8_ponts (s : State) (a : Nat) (b : Byte) : (s.wr8 a b).ponts = s.ponts := rfl
@[simp] theorem State.wr8_softReset (s : State) (a : Nat) (b : Byte) : (s.wr8 a b).softReset = s.softReset := rfl
@[simp] theorem State.wr8_out (s : State) (a : Nat) (b : Byte) : (s.wr8 a b).out = s.out := rfl
@[simp] theorem State.wr8_looseFrom (s : State) (a : Nat) (b : Byte) : (s.wr8 a b).looseFrom = s.looseFrom := rfl
@[simp] theorem State.wr8_aplic (s : State) (a : Nat) (b : Byte) : (s.wr8 a b).aplic = s.aplic := rfl
@[simp] theorem State.wr8_scrubbed (s : State) (a : Nat) (b : Byte) : (s.wr8 a b).scrubbed = s.scrubbed := rfl
@[simp] theorem State.wr8_busCycle (s : State) (a : Nat) (b : Byte) : (s.wr8 a b).busCycle = s.busCycle := rfl
@[simp] theorem State.wr8_collRest (s : State) (a : Nat) (b : Byte) : (s.wr8 a b).collRest = s.collRest := rfl
@[simp] theorem State.wr8_free (s : State) (a : Nat) (b : Byte) : (s.wr8 a b).free = s.free := rfl
@[simp] theorem State.wr8_reg (s : State) (a : Nat) (b : Byte) (k : Nat) : (s.wr8 a b).reg k = s.reg k := rfl
@[simp] theorem State.wr8_regN (s : State) (a : Nat) (b : Byte) (k : Nat) : (s.wr8 a b).regN k = s.regN k := rfl
@[simp] theorem State.wr8_field (s : State) (a : Nat) (b : Byte) (k h l : Nat) : (s.wr8 a b).field k h l = s.field k h l := rfl
@[simp] theorem State.wr8_core (s : State) (a : Nat) (b : Byte) (k : Nat) : (s.wr8 a b).core k = s.core k := rfl
@[simp] theorem State.wr8_poisoned (s : State) (a : Nat) (b : Byte) (k : Nat) : (s.wr8 a b).poisoned k = s.poisoned k := rfl
@[simp] theorem State.wr8_port (s : State) (a : Nat) (b : Byte) (k : Nat) : (s.wr8 a b).port k = s.port k := rfl
@[simp] theorem State.wr8_queue (s : State) (a : Nat) (b : Byte) (k : Nat) : (s.wr8 a b).queue k = s.queue k := rfl
@[simp] theorem State.wr8_server (s : State) (a : Nat) (b : Byte) (k : Nat) : (s.wr8 a b).server k = s.server k := rfl
@[simp] theorem State.wr8_now (s : State) (a : Nat) (b : Byte) : (s.wr8 a b).now = s.now := rfl
@[simp] theorem State.wr8_tide (s : State) (a : Nat) (b : Byte) : (s.wr8 a b).tide = s.tide := rfl

/-! ### `State.setPoison` -/

@[simp] theorem State.setPoison_pending (s : State) (a : Nat) (v : Bool) : (s.setPoison a v).pending = s.pending := rfl
@[simp] theorem State.setPoison_regs (s : State) (a : Nat) (v : Bool) : (s.setPoison a v).regs = s.regs := rfl
@[simp] theorem State.setPoison_busRead (s : State) (a : Nat) (v : Bool) : (s.setPoison a v).busRead = s.busRead := rfl
@[simp] theorem State.setPoison_rdData (s : State) (a : Nat) (v : Bool) : (s.setPoison a v).rdData = s.rdData := rfl
@[simp] theorem State.setPoison_rdPoison (s : State) (a : Nat) (v : Bool) : (s.setPoison a v).rdPoison = s.rdPoison := rfl
@[simp] theorem State.setPoison_rdError (s : State) (a : Nat) (v : Bool) : (s.setPoison a v).rdError = s.rdError := rfl
@[simp] theorem State.setPoison_latches (s : State) (a : Nat) (v : Bool) : (s.setPoison a v).latches = s.latches := rfl
@[simp] theorem State.setPoison_mem (s : State) (a : Nat) (v : Bool) : (s.setPoison a v).mem = s.mem := rfl
@[simp] theorem State.setPoison_tick (s : State) (a : Nat) (v : Bool) : (s.setPoison a v).tick = s.tick := rfl
@[simp] theorem State.setPoison_cores (s : State) (a : Nat) (v : Bool) : (s.setPoison a v).cores = s.cores := rfl
@[simp] theorem State.setPoison_signals (s : State) (a : Nat) (v : Bool) : (s.setPoison a v).signals = s.signals := rfl
@[simp] theorem State.setPoison_cmds (s : State) (a : Nat) (v : Bool) : (s.setPoison a v).cmds = s.cmds := rfl
@[simp] theorem State.setPoison_nextCmd (s : State) (a : Nat) (v : Bool) : (s.setPoison a v).nextCmd = s.nextCmd := rfl
@[simp] theorem State.setPoison_queues (s : State) (a : Nat) (v : Bool) : (s.setPoison a v).queues = s.queues := rfl
@[simp] theorem State.setPoison_heldLog (s : State) (a : Nat) (v : Bool) : (s.setPoison a v).heldLog = s.heldLog := rfl
@[simp] theorem State.setPoison_queries (s : State) (a : Nat) (v : Bool) : (s.setPoison a v).queries = s.queries := rfl
@[simp] theorem State.setPoison_pcie (s : State) (a : Nat) (v : Bool) : (s.setPoison a v).pcie = s.pcie := rfl
@[simp] theorem State.setPoison_coh (s : State) (a : Nat) (v : Bool) : (s.setPoison a v).coh = s.coh := rfl
@[simp] theorem State.setPoison_servers (s : State) (a : Nat) (v : Bool) : (s.setPoison a v).servers = s.servers := rfl
@[simp] theorem State.setPoison_upd (s : State) (a : Nat) (v : Bool) : (s.setPoison a v).upd = s.upd := rfl
@[simp] theorem State.setPoison_snap (s : State) (a : Nat) (v : Bool) : (s.setPoison a v).snap = s.snap := rfl
@[simp] theorem State.setPoison_rvs (s : State) (a : Nat) (v : Bool) : (s.setPoison a v).rvs = s.rvs := rfl
@[simp] theorem State.setPoison_ras (s : State) (a : Nat) (v : Bool) : (s.setPoison a v).ras = s.ras := rfl
@[simp] theorem State.setPoison_pwr (s : State) (a : Nat) (v : Bool) : (s.setPoison a v).pwr = s.pwr := rfl
@[simp] theorem State.setPoison_age (s : State) (a : Nat) (v : Bool) : (s.setPoison a v).age = s.age := rfl
@[simp] theorem State.setPoison_sec (s : State) (a : Nat) (v : Bool) : (s.setPoison a v).sec = s.sec := rfl
@[simp] theorem State.setPoison_mgmt (s : State) (a : Nat) (v : Bool) : (s.setPoison a v).mgmt = s.mgmt := rfl
@[simp] theorem State.setPoison_flash (s : State) (a : Nat) (v : Bool) : (s.setPoison a v).flash = s.flash := rfl
@[simp] theorem State.setPoison_ports (s : State) (a : Nat) (v : Bool) : (s.setPoison a v).ports = s.ports := rfl
@[simp] theorem State.setPoison_msgs (s : State) (a : Nat) (v : Bool) : (s.setPoison a v).msgs = s.msgs := rfl
@[simp] theorem State.setPoison_nextMsg (s : State) (a : Nat) (v : Bool) : (s.setPoison a v).nextMsg = s.nextMsg := rfl
@[simp] theorem State.setPoison_inMsgs (s : State) (a : Nat) (v : Bool) : (s.setPoison a v).inMsgs = s.inMsgs := rfl
@[simp] theorem State.setPoison_mctpIn (s : State) (a : Nat) (v : Bool) : (s.setPoison a v).mctpIn = s.mctpIn := rfl
@[simp] theorem State.setPoison_colls (s : State) (a : Nat) (v : Bool) : (s.setPoison a v).colls = s.colls := rfl
@[simp] theorem State.setPoison_acc (s : State) (a : Nat) (v : Bool) : (s.setPoison a v).acc = s.acc := rfl
@[simp] theorem State.setPoison_routes (s : State) (a : Nat) (v : Bool) : (s.setPoison a v).routes = s.routes := rfl
@[simp] theorem State.setPoison_ceLogged (s : State) (a : Nat) (v : Bool) : (s.setPoison a v).ceLogged = s.ceLogged := rfl
@[simp] theorem State.setPoison_berths (s : State) (a : Nat) (v : Bool) : (s.setPoison a v).berths = s.berths := rfl
@[simp] theorem State.setPoison_tables (s : State) (a : Nat) (v : Bool) : (s.setPoison a v).tables = s.tables := rfl
@[simp] theorem State.setPoison_tabLoads (s : State) (a : Nat) (v : Bool) : (s.setPoison a v).tabLoads = s.tabLoads := rfl
@[simp] theorem State.setPoison_tabRetire (s : State) (a : Nat) (v : Bool) : (s.setPoison a v).tabRetire = s.tabRetire := rfl
@[simp] theorem State.setPoison_tabZero (s : State) (a : Nat) (v : Bool) : (s.setPoison a v).tabZero = s.tabZero := rfl
@[simp] theorem State.setPoison_rgenPend (s : State) (a : Nat) (v : Bool) : (s.setPoison a v).rgenPend = s.rgenPend := rfl
@[simp] theorem State.setPoison_coded (s : State) (a : Nat) (v : Bool) : (s.setPoison a v).coded = s.coded := rfl
@[simp] theorem State.setPoison_retag (s : State) (a : Nat) (v : Bool) : (s.setPoison a v).retag = s.retag := rfl
@[simp] theorem State.setPoison_ponts (s : State) (a : Nat) (v : Bool) : (s.setPoison a v).ponts = s.ponts := rfl
@[simp] theorem State.setPoison_softReset (s : State) (a : Nat) (v : Bool) : (s.setPoison a v).softReset = s.softReset := rfl
@[simp] theorem State.setPoison_out (s : State) (a : Nat) (v : Bool) : (s.setPoison a v).out = s.out := rfl
@[simp] theorem State.setPoison_looseFrom (s : State) (a : Nat) (v : Bool) : (s.setPoison a v).looseFrom = s.looseFrom := rfl
@[simp] theorem State.setPoison_aplic (s : State) (a : Nat) (v : Bool) : (s.setPoison a v).aplic = s.aplic := rfl
@[simp] theorem State.setPoison_scrubbed (s : State) (a : Nat) (v : Bool) : (s.setPoison a v).scrubbed = s.scrubbed := rfl
@[simp] theorem State.setPoison_busCycle (s : State) (a : Nat) (v : Bool) : (s.setPoison a v).busCycle = s.busCycle := rfl
@[simp] theorem State.setPoison_collRest (s : State) (a : Nat) (v : Bool) : (s.setPoison a v).collRest = s.collRest := rfl
@[simp] theorem State.setPoison_free (s : State) (a : Nat) (v : Bool) : (s.setPoison a v).free = s.free := rfl
@[simp] theorem State.setPoison_reg (s : State) (a : Nat) (v : Bool) (k : Nat) : (s.setPoison a v).reg k = s.reg k := rfl
@[simp] theorem State.setPoison_regN (s : State) (a : Nat) (v : Bool) (k : Nat) : (s.setPoison a v).regN k = s.regN k := rfl
@[simp] theorem State.setPoison_field (s : State) (a : Nat) (v : Bool) (k h l : Nat) : (s.setPoison a v).field k h l = s.field k h l := rfl
@[simp] theorem State.setPoison_core (s : State) (a : Nat) (v : Bool) (k : Nat) : (s.setPoison a v).core k = s.core k := rfl
@[simp] theorem State.setPoison_rd8 (s : State) (a : Nat) (v : Bool) (k : Nat) : (s.setPoison a v).rd8 k = s.rd8 k := rfl
@[simp] theorem State.setPoison_port (s : State) (a : Nat) (v : Bool) (k : Nat) : (s.setPoison a v).port k = s.port k := rfl
@[simp] theorem State.setPoison_queue (s : State) (a : Nat) (v : Bool) (k : Nat) : (s.setPoison a v).queue k = s.queue k := rfl
@[simp] theorem State.setPoison_server (s : State) (a : Nat) (v : Bool) (k : Nat) : (s.setPoison a v).server k = s.server k := rfl
@[simp] theorem State.setPoison_now (s : State) (a : Nat) (v : Bool) : (s.setPoison a v).now = s.now := rfl
@[simp] theorem State.setPoison_tide (s : State) (a : Nat) (v : Bool) : (s.setPoison a v).tide = s.tide := rfl

/-! ### `State.updCmd` -/

@[simp] theorem State.updCmd_pending (s : State) (k : Nat) (f : Cmd → Cmd) : (s.updCmd k f).pending = s.pending := rfl
@[simp] theorem State.updCmd_regs (s : State) (k : Nat) (f : Cmd → Cmd) : (s.updCmd k f).regs = s.regs := rfl
@[simp] theorem State.updCmd_busRead (s : State) (k : Nat) (f : Cmd → Cmd) : (s.updCmd k f).busRead = s.busRead := rfl
@[simp] theorem State.updCmd_rdData (s : State) (k : Nat) (f : Cmd → Cmd) : (s.updCmd k f).rdData = s.rdData := rfl
@[simp] theorem State.updCmd_rdPoison (s : State) (k : Nat) (f : Cmd → Cmd) : (s.updCmd k f).rdPoison = s.rdPoison := rfl
@[simp] theorem State.updCmd_rdError (s : State) (k : Nat) (f : Cmd → Cmd) : (s.updCmd k f).rdError = s.rdError := rfl
@[simp] theorem State.updCmd_latches (s : State) (k : Nat) (f : Cmd → Cmd) : (s.updCmd k f).latches = s.latches := rfl
@[simp] theorem State.updCmd_mem (s : State) (k : Nat) (f : Cmd → Cmd) : (s.updCmd k f).mem = s.mem := rfl
@[simp] theorem State.updCmd_poison (s : State) (k : Nat) (f : Cmd → Cmd) : (s.updCmd k f).poison = s.poison := rfl
@[simp] theorem State.updCmd_tick (s : State) (k : Nat) (f : Cmd → Cmd) : (s.updCmd k f).tick = s.tick := rfl
@[simp] theorem State.updCmd_cores (s : State) (k : Nat) (f : Cmd → Cmd) : (s.updCmd k f).cores = s.cores := rfl
@[simp] theorem State.updCmd_signals (s : State) (k : Nat) (f : Cmd → Cmd) : (s.updCmd k f).signals = s.signals := rfl
@[simp] theorem State.updCmd_nextCmd (s : State) (k : Nat) (f : Cmd → Cmd) : (s.updCmd k f).nextCmd = s.nextCmd := rfl
@[simp] theorem State.updCmd_queues (s : State) (k : Nat) (f : Cmd → Cmd) : (s.updCmd k f).queues = s.queues := rfl
@[simp] theorem State.updCmd_heldLog (s : State) (k : Nat) (f : Cmd → Cmd) : (s.updCmd k f).heldLog = s.heldLog := rfl
@[simp] theorem State.updCmd_queries (s : State) (k : Nat) (f : Cmd → Cmd) : (s.updCmd k f).queries = s.queries := rfl
@[simp] theorem State.updCmd_pcie (s : State) (k : Nat) (f : Cmd → Cmd) : (s.updCmd k f).pcie = s.pcie := rfl
@[simp] theorem State.updCmd_coh (s : State) (k : Nat) (f : Cmd → Cmd) : (s.updCmd k f).coh = s.coh := rfl
@[simp] theorem State.updCmd_servers (s : State) (k : Nat) (f : Cmd → Cmd) : (s.updCmd k f).servers = s.servers := rfl
@[simp] theorem State.updCmd_upd (s : State) (k : Nat) (f : Cmd → Cmd) : (s.updCmd k f).upd = s.upd := rfl
@[simp] theorem State.updCmd_snap (s : State) (k : Nat) (f : Cmd → Cmd) : (s.updCmd k f).snap = s.snap := rfl
@[simp] theorem State.updCmd_rvs (s : State) (k : Nat) (f : Cmd → Cmd) : (s.updCmd k f).rvs = s.rvs := rfl
@[simp] theorem State.updCmd_ras (s : State) (k : Nat) (f : Cmd → Cmd) : (s.updCmd k f).ras = s.ras := rfl
@[simp] theorem State.updCmd_pwr (s : State) (k : Nat) (f : Cmd → Cmd) : (s.updCmd k f).pwr = s.pwr := rfl
@[simp] theorem State.updCmd_age (s : State) (k : Nat) (f : Cmd → Cmd) : (s.updCmd k f).age = s.age := rfl
@[simp] theorem State.updCmd_sec (s : State) (k : Nat) (f : Cmd → Cmd) : (s.updCmd k f).sec = s.sec := rfl
@[simp] theorem State.updCmd_mgmt (s : State) (k : Nat) (f : Cmd → Cmd) : (s.updCmd k f).mgmt = s.mgmt := rfl
@[simp] theorem State.updCmd_flash (s : State) (k : Nat) (f : Cmd → Cmd) : (s.updCmd k f).flash = s.flash := rfl
@[simp] theorem State.updCmd_ports (s : State) (k : Nat) (f : Cmd → Cmd) : (s.updCmd k f).ports = s.ports := rfl
@[simp] theorem State.updCmd_msgs (s : State) (k : Nat) (f : Cmd → Cmd) : (s.updCmd k f).msgs = s.msgs := rfl
@[simp] theorem State.updCmd_nextMsg (s : State) (k : Nat) (f : Cmd → Cmd) : (s.updCmd k f).nextMsg = s.nextMsg := rfl
@[simp] theorem State.updCmd_inMsgs (s : State) (k : Nat) (f : Cmd → Cmd) : (s.updCmd k f).inMsgs = s.inMsgs := rfl
@[simp] theorem State.updCmd_mctpIn (s : State) (k : Nat) (f : Cmd → Cmd) : (s.updCmd k f).mctpIn = s.mctpIn := rfl
@[simp] theorem State.updCmd_colls (s : State) (k : Nat) (f : Cmd → Cmd) : (s.updCmd k f).colls = s.colls := rfl
@[simp] theorem State.updCmd_acc (s : State) (k : Nat) (f : Cmd → Cmd) : (s.updCmd k f).acc = s.acc := rfl
@[simp] theorem State.updCmd_routes (s : State) (k : Nat) (f : Cmd → Cmd) : (s.updCmd k f).routes = s.routes := rfl
@[simp] theorem State.updCmd_ceLogged (s : State) (k : Nat) (f : Cmd → Cmd) : (s.updCmd k f).ceLogged = s.ceLogged := rfl
@[simp] theorem State.updCmd_berths (s : State) (k : Nat) (f : Cmd → Cmd) : (s.updCmd k f).berths = s.berths := rfl
@[simp] theorem State.updCmd_tables (s : State) (k : Nat) (f : Cmd → Cmd) : (s.updCmd k f).tables = s.tables := rfl
@[simp] theorem State.updCmd_tabLoads (s : State) (k : Nat) (f : Cmd → Cmd) : (s.updCmd k f).tabLoads = s.tabLoads := rfl
@[simp] theorem State.updCmd_tabRetire (s : State) (k : Nat) (f : Cmd → Cmd) : (s.updCmd k f).tabRetire = s.tabRetire := rfl
@[simp] theorem State.updCmd_tabZero (s : State) (k : Nat) (f : Cmd → Cmd) : (s.updCmd k f).tabZero = s.tabZero := rfl
@[simp] theorem State.updCmd_rgenPend (s : State) (k : Nat) (f : Cmd → Cmd) : (s.updCmd k f).rgenPend = s.rgenPend := rfl
@[simp] theorem State.updCmd_coded (s : State) (k : Nat) (f : Cmd → Cmd) : (s.updCmd k f).coded = s.coded := rfl
@[simp] theorem State.updCmd_retag (s : State) (k : Nat) (f : Cmd → Cmd) : (s.updCmd k f).retag = s.retag := rfl
@[simp] theorem State.updCmd_ponts (s : State) (k : Nat) (f : Cmd → Cmd) : (s.updCmd k f).ponts = s.ponts := rfl
@[simp] theorem State.updCmd_softReset (s : State) (k : Nat) (f : Cmd → Cmd) : (s.updCmd k f).softReset = s.softReset := rfl
@[simp] theorem State.updCmd_out (s : State) (k : Nat) (f : Cmd → Cmd) : (s.updCmd k f).out = s.out := rfl
@[simp] theorem State.updCmd_looseFrom (s : State) (k : Nat) (f : Cmd → Cmd) : (s.updCmd k f).looseFrom = s.looseFrom := rfl
@[simp] theorem State.updCmd_aplic (s : State) (k : Nat) (f : Cmd → Cmd) : (s.updCmd k f).aplic = s.aplic := rfl
@[simp] theorem State.updCmd_scrubbed (s : State) (k : Nat) (f : Cmd → Cmd) : (s.updCmd k f).scrubbed = s.scrubbed := rfl
@[simp] theorem State.updCmd_busCycle (s : State) (k : Nat) (f : Cmd → Cmd) : (s.updCmd k f).busCycle = s.busCycle := rfl
@[simp] theorem State.updCmd_collRest (s : State) (k : Nat) (f : Cmd → Cmd) : (s.updCmd k f).collRest = s.collRest := rfl
@[simp] theorem State.updCmd_free (s : State) (k : Nat) (f : Cmd → Cmd) : (s.updCmd k f).free = s.free := rfl
@[simp] theorem State.updCmd_reg (s : State) (k : Nat) (f : Cmd → Cmd) (jk : Nat) : (s.updCmd k f).reg jk = s.reg jk := rfl
@[simp] theorem State.updCmd_regN (s : State) (k : Nat) (f : Cmd → Cmd) (jk : Nat) : (s.updCmd k f).regN jk = s.regN jk := rfl
@[simp] theorem State.updCmd_field (s : State) (k : Nat) (f : Cmd → Cmd) (jk h l : Nat) : (s.updCmd k f).field jk h l = s.field jk h l := rfl
@[simp] theorem State.updCmd_core (s : State) (k : Nat) (f : Cmd → Cmd) (jk : Nat) : (s.updCmd k f).core jk = s.core jk := rfl
@[simp] theorem State.updCmd_rd8 (s : State) (k : Nat) (f : Cmd → Cmd) (jk : Nat) : (s.updCmd k f).rd8 jk = s.rd8 jk := rfl
@[simp] theorem State.updCmd_poisoned (s : State) (k : Nat) (f : Cmd → Cmd) (jk : Nat) : (s.updCmd k f).poisoned jk = s.poisoned jk := rfl
@[simp] theorem State.updCmd_port (s : State) (k : Nat) (f : Cmd → Cmd) (jk : Nat) : (s.updCmd k f).port jk = s.port jk := rfl
@[simp] theorem State.updCmd_queue (s : State) (k : Nat) (f : Cmd → Cmd) (jk : Nat) : (s.updCmd k f).queue jk = s.queue jk := rfl
@[simp] theorem State.updCmd_server (s : State) (k : Nat) (f : Cmd → Cmd) (jk : Nat) : (s.updCmd k f).server jk = s.server jk := rfl
@[simp] theorem State.updCmd_now (s : State) (k : Nat) (f : Cmd → Cmd) : (s.updCmd k f).now = s.now := rfl
@[simp] theorem State.updCmd_tide (s : State) (k : Nat) (f : Cmd → Cmd) : (s.updCmd k f).tide = s.tide := rfl

/-! ### `State.ev` -/

@[simp] theorem State.ev_pending (s : State) (f : TideEv → TideEv) : (s.ev f).pending = s.pending := rfl
@[simp] theorem State.ev_regs (s : State) (f : TideEv → TideEv) : (s.ev f).regs = s.regs := rfl
@[simp] theorem State.ev_busRead (s : State) (f : TideEv → TideEv) : (s.ev f).busRead = s.busRead := rfl
@[simp] theorem State.ev_rdData (s : State) (f : TideEv → TideEv) : (s.ev f).rdData = s.rdData := rfl
@[simp] theorem State.ev_rdPoison (s : State) (f : TideEv → TideEv) : (s.ev f).rdPoison = s.rdPoison := rfl
@[simp] theorem State.ev_rdError (s : State) (f : TideEv → TideEv) : (s.ev f).rdError = s.rdError := rfl
@[simp] theorem State.ev_latches (s : State) (f : TideEv → TideEv) : (s.ev f).latches = s.latches := rfl
@[simp] theorem State.ev_mem (s : State) (f : TideEv → TideEv) : (s.ev f).mem = s.mem := rfl
@[simp] theorem State.ev_poison (s : State) (f : TideEv → TideEv) : (s.ev f).poison = s.poison := rfl
@[simp] theorem State.ev_tick (s : State) (f : TideEv → TideEv) : (s.ev f).tick = s.tick := rfl
@[simp] theorem State.ev_cores (s : State) (f : TideEv → TideEv) : (s.ev f).cores = s.cores := rfl
@[simp] theorem State.ev_signals (s : State) (f : TideEv → TideEv) : (s.ev f).signals = s.signals := rfl
@[simp] theorem State.ev_cmds (s : State) (f : TideEv → TideEv) : (s.ev f).cmds = s.cmds := rfl
@[simp] theorem State.ev_nextCmd (s : State) (f : TideEv → TideEv) : (s.ev f).nextCmd = s.nextCmd := rfl
@[simp] theorem State.ev_queues (s : State) (f : TideEv → TideEv) : (s.ev f).queues = s.queues := rfl
@[simp] theorem State.ev_heldLog (s : State) (f : TideEv → TideEv) : (s.ev f).heldLog = s.heldLog := rfl
@[simp] theorem State.ev_queries (s : State) (f : TideEv → TideEv) : (s.ev f).queries = s.queries := rfl
@[simp] theorem State.ev_pcie (s : State) (f : TideEv → TideEv) : (s.ev f).pcie = s.pcie := rfl
@[simp] theorem State.ev_coh (s : State) (f : TideEv → TideEv) : (s.ev f).coh = s.coh := rfl
@[simp] theorem State.ev_servers (s : State) (f : TideEv → TideEv) : (s.ev f).servers = s.servers := rfl
@[simp] theorem State.ev_upd (s : State) (f : TideEv → TideEv) : (s.ev f).upd = s.upd := rfl
@[simp] theorem State.ev_snap (s : State) (f : TideEv → TideEv) : (s.ev f).snap = s.snap := rfl
@[simp] theorem State.ev_rvs (s : State) (f : TideEv → TideEv) : (s.ev f).rvs = s.rvs := rfl
@[simp] theorem State.ev_ras (s : State) (f : TideEv → TideEv) : (s.ev f).ras = s.ras := rfl
@[simp] theorem State.ev_pwr (s : State) (f : TideEv → TideEv) : (s.ev f).pwr = s.pwr := rfl
@[simp] theorem State.ev_sec (s : State) (f : TideEv → TideEv) : (s.ev f).sec = s.sec := rfl
@[simp] theorem State.ev_mgmt (s : State) (f : TideEv → TideEv) : (s.ev f).mgmt = s.mgmt := rfl
@[simp] theorem State.ev_flash (s : State) (f : TideEv → TideEv) : (s.ev f).flash = s.flash := rfl
@[simp] theorem State.ev_ports (s : State) (f : TideEv → TideEv) : (s.ev f).ports = s.ports := rfl
@[simp] theorem State.ev_msgs (s : State) (f : TideEv → TideEv) : (s.ev f).msgs = s.msgs := rfl
@[simp] theorem State.ev_nextMsg (s : State) (f : TideEv → TideEv) : (s.ev f).nextMsg = s.nextMsg := rfl
@[simp] theorem State.ev_inMsgs (s : State) (f : TideEv → TideEv) : (s.ev f).inMsgs = s.inMsgs := rfl
@[simp] theorem State.ev_mctpIn (s : State) (f : TideEv → TideEv) : (s.ev f).mctpIn = s.mctpIn := rfl
@[simp] theorem State.ev_colls (s : State) (f : TideEv → TideEv) : (s.ev f).colls = s.colls := rfl
@[simp] theorem State.ev_acc (s : State) (f : TideEv → TideEv) : (s.ev f).acc = s.acc := rfl
@[simp] theorem State.ev_routes (s : State) (f : TideEv → TideEv) : (s.ev f).routes = s.routes := rfl
@[simp] theorem State.ev_ceLogged (s : State) (f : TideEv → TideEv) : (s.ev f).ceLogged = s.ceLogged := rfl
@[simp] theorem State.ev_berths (s : State) (f : TideEv → TideEv) : (s.ev f).berths = s.berths := rfl
@[simp] theorem State.ev_tables (s : State) (f : TideEv → TideEv) : (s.ev f).tables = s.tables := rfl
@[simp] theorem State.ev_tabLoads (s : State) (f : TideEv → TideEv) : (s.ev f).tabLoads = s.tabLoads := rfl
@[simp] theorem State.ev_tabRetire (s : State) (f : TideEv → TideEv) : (s.ev f).tabRetire = s.tabRetire := rfl
@[simp] theorem State.ev_tabZero (s : State) (f : TideEv → TideEv) : (s.ev f).tabZero = s.tabZero := rfl
@[simp] theorem State.ev_rgenPend (s : State) (f : TideEv → TideEv) : (s.ev f).rgenPend = s.rgenPend := rfl
@[simp] theorem State.ev_coded (s : State) (f : TideEv → TideEv) : (s.ev f).coded = s.coded := rfl
@[simp] theorem State.ev_retag (s : State) (f : TideEv → TideEv) : (s.ev f).retag = s.retag := rfl
@[simp] theorem State.ev_ponts (s : State) (f : TideEv → TideEv) : (s.ev f).ponts = s.ponts := rfl
@[simp] theorem State.ev_softReset (s : State) (f : TideEv → TideEv) : (s.ev f).softReset = s.softReset := rfl
@[simp] theorem State.ev_out (s : State) (f : TideEv → TideEv) : (s.ev f).out = s.out := rfl
@[simp] theorem State.ev_looseFrom (s : State) (f : TideEv → TideEv) : (s.ev f).looseFrom = s.looseFrom := rfl
@[simp] theorem State.ev_aplic (s : State) (f : TideEv → TideEv) : (s.ev f).aplic = s.aplic := rfl
@[simp] theorem State.ev_scrubbed (s : State) (f : TideEv → TideEv) : (s.ev f).scrubbed = s.scrubbed := rfl
@[simp] theorem State.ev_busCycle (s : State) (f : TideEv → TideEv) : (s.ev f).busCycle = s.busCycle := rfl
@[simp] theorem State.ev_collRest (s : State) (f : TideEv → TideEv) : (s.ev f).collRest = s.collRest := rfl
@[simp] theorem State.ev_free (s : State) (f : TideEv → TideEv) : (s.ev f).free = s.free := rfl
@[simp] theorem State.ev_reg (s : State) (f : TideEv → TideEv) (k : Nat) : (s.ev f).reg k = s.reg k := rfl
@[simp] theorem State.ev_regN (s : State) (f : TideEv → TideEv) (k : Nat) : (s.ev f).regN k = s.regN k := rfl
@[simp] theorem State.ev_field (s : State) (f : TideEv → TideEv) (k h l : Nat) : (s.ev f).field k h l = s.field k h l := rfl
@[simp] theorem State.ev_core (s : State) (f : TideEv → TideEv) (k : Nat) : (s.ev f).core k = s.core k := rfl
@[simp] theorem State.ev_rd8 (s : State) (f : TideEv → TideEv) (k : Nat) : (s.ev f).rd8 k = s.rd8 k := rfl
@[simp] theorem State.ev_poisoned (s : State) (f : TideEv → TideEv) (k : Nat) : (s.ev f).poisoned k = s.poisoned k := rfl
@[simp] theorem State.ev_port (s : State) (f : TideEv → TideEv) (k : Nat) : (s.ev f).port k = s.port k := rfl
@[simp] theorem State.ev_queue (s : State) (f : TideEv → TideEv) (k : Nat) : (s.ev f).queue k = s.queue k := rfl
@[simp] theorem State.ev_server (s : State) (f : TideEv → TideEv) (k : Nat) : (s.ev f).server k = s.server k := rfl
@[simp] theorem State.ev_now (s : State) (f : TideEv → TideEv) : (s.ev f).now = s.now := rfl
@[simp] theorem State.ev_tide (s : State) (f : TideEv → TideEv) : (s.ev f).tide = s.tide := rfl

/-! ### `State.send` -/

@[simp] theorem State.send_pending (s : State) (m : OutMsg) : (s.send m).pending = s.pending := rfl
@[simp] theorem State.send_regs (s : State) (m : OutMsg) : (s.send m).regs = s.regs := rfl
@[simp] theorem State.send_busRead (s : State) (m : OutMsg) : (s.send m).busRead = s.busRead := rfl
@[simp] theorem State.send_rdData (s : State) (m : OutMsg) : (s.send m).rdData = s.rdData := rfl
@[simp] theorem State.send_rdPoison (s : State) (m : OutMsg) : (s.send m).rdPoison = s.rdPoison := rfl
@[simp] theorem State.send_rdError (s : State) (m : OutMsg) : (s.send m).rdError = s.rdError := rfl
@[simp] theorem State.send_latches (s : State) (m : OutMsg) : (s.send m).latches = s.latches := rfl
@[simp] theorem State.send_mem (s : State) (m : OutMsg) : (s.send m).mem = s.mem := rfl
@[simp] theorem State.send_poison (s : State) (m : OutMsg) : (s.send m).poison = s.poison := rfl
@[simp] theorem State.send_tick (s : State) (m : OutMsg) : (s.send m).tick = s.tick := rfl
@[simp] theorem State.send_cores (s : State) (m : OutMsg) : (s.send m).cores = s.cores := rfl
@[simp] theorem State.send_signals (s : State) (m : OutMsg) : (s.send m).signals = s.signals := rfl
@[simp] theorem State.send_cmds (s : State) (m : OutMsg) : (s.send m).cmds = s.cmds := rfl
@[simp] theorem State.send_nextCmd (s : State) (m : OutMsg) : (s.send m).nextCmd = s.nextCmd := rfl
@[simp] theorem State.send_queues (s : State) (m : OutMsg) : (s.send m).queues = s.queues := rfl
@[simp] theorem State.send_heldLog (s : State) (m : OutMsg) : (s.send m).heldLog = s.heldLog := rfl
@[simp] theorem State.send_queries (s : State) (m : OutMsg) : (s.send m).queries = s.queries := rfl
@[simp] theorem State.send_pcie (s : State) (m : OutMsg) : (s.send m).pcie = s.pcie := rfl
@[simp] theorem State.send_coh (s : State) (m : OutMsg) : (s.send m).coh = s.coh := rfl
@[simp] theorem State.send_servers (s : State) (m : OutMsg) : (s.send m).servers = s.servers := rfl
@[simp] theorem State.send_upd (s : State) (m : OutMsg) : (s.send m).upd = s.upd := rfl
@[simp] theorem State.send_snap (s : State) (m : OutMsg) : (s.send m).snap = s.snap := rfl
@[simp] theorem State.send_rvs (s : State) (m : OutMsg) : (s.send m).rvs = s.rvs := rfl
@[simp] theorem State.send_ras (s : State) (m : OutMsg) : (s.send m).ras = s.ras := rfl
@[simp] theorem State.send_pwr (s : State) (m : OutMsg) : (s.send m).pwr = s.pwr := rfl
@[simp] theorem State.send_age (s : State) (m : OutMsg) : (s.send m).age = s.age := rfl
@[simp] theorem State.send_sec (s : State) (m : OutMsg) : (s.send m).sec = s.sec := rfl
@[simp] theorem State.send_mgmt (s : State) (m : OutMsg) : (s.send m).mgmt = s.mgmt := rfl
@[simp] theorem State.send_flash (s : State) (m : OutMsg) : (s.send m).flash = s.flash := rfl
@[simp] theorem State.send_ports (s : State) (m : OutMsg) : (s.send m).ports = s.ports := rfl
@[simp] theorem State.send_msgs (s : State) (m : OutMsg) : (s.send m).msgs = s.msgs := rfl
@[simp] theorem State.send_nextMsg (s : State) (m : OutMsg) : (s.send m).nextMsg = s.nextMsg := rfl
@[simp] theorem State.send_inMsgs (s : State) (m : OutMsg) : (s.send m).inMsgs = s.inMsgs := rfl
@[simp] theorem State.send_mctpIn (s : State) (m : OutMsg) : (s.send m).mctpIn = s.mctpIn := rfl
@[simp] theorem State.send_colls (s : State) (m : OutMsg) : (s.send m).colls = s.colls := rfl
@[simp] theorem State.send_acc (s : State) (m : OutMsg) : (s.send m).acc = s.acc := rfl
@[simp] theorem State.send_routes (s : State) (m : OutMsg) : (s.send m).routes = s.routes := rfl
@[simp] theorem State.send_ceLogged (s : State) (m : OutMsg) : (s.send m).ceLogged = s.ceLogged := rfl
@[simp] theorem State.send_berths (s : State) (m : OutMsg) : (s.send m).berths = s.berths := rfl
@[simp] theorem State.send_tables (s : State) (m : OutMsg) : (s.send m).tables = s.tables := rfl
@[simp] theorem State.send_tabLoads (s : State) (m : OutMsg) : (s.send m).tabLoads = s.tabLoads := rfl
@[simp] theorem State.send_tabRetire (s : State) (m : OutMsg) : (s.send m).tabRetire = s.tabRetire := rfl
@[simp] theorem State.send_tabZero (s : State) (m : OutMsg) : (s.send m).tabZero = s.tabZero := rfl
@[simp] theorem State.send_rgenPend (s : State) (m : OutMsg) : (s.send m).rgenPend = s.rgenPend := rfl
@[simp] theorem State.send_coded (s : State) (m : OutMsg) : (s.send m).coded = s.coded := rfl
@[simp] theorem State.send_retag (s : State) (m : OutMsg) : (s.send m).retag = s.retag := rfl
@[simp] theorem State.send_ponts (s : State) (m : OutMsg) : (s.send m).ponts = s.ponts := rfl
@[simp] theorem State.send_softReset (s : State) (m : OutMsg) : (s.send m).softReset = s.softReset := rfl
@[simp] theorem State.send_looseFrom (s : State) (m : OutMsg) : (s.send m).looseFrom = s.looseFrom := rfl
@[simp] theorem State.send_aplic (s : State) (m : OutMsg) : (s.send m).aplic = s.aplic := rfl
@[simp] theorem State.send_scrubbed (s : State) (m : OutMsg) : (s.send m).scrubbed = s.scrubbed := rfl
@[simp] theorem State.send_busCycle (s : State) (m : OutMsg) : (s.send m).busCycle = s.busCycle := rfl
@[simp] theorem State.send_collRest (s : State) (m : OutMsg) : (s.send m).collRest = s.collRest := rfl
@[simp] theorem State.send_free (s : State) (m : OutMsg) : (s.send m).free = s.free := rfl
@[simp] theorem State.send_reg (s : State) (m : OutMsg) (k : Nat) : (s.send m).reg k = s.reg k := rfl
@[simp] theorem State.send_regN (s : State) (m : OutMsg) (k : Nat) : (s.send m).regN k = s.regN k := rfl
@[simp] theorem State.send_field (s : State) (m : OutMsg) (k h l : Nat) : (s.send m).field k h l = s.field k h l := rfl
@[simp] theorem State.send_core (s : State) (m : OutMsg) (k : Nat) : (s.send m).core k = s.core k := rfl
@[simp] theorem State.send_rd8 (s : State) (m : OutMsg) (k : Nat) : (s.send m).rd8 k = s.rd8 k := rfl
@[simp] theorem State.send_poisoned (s : State) (m : OutMsg) (k : Nat) : (s.send m).poisoned k = s.poisoned k := rfl
@[simp] theorem State.send_port (s : State) (m : OutMsg) (k : Nat) : (s.send m).port k = s.port k := rfl
@[simp] theorem State.send_queue (s : State) (m : OutMsg) (k : Nat) : (s.send m).queue k = s.queue k := rfl
@[simp] theorem State.send_server (s : State) (m : OutMsg) (k : Nat) : (s.send m).server k = s.server k := rfl
@[simp] theorem State.send_now (s : State) (m : OutMsg) : (s.send m).now = s.now := rfl
@[simp] theorem State.send_tide (s : State) (m : OutMsg) : (s.send m).tide = s.tide := rfl

/-! ### `State.setPort` -/

@[simp] theorem State.setPort_pending (s : State) (p : Nat) (x : PortSt) : (s.setPort p x).pending = s.pending := rfl
@[simp] theorem State.setPort_regs (s : State) (p : Nat) (x : PortSt) : (s.setPort p x).regs = s.regs := rfl
@[simp] theorem State.setPort_busRead (s : State) (p : Nat) (x : PortSt) : (s.setPort p x).busRead = s.busRead := rfl
@[simp] theorem State.setPort_rdData (s : State) (p : Nat) (x : PortSt) : (s.setPort p x).rdData = s.rdData := rfl
@[simp] theorem State.setPort_rdPoison (s : State) (p : Nat) (x : PortSt) : (s.setPort p x).rdPoison = s.rdPoison := rfl
@[simp] theorem State.setPort_rdError (s : State) (p : Nat) (x : PortSt) : (s.setPort p x).rdError = s.rdError := rfl
@[simp] theorem State.setPort_latches (s : State) (p : Nat) (x : PortSt) : (s.setPort p x).latches = s.latches := rfl
@[simp] theorem State.setPort_mem (s : State) (p : Nat) (x : PortSt) : (s.setPort p x).mem = s.mem := rfl
@[simp] theorem State.setPort_poison (s : State) (p : Nat) (x : PortSt) : (s.setPort p x).poison = s.poison := rfl
@[simp] theorem State.setPort_tick (s : State) (p : Nat) (x : PortSt) : (s.setPort p x).tick = s.tick := rfl
@[simp] theorem State.setPort_cores (s : State) (p : Nat) (x : PortSt) : (s.setPort p x).cores = s.cores := rfl
@[simp] theorem State.setPort_signals (s : State) (p : Nat) (x : PortSt) : (s.setPort p x).signals = s.signals := rfl
@[simp] theorem State.setPort_cmds (s : State) (p : Nat) (x : PortSt) : (s.setPort p x).cmds = s.cmds := rfl
@[simp] theorem State.setPort_nextCmd (s : State) (p : Nat) (x : PortSt) : (s.setPort p x).nextCmd = s.nextCmd := rfl
@[simp] theorem State.setPort_queues (s : State) (p : Nat) (x : PortSt) : (s.setPort p x).queues = s.queues := rfl
@[simp] theorem State.setPort_heldLog (s : State) (p : Nat) (x : PortSt) : (s.setPort p x).heldLog = s.heldLog := rfl
@[simp] theorem State.setPort_queries (s : State) (p : Nat) (x : PortSt) : (s.setPort p x).queries = s.queries := rfl
@[simp] theorem State.setPort_pcie (s : State) (p : Nat) (x : PortSt) : (s.setPort p x).pcie = s.pcie := rfl
@[simp] theorem State.setPort_coh (s : State) (p : Nat) (x : PortSt) : (s.setPort p x).coh = s.coh := rfl
@[simp] theorem State.setPort_servers (s : State) (p : Nat) (x : PortSt) : (s.setPort p x).servers = s.servers := rfl
@[simp] theorem State.setPort_upd (s : State) (p : Nat) (x : PortSt) : (s.setPort p x).upd = s.upd := rfl
@[simp] theorem State.setPort_snap (s : State) (p : Nat) (x : PortSt) : (s.setPort p x).snap = s.snap := rfl
@[simp] theorem State.setPort_rvs (s : State) (p : Nat) (x : PortSt) : (s.setPort p x).rvs = s.rvs := rfl
@[simp] theorem State.setPort_ras (s : State) (p : Nat) (x : PortSt) : (s.setPort p x).ras = s.ras := rfl
@[simp] theorem State.setPort_pwr (s : State) (p : Nat) (x : PortSt) : (s.setPort p x).pwr = s.pwr := rfl
@[simp] theorem State.setPort_age (s : State) (p : Nat) (x : PortSt) : (s.setPort p x).age = s.age := rfl
@[simp] theorem State.setPort_sec (s : State) (p : Nat) (x : PortSt) : (s.setPort p x).sec = s.sec := rfl
@[simp] theorem State.setPort_mgmt (s : State) (p : Nat) (x : PortSt) : (s.setPort p x).mgmt = s.mgmt := rfl
@[simp] theorem State.setPort_flash (s : State) (p : Nat) (x : PortSt) : (s.setPort p x).flash = s.flash := rfl
@[simp] theorem State.setPort_msgs (s : State) (p : Nat) (x : PortSt) : (s.setPort p x).msgs = s.msgs := rfl
@[simp] theorem State.setPort_nextMsg (s : State) (p : Nat) (x : PortSt) : (s.setPort p x).nextMsg = s.nextMsg := rfl
@[simp] theorem State.setPort_inMsgs (s : State) (p : Nat) (x : PortSt) : (s.setPort p x).inMsgs = s.inMsgs := rfl
@[simp] theorem State.setPort_mctpIn (s : State) (p : Nat) (x : PortSt) : (s.setPort p x).mctpIn = s.mctpIn := rfl
@[simp] theorem State.setPort_colls (s : State) (p : Nat) (x : PortSt) : (s.setPort p x).colls = s.colls := rfl
@[simp] theorem State.setPort_acc (s : State) (p : Nat) (x : PortSt) : (s.setPort p x).acc = s.acc := rfl
@[simp] theorem State.setPort_routes (s : State) (p : Nat) (x : PortSt) : (s.setPort p x).routes = s.routes := rfl
@[simp] theorem State.setPort_ceLogged (s : State) (p : Nat) (x : PortSt) : (s.setPort p x).ceLogged = s.ceLogged := rfl
@[simp] theorem State.setPort_berths (s : State) (p : Nat) (x : PortSt) : (s.setPort p x).berths = s.berths := rfl
@[simp] theorem State.setPort_tables (s : State) (p : Nat) (x : PortSt) : (s.setPort p x).tables = s.tables := rfl
@[simp] theorem State.setPort_tabLoads (s : State) (p : Nat) (x : PortSt) : (s.setPort p x).tabLoads = s.tabLoads := rfl
@[simp] theorem State.setPort_tabRetire (s : State) (p : Nat) (x : PortSt) : (s.setPort p x).tabRetire = s.tabRetire := rfl
@[simp] theorem State.setPort_tabZero (s : State) (p : Nat) (x : PortSt) : (s.setPort p x).tabZero = s.tabZero := rfl
@[simp] theorem State.setPort_rgenPend (s : State) (p : Nat) (x : PortSt) : (s.setPort p x).rgenPend = s.rgenPend := rfl
@[simp] theorem State.setPort_coded (s : State) (p : Nat) (x : PortSt) : (s.setPort p x).coded = s.coded := rfl
@[simp] theorem State.setPort_retag (s : State) (p : Nat) (x : PortSt) : (s.setPort p x).retag = s.retag := rfl
@[simp] theorem State.setPort_ponts (s : State) (p : Nat) (x : PortSt) : (s.setPort p x).ponts = s.ponts := rfl
@[simp] theorem State.setPort_softReset (s : State) (p : Nat) (x : PortSt) : (s.setPort p x).softReset = s.softReset := rfl
@[simp] theorem State.setPort_out (s : State) (p : Nat) (x : PortSt) : (s.setPort p x).out = s.out := rfl
@[simp] theorem State.setPort_looseFrom (s : State) (p : Nat) (x : PortSt) : (s.setPort p x).looseFrom = s.looseFrom := rfl
@[simp] theorem State.setPort_aplic (s : State) (p : Nat) (x : PortSt) : (s.setPort p x).aplic = s.aplic := rfl
@[simp] theorem State.setPort_scrubbed (s : State) (p : Nat) (x : PortSt) : (s.setPort p x).scrubbed = s.scrubbed := rfl
@[simp] theorem State.setPort_busCycle (s : State) (p : Nat) (x : PortSt) : (s.setPort p x).busCycle = s.busCycle := rfl
@[simp] theorem State.setPort_collRest (s : State) (p : Nat) (x : PortSt) : (s.setPort p x).collRest = s.collRest := rfl
@[simp] theorem State.setPort_free (s : State) (p : Nat) (x : PortSt) : (s.setPort p x).free = s.free := rfl
@[simp] theorem State.setPort_reg (s : State) (p : Nat) (x : PortSt) (k : Nat) : (s.setPort p x).reg k = s.reg k := rfl
@[simp] theorem State.setPort_regN (s : State) (p : Nat) (x : PortSt) (k : Nat) : (s.setPort p x).regN k = s.regN k := rfl
@[simp] theorem State.setPort_field (s : State) (p : Nat) (x : PortSt) (k h l : Nat) : (s.setPort p x).field k h l = s.field k h l := rfl
@[simp] theorem State.setPort_core (s : State) (p : Nat) (x : PortSt) (k : Nat) : (s.setPort p x).core k = s.core k := rfl
@[simp] theorem State.setPort_rd8 (s : State) (p : Nat) (x : PortSt) (k : Nat) : (s.setPort p x).rd8 k = s.rd8 k := rfl
@[simp] theorem State.setPort_poisoned (s : State) (p : Nat) (x : PortSt) (k : Nat) : (s.setPort p x).poisoned k = s.poisoned k := rfl
@[simp] theorem State.setPort_queue (s : State) (p : Nat) (x : PortSt) (k : Nat) : (s.setPort p x).queue k = s.queue k := rfl
@[simp] theorem State.setPort_server (s : State) (p : Nat) (x : PortSt) (k : Nat) : (s.setPort p x).server k = s.server k := rfl
@[simp] theorem State.setPort_now (s : State) (p : Nat) (x : PortSt) : (s.setPort p x).now = s.now := rfl
@[simp] theorem State.setPort_tide (s : State) (p : Nat) (x : PortSt) : (s.setPort p x).tide = s.tide := rfl

/-! ### `State.setQueue` -/

@[simp] theorem State.setQueue_pending (s : State) (q : Nat) (x : QueueSt) : (s.setQueue q x).pending = s.pending := rfl
@[simp] theorem State.setQueue_regs (s : State) (q : Nat) (x : QueueSt) : (s.setQueue q x).regs = s.regs := rfl
@[simp] theorem State.setQueue_busRead (s : State) (q : Nat) (x : QueueSt) : (s.setQueue q x).busRead = s.busRead := rfl
@[simp] theorem State.setQueue_rdData (s : State) (q : Nat) (x : QueueSt) : (s.setQueue q x).rdData = s.rdData := rfl
@[simp] theorem State.setQueue_rdPoison (s : State) (q : Nat) (x : QueueSt) : (s.setQueue q x).rdPoison = s.rdPoison := rfl
@[simp] theorem State.setQueue_rdError (s : State) (q : Nat) (x : QueueSt) : (s.setQueue q x).rdError = s.rdError := rfl
@[simp] theorem State.setQueue_latches (s : State) (q : Nat) (x : QueueSt) : (s.setQueue q x).latches = s.latches := rfl
@[simp] theorem State.setQueue_mem (s : State) (q : Nat) (x : QueueSt) : (s.setQueue q x).mem = s.mem := rfl
@[simp] theorem State.setQueue_poison (s : State) (q : Nat) (x : QueueSt) : (s.setQueue q x).poison = s.poison := rfl
@[simp] theorem State.setQueue_tick (s : State) (q : Nat) (x : QueueSt) : (s.setQueue q x).tick = s.tick := rfl
@[simp] theorem State.setQueue_cores (s : State) (q : Nat) (x : QueueSt) : (s.setQueue q x).cores = s.cores := rfl
@[simp] theorem State.setQueue_signals (s : State) (q : Nat) (x : QueueSt) : (s.setQueue q x).signals = s.signals := rfl
@[simp] theorem State.setQueue_cmds (s : State) (q : Nat) (x : QueueSt) : (s.setQueue q x).cmds = s.cmds := rfl
@[simp] theorem State.setQueue_nextCmd (s : State) (q : Nat) (x : QueueSt) : (s.setQueue q x).nextCmd = s.nextCmd := rfl
@[simp] theorem State.setQueue_heldLog (s : State) (q : Nat) (x : QueueSt) : (s.setQueue q x).heldLog = s.heldLog := rfl
@[simp] theorem State.setQueue_queries (s : State) (q : Nat) (x : QueueSt) : (s.setQueue q x).queries = s.queries := rfl
@[simp] theorem State.setQueue_pcie (s : State) (q : Nat) (x : QueueSt) : (s.setQueue q x).pcie = s.pcie := rfl
@[simp] theorem State.setQueue_coh (s : State) (q : Nat) (x : QueueSt) : (s.setQueue q x).coh = s.coh := rfl
@[simp] theorem State.setQueue_servers (s : State) (q : Nat) (x : QueueSt) : (s.setQueue q x).servers = s.servers := rfl
@[simp] theorem State.setQueue_upd (s : State) (q : Nat) (x : QueueSt) : (s.setQueue q x).upd = s.upd := rfl
@[simp] theorem State.setQueue_snap (s : State) (q : Nat) (x : QueueSt) : (s.setQueue q x).snap = s.snap := rfl
@[simp] theorem State.setQueue_rvs (s : State) (q : Nat) (x : QueueSt) : (s.setQueue q x).rvs = s.rvs := rfl
@[simp] theorem State.setQueue_ras (s : State) (q : Nat) (x : QueueSt) : (s.setQueue q x).ras = s.ras := rfl
@[simp] theorem State.setQueue_pwr (s : State) (q : Nat) (x : QueueSt) : (s.setQueue q x).pwr = s.pwr := rfl
@[simp] theorem State.setQueue_age (s : State) (q : Nat) (x : QueueSt) : (s.setQueue q x).age = s.age := rfl
@[simp] theorem State.setQueue_sec (s : State) (q : Nat) (x : QueueSt) : (s.setQueue q x).sec = s.sec := rfl
@[simp] theorem State.setQueue_mgmt (s : State) (q : Nat) (x : QueueSt) : (s.setQueue q x).mgmt = s.mgmt := rfl
@[simp] theorem State.setQueue_flash (s : State) (q : Nat) (x : QueueSt) : (s.setQueue q x).flash = s.flash := rfl
@[simp] theorem State.setQueue_ports (s : State) (q : Nat) (x : QueueSt) : (s.setQueue q x).ports = s.ports := rfl
@[simp] theorem State.setQueue_msgs (s : State) (q : Nat) (x : QueueSt) : (s.setQueue q x).msgs = s.msgs := rfl
@[simp] theorem State.setQueue_nextMsg (s : State) (q : Nat) (x : QueueSt) : (s.setQueue q x).nextMsg = s.nextMsg := rfl
@[simp] theorem State.setQueue_inMsgs (s : State) (q : Nat) (x : QueueSt) : (s.setQueue q x).inMsgs = s.inMsgs := rfl
@[simp] theorem State.setQueue_mctpIn (s : State) (q : Nat) (x : QueueSt) : (s.setQueue q x).mctpIn = s.mctpIn := rfl
@[simp] theorem State.setQueue_colls (s : State) (q : Nat) (x : QueueSt) : (s.setQueue q x).colls = s.colls := rfl
@[simp] theorem State.setQueue_acc (s : State) (q : Nat) (x : QueueSt) : (s.setQueue q x).acc = s.acc := rfl
@[simp] theorem State.setQueue_routes (s : State) (q : Nat) (x : QueueSt) : (s.setQueue q x).routes = s.routes := rfl
@[simp] theorem State.setQueue_ceLogged (s : State) (q : Nat) (x : QueueSt) : (s.setQueue q x).ceLogged = s.ceLogged := rfl
@[simp] theorem State.setQueue_berths (s : State) (q : Nat) (x : QueueSt) : (s.setQueue q x).berths = s.berths := rfl
@[simp] theorem State.setQueue_tables (s : State) (q : Nat) (x : QueueSt) : (s.setQueue q x).tables = s.tables := rfl
@[simp] theorem State.setQueue_tabLoads (s : State) (q : Nat) (x : QueueSt) : (s.setQueue q x).tabLoads = s.tabLoads := rfl
@[simp] theorem State.setQueue_tabRetire (s : State) (q : Nat) (x : QueueSt) : (s.setQueue q x).tabRetire = s.tabRetire := rfl
@[simp] theorem State.setQueue_tabZero (s : State) (q : Nat) (x : QueueSt) : (s.setQueue q x).tabZero = s.tabZero := rfl
@[simp] theorem State.setQueue_rgenPend (s : State) (q : Nat) (x : QueueSt) : (s.setQueue q x).rgenPend = s.rgenPend := rfl
@[simp] theorem State.setQueue_coded (s : State) (q : Nat) (x : QueueSt) : (s.setQueue q x).coded = s.coded := rfl
@[simp] theorem State.setQueue_retag (s : State) (q : Nat) (x : QueueSt) : (s.setQueue q x).retag = s.retag := rfl
@[simp] theorem State.setQueue_ponts (s : State) (q : Nat) (x : QueueSt) : (s.setQueue q x).ponts = s.ponts := rfl
@[simp] theorem State.setQueue_softReset (s : State) (q : Nat) (x : QueueSt) : (s.setQueue q x).softReset = s.softReset := rfl
@[simp] theorem State.setQueue_out (s : State) (q : Nat) (x : QueueSt) : (s.setQueue q x).out = s.out := rfl
@[simp] theorem State.setQueue_looseFrom (s : State) (q : Nat) (x : QueueSt) : (s.setQueue q x).looseFrom = s.looseFrom := rfl
@[simp] theorem State.setQueue_aplic (s : State) (q : Nat) (x : QueueSt) : (s.setQueue q x).aplic = s.aplic := rfl
@[simp] theorem State.setQueue_scrubbed (s : State) (q : Nat) (x : QueueSt) : (s.setQueue q x).scrubbed = s.scrubbed := rfl
@[simp] theorem State.setQueue_busCycle (s : State) (q : Nat) (x : QueueSt) : (s.setQueue q x).busCycle = s.busCycle := rfl
@[simp] theorem State.setQueue_collRest (s : State) (q : Nat) (x : QueueSt) : (s.setQueue q x).collRest = s.collRest := rfl
@[simp] theorem State.setQueue_free (s : State) (q : Nat) (x : QueueSt) : (s.setQueue q x).free = s.free := rfl
@[simp] theorem State.setQueue_reg (s : State) (q : Nat) (x : QueueSt) (k : Nat) : (s.setQueue q x).reg k = s.reg k := rfl
@[simp] theorem State.setQueue_regN (s : State) (q : Nat) (x : QueueSt) (k : Nat) : (s.setQueue q x).regN k = s.regN k := rfl
@[simp] theorem State.setQueue_field (s : State) (q : Nat) (x : QueueSt) (k h l : Nat) : (s.setQueue q x).field k h l = s.field k h l := rfl
@[simp] theorem State.setQueue_core (s : State) (q : Nat) (x : QueueSt) (k : Nat) : (s.setQueue q x).core k = s.core k := rfl
@[simp] theorem State.setQueue_rd8 (s : State) (q : Nat) (x : QueueSt) (k : Nat) : (s.setQueue q x).rd8 k = s.rd8 k := rfl
@[simp] theorem State.setQueue_poisoned (s : State) (q : Nat) (x : QueueSt) (k : Nat) : (s.setQueue q x).poisoned k = s.poisoned k := rfl
@[simp] theorem State.setQueue_port (s : State) (q : Nat) (x : QueueSt) (k : Nat) : (s.setQueue q x).port k = s.port k := rfl
@[simp] theorem State.setQueue_server (s : State) (q : Nat) (x : QueueSt) (k : Nat) : (s.setQueue q x).server k = s.server k := rfl
@[simp] theorem State.setQueue_now (s : State) (q : Nat) (x : QueueSt) : (s.setQueue q x).now = s.now := rfl
@[simp] theorem State.setQueue_tide (s : State) (q : Nat) (x : QueueSt) : (s.setQueue q x).tide = s.tide := rfl

/-! ### `State.setServer` -/

@[simp] theorem State.setServer_pending (s : State) (k : Nat) (x : SrvSt) : (s.setServer k x).pending = s.pending := rfl
@[simp] theorem State.setServer_regs (s : State) (k : Nat) (x : SrvSt) : (s.setServer k x).regs = s.regs := rfl
@[simp] theorem State.setServer_busRead (s : State) (k : Nat) (x : SrvSt) : (s.setServer k x).busRead = s.busRead := rfl
@[simp] theorem State.setServer_rdData (s : State) (k : Nat) (x : SrvSt) : (s.setServer k x).rdData = s.rdData := rfl
@[simp] theorem State.setServer_rdPoison (s : State) (k : Nat) (x : SrvSt) : (s.setServer k x).rdPoison = s.rdPoison := rfl
@[simp] theorem State.setServer_rdError (s : State) (k : Nat) (x : SrvSt) : (s.setServer k x).rdError = s.rdError := rfl
@[simp] theorem State.setServer_latches (s : State) (k : Nat) (x : SrvSt) : (s.setServer k x).latches = s.latches := rfl
@[simp] theorem State.setServer_mem (s : State) (k : Nat) (x : SrvSt) : (s.setServer k x).mem = s.mem := rfl
@[simp] theorem State.setServer_poison (s : State) (k : Nat) (x : SrvSt) : (s.setServer k x).poison = s.poison := rfl
@[simp] theorem State.setServer_tick (s : State) (k : Nat) (x : SrvSt) : (s.setServer k x).tick = s.tick := rfl
@[simp] theorem State.setServer_cores (s : State) (k : Nat) (x : SrvSt) : (s.setServer k x).cores = s.cores := rfl
@[simp] theorem State.setServer_signals (s : State) (k : Nat) (x : SrvSt) : (s.setServer k x).signals = s.signals := rfl
@[simp] theorem State.setServer_cmds (s : State) (k : Nat) (x : SrvSt) : (s.setServer k x).cmds = s.cmds := rfl
@[simp] theorem State.setServer_nextCmd (s : State) (k : Nat) (x : SrvSt) : (s.setServer k x).nextCmd = s.nextCmd := rfl
@[simp] theorem State.setServer_queues (s : State) (k : Nat) (x : SrvSt) : (s.setServer k x).queues = s.queues := rfl
@[simp] theorem State.setServer_heldLog (s : State) (k : Nat) (x : SrvSt) : (s.setServer k x).heldLog = s.heldLog := rfl
@[simp] theorem State.setServer_queries (s : State) (k : Nat) (x : SrvSt) : (s.setServer k x).queries = s.queries := rfl
@[simp] theorem State.setServer_pcie (s : State) (k : Nat) (x : SrvSt) : (s.setServer k x).pcie = s.pcie := rfl
@[simp] theorem State.setServer_coh (s : State) (k : Nat) (x : SrvSt) : (s.setServer k x).coh = s.coh := rfl
@[simp] theorem State.setServer_upd (s : State) (k : Nat) (x : SrvSt) : (s.setServer k x).upd = s.upd := rfl
@[simp] theorem State.setServer_snap (s : State) (k : Nat) (x : SrvSt) : (s.setServer k x).snap = s.snap := rfl
@[simp] theorem State.setServer_rvs (s : State) (k : Nat) (x : SrvSt) : (s.setServer k x).rvs = s.rvs := rfl
@[simp] theorem State.setServer_ras (s : State) (k : Nat) (x : SrvSt) : (s.setServer k x).ras = s.ras := rfl
@[simp] theorem State.setServer_pwr (s : State) (k : Nat) (x : SrvSt) : (s.setServer k x).pwr = s.pwr := rfl
@[simp] theorem State.setServer_age (s : State) (k : Nat) (x : SrvSt) : (s.setServer k x).age = s.age := rfl
@[simp] theorem State.setServer_sec (s : State) (k : Nat) (x : SrvSt) : (s.setServer k x).sec = s.sec := rfl
@[simp] theorem State.setServer_mgmt (s : State) (k : Nat) (x : SrvSt) : (s.setServer k x).mgmt = s.mgmt := rfl
@[simp] theorem State.setServer_flash (s : State) (k : Nat) (x : SrvSt) : (s.setServer k x).flash = s.flash := rfl
@[simp] theorem State.setServer_ports (s : State) (k : Nat) (x : SrvSt) : (s.setServer k x).ports = s.ports := rfl
@[simp] theorem State.setServer_msgs (s : State) (k : Nat) (x : SrvSt) : (s.setServer k x).msgs = s.msgs := rfl
@[simp] theorem State.setServer_nextMsg (s : State) (k : Nat) (x : SrvSt) : (s.setServer k x).nextMsg = s.nextMsg := rfl
@[simp] theorem State.setServer_inMsgs (s : State) (k : Nat) (x : SrvSt) : (s.setServer k x).inMsgs = s.inMsgs := rfl
@[simp] theorem State.setServer_mctpIn (s : State) (k : Nat) (x : SrvSt) : (s.setServer k x).mctpIn = s.mctpIn := rfl
@[simp] theorem State.setServer_colls (s : State) (k : Nat) (x : SrvSt) : (s.setServer k x).colls = s.colls := rfl
@[simp] theorem State.setServer_acc (s : State) (k : Nat) (x : SrvSt) : (s.setServer k x).acc = s.acc := rfl
@[simp] theorem State.setServer_routes (s : State) (k : Nat) (x : SrvSt) : (s.setServer k x).routes = s.routes := rfl
@[simp] theorem State.setServer_ceLogged (s : State) (k : Nat) (x : SrvSt) : (s.setServer k x).ceLogged = s.ceLogged := rfl
@[simp] theorem State.setServer_berths (s : State) (k : Nat) (x : SrvSt) : (s.setServer k x).berths = s.berths := rfl
@[simp] theorem State.setServer_tables (s : State) (k : Nat) (x : SrvSt) : (s.setServer k x).tables = s.tables := rfl
@[simp] theorem State.setServer_tabLoads (s : State) (k : Nat) (x : SrvSt) : (s.setServer k x).tabLoads = s.tabLoads := rfl
@[simp] theorem State.setServer_tabRetire (s : State) (k : Nat) (x : SrvSt) : (s.setServer k x).tabRetire = s.tabRetire := rfl
@[simp] theorem State.setServer_tabZero (s : State) (k : Nat) (x : SrvSt) : (s.setServer k x).tabZero = s.tabZero := rfl
@[simp] theorem State.setServer_rgenPend (s : State) (k : Nat) (x : SrvSt) : (s.setServer k x).rgenPend = s.rgenPend := rfl
@[simp] theorem State.setServer_coded (s : State) (k : Nat) (x : SrvSt) : (s.setServer k x).coded = s.coded := rfl
@[simp] theorem State.setServer_retag (s : State) (k : Nat) (x : SrvSt) : (s.setServer k x).retag = s.retag := rfl
@[simp] theorem State.setServer_ponts (s : State) (k : Nat) (x : SrvSt) : (s.setServer k x).ponts = s.ponts := rfl
@[simp] theorem State.setServer_softReset (s : State) (k : Nat) (x : SrvSt) : (s.setServer k x).softReset = s.softReset := rfl
@[simp] theorem State.setServer_out (s : State) (k : Nat) (x : SrvSt) : (s.setServer k x).out = s.out := rfl
@[simp] theorem State.setServer_looseFrom (s : State) (k : Nat) (x : SrvSt) : (s.setServer k x).looseFrom = s.looseFrom := rfl
@[simp] theorem State.setServer_aplic (s : State) (k : Nat) (x : SrvSt) : (s.setServer k x).aplic = s.aplic := rfl
@[simp] theorem State.setServer_scrubbed (s : State) (k : Nat) (x : SrvSt) : (s.setServer k x).scrubbed = s.scrubbed := rfl
@[simp] theorem State.setServer_busCycle (s : State) (k : Nat) (x : SrvSt) : (s.setServer k x).busCycle = s.busCycle := rfl
@[simp] theorem State.setServer_collRest (s : State) (k : Nat) (x : SrvSt) : (s.setServer k x).collRest = s.collRest := rfl
@[simp] theorem State.setServer_free (s : State) (k : Nat) (x : SrvSt) : (s.setServer k x).free = s.free := rfl
@[simp] theorem State.setServer_reg (s : State) (k : Nat) (x : SrvSt) (jk : Nat) : (s.setServer k x).reg jk = s.reg jk := rfl
@[simp] theorem State.setServer_regN (s : State) (k : Nat) (x : SrvSt) (jk : Nat) : (s.setServer k x).regN jk = s.regN jk := rfl
@[simp] theorem State.setServer_field (s : State) (k : Nat) (x : SrvSt) (jk h l : Nat) : (s.setServer k x).field jk h l = s.field jk h l := rfl
@[simp] theorem State.setServer_core (s : State) (k : Nat) (x : SrvSt) (jk : Nat) : (s.setServer k x).core jk = s.core jk := rfl
@[simp] theorem State.setServer_rd8 (s : State) (k : Nat) (x : SrvSt) (jk : Nat) : (s.setServer k x).rd8 jk = s.rd8 jk := rfl
@[simp] theorem State.setServer_poisoned (s : State) (k : Nat) (x : SrvSt) (jk : Nat) : (s.setServer k x).poisoned jk = s.poisoned jk := rfl
@[simp] theorem State.setServer_port (s : State) (k : Nat) (x : SrvSt) (jk : Nat) : (s.setServer k x).port jk = s.port jk := rfl
@[simp] theorem State.setServer_queue (s : State) (k : Nat) (x : SrvSt) (jk : Nat) : (s.setServer k x).queue jk = s.queue jk := rfl
@[simp] theorem State.setServer_now (s : State) (k : Nat) (x : SrvSt) : (s.setServer k x).now = s.now := rfl
@[simp] theorem State.setServer_tide (s : State) (k : Nat) (x : SrvSt) : (s.setServer k x).tide = s.tide := rfl

/-! ### `State.withPending` -/

@[simp] theorem State.withPending_regs (s : State) (l : List Instr) : (s.withPending l).regs = s.regs := rfl
@[simp] theorem State.withPending_busRead (s : State) (l : List Instr) : (s.withPending l).busRead = s.busRead := rfl
@[simp] theorem State.withPending_rdData (s : State) (l : List Instr) : (s.withPending l).rdData = s.rdData := rfl
@[simp] theorem State.withPending_rdPoison (s : State) (l : List Instr) : (s.withPending l).rdPoison = s.rdPoison := rfl
@[simp] theorem State.withPending_rdError (s : State) (l : List Instr) : (s.withPending l).rdError = s.rdError := rfl
@[simp] theorem State.withPending_latches (s : State) (l : List Instr) : (s.withPending l).latches = s.latches := rfl
@[simp] theorem State.withPending_mem (s : State) (l : List Instr) : (s.withPending l).mem = s.mem := rfl
@[simp] theorem State.withPending_poison (s : State) (l : List Instr) : (s.withPending l).poison = s.poison := rfl
@[simp] theorem State.withPending_tick (s : State) (l : List Instr) : (s.withPending l).tick = s.tick := rfl
@[simp] theorem State.withPending_cores (s : State) (l : List Instr) : (s.withPending l).cores = s.cores := rfl
@[simp] theorem State.withPending_signals (s : State) (l : List Instr) : (s.withPending l).signals = s.signals := rfl
@[simp] theorem State.withPending_cmds (s : State) (l : List Instr) : (s.withPending l).cmds = s.cmds := rfl
@[simp] theorem State.withPending_nextCmd (s : State) (l : List Instr) : (s.withPending l).nextCmd = s.nextCmd := rfl
@[simp] theorem State.withPending_queues (s : State) (l : List Instr) : (s.withPending l).queues = s.queues := rfl
@[simp] theorem State.withPending_heldLog (s : State) (l : List Instr) : (s.withPending l).heldLog = s.heldLog := rfl
@[simp] theorem State.withPending_queries (s : State) (l : List Instr) : (s.withPending l).queries = s.queries := rfl
@[simp] theorem State.withPending_pcie (s : State) (l : List Instr) : (s.withPending l).pcie = s.pcie := rfl
@[simp] theorem State.withPending_coh (s : State) (l : List Instr) : (s.withPending l).coh = s.coh := rfl
@[simp] theorem State.withPending_servers (s : State) (l : List Instr) : (s.withPending l).servers = s.servers := rfl
@[simp] theorem State.withPending_upd (s : State) (l : List Instr) : (s.withPending l).upd = s.upd := rfl
@[simp] theorem State.withPending_snap (s : State) (l : List Instr) : (s.withPending l).snap = s.snap := rfl
@[simp] theorem State.withPending_rvs (s : State) (l : List Instr) : (s.withPending l).rvs = s.rvs := rfl
@[simp] theorem State.withPending_ras (s : State) (l : List Instr) : (s.withPending l).ras = s.ras := rfl
@[simp] theorem State.withPending_pwr (s : State) (l : List Instr) : (s.withPending l).pwr = s.pwr := rfl
@[simp] theorem State.withPending_age (s : State) (l : List Instr) : (s.withPending l).age = s.age := rfl
@[simp] theorem State.withPending_sec (s : State) (l : List Instr) : (s.withPending l).sec = s.sec := rfl
@[simp] theorem State.withPending_mgmt (s : State) (l : List Instr) : (s.withPending l).mgmt = s.mgmt := rfl
@[simp] theorem State.withPending_flash (s : State) (l : List Instr) : (s.withPending l).flash = s.flash := rfl
@[simp] theorem State.withPending_ports (s : State) (l : List Instr) : (s.withPending l).ports = s.ports := rfl
@[simp] theorem State.withPending_msgs (s : State) (l : List Instr) : (s.withPending l).msgs = s.msgs := rfl
@[simp] theorem State.withPending_nextMsg (s : State) (l : List Instr) : (s.withPending l).nextMsg = s.nextMsg := rfl
@[simp] theorem State.withPending_inMsgs (s : State) (l : List Instr) : (s.withPending l).inMsgs = s.inMsgs := rfl
@[simp] theorem State.withPending_mctpIn (s : State) (l : List Instr) : (s.withPending l).mctpIn = s.mctpIn := rfl
@[simp] theorem State.withPending_colls (s : State) (l : List Instr) : (s.withPending l).colls = s.colls := rfl
@[simp] theorem State.withPending_acc (s : State) (l : List Instr) : (s.withPending l).acc = s.acc := rfl
@[simp] theorem State.withPending_routes (s : State) (l : List Instr) : (s.withPending l).routes = s.routes := rfl
@[simp] theorem State.withPending_ceLogged (s : State) (l : List Instr) : (s.withPending l).ceLogged = s.ceLogged := rfl
@[simp] theorem State.withPending_berths (s : State) (l : List Instr) : (s.withPending l).berths = s.berths := rfl
@[simp] theorem State.withPending_tables (s : State) (l : List Instr) : (s.withPending l).tables = s.tables := rfl
@[simp] theorem State.withPending_tabLoads (s : State) (l : List Instr) : (s.withPending l).tabLoads = s.tabLoads := rfl
@[simp] theorem State.withPending_tabRetire (s : State) (l : List Instr) : (s.withPending l).tabRetire = s.tabRetire := rfl
@[simp] theorem State.withPending_tabZero (s : State) (l : List Instr) : (s.withPending l).tabZero = s.tabZero := rfl
@[simp] theorem State.withPending_rgenPend (s : State) (l : List Instr) : (s.withPending l).rgenPend = s.rgenPend := rfl
@[simp] theorem State.withPending_coded (s : State) (l : List Instr) : (s.withPending l).coded = s.coded := rfl
@[simp] theorem State.withPending_retag (s : State) (l : List Instr) : (s.withPending l).retag = s.retag := rfl
@[simp] theorem State.withPending_ponts (s : State) (l : List Instr) : (s.withPending l).ponts = s.ponts := rfl
@[simp] theorem State.withPending_softReset (s : State) (l : List Instr) : (s.withPending l).softReset = s.softReset := rfl
@[simp] theorem State.withPending_out (s : State) (l : List Instr) : (s.withPending l).out = s.out := rfl
@[simp] theorem State.withPending_looseFrom (s : State) (l : List Instr) : (s.withPending l).looseFrom = s.looseFrom := rfl
@[simp] theorem State.withPending_aplic (s : State) (l : List Instr) : (s.withPending l).aplic = s.aplic := rfl
@[simp] theorem State.withPending_scrubbed (s : State) (l : List Instr) : (s.withPending l).scrubbed = s.scrubbed := rfl
@[simp] theorem State.withPending_busCycle (s : State) (l : List Instr) : (s.withPending l).busCycle = s.busCycle := rfl
@[simp] theorem State.withPending_collRest (s : State) (l : List Instr) : (s.withPending l).collRest = s.collRest := rfl
@[simp] theorem State.withPending_free (s : State) (l : List Instr) : (s.withPending l).free = s.free := rfl
@[simp] theorem State.withPending_reg (s : State) (l : List Instr) (k : Nat) : (s.withPending l).reg k = s.reg k := rfl
@[simp] theorem State.withPending_regN (s : State) (l : List Instr) (k : Nat) : (s.withPending l).regN k = s.regN k := rfl
@[simp] theorem State.withPending_field (s : State) (l : List Instr) (k h jl : Nat) : (s.withPending l).field k h jl = s.field k h jl := rfl
@[simp] theorem State.withPending_core (s : State) (l : List Instr) (k : Nat) : (s.withPending l).core k = s.core k := rfl
@[simp] theorem State.withPending_rd8 (s : State) (l : List Instr) (k : Nat) : (s.withPending l).rd8 k = s.rd8 k := rfl
@[simp] theorem State.withPending_poisoned (s : State) (l : List Instr) (k : Nat) : (s.withPending l).poisoned k = s.poisoned k := rfl
@[simp] theorem State.withPending_port (s : State) (l : List Instr) (k : Nat) : (s.withPending l).port k = s.port k := rfl
@[simp] theorem State.withPending_queue (s : State) (l : List Instr) (k : Nat) : (s.withPending l).queue k = s.queue k := rfl
@[simp] theorem State.withPending_server (s : State) (l : List Instr) (k : Nat) : (s.withPending l).server k = s.server k := rfl
@[simp] theorem State.withPending_now (s : State) (l : List Instr) : (s.withPending l).now = s.now := rfl
@[simp] theorem State.withPending_tide (s : State) (l : List Instr) : (s.withPending l).tide = s.tide := rfl

end Sys2Proof.Machine
end

