-- ==== Sys2Proof/Laws/Regs.lean ====
section
/-!
SUPPORT. Laws/Regs.lean: reading a register, a core, a port, a queue, a server or a byte of memory after a write of one.
-/
namespace Sys2Proof.Machine

theorem State.reg_setReg_self {s : State} (w : s.Wf) (o : Nat) (v : DWord) : (s.setReg o v).reg o = v :=
  smGet_set_self w.regs o v

theorem State.reg_setReg_ne (s : State) {o k : Nat} (h : k ≠ o) (v : DWord) : (s.setReg o v).reg k = s.reg k :=
  smGet_set_ne h v

theorem State.reg_setReg {s : State} (w : s.Wf) (o k : Nat) (v : DWord) :
    (s.setReg o v).reg k = if k = o then v else s.reg k := by
  split
  · next e => subst e; exact State.reg_setReg_self w _ _
  · next e => exact State.reg_setReg_ne s e v

theorem State.regN_setRegN_self {s : State} (w : s.Wf) (o v : Nat) : (s.setRegN o v).regN o = v % 2 ^ 64 := by
  rw [State.regN, State.setRegN, State.reg_setReg_self w, BitVec.toNat_ofNat]

theorem State.regN_setRegN_ne (s : State) {o k : Nat} (h : k ≠ o) (v : Nat) : (s.setRegN o v).regN k = s.regN k := by
  rw [State.regN, State.setRegN, State.reg_setReg_ne s h, State.regN]

theorem State.reg_setRegN_ne (s : State) {o k : Nat} (h : k ≠ o) (v : Nat) : (s.setRegN o v).reg k = s.reg k :=
  State.reg_setReg_ne s h _

theorem State.reg_setField_ne (s : State) {o k : Nat} (h : k ≠ o) (hi lo v : Nat) : (s.setField o hi lo v).reg k = s.reg k :=
  State.reg_setReg_ne s h _

theorem State.regN_lt (s : State) (o : Nat) : s.regN o < 2 ^ 64 := (s.reg o).isLt

theorem State.core_setCore_self {s : State} (w : s.Wf) (c : Nat) (x : CoreSt) : (s.setCore c x).core c = x :=
  smGet_set_self w.cores c x

theorem State.core_setCore_ne (s : State) {c k : Nat} (h : k ≠ c) (x : CoreSt) : (s.setCore c x).core k = s.core k :=
  smGet_set_ne h x

theorem State.port_setPort_self {s : State} (w : s.Wf) (p : Nat) (x : PortSt) : (s.setPort p x).port p = x :=
  smGet_set_self w.ports p x

theorem State.port_setPort_ne (s : State) {p k : Nat} (h : k ≠ p) (x : PortSt) : (s.setPort p x).port k = s.port k :=
  smGet_set_ne h x

theorem State.queue_setQueue_self {s : State} (w : s.Wf) (q : Nat) (x : QueueSt) : (s.setQueue q x).queue q = x :=
  smGet_set_self w.queues q x

theorem State.queue_setQueue_ne (s : State) {q k : Nat} (h : k ≠ q) (x : QueueSt) : (s.setQueue q x).queue k = s.queue k :=
  smGet_set_ne h x

theorem State.server_setServer_self {s : State} (w : s.Wf) (k : Nat) (x : SrvSt) : (s.setServer k x).server k = x :=
  smGet_set_self w.servers k x

theorem State.server_setServer_ne (s : State) {k j : Nat} (h : j ≠ k) (x : SrvSt) : (s.setServer k x).server j = s.server j :=
  smGet_set_ne h x

/-! ### Memory -/

theorem State.loc_wr8 (s : State) (a : Nat) (b : Byte) (k : Nat) : (s.wr8 a b).loc k = s.loc k := rfl

theorem State.rd8_wr8_self {s : State} (w : s.Wf) (a : Nat) (b : Byte) : (s.wr8 a b).rd8 a = b :=
  smGet_set_self w.mem _ _

theorem State.rd8_wr8_ne (s : State) {a k : Nat} (h : s.loc k ≠ s.loc a) (b : Byte) : (s.wr8 a b).rd8 k = s.rd8 k :=
  smGet_set_ne h b

end Sys2Proof.Machine
end

