-- ==== Sys2Proof/Laws/Memory.lean ====
section
/-!
SUPPORT. Laws/Memory.lean: every memory operation keeps the canonical form of memory, changes only memory and poison, and
leaves every byte outside its range as it was; what a write of bytes reads back as.
-/
namespace Sys2Proof.Machine

theorem Memory.wf_reset : Memory.wf State.reset.mem = true := rfl

theorem State.wr8_memWf {s : State} (h : Memory.wf s.mem = true) (a : Nat) (b : Byte) : Memory.wf (s.wr8 a b).mem = true :=
  smWf_set _ _ h

theorem State.wrRaw_memWf : ∀ {s : State} (_ : Memory.wf s.mem = true) (a : Nat) (bs : Bytes), Memory.wf (s.wrRaw a bs).mem = true
  | _, h, _, [] => h
  | _, h, a, b :: bs => State.wrRaw_memWf (State.wr8_memWf h a b) (a + 1) bs

/-- Clearing poison line by line changes poison alone. -/
theorem State.clearLines_mem (p : Nat → Bool) (l : List Nat) (s : State) :
    (l.foldl (fun s x => if p x then s.setPoison x false else s) s).mem = s.mem := by
  induction l generalizing s with
  | nil => rfl
  | cons x l ih =>
    rw [List.foldl_cons, ih]
    split <;> rfl

theorem State.wrBytes_mem (s : State) (a : Nat) (bs : Bytes) : (s.wrBytes a bs).mem = (s.wrRaw a bs).mem := by
  have := State.clearLines_mem (fun l => decide (a ≤ l ∧ l + s.unitAt a ≤ a + bs.length)) (unitsOf (s.unitAt a) a bs.length)
    (s.wrRaw a bs)
  simpa [State.wrBytes] using this

theorem State.wrBytes_memWf {s : State} (h : Memory.wf s.mem = true) (a : Nat) (bs : Bytes) :
    Memory.wf (s.wrBytes a bs).mem = true := by
  rw [State.wrBytes_mem]
  exact State.wrRaw_memWf h a bs

theorem State.wrNat_memWf {s : State} (h : Memory.wf s.mem = true) (a n v : Nat) : Memory.wf (s.wrNat a n v).mem = true :=
  State.wrBytes_memWf h _ _

theorem State.lbWr_memWf {s : State} (h : Memory.wf s.mem = true) (c o : Nat) (bs : Bytes) :
    Memory.wf (s.lbWr c o bs).mem = true :=
  State.wrBytes_memWf h _ _

theorem State.zeroRange_memWf {s : State} (h : Memory.wf s.mem = true) (a n : Nat) : Memory.wf (s.zeroRange a n).mem = true :=
  smWf_filter _ h

/-! ### Writing changes memory and poison alone -/

theorem State.wrRaw_eq : ∀ (s : State) (a : Nat) (bs : Bytes), s.wrRaw a bs = { s with mem := (s.wrRaw a bs).mem }
  | _, _, [] => rfl
  | s, a, b :: bs => by
    rw [State.wrRaw, State.wrRaw_eq (s.wr8 a b)]
    rfl

theorem State.wrRaw_poison (s : State) (a : Nat) (bs : Bytes) : (s.wrRaw a bs).poison = s.poison := by
  rw [State.wrRaw_eq]

theorem State.clearLines_eq (p : Nat → Bool) (l : List Nat) (s : State) :
    ∃ q, l.foldl (fun s x => if p x then s.setPoison x false else s) s = { s with poison := q } := by
  induction l generalizing s with
  | nil => exact ⟨_, rfl⟩
  | cons x l ih =>
    rw [List.foldl_cons]
    split
    · obtain ⟨q, e⟩ := ih (s.setPoison x false)
      exact ⟨q, e⟩
    · exact ih s

theorem State.wrBytes_eq (s : State) (a : Nat) (bs : Bytes) :
    ∃ q, s.wrBytes a bs = { s with mem := (s.wrRaw a bs).mem, poison := q } := by
  obtain ⟨q, e⟩ := State.clearLines_eq (fun l => decide (a ≤ l ∧ l + s.unitAt a ≤ a + bs.length))
    (unitsOf (s.unitAt a) a bs.length) (s.wrRaw a bs)
  refine ⟨q, ?_⟩
  simp only [decide_eq_true_eq] at e
  rw [State.wrBytes, e]
  rw [State.wrRaw_eq s a bs]

theorem State.wrBytes_regs (s : State) (a : Nat) (bs : Bytes) : (s.wrBytes a bs).regs = s.regs := by
  obtain ⟨q, e⟩ := State.wrBytes_eq s a bs
  rw [e]

theorem State.lbWr_eq (s : State) (c o : Nat) (bs : Bytes) :
    ∃ m q, s.lbWr c o bs = { s with mem := m, poison := q } :=
  let ⟨q, e⟩ := State.wrBytes_eq s (lbBase c + o) bs
  ⟨_, q, e⟩

/-! ### Reading after a write -/

/-- The registers that the address map rests on (R213, R216, R217). -/
structure MapSame (s t : State) : Prop where
  map : t.regN (pg .hbmc 0 + Off.HBMC_MAP) = s.regN (pg .hbmc 0 + Off.HBMC_MAP)
  stat : t.regN (pg .lpdc 0 + Off.LPDC_STAT) = s.regN (pg .lpdc 0 + Off.LPDC_STAT)
  tier : t.regN (pg .lpdc 0 + Off.LPDC_TIER) = s.regN (pg .lpdc 0 + Off.LPDC_TIER)

theorem State.regN_of_regs {s t : State} (h : t.regs = s.regs) (o : Nat) : t.regN o = s.regN o := by
  simp only [State.regN, State.reg, h]

theorem MapSame.of_regs {s t : State} (h : t.regs = s.regs) : MapSame s t :=
  ⟨State.regN_of_regs h _, State.regN_of_regs h _, State.regN_of_regs h _⟩

/-- A write of one register other than these leaves the map. -/
theorem MapSame.setReg (s : State) {o : Nat} (v : DWord) (h1 : pg .hbmc 0 + Off.HBMC_MAP ≠ o)
    (h2 : pg .lpdc 0 + Off.LPDC_STAT ≠ o) (h3 : pg .lpdc 0 + Off.LPDC_TIER ≠ o) : MapSame s (s.setReg o v) :=
  ⟨congrArg BitVec.toNat (State.reg_setReg_ne s h1 v), congrArg BitVec.toNat (State.reg_setReg_ne s h2 v),
    congrArg BitVec.toNat (State.reg_setReg_ne s h3 v)⟩

theorem MapSame.trans {s t u : State} (h : MapSame s t) (k : MapSame t u) : MapSame s u :=
  ⟨k.map.trans h.map, k.stat.trans h.stat, k.tier.trans h.tier⟩

theorem MapSame.tierBytes {s t : State} (h : MapSame s t) : t.tierBytes = s.tierBytes := by
  simp only [State.tierBytes, State.field, h.stat]

theorem MapSame.region {s t : State} (h : MapSame s t) (a : Nat) : t.region a = s.region a := by
  have e : t.tiered = s.tiered := by rw [State.tiered, h.tier, State.tiered]
  rw [State.region, e, h.tierBytes, State.region]

theorem MapSame.loc {s t : State} (h : MapSame s t) (a : Nat) : t.loc a = s.loc a := by
  unfold State.loc
  rw [h.region, h.tierBytes, State.localGib, State.dieIl, State.field, h.map, h.tier]
  rfl

theorem MapSame.rd8 {s t : State} (h : MapSame s t) (hm : t.mem = s.mem) (a : Nat) : t.rd8 a = s.rd8 a := by
  simp only [State.rd8, hm, h.loc]

theorem State.loc_of_regs {s t : State} (h : t.regs = s.regs) (a : Nat) : t.loc a = s.loc a := (MapSame.of_regs h).loc a

theorem State.rd8_of_mem {s t : State} (hr : t.regs = s.regs) (hm : t.mem = s.mem) (a : Nat) : t.rd8 a = s.rd8 a := by
  simp only [State.rd8, hm, State.loc_of_regs hr]

theorem State.rd8_wrRaw_ne : ∀ {s : State} {a k : Nat} {bs : Bytes} (_ : ∀ j, j < bs.length → s.loc k ≠ s.loc (a + j)),
    (s.wrRaw a bs).rd8 k = s.rd8 k
  | _, _, _, [], _ => rfl
  | s, a, k, b :: bs, h => by
    rw [State.wrRaw, State.rd8_wrRaw_ne (s := s.wr8 a b)]
    · exact State.rd8_wr8_ne s (h 0 (Nat.succ_pos _)) b
    · intro j hj
      have := h (j + 1) (Nat.succ_lt_succ hj)
      rwa [Nat.add_comm j 1, ← Nat.add_assoc] at this

theorem State.rd8_wrBytes_ne {s : State} {a k : Nat} {bs : Bytes} (h : ∀ j, j < bs.length → s.loc k ≠ s.loc (a + j)) :
    (s.wrBytes a bs).rd8 k = s.rd8 k := by
  rw [State.rd8_of_mem (s := s.wrRaw a bs) _ (State.wrBytes_mem s a bs), State.rd8_wrRaw_ne h]
  rw [State.wrBytes_regs, State.wrRaw_eq]

end Sys2Proof.Machine
end

