-- ==== Sys2Proof/Tests/Slice0.lean ====
section
/-!
SUPPORT. Tests/Slice0.lean: tests of the model. `test_illformed_…`: an ill-formed term for each check of WellFormed, which the
check refuses, and which as a command does nothing where its operands name nothing. `test_…`: the specification's worked examples and small results worked out from its rules.
`wit_…`: states and operands that meet the hypotheses of each clause of the statement of that name, at a boundary value where
the clause has a range. A hypothesis of the form u = … only names a state and is left out.
-/
namespace Sys2Proof.Tests
open Sys2Proof Sys2Proof.Machine
set_option Elab.async false

/-- The state after reset with some registers set. -/
def on (l : List (Nat × Nat)) : State := l.foldl (fun s e => s.setRegN e.1 e.2) State.reset

/-- A slot operation begun on core 0. -/
def op (slot : Bytes) : SlotOp :=
  { cmd := 0, item := 0, recIx := 0, first := 0, tick := 0, unit := 0, slot := slot, hollow := false, begun := true, done := false, step := 0,
    moved := 0, refetch := none, retried := [], issued := false, rgen := [], live := [], jobs := [], ring := 0, link := false,
    voided := false, signalled := false }

/-- A sailing of record 0 whose flags have been seen. -/
def sailing (bytes : Bytes) : SailingRun :=
  { cmd := 0, item := 0, recIx := 0, tick := 0, last := 0, bytes := bytes, hollow := false, waited := true, me := false, ve0 := false,
    ve1 := false, extended := false }

/-- A command of one item that has been accepted. -/
def cmd (opcode : Nat) (cargo : Bytes) : Cmd :=
  { id := 0, src := 0, ringIx := 0, opcode := opcode, msi := false, qaddr := false, items := 1, tag := 0, table := 0, cpl := 0, start := 0,
    fenceAll := false, voidNonfin := false, cargo := cargo, desc := [], accTick := 0, begun := false, running := [], made := [],
    empties := [], voided := [], failed := [], ended := [], bytes := [], wrote := [], whole := none, recsOut := 0, closed := false }

/-- Core 0 with a first ME or VE operation, and with one sailing. -/
def meCore (o : SlotOp) : State := State.reset.setCore 0 { CoreSt.reset with meOps := [o] }
def veCore (o : SlotOp) : State := State.reset.setCore 0 { CoreSt.reset with veOps := [o] }

/-! ### Ill-formed operands -/

/-- An ill-formed command that names nothing: the check refuses it, and it does nothing. -/
def idle (c : Instr) : Prop := c.wellFormed = false ∧ exec c State.reset = .next State.reset

theorem test_illformed_width : idle (.tmarkPulse 0 true) := ⟨rfl, rfl⟩
theorem test_illformed_deck : idle (.deckLbAccess 0 4 8 false []) ∧ idle (.deckLbAccess 0 0 3 false []) ∧ idle (.deckLbAccess 0 0x400000 1 false []) :=
  ⟨⟨rfl, rfl⟩, ⟨rfl, rfl⟩, ⟨rfl, rfl⟩⟩
theorem test_illformed_amo : idle (.homeAmoFar 0 0 .add true 4 1) := ⟨rfl, rfl⟩
theorem test_illformed_pcie : idle (.pcieLinkTrain 0 5 3) ∧ idle (.pcieLinkTrain 0 0 4) := ⟨⟨rfl, rfl⟩, ⟨rfl, rfl⟩⟩
theorem test_illformed_fatal : idle (.deviceFatalFault .tick 0 0x01 none none) := ⟨rfl, rfl⟩
theorem test_illformed_log : idle (.rasLogAppend .tick 1 0x01 none none 0) := ⟨rfl, rfl⟩
theorem test_illformed_aperture : ∀ c ∈ [Instr.aperBadAccess .portA 0 4 true, .aperBadAccess .portA 1 0 true, .aperAbsent .portA 0,
    .aperSplitAccess .portA 0 true 0, .registerWrite .portA (.aperture 0x4000000) false ⟨0, 0⟩, .registerWrite .mgmt (.bar4 0) false ⟨0, 0⟩,
    .registerWrite .mgmt (.config .atsEnable) false ⟨0, 0⟩], idle c := by
  intro c h; simp only [List.mem_cons, List.mem_nil_iff, or_false] at h; rcases h with h|h|h|h|h|h|h <;> subst h <;> exact ⟨by decide, by rfl⟩
theorem test_illformed_headers : ∀ c ∈ [Instr.pgSoftReset .portA .tick 1, .pgFreezeWrite .portA .tick 1 true, .pgLevelWrite .portA .seq 256 1,
    .pgIrqStatClear .portA .tick 1 1, .pgIrqForce .portA .tick 1 1, .pgErrFirstClear .portA .tick 1], idle c := by
  intro c h; simp only [List.mem_cons, List.mem_nil_iff, or_false] at h; rcases h with h|h|h|h|h|h <;> subst h <;> exact ⟨rfl, rfl⟩
/-- Lists of a wrong length, and values outside a range, are cut or filled up. -/
theorem test_illformed_lists : ∀ c ∈ [Instr.tideBoundary ⟨[], [], [], [], [], 0, 0⟩, .homeBulkRd .host 0xFC0 2, .homeRecall .host 0 0, .homeBulkWr .host 0 [],
    .homeWrLine .host 0 [], .homeWrPart .host 0 1 [1],
    .flitCrcError 0 [] true, .flitAccept 0 [], .ackRx 0 [], .nakRx 0 [], .creditSyncRx 0 [], .nullFlitRx 0 [], .creditReturn 0 [],
    .trainFlitRx 0 [] true, .ethFrameRx 0 [], .tjSample [0, 0, 0, 0, 0, 128], .oscSample [], .sentinelSample [],
    .spdmGetMeasurements 18 1 [], .pldmFirmwareUpdate 18 (.page []), .mctpApertureAccess 18 false 0x4000000 false ⟨0, 0⟩,
    .bar2Access 0 0 false [] .none, .outboundAccess 0 4 false [] none, .atomicOp (.server 0) .lr ⟨.b32, false, false⟩ 2 0],
    c.wellFormed = false := by
  intro c h; simp only [List.mem_cons, List.mem_nil_iff, or_false] at h
  rcases h with h|h|h|h|h|h|h|h|h|h|h|h|h|h|h|h|h|h|h|h|h|h|h|h <;> subst h <;> rfl

/-! ### Worked examples of the specification -/

/-- R213, R214: the example address lies in stack 13 at 0xE904_4890; the first local byte of that stack. -/
theorem test_hbm_example : hbmMap 16 false 0x1234567890 = (13, 0xE9044890) ∧ hbmMap 16 false 0xD400000000 = (13, 0x800000000) := by decide

/-- R260: the example address has home 6. -/
theorem test_home_example : homeOf 0x1234567890 = 6 := by decide

/-- R466–R469: ferry 2 of core 200 has its page at 0x1C8_7000 and identity 0x0045_0322. -/
theorem test_page_example : pFERRY 200 2 = 0x1C87000 ∧ State.reset.regN (0x1C87000 + Off.PG_ID) = 0x00450322 ∧
    pageOf 0x1C87088 = some ⟨.ferry, 802, 0⟩ ∧ halfOf 0x1C8708C = some (0x1C87088, true) := by decide

/-- R426, R427: core 37 plans 96 and 117 in P1 and, exhausted at 121, 101 in P2. -/
def core37 (d : Nat) : State :=
  { on [(ageDom 37, d)] with age := { AgeSt.reset with trim := [(37, 6)], planHot := [88, 0, 0, 0, 0, 0], planSent := List.replicate 192 58 } }
theorem test_plan_example : (core37 420).planCode 0 37 = 96 ∧ (core37 1480).planCode 0 37 = 117 ∧ (core37 1660).planCode 0 37 = 121
    ∧ (core37 1660).planCode 1 37 = 101 := by decide

/-- R415: the governor's decisions for T1 over four ticks (µJ). -/
theorem test_governor_example : govDie (40 + 450) 480 45 40 true = (10, false, false) ∧ govDie (10 + 450) 500 45 40 true = (5, true, false)
    ∧ govDie (5 + 450) 470 45 40 true = (30, true, false) ∧ govDie (30 + 450) 400 45 40 true = (40, false, false) := by decide

/-- R78: 3.0 × 10^−6 at e = 12 is stored as 0x224B. -/
theorem test_g16_example : encElem 0x06 12 (FVal.fin false (3 * 2 ^ 60 / 10 ^ 6) (-60)) = 0x224B := by decide +kernel

/-- R79: the exponent of a bucket rises to at most 127 and falls to at least −128. -/
theorem test_gexp_ends : moveExp true 127 = 127 ∧ moveExp false 128 = 128 ∧ moveExp true 12 = 13 ∧ moveExp false 13 = 12 := by decide

/-- R71, R81: −42.375 rounds to −42 (0xD6) on draw 0x8000_0000 and to −43 (0xD5) on 0xB000_0000. -/
theorem test_m8_example : srInt (-339) 8 (-127) 127 0x80000000 = -42 ∧ srInt (-339) 8 (-127) 127 0xB0000000 = -43
    ∧ unsext 8 (-42) = 0xD6 ∧ unsext 8 (-43) = 0xD5 := by decide

/-- CRC-32C (chapter 08) of "123456789" is 0xE306_9283, the published check value of that CRC (PRESUMED). -/
theorem test_crc32c : crc32c (ascii "123456789") = 0xE3069283 := by decide +kernel

/-- R69, R70: arithmetic in FP32: 1 + 2^−24 is a tie and rounds to 1; the largest value doubled overflows. -/
theorem test_fp32 : add32 0x3F800000 0x33800000 = 0x3F800000 ∧ add32 0x3F800000 0x33800001 = 0x3F800001
    ∧ add32 0x7F7FFFFF 0x7F7FFFFF = 0x7F800000 := by decide +kernel

/-- R97: the ends of the INT32 range. -/
theorem test_sat32 : sat32 (2 ^ 31 - 1) = (2 ^ 31 - 1, false) ∧ sat32 (2 ^ 31) = (2 ^ 31 - 1, true) ∧ sat32 (-(2 ^ 31)) = (-(2 ^ 31), false)
    ∧ sat32 (-(2 ^ 31) - 1) = (-(2 ^ 31), true) := by decide

/-- R128: the counter of the example dropout draw. -/
theorem test_counter_example : rngCounter 3 0x4B0 0x10152C 0 = 0x000300000004B000000010152C000000 := by decide

/-- R249: the example block of 640 exponent bits and two escapes costs 3 cycles. -/
theorem test_cost_example : blkCost 2 256 2 640 2 = 3 ∧ blkStored 342 = 352 := by decide

/-- R99: blocks and chunks of the example shapes 300 × 200 × 1,000 and 1,024 × 1,024 × 64 in BF16. -/
def shape (m n k : Nat) : MeSlot := meSlot ([1, 0, 1, 1, 0, 0, 0, 0] ++ natLE 2 m ++ natLE 2 n ++ natLE 4 k)
theorem test_shape_example : (shape 300 200 1000).nb * (shape 300 200 1000).kc + 128 = 6128
    ∧ (shape 1024 1024 64).nb = 64 ∧ (shape 1024 1024 64).kc = 64 := by decide

/-! ### The machine: hypotheses of the invariants -/

theorem reset_wf : State.reset.Wf := ⟨rfl, rfl, rfl, rfl, rfl, rfl, rfl, rfl, rfl, rfl⟩

theorem wit_EveryStepKeepsCanonicalForm : (State.reset.withPending [.hullNow]).Wf
    ∧ ∃ t, step (State.reset.withPending [.hullNow]) = .next t := ⟨⟨rfl, rfl, rfl, rfl, rfl, rfl, rfl, rfl, rfl, rfl⟩, _, rfl⟩
theorem wit_FusesOnlyGrow : ∃ t, State.reset.sec.fuseOk = true ∧ step (State.reset.withPending [.secRevoke 0]) = .next t := ⟨_, rfl, rfl⟩
theorem wit_QueueAndOutputAreKept : ∃ t, exec .vauxLoss State.reset = .next t := ⟨_, rfl⟩
/-- A command that completes and one that is refused. -/
theorem wit_WellFormedCommandsComplete : Instr.hullNow.wellFormed = true ∧ (Instr.tmarkPulse 0 true).wellFormed = false := by decide

/-! ### Chapter 02 -/

/-- Locked, with the grid and the data plane at tick `n`. -/
def ticking (n : Nat) : State := on [(pTICK + Off.TICK_STAT, 0x11), (pTICK + Off.TICK_GRID, n), (pTICK + Off.TICK_NOW, n)]

theorem wit_TmarkDecoding :
    ((ticking 0).locked = true ∧ ((ticking 0).grid + 1) % 2 ^ 64 % 1000000 ≠ 0)
    ∧ ((ticking 999999).locked = true ∧ ((ticking 999999).grid + 1) % 2 ^ 64 % 1000000 = 0)
    ∧ (on [(pTICK + Off.TICK_STAT, 0)]).locked = false
    ∧ (∃ s : State, s.locked = true ∧ s.field (pTICK + Off.TICK_CFG) 23 16 ≤ s.tick.miss) :=
  ⟨by decide, by decide, by decide, { ticking 0 with tick := { TickSt.reset with miss := 255 } }, by decide⟩
theorem wit_GridMarkCountsAndChangesNothingElse : (ticking 7).Wf ∧ (ticking 7).locked = true ∧ ((ticking 7).grid + 1) % 2 ^ 64 % 1000000 ≠ 0 :=
  ⟨⟨rfl, by decide, rfl, rfl, rfl, rfl, rfl, rfl, rfl, rfl⟩, by decide, by decide⟩

/-- The tick unit with one copy in service. -/
def oneCopy : State := on [(pTICK + Off.TICK_STAT, 0x15)]
/-- ELASTIC mode: TICK_CFG bit 0. -/
def elastic : State := on [(pTICK + Off.TICK_CFG, setBits ((State.reset).regN (pTICK + Off.TICK_CFG)) 0 0 1), (pTICK + Off.TICK_NOW, 5)]

theorem wit_TickCopiesAndTlateLevels :
    (∃ s : State, bit (s.regN (pTICK + Off.TICK_STAT)) 2 = false ∧ s.tick.failover = false
      ∧ ¬(7 = s.reg (pTICK + Off.TICK_GRID) ∧ 0 = s.reg (pTICK + Off.TICK_NOW) ∧ 0 = s.phase))
    ∧ bit (oneCopy.regN (pTICK + Off.TICK_STAT)) 2 = true
    ∧ (∃ s : State, s.tick.failover = true)
    ∧ State.reset.elastic = false ∧ (elastic.elastic = true ∧ elastic.tick.applied.contains (elastic.now - 1) = false)
    ∧ State.reset.tick.strayLogged = false ∧ (∃ s : State, s.tick.strayLogged = true) :=
  ⟨⟨State.reset, by decide⟩, by decide, ⟨{ State.reset with tick := { TickSt.reset with failover := true } }, rfl⟩, by decide, by decide, rfl,
    { State.reset with tick := { TickSt.reset with strayLogged := true } }, rfl⟩

/-- A flit of a type delivered at port 0, with its payload. -/
def received (typ : Nat) (payload : Bytes) : State :=
  State.reset.setPort 0 { PortSt.reset with rxq := [{ typ := typ, vc := 0, payload := payload, stamp := 0, tick := 0 }] }
/-- The state before the tick unit has locked. -/
def unlocked : State := on [(pTICK + Off.TICK_STAT, 0)]
def joinA : JoinRec := { grid := 5, tick := 4, phase := 0, notices := [], rooted := true }
def withJoin (s : State) : State := { s with tick := { s.tick with join := some joinA } }

theorem wit_GridIsLockedCheckedAndConfigured :
    (∃ s : State, s.locked = false ∧ s.powered 3 = true ∧ (bit (s.regN (pTICK + Off.TICK_CFG)) 1 = true ∨ s.trainedPorts = []))
    ∧ (∃ s : State, s.locked = false ∧ bit (s.regN (pTICK + Off.TICK_CFG)) 1 = false ∧ s.powered 3 = true ∧ s.trainedPorts ≠ []
      ∧ s.tick.join = some joinA)
    ∧ (∃ s : State, s.locked = false ∧ s.pwr.phase = .starting)
    ∧ (∃ (s : State) (f : RxFlit), s.firstRx 0 0x0A = some f ∧ leNat ((f.payload.drop 0).take 1) = 1 ∧ leNat ((f.payload.drop 1).take 1) = 0
      ∧ leNat ((f.payload.drop 2).take 1) = 1 ∧ leNat ((f.payload.drop 3).take 5) = 0 ∧ allZero (f.payload.drop 0x18) = true
      ∧ s.rooted = true)
    ∧ (∃ (s : State) (f : RxFlit), s.firstRx 0 0x0A = some f ∧ leNat ((f.payload.drop 0).take 1) ≠ 1)
    ∧ (∃ (s : State) (f : RxFlit) (j : JoinRec), s.firstRx 0 0x09 = some f ∧ parseJoin f.payload = some j ∧ s.locked = false)
    ∧ (∃ (s : State) (f : RxFlit), s.firstRx 0 0x09 = some f ∧ parseJoin f.payload = none)
    ∧ (∃ (s : State) (f : RxFlit) (j : JoinRec), s.firstRx 0 0x09 = some f ∧ parseJoin f.payload = some j ∧ s.locked = true ∧ s.rooted = true
      ∧ j.rooted = true)
    ∧ (∃ s : State, s.tick.join = some joinA ∧ s.locked = true ∧ s.rooted = false ∧ joinA.rooted = true)
    ∧ (bits (0x010100 : Word).toNat 15 8 ≠ 0 ∧ bits (0x010100 : Word).toNat 23 16 ≠ 0) ∧ (bits (3 : Word).toNat 15 8 = 0 ∧ bits (3 : Word).toNat 23 16 = 0)
    ∧ (∃ s : State, s.tick.cfgPend = some 0x010100 ∧ s.allIdle = true) ∧ ∃ s : State, s.tick.cfgPend = some 0x010100 ∧ s.allIdle = false :=
  ⟨⟨unlocked, by decide +kernel⟩,
    ⟨withJoin (on [(pTICK + Off.TICK_STAT, 0), (pSLNK 3 + Off.SLNK_STAT, 2)]), by decide +kernel⟩,
    ⟨{ unlocked with pwr := { PwrSt.reset with phase := .starting } }, by decide +kernel⟩,
    ⟨(received 0x0A ([1, 0, 1] ++ rep 30 0)).setRegN (pTICK + Off.TICK_STAT) 0x11, _, rfl, by decide +kernel⟩,
    ⟨received 0x0A [2], _, rfl, by decide +kernel⟩,
    ⟨(received 0x09 ([1, 0, 1] ++ rep 30 0)).setRegN (pTICK + Off.TICK_STAT) 0, _, _, rfl, rfl, by decide +kernel⟩,
    ⟨received 0x09 (rep 30 0), _, rfl, by decide +kernel⟩,
    ⟨(received 0x09 ([1, 0, 1] ++ rep 30 0)).setRegN (pTICK + Off.TICK_STAT) 0x11, _, _, rfl, rfl, by decide +kernel⟩,
    ⟨withJoin (on [(pTICK + Off.TICK_STAT, 1)]), by decide +kernel⟩, by decide +kernel, by decide +kernel,
    ⟨{ State.reset with tick := { TickSt.reset with cfgPend := some 0x010100 } }, rfl, by decide +kernel⟩,
    { on [(pSEQ 255 + Off.SEQ_STATE, 3)] with tick := { TickSt.reset with cfgPend := some 0x010100 } }, rfl, by decide +kernel⟩

theorem wit_TickBoundaryBeginsNextTick : ∃ s : State, s.Wf ∧ s.ticking = true ∧ s.cores = [] ∧ s.tick.govReq = false ∧ s.tick.notices = []
    ∧ s.softReset = [] ∧ s.rgenPend = [] ∧ s.pwr.shutPend = false :=
  ⟨ticking 0, ⟨rfl, by decide, rfl, rfl, rfl, rfl, rfl, rfl, rfl, rfl⟩, by decide⟩
/-- A record that only names item 0 of its command (R49), and a timetable of that one record with its CRC (R46). -/
def rec0 : Bytes := [1] ++ rep 11 0 ++ [1, 0] ++ rep 234 0 ++ [0, 0, 0, 0, 0xFF, 0xFF, 0, 0]
def table0 (crc : Nat) : Bytes :=
  natLE 4 0x42545457 ++ [0, 1, 0, 0] ++ natLE 2 850 ++ [1, 0, 1, 0, 0, 0, 0xFF, 0xFF, 0, 0] ++ natLE 4 1 ++ rep 8 0 ++ rep 28 0 ++
    natLE 4 crc ++ rec0
def run0 (checked : Bool) : TimetableRun :=
  { cmd := 0, bytes := table0 0, poisoned := false, start := 0, first := 0, pos := 0, issues := 0, enq := [], lastTick := none,
    read := checked, refused := none, checked := checked }
/-- Memory that holds some bytes from address 0 on; the first 4 KiB lie at the start of stack 0 (R214). -/
def holding (s : State) (b : Bytes) : State := { s with mem := ((upTo 0 b.length).zip b).filter (fun e => e.2 ≠ 0) }
/-- Core 0 runs a timetable of the command; the timetable lies at 0. -/
def sailingOut (checked : Bool) (b : Bytes) : State :=
  let s := holding (State.reset.setCore 0 { CoreSt.reset with tt := some (run0 checked) }) b
  { s with cmds := [{ cmd 1 [] with begun := true }] }

/-- The timetable with its CRC. -/
def table1 : Bytes := table0 1811299655

theorem crc32c_parts (a b c : Bytes) (x y z : Nat) (ha : a.foldl crc32cByte 0xFFFFFFFF = x) (hb : b.foldl crc32cByte x = y)
    (hc : c.foldl crc32cByte y ^^^ 0xFFFFFFFF = z) : crc32c (a ++ b ++ c) = z := by
  rw [crc32c, List.foldl_append, List.foldl_append, ha, hb, hc]
theorem table1_zeroed : ((sailingOut false table1).rdBytes 0 320).take 0x3C ++ natLE 4 0 ++ ((sailingOut false table1).rdBytes 0 320).drop 0x40
    = (table0 0).take 110 ++ ((table0 0).drop 110).take 110 ++ (table0 0).drop 220 := by decide +kernel
theorem table1_crc : crc32c (((sailingOut false table1).rdBytes 0 320).take 0x3C ++ natLE 4 0 ++ ((sailingOut false table1).rdBytes 0 320).drop 0x40)
    = 1811299655 := by
  rw [table1_zeroed]; exact crc32c_parts _ _ _ 264551699 4269752142 _ (by decide +kernel) (by decide +kernel) (by decide +kernel)
theorem table1_count : ttCount ((sailingOut false table1).rdBytes 0 64) = 1 := by decide +kernel

/-- R46, R47: the load check takes the timetable. -/
theorem test_load_check : (sailingOut false table1).loadCheck 0 0 1 = none := by
  unfold State.loadCheck
  simp only [table1_count, Nat.mul_one, Nat.reduceAdd, table1_crc]
  decide +kernel

/-- A RUN_TIMETABLE whose core table, at 0, names core 0. -/
def ttCommand : State := { State.reset with cmds := [cmd 1 ([1, 0, 1, 0] ++ rep 28 0)] }
/-- Core 0 with a timetable all of whose records have issued, of a command of two items. -/
def issued : State :=
  { State.reset.setCore 0 { CoreSt.reset with tt := some { run0 true with pos := 1 } } with cmds := [{ cmd 1 [] with begun := true, items := 2 }] }

theorem wit_TimetablesAreReadIssuedAndEnded :
    (∃ (s : State) (k : Cmd), s.fresh 0 0x0001 = some k ∧ s.outDown k.table = false ∧ s.anyPoison k.table (16 * (s.ttEntries k.table k.cargo).length) = false
      ∧ s.ttCmdOk k.table k.cargo = true ∧ (s.ttEntries k.table k.cargo).all (fun e => s.seqIdle e.1) = true)
    ∧ (∃ (s : State) (t : TimetableRun) (k : Cmd), (s.core 0).tt = some t ∧ t.read = false ∧ s.cmd? t.cmd = some k
      ∧ s.loadCheck 0 0 1 = none)
    ∧ (∃ (s : State) (t : TimetableRun), (s.core 0).tt = some t ∧ t.checked = true ∧ t.pos < ttCount t.bytes ∧ t.nextTick ≤ s.now
      ∧ t.lastTick ≠ some s.now ∧ s.recFailed t t.pos = false ∧ t.issues = 0 ∧ (s.core 0).sailings.any (fun x => x.recIx == t.pos) = false)
    ∧ (∃ (s : State) (t : TimetableRun), (s.core 0).tt = some t ∧ t.checked = true ∧ t.pos < ttCount t.bytes ∧ t.nextTick ≤ s.now
      ∧ t.lastTick ≠ some s.now ∧ s.recFailed t t.pos = false ∧ t.issues ≠ 0 ∧ s.issueHollow 0 t = false)
    ∧ (∃ (s : State) (k : Cmd), s.cmd? 0 = some k ∧ k.opcode = 1 ∧ k.begun = true ∧ k.itemEnded 0 = false ∧ 0 < k.items
      ∧ (s.ttCores 0).isEmpty = false ∧ (s.ttCores 0).any (fun e => s.itemBusy 0 e.1 e.2) = false) :=
  ⟨⟨ttCommand, _, rfl, by decide +kernel⟩, ⟨sailingOut false table1, run0 false, _, rfl, rfl, rfl, test_load_check⟩,
    ⟨(sailingOut true []).setCore 0 { CoreSt.reset with tt := some { run0 true with bytes := (table0 0).take 12 ++ [2] ++ (table0 0).drop 13 ++ rec0 } },
      _, rfl, by decide +kernel⟩,
    ⟨{ (sailingOut true []).setCore 0 { CoreSt.reset with tt := some { run0 true with issues := 1 }, sailings := [sailing rec0] } with
      cmds := [cmd 1 []] }.setRegN (pTICK + Off.TICK_NOW) 1, _, rfl, by decide +kernel⟩, issued, _, rfl, by decide +kernel⟩

/-- One engine operation waiting in a sailing, its record's flags seen. -/
def waiting (me : Bool) (hazard : Bool) : State :=
  let o := { op (rep 48 0) with begun := false }
  (on [(pVE 0 + Off.VE_STAT, if hazard then 4 else 0)]).setCore 0 { CoreSt.reset with
    meOps := if me then [o] else [], veOps := if me then [] else [o], sailings := [sailing rec0] }

theorem wit_EnginesStartSailingsCompleteFlagsPost :
    (∃ (s : State) (o : SlotOp) (x : SailingRun), (s.core 0).meOps = [o] ∧ s.sailing 0 o.first = some x ∧ o.begun = false ∧ x.waited = true
      ∧ x.hollow = false ∧ s.maskReady 0 o = true ∧ s.engineClear 0 { o.todo with unit := 0 } = true)
    ∧ (∃ (s : State) (o : SlotOp) (x : SailingRun), (s.core 0).veOps = [o] ∧ s.sailing 0 o.recIx = some x ∧ o.begun = false ∧ x.waited = true
      ∧ x.hollow = false ∧ o.unit = 0 ∧ s.engineClear 0 { o.todo with unit := 1 } = true
      ∧ s.veHazard 0 o = false)
    ∧ (∃ (s : State) (o : SlotOp) (x : SailingRun), (s.core 0).veOps = [o] ∧ s.sailing 0 o.recIx = some x ∧ o.begun = false ∧ x.waited = true
      ∧ x.hollow = false ∧ bit (s.regN (pVE 0 + Off.VE_STAT)) 2 = true ∧ s.veHazard 0 o = false
      ∧ s.engineClear 0 { o.todo with unit := 1 + o.unit } = true)
    ∧ (∃ (s : State) (x : SailingRun) (k : Cmd), (s.core 0).sailings.find? s.sailingDone = some x ∧ x.hollow = false ∧ s.cmd? x.cmd = some k)
    ∧ (∃ (s : State) (x : SailingRun), (s.core 0).sailings.find? s.sailingDone = some x ∧ x.hollow = true)
    ∧ (∃ (s : State) (m : SignalMsg), s.signals.find? (fun m => m.core == 0) = some m) ∧ State.reset.Wf :=
  ⟨⟨waiting true false, _, _, rfl, rfl, by decide +kernel⟩, ⟨waiting false false, _, _, rfl, rfl, by decide +kernel⟩,
    ⟨waiting false true, _, _, rfl, rfl, by decide +kernel⟩,
    ⟨{ (State.reset.setCore 0 { CoreSt.reset with sailings := [sailing rec0] }) with cmds := [cmd 1 []] }, _, _, rfl, by decide, rfl⟩,
    ⟨State.reset.setCore 0 { CoreSt.reset with sailings := [{ sailing rec0 with hollow := true }] }, _, rfl, by decide⟩,
    ⟨{ State.reset with signals := [{ core := 0, flag := 3, poison := false }] }, _, rfl⟩, ⟨rfl, rfl, rfl, rfl, rfl, rfl, rfl, rfl, rfl, rfl⟩⟩

/-! ### Chapters 04 and 05 -/

theorem clean_reads {s : State} (h : s.poison = []) (c : Nat) (rs : List Span) : s.poisonIn c rs = none := by
  have e : ∀ a, s.poisoned a = false := fun a => by rw [State.poisoned, h]; rfl
  simp [State.poisonIn, e]
/-- The premises that the first ME or VE operation has begun, has not ended and reads nothing poisoned. -/
theorem wit_me (slot : Bytes) : (meCore (op slot)).MeRuns 0 (op slot) := ⟨rfl, rfl, rfl, rfl, clean_reads rfl _ _⟩
theorem wit_ve (slot : Bytes) (rs : List Span) : (veCore (op slot)).VeRuns 0 (op slot) rs := ⟨rfl, rfl, rfl, rfl, clean_reads rfl _ _⟩

theorem wit_MatrixOperationsWriteTheirResults : ∀ e ∈ ([[1, 0], [1, 1], [1, 2], [2, 0], [2, 8], [2, 2], [3, 0], [4, 0], [5, 0]] : List Bytes),
    (meCore (op (e ++ rep 46 0))).MeRuns 0 (op (e ++ rep 46 0))
    ∧ ((meSlot (e ++ rep 46 0)).op, (meSlot (e ++ rep 46 0)).arith, (meSlot (e ++ rep 46 0)).first) =
      ((e.getD 0 0).toNat, bits (e.getD 1 0).toNat 2 0, bit (e.getD 1 0).toNat 3)
    ∧ CoreSt.reset.allMerged (meSlot (e ++ rep 46 0)) = true := fun e h =>
  ⟨wit_me _, by revert e; decide +kernel, by revert e; decide +kernel⟩
/-- FIRST-COME MERGE of one partial on flag 3, which is set, clean or poisoned. -/
def mergeSlot (d : Bool) : Bytes := [2, if d then 10 else 8] ++ rep 42 0 ++ [1, 3] ++ rep 2 0
def merging (d poison : Bool) : State :=
  (on [(pSEQ 0 + Off.SEQ_POISON, if poison then 8 else 0)]).setCore 0 { CoreSt.reset with meOps := [op (mergeSlot d)], flagOrder := [3] }
def readsPoison : State := (meCore (op ([1] ++ rep 7 0 ++ [1, 0, 1, 0, 1] ++ rep 35 0))).setPoison (lbBase 0) true

theorem wit_EngineOperationsFailMergeAndEnd :
    (∃ (s : State) (o : SlotOp) (a : Nat), (s.core 0).meOps = [o] ∧ o.begun = true ∧ o.done = false ∧ o.hollow = false ∧ (meSlot o.slot).op = 1
      ∧ (meSlot o.slot).arith = 0 ∧ s.poisonIn 0 (meSlot o.slot).spans.1 = some a)
    ∧ (∀ d ∈ [true, false], ∀ y ∈ [true, false], ∃ (s : State) (o : SlotOp), (s.core 0).meOps.head? = some o ∧ o.begun = true ∧ o.done = false
      ∧ o.hollow = false ∧ (meSlot o.slot).op = 2 ∧ (meSlot o.slot).first = true ∧ (s.core 0).nextPartial (meSlot o.slot) = some 0
      ∧ bit (s.flagPoison 0) ((meSlot o.slot).flag0 + 0) = y ∧ (meSlot o.slot).dmode = d
      ∧ s.poisonIn 0 [((meSlot o.slot).a + 65536 * 0 * (meSlot o.slot).nb, 65536 * (meSlot o.slot).nb)] = none)
    ∧ (∃ (s : State) (o : SlotOp), (s.core 0).meOps = [o] ∧ o.done = true ∧ o.hollow = false)
    ∧ ∃ (s : State) (o : SlotOp), (s.core 0).veOps = [o] ∧ o.done = true ∧ o.hollow = false := by
  refine ⟨⟨readsPoison, _, 0, rfl, by decide +kernel⟩, ?_, ⟨meCore { op [] with done := true }, _, rfl, by decide⟩,
    veCore { op [] with done := true }, _, rfl, by decide⟩
  intro d hd y hy; simp only [List.mem_cons, List.mem_nil_iff, or_false] at hd hy
  rcases hd with hd | hd <;> rcases hy with hy | hy <;> subst hd <;> subst hy
  · exact ⟨merging true true, _, rfl, by decide +kernel⟩
  · exact ⟨merging true false, _, rfl, by decide +kernel⟩
  · exact ⟨merging false true, _, rfl, by decide +kernel⟩
  · exact ⟨merging false false, _, rfl, by decide +kernel⟩

theorem wit_ElementwiseOperationsWriteEveryElement : ∀ k ∈ [1, 2, 3, 4, 5, 6, 7, 8, 9, 10, 11, 12, 13, 14, 15, 16, 0x44],
    (veCore (op (natLE 1 k ++ rep 31 0))).VeRuns 0 (op (natLE 1 k ++ rep 31 0)) (veSlot (natLE 1 k ++ rep 31 0)).spans.1
    ∧ (veSlot (natLE 1 k ++ rep 31 0)).op = k := fun k h => ⟨wit_ve _ _, by revert k; decide +kernel⟩

theorem wit_RowOperationsWriteTheirResults :
    (∀ k ∈ [0x11, 0x12, 0x13, 0x14, 0x15, 0x16, 0x18, 0x19, 0x1A, 0x28, 0x29, 0x40, 0x41, 0x42, 0x43],
      (veCore (op (natLE 1 k ++ rep 31 0))).VeRuns 0 (op (natLE 1 k ++ rep 31 0)) (veSlot (natLE 1 k ++ rep 31 0)).spans.1
      ∧ (veSlot (natLE 1 k ++ rep 31 0)).op = k)
    ∧ (normDesc ((veCore (op (0x42 :: rep 31 0))).lbRd 0 0 64) true).ok = true ∧ (normDesc ((veCore (op (0x43 :: rep 31 0))).lbRd 0 0 64) false).ok = true :=
  ⟨fun k h => ⟨wit_ve _ _, by revert k; decide +kernel⟩, by decide +kernel, by decide +kernel⟩

/-- A random operation whose descriptor, at 64, names a stream; the highest that is not reserved, and the first that is. -/
def draws (k stream : Nat) : State :=
  let s := veCore (op (natLE 1 k ++ rep 19 0 ++ natLE 4 64 ++ natLE 4 0x3E800000 ++ rep 4 0))
  { s with mem := ((upTo (lbBase 0 + 64) 2).zip (natLE 2 stream)).filter (fun e => e.2 ≠ 0) }
def drawOp (k : Nat) : SlotOp := op (natLE 1 k ++ rep 19 0 ++ natLE 4 64 ++ natLE 4 0x3E800000 ++ rep 4 0)

theorem wit_RandomStreamsAdvanceAndRestore :
    (∀ k ∈ [0x20, 0x21, 0x22], (draws k 0xFEFF).VeRuns 0 (drawOp k) (veSlot (drawOp k).slot).spans.1 ∧ (veSlot (drawOp k).slot).op = k
      ∧ ((draws k 0xFEFF).rngDesc 0 (veSlot (drawOp k).slot)).1 = 0xFEFF
      ∧ (dec32 (veSlot (drawOp k).slot).imm).isNaN = false ∧ (dec32 (veSlot (drawOp k).slot).imm).lt (.fin false 0 0) = false
      ∧ (dec32 (veSlot (drawOp k).slot).imm).lt oneV = true)
    ∧ ((draws 0x21 0xFF00).VeRuns 0 (drawOp 0x21) (veSlot (drawOp 0x21).slot).spans.1
      ∧ 0xFF00 ≤ ((draws 0x21 0xFF00).rngDesc 0 (veSlot (drawOp 0x21).slot)).1)
    ∧ (State.reset.seqIdle 0 = true ∧ State.reset.regN (pRNG 0 + Off.RNG_POS) ≠ 2 ^ 24 ∧ State.reset.regN (pRNG 0 + Off.RNG_POS) = 0)
    ∧ (on [(pSEQ 0 + Off.SEQ_STATE, 3)]).seqIdle 0 = false :=
  ⟨fun k h => ⟨⟨rfl, rfl, rfl, rfl, clean_reads rfl _ _⟩, by revert k; decide +kernel, by revert k; decide +kernel,
      by revert k; decide +kernel, by revert k; decide +kernel, by revert k; decide +kernel⟩,
    ⟨⟨rfl, rfl, rfl, rfl, clean_reads rfl _ _⟩, by decide +kernel⟩, by decide, by decide⟩
/-- The smallest window descriptor: one element in, one tap, one element out (R141); its code stands in byte 1. -/
def winBytes (code : Nat) : Bytes :=
  [1] ++ natLE 1 code ++ [3, 0, 1, 0, 1, 0, 1, 0, 0, 0, 1, 0, 1, 0, 1, 0, 1, 0] ++ rep 5 0 ++ [1] ++ rep 14 0 ++ [1, 0, 1, 0, 1, 0, 0, 0]
    ++ rep 9 1 ++ rep 10 0 ++ [1, 1, 1] ++ rep 10 0 ++ [1, 0, 1, 0, 1, 0] ++ rep 10 0 ++ [1, 0, 1, 0, 1, 0]
    ++ [0, 0, 0, 0, 1, 0, 0, 0, 1, 0, 0, 0, 1, 0] ++ [1, 0, 1, 0, 1, 0] ++ rep 6 0
/-- The state with some bytes at the start of the landing buffer of core 0. -/
def landed (s : State) (b : Bytes) : State := { s with mem := ((upTo (lbBase 0) b.length).zip b).filter (fun e => e.2 ≠ 0) }
def winSlot (k : Nat) : Bytes :=
  natLE 1 k ++ [1, 1, 0, 1, 0, 1, 0] ++ natLE 4 256 ++ natLE 4 512 ++ natLE 4 768 ++ rep 12 0
def windows (k : Nat) : State := landed (veCore (op (winSlot k))) (winBytes 0)

theorem windows_desc (k : Nat) : (windows k).lbRd 0 0 128 = winBytes 0 := by
  show (windows 0).lbRd 0 0 128 = winBytes 0
  decide +kernel

theorem wit_WindowOperationsWriteTheirRows : ∀ k ∈ [0x30, 0x31, 0x32, 0x33, 0x34, 0x35, 0x36, 0x38, 0x39, 0x3A, 0x3B, 0x3D],
    (windows k).VeRuns 0 (op (winSlot k)) (winSpans (veSlot (winSlot k)) (winDesc ((windows k).lbRd 0 0 128))).1
    ∧ (veSlot (winSlot k)).op = k ∧ (veSlot (winSlot k)).aux = 0 ∧ (veSlot (winSlot k)).window = true
    ∧ winOk (veSlot (winSlot k)) (winDesc ((windows k).lbRd 0 0 128)) = true
    ∧ (winBound k (winDesc ((windows k).lbRd 0 0 128))).contains 0 = false
    ∧ boxOk (winBound k (winDesc ((windows k).lbRd 0 0 128))) (winDesc ((windows k).lbRd 0 0 128)) = true
    ∧ (winDesc ((windows k).lbRd 0 0 128)).sourcesIn true = true ∧ (winDesc ((windows k).lbRd 0 0 128)).sourcesIn false = true
    ∧ (winDesc ((windows k).lbRd 0 0 128)).foldOk = true := fun k h => by
  refine ⟨⟨rfl, rfl, rfl, rfl, clean_reads rfl _ _⟩, ?_⟩
  simp only [windows_desc]
  revert k; decide +kernel

/-- Prep core 0 in one of its states: 0 in reset, 1 running, 2 halted, 3 waiting. -/
def prepIn (st : Nat) : State := on [(pPREP 0 + Off.PREP_STAT, st)]

theorem wit_PrepCoresRunPostAndTrap :
    (prepIn 0).prepState 0 = 0 ∧ (prepIn 1).prepState 0 = 1 ∧ (prepIn 2).prepState 0 = 2 ∧ (prepIn 3).prepState 0 = 3
    ∧ bit ((on [(pPREP 0 + Off.PREP_CTRL, 1)]).regN (pPREP 0 + Off.PREP_CTRL)) 0 = true ∧ bit (State.reset.regN (pPREP 0 + Off.PREP_CTRL)) 0 = false
    ∧ ((prepIn 1).prepUp 0 = true ∧ ((prepIn 1).core 0).sailings = []) ∧ (prepIn 0).prepUp 0 = false
    ∧ ((0 : DWord).toNat ≤ State.reset.now ∧ State.reset.now < (1 : DWord).toNat)
    ∧ (∃ s : State, s.prepUp 0 = true ∧ (s.core 0).sailings = [{ sailing (rep 0xF0 0 ++ [1]) with waited := false }] ∧ (0 : DWord).toNat ≤ s.now
      ∧ recWait (rep 0xF0 0 ++ [1]) &&& ((1 : DWord).toNat % 2 ^ 32) ≠ 0)
    ∧ ((prepIn 1).prepUp 0 = true ∧ (prepIn 1).region (0xFFFFFFFFFFFFF : DWord).toNat = none)
    ∧ bit ((on [(prepSource 0 0 + Off.PG_IRQ_STAT, 1)]).regN (prepSource 0 0 + Off.PG_IRQ_STAT)) 0 = true :=
  ⟨by decide, by decide, by decide, by decide, by decide, by decide, by decide, by decide, by decide,
    ⟨{ (prepIn 1) with cores := (State.reset.setCore 0 { CoreSt.reset with sailings := [{ sailing (rep 0xF0 0 ++ [1]) with waited := false }] }).cores }, by decide +kernel⟩,
    by decide, by decide⟩
theorem wit_PrepTrapShowsItsCause : State.reset.Wf := ⟨rfl, rfl, rfl, rfl, rfl, rfl, rfl, rfl, rfl, rfl⟩
/-! ### Chapters 06 to 08: ferries, slipway, coded blocks -/

/-- Ferry 0 of core 0 with one operation of an open command. -/
def ferrying (o : SlotOp) : State :=
  { State.reset.setCore 0 { CoreSt.reset with ferries := [[o], [], [], []] } with cmds := [cmd 1 []] }
/-- A ferry slot: opcode, landing buffer, memory, shape (one row of one unit) and argument. -/
def fslot (k lb mem arg : Nat) : Bytes := natLE 1 k ++ [0, 0, 0] ++ natLE 4 lb ++ natLE 8 mem ++ [1, 0, 1, 0] ++ natLE 4 arg

theorem wit_FerriesMoveTheirRows :
    (∀ k ∈ [0x01, 0x03, 0x08, 0x09, 0x10, 0x11], ∃ (s : State) (o : SlotOp) (x : FSlot),
      s.ferryOp 0 0 k = some (o, x) ∧ s.poisonIn 0 [(x.arg, 4 * x.rows)] = none ∧ x.node = s.node ∧ s.served x.mem (x.rows * x.rowB) = true)
    ∧ (∀ k ∈ [1, 2, 3], ∃ (s : State) (o : SlotOp) (x : FSlot), s.ferryOp 0 0 0x02 = some (o, x) ∧ s.poisonIn 0 [(x.lb, 128)] = none
      ∧ (winDesc (s.lbRd 0 x.lb 128)).ferryOk = true ∧ (winDesc (s.lbRd 0 x.lb 128)).outs.contains 0 = false
      ∧ (winDesc (s.lbRd 0 x.lb 128)).op = k ∧ boxOk (winDesc (s.lbRd 0 x.lb 128)).outs (winDesc (s.lbRd 0 x.lb 128)) = true)
    ∧ (∃ (s : State) (o : SlotOp) (x : FSlot), s.ferryOp 0 0 0x05 = some (o, x)
      ∧ s.Fetchable o x.mem (arrBytes (bits x.arg 7 0) x.rows (32 * x.units)))
    ∧ (∃ (s : State) (o : SlotOp) (x : FSlot) (k : Nat), s.ferryOp 0 0 0x0B = some (o, x) ∧ s.localStack x.mem (max (4096 * x.shape) 1) = some k) := by
  refine ⟨?_, ?_, ⟨ferrying (op (fslot 0x05 0 0 0x0808)), _, _, rfl,
      ⟨by decide +kernel, by decide +kernel, by decide +kernel, by decide +kernel, by decide +kernel⟩⟩,
    (ferrying (op (fslot 0x0B 0 0xA000000000 0))).setRegN (pHBMC 0 + Off.HBMC_MAP) 16, _, _, 0, rfl, by decide +kernel⟩
  · intro k h; refine ⟨(ferrying (op (fslot k 0 0 0))).setRegN (pSLNK 0 + Off.SLNK_NODE) 0, op (fslot k 0 0 0), fSlot (fslot k 0 0 0), ?_⟩
    revert k; decide +kernel
  · intro k h; refine ⟨landed (ferrying (op (fslot 2 0 0 0))) (winBytes k), op (fslot 2 0 0 0), fSlot (fslot 2 0 0 0), ?_⟩
    revert k; decide +kernel

/-- Core 0 whose timetable has one record with a COPY_IN on ferry 0, not yet enqueued. -/
def enqueuing : State :=
  let t := table0 0
  { State.reset.setCore 0 { CoreSt.reset with tt := some { run0 true with bytes := t.take 64 ++ rec0.take 0x80 ++ fslot 1 0 0 0 ++ rec0.drop 0x98 } }
    with cmds := [{ cmd 1 [] with begun := true }] }
/-- A QRUN with one entry published at landing-buffer offset 0. -/
def qrun (b : Bytes) : State :=
  landed ((ferrying (op (fslot 6 0 0 0))).setRegN (pFERRY 0 0 + Off.FERRY_QTAIL) 1 |>.setRegN (pFERRY 0 0 + Off.FERRY_QSIZE) 16) b
def fill0 (k : StackIx) (o : SlotOp) : PontCmd := { cmd := o.cmd, item := o.item, work := .fill 0xA000000000 64 0 0 o.recIx o.ring }
def filling : State :=
  let o := { op (fslot 0x0B 0 0xA000000000 0) with unit := 2, issued := true }
  (State.reset.setCore 0 { CoreSt.reset with ferries := [[], [], [o], []] }).setPont 0 [fill0 0 o]

theorem wit_FerryQueueEntersStartsAndLeaves :
    (∃ (s : State) (t : TimetableRun) (w i u : Nat), (s.core 0).tt = some t ∧ (sortSlots (t.waiting 0)).head? = some (w, i, u) ∧ t.checked = true ∧ w ≤ s.now
      ∧ (u = 4 → fld (recUnit (ttRec t.bytes i) u) 0 1 ≠ 0x02) ∧ s.recFailed t i = false ∧ ((s.fq 0 0).filter (·.ring == 0)).length < 16)
    ∧ (∃ (s : State) (o : SlotOp), nextStart (s.fq 0 0) = some o ∧ s.opFailed o = false ∧ o.hollow = false ∧ s.waitMet 0 o.unit o.slot = true
      ∧ s.ferryClear 0 o.todo = true)
    ∧ (∃ (s : State) (o : SlotOp), s.fq 0 0 = [o] ∧ o.done = true ∧ o.unit ≠ 4 ∧ o.ring = 0 ∧ o.signalled = false)
    ∧ (∀ ok ∈ [true, false], ∃ (s : State) (o : SlotOp) (x : FSlot), s.ferryOp 0 0 0x06 = some (o, x)
      ∧ s.regN (pFERRY 0 0 + Off.FERRY_QHEAD) ≠ s.qTail 0 0
      ∧ s.qEntry 0 0 (s.regN (pFERRY 0 0 + Off.FERRY_QHEAD)) = 0 ∧ s.poisonIn 0 [(0, 32)] = none ∧ entryOk (s.lbRd 0 0 32) 0 = ok
      ∧ s.waitMet 0 0 ((s.lbRd 0 0 32).take 24) = true ∧ s.ferryClear 0 { o.todo with ring := o.step + 1, slot := (s.lbRd 0 0 32).take 24 } = true)
    ∧ (∃ s : State, s.seqIdle 0 = false)
    ∧ (∃ (s : State) (v : Word), (v.toNat % (2 * s.qSize 0 0) + 2 * s.qSize 0 0 - s.regN (pFERRY 0 0 + Off.FERRY_QHEAD)) % (2 * s.qSize 0 0) = s.qSize 0 0
      ∧ ((s.core 0).tailOld.lookup 0).isSome = false)
    ∧ (∃ (s : State) (v : Word), s.qSize 0 0 + 1 = (v.toNat % (2 * s.qSize 0 0) + 2 * s.qSize 0 0 - s.regN (pFERRY 0 0 + Off.FERRY_QHEAD)) % (2 * s.qSize 0 0))
    ∧ (State.reset.seqIdle 0 = true ∧ 16 ≤ (16 : DWord).toNat ∧ (4096 : DWord).toNat ≤ 4096 ∧ 2 ^ Nat.log2 (16 : DWord).toNat = (16 : DWord).toNat)
    ∧ (∃ (s : State) (o : SlotOp), s.cohReady [(0xA000000000, 64)] = true ∧ s.pont 0 = [fill0 0 o]
      ∧ ((((State.fillWords 0 1 0xA000000000 (s.homeRecall [(0xA000000000, 64)])).pontDone 0 64 1).fq 0 2).find?
        (fun y => y.recIx == o.recIx && y.unit == 2 && y.ring == o.ring && !y.done)) = some o) := by
  refine ⟨⟨enqueuing, _, 0, 0, 0, rfl, by decide +kernel⟩, ⟨ferrying { op (fslot 1 0 0 0) with begun := false }, _, rfl, by decide +kernel⟩,
    ⟨ferrying { op (fslot 1 0 0 0) with done := true }, _, rfl, by decide⟩, ?_, ⟨State.reset.setRegN (pSEQ 0 + Off.SEQ_STATE) 3, by decide⟩,
    ⟨on [(pFERRY 0 0 + Off.FERRY_QSIZE, 16)], 16, by decide⟩, ⟨on [(pFERRY 0 0 + Off.FERRY_QSIZE, 16)], 17, by decide⟩, by decide,
    filling, { op (fslot 0x0B 0 0xA000000000 0) with unit := 2, issued := true }, by decide +kernel⟩
  intro ok h; simp only [List.mem_cons, List.mem_nil_iff, or_false] at h
  rcases h with h|h <;> subst h
  · exact ⟨qrun (fslot 1 0 0 0 ++ rep 8 0), op (fslot 6 0 0 0), fSlot (fslot 6 0 0 0), by decide +kernel⟩
  · exact ⟨qrun (fslot 6 0 0 0 ++ rep 8 0), op (fslot 6 0 0 0), fSlot (fslot 6 0 0 0), by decide +kernel⟩

/-- Segment 0 of core 0 from 0 to 65,600: the least that is sound. -/
def segment (on? : Bool) : State := on [(slipAt 0 0 Off.SLIP_LIMIT, 65600), (slipAt 0 0 Off.SLIP_BCTRL, b2n on?)]
def slipping (k : Nat) (on? : Bool) : State :=
  (ferrying (op (fslot k 0 0 0))).setRegN (slipAt 0 0 Off.SLIP_BCTRL) (b2n on?)

theorem wit_SlipwayPushesAndPops :
    ((segment false).sOn 0 0 = false ∧ (segment false).segmentOk 0 0 = true) ∧ (State.reset.sOn 0 0 = false ∧ State.reset.segmentOk 0 0 = false)
    ∧ ((segment true).sOn 0 0 = true ∧ (segment true).seqIdle 0 = true)
    ∧ (∃ s : State, s.sOn 0 0 = true ∧ s.seqIdle 0 = false)
    ∧ (∃ (s : State) (o : SlotOp) (x : FSlot), s.ferryOp 0 0 0x0A = some (o, x) ∧ s.berthClear 0 o.todo = true ∧ s.sOn 0 x.berth = true ∧ x.codec ≠ 2)
    ∧ (∃ (s : State) (o : SlotOp) (x : FSlot), s.ferryOp 0 0 0x0A = some (o, x) ∧ s.berthClear 0 o.todo = true ∧ s.sOn 0 x.berth = false)
    ∧ (∃ (s : State) (o : SlotOp) (x : FSlot), s.ferryOp 0 0 0x04 = some (o, x) ∧ s.berthClear 0 o.todo = true ∧ s.sOn 0 x.berth = true)
    ∧ (∃ (s : State) (o : SlotOp), s.refetching 0 0 = some (o, .trailer 64)) :=
  ⟨by decide +kernel, by decide +kernel, by decide +kernel, ⟨(segment true).setRegN (pSEQ 0 + Off.SEQ_STATE) 3, by decide +kernel⟩,
    ⟨slipping 0x0A true, _, _, rfl, by decide +kernel⟩, ⟨slipping 0x0A false, _, _, rfl, by decide +kernel⟩,
    ⟨slipping 0x04 true, _, _, rfl, by decide +kernel⟩, ferrying { op (fslot 4 0 0 0) with refetch := some (.trailer 64) }, _, rfl⟩
theorem wit_PushedTileLiesAtTheTop : State.reset.Wf ∧ (segment true).sStop 0 0 = (segment true).sSbase 0 0
    ∧ (segment true).sHtop 0 0 + 65600 ≤ (segment true).sLimit 0 0
    ∧ ({ size := 128, id := 0, cmd := 0, item := 0, spill := false } : BerthEntry).spill = false := ⟨reset_wf, by decide, by decide, rfl⟩

/-- A raw block of two bytes, and a job that expands it from address 0. -/
def rawBlock : Bytes := codeBlock 0 5 2 none [0x34, 0x12]
def job0 : ExpJob := { addr := 0, lim := 16, owed := 2, whole := true, skip := 0, dst := 0, land := 2 }
def coded (o : SlotOp) (b : Bytes) : State := holding (ferrying { o with jobs := [job0] }) b
def isRaw : BlkRes → Bool
  | .ok _ => true
  | _ => false

theorem wit_CodedBlocksAreCheckedAndExpanded :
    (∃ (s : State) (o : SlotOp), s.expanding 0 0 = some (o, job0, []) ∧ o.refetch = none ∧ isRaw (s.expandJob 0 job0) = true)
    ∧ (∀ r ∈ [[], [Refetch.block 0]], ∃ (s : State) (o : SlotOp), s.expanding 0 0 = some (o, job0, []) ∧ o.refetch = none
      ∧ blkErr (s.expandJob 0 job0) = some (0x04, Status.BLOCK_CHECK, true) ∧ (true && !o.retried.contains (.block job0.addr)) = r.isEmpty)
    ∧ (∃ (s : State) (o : SlotOp), s.refetching 0 0 = some (o, .block 0) ∧ s.expanding 0 0 = some (o, job0, [])
      ∧ blkErr (((s.bump (pEXP 0) Off.EXP_REFETCH_CNT 1).ev (fun e => { e with refetch := e.refetch + 1 })).expandJob 0 job0) = none)
    ∧ (∃ (s : State) (o : SlotOp), s.refetching 0 0 = some (o, .granule 4096) ∧ fld o.slot 0 1 ≠ 0x04 ∧ (0 : DieIx).val = coreDie 0
      ∧ s.regionOf 4096 = some 0)
    ∧ (∃ (s : State) (o : SlotOp) (top : Nat), s.refetching 0 0 = some (o, .granule 0) ∧ fld o.slot 0 1 = 0x04 ∧ s.segTop 0 (fSlot o.slot).berth = some top) := by
  refine ⟨⟨coded (op (fslot 1 0 0 0)) rawBlock, _, rfl, rfl, by decide +kernel⟩, ?_,
    ⟨coded { op (fslot 1 0 0 0) with refetch := some (.block 0) } rawBlock, _, rfl, rfl, by decide +kernel⟩,
    ⟨(ferrying { op (fslot 1 0 0 0) with refetch := some (.granule 4096) }).setRegN (tagrAt 0 Off.TAGR_BASE) 4096 |>.setRegN (tagrAt 0 Off.TAGR_SIZE) 4096
      |>.setRegN (tagrAt 0 Off.TAGR_RCTRL) 1, _, rfl, by decide +kernel⟩,
    (ferrying { op (fslot 4 0 0 0) with refetch := some (.granule 0) }).setRegN (slipAt 0 0 Off.SLIP_HTOP) 128, _, 128, rfl, by decide +kernel⟩
  intro r h; simp only [List.mem_cons, List.mem_nil_iff, or_false] at h
  rcases h with h|h <;> subst h
  · exact ⟨coded (op (fslot 1 0 0 0)) (rawBlock.take 8 ++ [0x35, 0x12]), _, rfl, rfl, by decide +kernel⟩
  · exact ⟨coded { op (fslot 1 0 0 0) with retried := [.block 0] } (rawBlock.take 8 ++ [0x35, 0x12]), _, rfl, rfl, by decide +kernel⟩

/-- R246, R250, R253: elements coded and expanded again come out as they were, in raw and in SB form. -/
theorem test_block_round_trip : expandBlock (fun _ _ => none) 4 (codeBlock 0 5 2 none [1, 2, 3, 4]) = .ok [1, 2, 3, 4]
    ∧ expandBlock (fun _ _ => none) 64 (codeBlock 1 5 2 none (rep 64 0)) = .ok (rep 64 0) := by decide +kernel
/-! ### Chapters 07 and 08: updates, memory, tags and decode tables -/

/-- A decode table (R255): symbol 0 and the escape symbol 15, one bit each. -/
def decTable : Bytes := withCrc ([1, 2, 1, 0] ++ natLE 8 (1 + 2 ^ 60) ++ [127] ++ rep 47 0)
/-- A shard descriptor (R188) of one FP8 parameter, every array at address 0 but the commit record at 0x1000. -/
def shard1 : Bytes := withCrc ([1, 2, 0, 0, 1, 0, 0, 0] ++ rep 80 0 ++ natLE 8 0x1000 ++ rep 28 0)
def updRun (algo : Nat) (items : List UpdItem) : UpdRun :=
  { cmd := 0, algo := algo, step := 1, status := Status.DONE, factor := 0, count := 0, sumCrc := 0, cargoCrc := 0, site := 1, ustate := [],  last := 0,
    queued := false, moved := false, items := items }
def updating (algo : Nat) (items : List UpdItem) : State :=
  { holding { State.reset with cmds := [cmd 4 [1, algo]] } shard1 with upd := some (updRun algo items) }
def ended (k : Cmd) : Cmd := { k with ended := [{ item := 0, status := Status.DONE, tick := 0, bytes := 0 }] }
/-- A snapshot whose T is known and whose freeze is still to come. -/
def snapping : SnapRun := { cmd := 9, t := some 0, frozen := false, fstep := 0, ustate := [], held := [], digs := [] }

/-- A command is executing. -/
def busy : State := { State.reset with cmds := [cmd 1 []] }

theorem wit_UpdatesAreDecidedAndApplied :
    (∀ g ∈ [0, 1, 2, 3], ∃ (s : State) (k : Cmd), s.fresh 0 0x0004 = some k ∧ s.earlierUpd 0 = false ∧ s.updHeld k = false ∧ s.holdBit = false
      ∧ caAlgo k.cargo = g ∧ ∀ y ∈ s.cmds, s.updHeld y = false)
    ∧ (∃ (s : State) (k : Cmd), s.fresh 0 0x0004 = some k ∧ s.earlierUpd 0 = false ∧ s.updHeld k = true ∧ caAlgo k.cargo = 0)
    ∧ (∃ (s : State) (k : Cmd) (r : UpdRun) (it : UpdItem), s.upd = some r ∧ s.cmd? 0 = some k ∧ r.cmd = 0 ∧ k.itemEnded 0 = false ∧ 0 < k.items
      ∧ r.items.find? (·.item == 0) = some it ∧ s.pontTurn k 0 (s.updStack r (shardOf (s.shardBytes k 0))) = true
      ∧ s.cohReady (stepRanges r (shardOf (s.shardBytes k 0)) 0) = true)
    ∧ (∀ g ∈ [0, 2], ∃ (s : State) (k : Cmd) (r : UpdRun), s.upd = some r ∧ s.cmd? 0 = some k ∧ r.algo = g
      ∧ r.items.find? (·.item == 0) = none ∧ s.anyPoison k.table 128 = false ∧ shardOk (s.shardBytes k 0) (r.algo == 2) = true
      ∧ s.sharedCommit k 0 = false ∧ s.placed (shardOf (s.shardBytes k 0)) r.site r.algo = true
      ∧ s.pontTurn k 0 (s.updStack r (shardOf (s.shardBytes k 0))) = true
      ∧ s.cohReady (stepRanges r (shardOf (s.shardBytes k 0)) 0) = true ∧ s.anyPoison (shardOf (s.shardBytes k 0)).commit 64 = false)
    ∧ (∃ (s : State) (k : Cmd) (r : UpdRun), s.upd = some r ∧ s.cmd? 0 = some k ∧ r.cmd = 0 ∧ r.algo ≠ 3 ∧ r.moved = false ∧ k.allEnded = true
      ∧ k.failed = [] ∧ k.whole = none ∧ r.last ≠ r.step ∧ (moveRule r.status (fld r.ustate 4 4) (fld r.ustate 2 2)).2 = none)
    ∧ (∃ (s : State) (k : Cmd) (r : UpdRun), s.upd = some r ∧ s.cmd? 0 = some k ∧ r.cmd = 0 ∧ r.algo ≠ 3 ∧ r.moved = false ∧ k.allEnded = true
      ∧ k.failed = [] ∧ k.whole = none ∧ r.last ≠ r.step ∧ (moveRule r.status (fld r.ustate 4 4) (fld r.ustate 2 2)).2 = some true ∧ r.site ≠ 1 ∧ r.queued = false)
    ∧ (∃ (s : State), s.pont 0 = [{ work := .gexp 0xA000000000 64 true, cmd := 0, item := 0 }] ∧ s.localStack 0xA000000000 64 = some 0 ∧ s.cohReady [(0xA000000000, 64)] = true
      ∧ s.anyPoison 0xA000000000 64 = false) := by
  refine ⟨?_, ⟨{ State.reset with cmds := [cmd 4 [1]], snap := some snapping }, _, rfl, by decide +kernel⟩,
    ⟨updating 0 [{ item := 0, roll := false, factor := 0, block := 0, mid := false }], _, _, _, rfl, rfl, rfl, rfl, by decide, rfl, by decide +kernel⟩,
    ?_, ⟨{ updating 0 [] with cmds := [ended (cmd 4 [1])], upd := some { updRun 0 [] with ustate := rep 2 0 ++ [2] ++ rep 61 0 } }, _, _,
      rfl, rfl, rfl, by decide, rfl, by decide, rfl, rfl, by decide, by decide⟩,
    ⟨{ updating 0 [] with cmds := [ended (cmd 4 [1])], upd := some { updRun 0 [] with site := 0, ustate := rep 2 0 ++ [1] ++ rep 61 0 } }, _, _,
      rfl, rfl, rfl, by decide, rfl, by decide, rfl, rfl, by decide, by decide, by decide, rfl⟩,
    (State.reset.setRegN (pHBMC 0 + Off.HBMC_MAP) 16).setPont 0 [{ work := .gexp 0xA000000000 64 true, cmd := 0, item := 0 }], by decide +kernel⟩
  · intro g h; refine ⟨{ State.reset with cmds := [cmd 4 [1, g]] }, cmd 4 [1, g], ?_⟩
    revert g; decide +kernel
  · intro g h; refine ⟨updating g [], _, _, rfl, rfl, rfl, rfl, ?_⟩
    revert g; decide +kernel
/-- The same for a verification, which has no site. -/
theorem wit_UpdatesAreVerified : ∃ (s : State) (k : Cmd) (r : UpdRun), s.upd = some r ∧ s.cmd? 0 = some k ∧ r.algo = 3
    ∧ s.placed (shardOf (s.shardBytes k 0)) r.site r.algo = true ∧ s.updStack r (shardOf (s.shardBytes k 0)) = none :=
  ⟨updating 3 [], _, _, rfl, rfl, rfl, by decide +kernel⟩
theorem wit_BucketExponentsStayInRange : (0 : Nat) < 256 ∧ 255 < 256 ∧ sext 8 127 = 127 ∧ sext 8 128 = -128 := by decide

/-- The BCTRL registers of the slipways after reset: no segment spills. -/
theorem slip_page : ∀ c < 256, pSLIP c % 4096 = 0 ∧ pageOf (pSLIP c) = some ⟨.slip, c, 0⟩ := by decide +kernel
theorem slip_rows : ∀ o ∈ (upTo 0 32).map (fun b => Off.SLIP_BCTRL + 0x40 * b), o < 4096 ∧ ¬o < 0x40 ∧ o ≠ Off.PG_ID
    ∧ o ≠ Off.PG_CAP0 ∧ o ≠ Off.PG_CAP1 ∧ (slipRows.find? (·.at o)).map (·.reset) = some 0 := by decide +kernel
theorem mem_upTo : ∀ n a k, k ∈ upTo a n → k < a + n
  | 0, _, _, h => by simp [upTo] at h
  | n + 1, a, k, h => by
    rcases List.mem_cons.mp h with h | h
    · omega
    · have := mem_upTo n (a + 1) k h; omega
theorem no_spill : State.reset.anySpill = false := by
  simp only [State.anySpill, List.any_eq_false, Bool.not_eq_true]
  intro c hc b hb
  obtain ⟨pc, pp⟩ := slip_page c (by have := mem_upTo _ _ _ hc; omega)
  obtain ⟨h1, h2, h3, h4, h5, h6⟩ := slip_rows _ (List.mem_map.mpr ⟨b, hb, rfl⟩)
  have e : slipAt c b Off.SLIP_BCTRL = pSLIP c + (Off.SLIP_BCTRL + 0x40 * b) := by simp only [slipAt]; omega
  generalize Off.SLIP_BCTRL + 0x40 * b = o at *
  have q : pageOf (pSLIP c + o) = some ⟨.slip, c, 0⟩ := by
    rw [← pp]; simp only [pageOf]; rw [show (pSLIP c + o) / 4096 = pSLIP c / 4096 by omega]
  have m : (pSLIP c + o) % 4096 = o := by omega
  obtain ⟨r, f, z⟩ := Option.map_eq_some_iff.mp h6
  have g : regRow (pSLIP c + o) = some r := by simp [regRow, q, m, h2, Blk.rows, f]
  have v : State.reset.regN (pSLIP c + o) = 0 := by
    show (smGet regReset [] (pSLIP c + o)).toNat = 0
    simp [smGet, regReset, q, g, m, h3, h4, h5, z]
  simp [State.sSpill, e, v, bit]

theorem wit_MemoryErrorsMapAndTier :
    (State.reset.region 0 = some .hbm ∧ State.reset.region 0xEFFFFFFFFF = some .hbm)
    ∧ (∃ s : State, s.region 0x10000000000 = some .tier ∧ s.tiered = true ∧ s.scrubDue 20 (s.regN (pLPDC 0 + Off.LPDC_SCRUB)) = true)
    ∧ (State.reset.region 0x40000000000 = some .land ∧ State.reset.region 0x4003FFFFFFF = some .land)
    ∧ (∃ s : State, s.scrubDue 0 (s.regN (pHBMC 0 + Off.HBMC_SCRUB)) = true) ∧ (on [(pHBMC 0 + Off.HBMC_SCRUB, 0)]).regN (pHBMC 0 + Off.HBMC_SCRUB) = 0
    ∧ (State.reset.noJob = true ∧ bits 48 5 0 = 48 ∧ bits 49 5 0 = 49) ∧ busy.noJob = false
    ∧ (bit 1 0 = true ∧ State.reset.field (pLPDC 0 + Off.LPDC_STAT) 2 0 ≠ 0) ∧ (bit 0 0 = false ∧ State.reset.anySpill = false)
    ∧ bit ((on [(pLAND 0 + Off.LAND_STAT, 1)]).regN (pLAND 0 + Off.LAND_STAT)) 0 = true
    ∧ ((64 : Nat) ∈ [1, 2, 4, 8, 16, 32, 64] ∧ 0x3FFFC0 % 64 = 0 ∧ 0x3FFFC0 + 64 ≤ 0x400000 ∧ State.reset.poisonIn 0 [(0x3FFFC0, 64)] = none)
    ∧ (State.reset.setPoison (lbBase 0) true).poisonIn 0 [(0, 1)] = some 0 :=
  ⟨by decide, ⟨on [(pLPDC 0 + Off.LPDC_TIER, 1), (pTICK + Off.TIDE_NOW, 10 ^ 6), (pLPDC 0 + Off.LPDC_SCRUB, 1)], by decide +kernel⟩, by decide,
    ⟨on [(pTICK + Off.TIDE_NOW, 10 ^ 6)], by decide +kernel⟩, by decide, by decide +kernel, by decide +kernel,
    by decide +kernel, ⟨rfl, no_spill⟩, by decide, by decide, by decide⟩
theorem wit_DeckWriteChangesItsBytesOnly : (64 : Nat) ∈ [1, 2, 4, 8, 16, 32, 64] ∧ 0x3FFFC0 % 64 = 0 ∧ 0x3FFFC0 + 64 ≤ 0x400000 ∧ (rep 64 0).length = 64
    ∧ State.reset.loc 0 ≠ State.reset.loc (lbBase 0 + 0x3FFFC0) := by decide

/-- Region 0 enabled, one tile of 4 KiB; with a range to retag. -/
def region1 : State :=
  on [(tagrAt 0 Off.TAGR_SIZE, 4096), (tagrAt 0 Off.TAGR_RCTRL, 1), (pTAGR + Off.TAGR_RETAG_LEN, 4096)]
/-- A state in tick 1 with a decode-table slot in some state. -/
def slotIn (st : Nat) : State := on [(pTICK + Off.TICK_NOW, 1), (ctabSlot 0 0, st)]
def load1 : TabLoad := { die := 0, slot := 0, image := decTable, tick := 0, owner := none }
def retire1 : TabRetire := { die := 0, slot := 0, tick := 0, owner := none }

theorem wit_TaggedRegionsAndDecodeTables :
    (State.reset.noJob = true ∧ State.reset.rOn 0 = false) ∧ busy.noJob = false
    ∧ (({ State.reset with tabLoads := [load1] } : State).namesLoading 0 1 = true ∧ State.reset.namesLoading 0 255 = false)
    ∧ (region1.rOn 0 = true ∧ region1.retag = none ∧ region1.rCoded 0 = false ∧ region1.rBase 0 = 0 ∧ region1.rSize 0 = 4096
      ∧ region1.regN (pTAGR + Off.TAGR_RETAG_ADDR) = 0 ∧ region1.regN (pTAGR + Off.TAGR_RETAG_LEN) % (4096 * region1.rTile 0) = 0)
    ∧ (∃ s : State, s.retag = some (0, 0, 4096))
    ∧ ((holding State.reset decTable).loadBad 0 0 ((holding State.reset decTable).rdBytes 0 64) = none
      ∧ (holding State.reset decTable).mappedMem 0 64 = true ∧ (holding State.reset decTable).anyPoison 0 64 = false)
    ∧ State.reset.loadBad 0 0 (State.reset.rdBytes 0 64) = some 1
    ∧ (∃ s : State, s.tabLoads.find? (fun l => l.die == 0 && l.slot == 0 && decide (l.tick < s.now)) = some load1
      ∧ (∀ x ∈ s.tabLoads.erase load1, x.die ≠ 0) ∧ load1.owner = none)
    ∧ (∃ s : State, s.tabRetire.find? (fun l => l.die == 0 && l.slot == 0 && decide (l.tick < s.now)) = some retire1 ∧ retire1.owner = none
      ∧ ({ s with tabRetire := s.tabRetire.erase retire1 } : State).tabState 0 0 = 2)
    ∧ (∃ s : State, s.tabZero.lookup 0 = some 0 ∧ 0 < s.now ∧ s.tabState 0 0 = 3)
    ∧ (∃ (s : State) (k : Cmd), s.fresh 0 0x0007 = some k ∧ fld k.cargo 0 1 = 1) :=
  ⟨by decide +kernel, by decide +kernel, by decide +kernel, by decide +kernel, ⟨{ region1 with retag := some (0, 0, 4096) }, rfl⟩, by decide +kernel, by decide +kernel,
    ⟨{ slotIn 1 with tabLoads := [load1] }, by decide +kernel⟩, ⟨{ slotIn 2 with tabRetire := [retire1] }, by decide +kernel⟩,
    ⟨{ slotIn 3 with tabZero := [(0, 0)] }, by decide +kernel⟩,
    ⟨{ State.reset with cmds := [cmd 7 ([1, 15, 0, 1] ++ rep 12 0)] }, _, rfl, by decide +kernel⟩⟩
/-! ### Chapters 09 and 10: coherence and the server cores -/

/-- The coherence state with line 1 in the cache of participant 0. -/
def cached (st : LineState) (held : Bool) : State :=
  { State.reset with coh := { CohSt.reset with copies := [{ part := 0, line := 1, st := st, held := held, cores := [0], l2 := [] }] } }
/-- The coherence state with a FIFO for line 1, and with a directory entry. -/
def queued (t : HomeTx) (sh : List Nat) : State :=
  { State.reset with
    coh := { CohSt.reset with
      fifos := [(1, [t])]
      dir := if sh.isEmpty then [] else [{ line := 1, owned := false, sharers := sh }] } }
def read0 : HomeTx := mkTx .rdOwn (.part 0) 0 []
/-- Participant 1 has been snooped for it. -/
def snooped (again : Option Nat) : HomeTx := { read0 with started := true, waits := [{ part := 1, kind := .inv, resend := again, dif := false }] }
def answered (r : SnoopRsp) : State :=
  let s := queued (snooped none) [1]
  { s with coh := { s.coh with answers := [{ part := 1, line := 1, rsp := r }] } }
def sent (k : TxKind) : State :=
  { State.reset with coh := { CohSt.reset with reqs := [(1, mkTx k (.part 0) 0 [])], dir := [{ line := 1, owned := true, sharers := [0] }] } }
def asked (s : State) (k : SnoopKind) (again : Bool) : State :=
  { s with coh := { s.coh with snoops := [{ part := 0, line := 1, kind := k, again := again }] } }
def replied (s : State) (g : CohAgent) (k : ReplyKind) : State :=
  { s with coh := { s.coh with replies := [{ agent := g, line := 1, kind := k, core := 0, contended := false, poison := false, data := [] }] } }
def atom0 : AtomRun := { core := .server 0, op := .amo .add, size := .b32, aq := false, a := 64, v := 1, far := true }

theorem wit_RequestsEnterTheLineFifo : State.reset.coh.reqs = [] ∧ State.reset.devMem 0 64 = true ∧ State.reset.devMem (0xEFFFFFFFFF / 64 * 64) 64 = true
    ∧ classA 31 = false ∧ classA 32 = true ∧ 64 % amoBytes true = 0 ∧ (rep 64 0).length = 64
    ∧ ((0 : Nat) < 1 ∧ State.reset.devMem (64 * (0xFC0 / 64)) (64 * pageLines 0xFC0 1) = true)
    ∧ (0 < (rep 4096 0).length / 64 ∧ State.reset.devMem (64 * (0 / 64)) (64 * pageLines 0 ((rep 4096 0).length / 64)) = true) := by decide +kernel

theorem wit_HomesServeAndRequestsComplete :
    (∃ s : State, s.fifo 1 = [read0] ∧ read0.started = false ∧ (s.coh.setOf 1).length < 12 ∧ (s.coh.targets 1 read0).2 = [])
    ∧ (∃ s : State, s.fifo 1 = [read0] ∧ read0.started = false ∧ (s.coh.entry 1).isSome = true ∧ s.coh.targets 1 read0 = (.inv, [1]))
    ∧ (∃ (s : State) (w : SnoopWait) (x : CohAns) (r : List CohAns), s.coh.takeAnswer 1 1 = some (some (x, r)) ∧ x.rsp = .i
      ∧ headWait (s.fifo 1) 1 = some w ∧ queuedLeave (s.fifo 1) 1 .evict = false)
    ∧ (∃ (s : State) (w : SnoopWait) (x : CohAns) (r : List CohAns), s.coh.takeAnswer 1 1 = some (some (x, r)) ∧ x.rsp = .hold 63
      ∧ headWait (s.fifo 1) 1 = some w)
    ∧ State.reset.coh.takeAnswer 1 1 = none
    ∧ (∃ (s : State) (w : SnoopWait), headWait (s.fifo 1) 1 = some w ∧ w.resend = some 0)
    ∧ (∃ (s : State) (w : SnoopWait), headWait (s.fifo 1) 1 = some w ∧ w.resend = none)
    ∧ (∃ (s : State) (x : Nat × HomeTx) (r : List (Nat × HomeTx)), s.leave 0 1 .evict = some (some (x, r)))
    ∧ (∃ (s : State) (x : Nat × HomeTx) (r : List (Nat × HomeTx)), s.leave 0 1 .wb = some (some (x, r)) ∧ (s.coh.sharers 1).contains 0 = true)
    ∧ (∀ k ∈ [TxKind.rdOwn, .wrLine, .wb, .rdShared], ∃ (s : State) (t : HomeTx), s.fifo 1 = [t] ∧ t.kind = k ∧ t.agent = .part 0 ∧ classA 0 = false
      ∧ (s.coh.sharers 1).filter (· ≠ 0) = [])
    ∧ (∃ (s : State) (t : HomeTx), s.fifo 1 = [t] ∧ t.kind = .rdShared ∧ t.agent = .part 32 ∧ classA 32 = true ∧ (s.coh.sharers 1).filter (· ≠ 32) ≠ []) := by
  refine ⟨⟨queued read0 [], rfl, rfl, by decide, by decide⟩, ⟨queued read0 [1], rfl, rfl, rfl, by decide⟩, ⟨answered .i, _, _, _, rfl, rfl, rfl, by decide +kernel⟩,
    ⟨answered (.hold 63), _, _, _, rfl, rfl, rfl⟩, rfl, ⟨queued (snooped (some 0)) [1], _, rfl, rfl⟩, ⟨queued (snooped none) [1], _, rfl, rfl⟩,
    ⟨sent .evict, _, _, rfl⟩, ⟨sent .wb, _, _, rfl, by decide⟩, ?_, ⟨queued (mkTx .rdShared (.part 32) 0 []) [1], _, rfl, rfl, rfl, rfl, by decide⟩⟩
  intro k h; refine ⟨queued (mkTx k (.part 0) 0 []) [], mkTx k (.part 0) 0 [], ?_⟩
  revert k; decide +kernel

/-- Lines that are 2^52 bytes apart have one home (R260). -/
theorem home_far (k : Nat) : homeOf (64 * (2 ^ 46 * k)) = 0 := by
  have e : 64 * (2 ^ 46 * k) % 2 ^ 52 = 0 := by omega
  unfold homeOf; rw [e]; decide

/-- Line `l` has a transaction, and the directory twelve entries of line `m`. -/
def crowded (l m : Nat) : State :=
  { State.reset with coh := { CohSt.reset with fifos := [(l, [read0])], dir := List.replicate 12 { line := m, owned := false, sharers := [0] } } }
theorem crowded_set (l m : Nat) (h : homeOf (64 * m) = homeOf (64 * l)) (d : Config.dirSet m % 65536 = Config.dirSet l % 65536) :
    (crowded l m).coh.setOf l = List.replicate 12 { line := m, owned := false, sharers := [0] } := by
  simp only [CohSt.setOf, crowded, List.filter_replicate, h, d, beq_self_eq_true, if_true, List.length_replicate, Nat.lt_irrefl, if_false]
theorem crowded_fifo (l m : Nat) : (crowded l m).fifo l = [read0] ∧ (m ≠ l → (crowded l m).fifo m = []) := by
  constructor
  · simp [State.fifo, crowded, smGet]
  · intro h; simp [State.fifo, crowded, smGet, h, h.symm]

/-- A full directory set whose entries all have an empty FIFO; by the pigeonhole principle there is one, whatever the hash. -/
theorem wit_FullSetIsMadeRoom : ∃ (s : State) (l : Nat) (v : DirEntry), s.fifo l = [read0] ∧ read0.started = false ∧ needsEntry read0 = true
    ∧ s.coh.entry l = none ∧ 12 ≤ (s.coh.setOf l).length ∧ (s.coh.setOf l).any (fun e => (s.fifo e.line).any (·.kind == .backInv)) = false
    ∧ (s.coh.setOf l).find? (fun e => (s.fifo e.line).isEmpty) = some v := by
  obtain ⟨x, -, y, -, hne, he⟩ := Finset.exists_ne_map_eq_of_card_lt_of_maps_to (s := Finset.range 65537) (t := Finset.range 65536)
    (f := fun k => Config.dirSet (2 ^ 46 * k) % 65536) (by simp) (fun k _ => by simp; omega)
  obtain ⟨l, hl⟩ : ∃ l, l = 2 ^ 46 * x := ⟨_, rfl⟩
  obtain ⟨m, hm⟩ : ∃ m, m = 2 ^ 46 * y := ⟨_, rfl⟩
  have hs := crowded_set l m (by rw [hl, hm, home_far, home_far]) (by rw [hl, hm]; exact he.symm)
  have ne : m ≠ l := by omega
  refine ⟨crowded l m, l, { line := m, owned := false, sharers := [0] }, (crowded_fifo l m).1, rfl, rfl, ?_, by rw [hs]; simp, ?_, by rw [hs]; simp [List.replicate, (crowded_fifo l m).2 ne]⟩
  · simp [CohSt.entry, crowded, List.replicate, ne]
  · rw [hs]; simp [List.replicate, (crowded_fifo l m).2 ne]

theorem wit_ParticipantsAnswerAndReceive :
    (∀ k ∈ [SnoopKind.inv, .share, .back], ∃ (s : State) (r : CohSnoop) (rs : List CohSnoop),
      s.coh.takeSnoop 0 1 k = some (some (r, rs)) ∧ s.coh.granting 0 1 = false ∧ s.coh.copy 0 1 = none)
    ∧ (∀ k ∈ [SnoopKind.inv, .share, .back], ∀ st ∈ [LineState.wbp, .m, .e, .s], ∃ (s : State) (r : CohSnoop) (rs : List CohSnoop) (c : CacheCopy),
      s.coh.takeSnoop 0 1 k = some (some (r, rs)) ∧ s.coh.granting 0 1 = false
      ∧ s.coh.copy 0 1 = some c ∧ c.held = true ∧ r.again = true ∧ c.st = st ∧ classA 0 = false)
    ∧ (∃ (s : State) (r : CohSnoop) (rs : List CohSnoop) (c : CacheCopy), s.coh.takeSnoop 0 1 .inv = some (some (r, rs)) ∧ s.coh.granting 0 1 = false
      ∧ s.coh.copy 0 1 = some c ∧ c.held = true ∧ r.again = false ∧ classA 0 = false)
    ∧ (∀ k ∈ [ReplyKind.gntS, .gntE, .gntM], ∃ (s : State) (r : CohReply) (rs : List CohReply),
      s.coh.takeReply (.part 0) 1 (fun k => (match k with
        | .gntS => some LineState.s
        | .gntE => some LineState.e
        | .gntM => some LineState.m
        | _ => none).isSome) = some (some (r, rs)) ∧ r.kind = k)
    ∧ (∃ (s : State) (r : CohReply) (rs : List CohReply) (c : CacheCopy),
      s.coh.takeReply (.part 0) 1 (· == .gntUp) = some (some (r, rs)) ∧ s.coh.copy 0 1 = some c ∧ c.st = .s)
    ∧ (∀ k ∈ [ReplyKind.dataOnce, .wrDone], ∃ (s : State) (r : CohReply) (rs : List CohReply), agentPart .host = none
      ∧ s.coh.takeReply .host 1 (· == k) = some (some (r, rs)))
    ∧ (∃ (s : State) (r : CohReply) (rs : List CohReply), agentPart (.part 32) = some 32
      ∧ s.coh.takeReply (.part 32) 1 (· == .dataOnce) = some (some (r, rs)))
    ∧ (∃ (s : State) (r : CohReply) (rs : List CohReply),
      s.coh.takeReply (.part 0) 1 (· == .wbAck) = some (some (r, rs)) ∧ s.coh.evs.contains (0, 1) = true)
    ∧ (∃ (s : State) (r : CohReply) (rs : List CohReply),
      s.coh.takeReply (.part 0) 1 (· == .wbAck) = some (some (r, rs)) ∧ s.coh.evs.contains (0, 1) = false
      ∧ (s.coh.copy 0 1).any (·.st == .wbp) = true)
    ∧ (∃ (s : State) (r : CohReply) (rs : List CohReply),
      s.coh.takeReply (.part 0) 1 (fun k => (amoOld k).isSome) = some (some (r, rs)) ∧ r.kind = .amoRsp 5 false
      ∧ s.coh.atoms.find? (fun x => x.far && atomPart x.core == 0 && x.a / 64 == 1 && atomIx x.core == r.core) = some atom0)
    ∧ (∀ st ∈ [LineState.s, .e], ∃ (s : State) (c : CacheCopy), s.coh.copy 0 1 = some c ∧ c.held = true ∧ c.st = st) := by
  refine ⟨fun k h => ⟨asked State.reset k false, { part := 0, line := 1, kind := k, again := false }, [], ?_⟩,
    fun k h st g => ⟨asked (cached st true) k true, { part := 0, line := 1, kind := k, again := true }, [],
      { part := 0, line := 1, st := st, held := true, cores := [0], l2 := [] }, ?_⟩,
    ⟨asked (cached .m true) .inv false, _, _, _, rfl, rfl, rfl, rfl, rfl, rfl⟩,
    fun k h => ⟨replied State.reset (.part 0) k, { agent := .part 0, line := 1, kind := k, core := 0, contended := false, poison := false, data := [] }, [], ?_⟩,
    ⟨replied (cached .s false) (.part 0) .gntUp, _, _, _, rfl, rfl, rfl⟩,
    fun k h => ⟨replied State.reset .host k, { agent := .host, line := 1, kind := k, core := 0, contended := false, poison := false, data := [] }, [], ?_⟩,
    ⟨replied State.reset (.part 32) .dataOnce, _, _, rfl, rfl⟩,
    ⟨replied { State.reset with coh := { CohSt.reset with evs := [(0, 1)] } } (.part 0) .wbAck, _, _, rfl, rfl⟩,
    ⟨replied (cached .wbp false) (.part 0) .wbAck, _, _, rfl, rfl, rfl⟩,
    ⟨replied { State.reset with coh := { CohSt.reset with atoms := [atom0] } } (.part 0) (.amoRsp 5 false), _, _, rfl, rfl, rfl⟩,
    fun st g => ⟨cached st true, { part := 0, line := 1, st := st, held := true, cores := [0], l2 := [] }, ?_⟩⟩
  · revert k; decide +kernel
  · revert k st; decide +kernel
  · revert k; decide +kernel
  · revert k; decide +kernel
  · revert st; decide +kernel

theorem wit_AtomicsAndDieCachesAct :
    (∀ st ∈ [LineState.e, .m], ∃ (s : State) (c : CacheCopy), atomKnown (.server 0) (.amo .add) .b64 = true ∧ 64 % atomBytes .b64 = 0
      ∧ s.devMem (64 / 64 * 64) 64 = true ∧ s.coh.atoms = []
      ∧ s.coh.copy (atomPart (.server 0)) (64 / 64) = some c ∧ c.st = st ∧ c.cores.contains (atomIx (.server 0)) = true)
    ∧ (∃ s : State, atomKnown (.server 0) .lr .b32 = true ∧ 2 % atomBytes .b32 ≠ 0 ∧ s.srvState 0 = 1)
    ∧ (State.reset.dieIdle 3 = true ∧ State.reset.coh.copies.filter (·.part == 35) = [])
    ∧ (on [(pSEQ 255 + Off.SEQ_STATE, 3)]).dieIdle 3 = false
    ∧ (∃ s : State, s.prepUp 0 = true ∧ s.poisoned 64 = true)
    ∧ (State.reset.noJob = true ∧ 64 ≤ (64 : Word).toNat % 65536) ∧ (63 : Word).toNat % 65536 < 64 := by
  refine ⟨fun st g => ⟨cached st false, { part := 0, line := 1, st := st, held := false, cores := [0], l2 := [] }, ?_⟩,
    ⟨on [(pSRVC 0 + Off.SRVC_STAT, 1)], by decide⟩, by decide +kernel, by decide +kernel,
    ⟨(prepIn 1).setPoison 64 true, by decide +kernel⟩, by decide +kernel, by decide⟩
  revert st; decide +kernel

/-- Server core 127 in one of its states: 0 stopped, 1 running, 2 reserved. -/
def serverIn (st : Nat) : State := on [(pSRVC 127 + Off.SRVC_STAT, st)]
theorem wit_ServerCoresRunStopAndFail :
    (serverIn 0).srvState 127 = 0 ∧ (serverIn 1).srvState 127 = 1 ∧ ((serverIn 2).srvState 127 = 2 ∧ (serverIn 2).updating = false)
    ∧ (∀ m ∈ [1000, 3200], 1000 ≤ (BitVec.ofNat 12 m).toNat ∧ (BitVec.ofNat 12 m).toNat ≤ serverMax State.reset.pmode ∧ (BitVec.ofNat 12 m).toNat % 100 = 0)
    ∧ (999 : BitVec 12).toNat < 1000 ∧ serverMax State.reset.pmode < (3300 : BitVec 12).toNat ∧ (1050 : BitVec 12).toNat % 100 ≠ 0
    ∧ (∃ s : State, s.srvState 127 ≠ 0 ∧ s.poisoned 64 = true) :=
  ⟨by decide, by decide, by decide, by decide, by decide, by decide, by decide, ⟨(serverIn 1).setPoison 64 true, by decide +kernel⟩⟩
/-! ### Chapter 10: queues and commands -/

/-- Sound rings of queue `q`, in its status register bits `st`. -/
def ringed (q st : Nat) : State :=
  on [(qPage q + Off.CQ_RING_SIZE, 64), (qPage q + Off.CQ_CPL_SIZE, 65536), (qPage q + Off.CQ_STAT, st), (pTICK + Off.TICK_NOW, 5)]
/-- A doorbell of tick 0 for one entry, which is fetched (or not). -/
def belled (q st : Nat) (es : List (Bytes × Bool)) : State :=
  (ringed q st).setQueue q { QueueSt.reset with bells := [{ tick := 0, cycle := 0, tail := 1 }], fetched := es, fetchIx := es.length }
def nopEntry : Bytes := natLE 2 10 ++ [1, 0] ++ natLE 4 1 ++ rep 120 0
def runEntry : Bytes := natLE 2 1 ++ [1, 0] ++ natLE 4 1 ++ rep 32 0 ++ natLE 8 32 ++ [1, 0, 1] ++ rep 77 0
def headWith (b : Bytes) : HeadCmd := { src := 0, bytes := b, poison := false, ix := 0, tick := 0, cycle := 0 }
/-- An item that failed and one that is done. -/
def twoEnds : List ItemEnd := [{ item := 0, status := 1, tick := 0, bytes := 0 }, { item := 1, status := 0, tick := 0, bytes := 0 }]
def commanded (k : Cmd) : State := { ringed 0 1 with cmds := [k] }

theorem wit_QueuesServeRingsAndWriteRecords :
    (∀ q ∈ [63, 64], (ringed q 0).qDetached q = false ∧ (ringed q 0).qEnabled q = false ∧ (ringed q 0).ringsOk q = true
      ∧ (ringed q 0).inflight q = 0 ∧ (ringed q 0).heldCount q = 0 ∧ ((ringed q 0).queue q).overflow = none
      ∧ (ringed q 1).qEnabled q = true ∧ (ringed q 1).qDetached q = false)
    ∧ (∃ s : State, s.qDetached 63 = false ∧ s.qEnabled 63 = false ∧ s.ringsOk 63 = false)
    ∧ (∃ s : State, s.qDetached 63 = true ∧ s.pcieUp 0 = true ∧ s.ringsOk 63 = true)
    ∧ (∃ s : State, s.qEnabled 0 = true ∧ s.qDetached 0 = false ∧ s.fetchReady 0 = true)
    ∧ busy.inflight 0 ≠ 0
    ∧ (ringDist 64 0 64 = 64 ∧ ringDist 64 0 65 = 65)
    ∧ (∃ (s : State) (b : Doorbell), ((s.queue 64).bells.filter (fun b => decide (b.tick < s.now))).getLast? = some b
      ∧ s.qEnabled 64 = true ∧ (s.queue 64).fetched = [] ∧ s.fetchReady 64 = true ∧ s.Wf
      ∧ 1 + entExt (s.engineRead (s.qReg 64 Off.CQ_RING_BASE + 128 * ((s.queue 64).fetchIx % s.qReg 64 Off.CQ_RING_SIZE)) 128).2.1
        ≤ ringDist (s.qReg 64 Off.DOCK_RING_SIZE) (s.queue 64).fetchIx b.tail)
    ∧ (∀ q ∈ [0, 64], ∃ (s : State) (k : Cmd), s.cmd? 0 = some k ∧ k.src = q ∧ k.closed = false)
    ∧ (∃ (s : State) (k : Cmd) (r : CplRec), s.cmd? 0 = some k ∧ k.src < 64 ∧ k.closed = false ∧ k.cpl ≠ 0 ∧ k.due[k.recsOut]? = some r
      ∧ bit r.flags 0 = false ∧ k.fenceAll = false ∧ s.qDetached k.src = false ∧ (s.queue k.src).owed = 0
      ∧ (s.queue k.src).owedOv = false ∧ s.reaches (k.cpl + 32 * k.recsOut) = true
      ∧ s.cohReady [(k.cpl + 32 * k.recsOut, 32), (k.cpl + 32 * k.recsOut, 32)] = true) := by
  refine ⟨by decide +kernel, ⟨(ringed 63 0).setRegN (qPage 63 + Off.CQ_RING_SIZE) 63, by decide +kernel⟩, ⟨(ringed 63 16).setRegN (pPCIE 0 + Off.PCIE_STAT) 1, by decide +kernel⟩,
    ⟨ringed 0 1, by decide +kernel⟩, by decide +kernel, by decide,
    ⟨belled 64 1 [], { tick := 0, cycle := 0, tail := 1 }, by decide +kernel, by decide +kernel, by decide +kernel, by decide +kernel,
      ⟨by decide +kernel, by decide +kernel, rfl, rfl, rfl, rfl, by decide +kernel, rfl, rfl, rfl⟩, by decide +kernel⟩, ?_,
    commanded { cmd 3 [] with cpl := 64, items := 2, ended := twoEnds }, _, ({ cmd 3 [] with cpl := 64, items := 2, ended := twoEnds } : Cmd).itemRec
    { item := 0, status := 1, tick := 0, bytes := 0 }, rfl, ?_⟩
  · intro q h; refine ⟨{ State.reset with cmds := [{ cmd 1 [] with src := q }] }, { cmd 1 [] with src := q }, ?_⟩
    revert q; decide +kernel
  · decide +kernel

/-- Queue 0 with an entry read, of a doorbell in cycle 1, and queue 1 with one unread, of a doorbell in cycle 0. -/
def headAndUnread : State :=
  let s := (belled 0 1 []).setRegN (qPage 1 + Off.CQ_RING_SIZE) 64 |>.setRegN (qPage 1 + Off.CQ_STAT) 1
  (s.setQueue 0 { QueueSt.reset with bells := [{ tick := 0, cycle := 1, tail := 1 }], fetched := [(nopEntry, false)], fetchIx := 1 }).setQueue 1
    { QueueSt.reset with bells := [{ tick := 0, cycle := 0, tail := 1 }] }

theorem wit_CommandsAreAcceptedInOrder :
    (∃ s : State, (((upTo 0 192).filterMap s.headOf).mergeSort HeadCmd.before).find? (fun x => !s.mustWait x) = some (headWith nopEntry)
      ∧ (∀ x ∈ (upTo 0 192).filterMap s.headOf, s.mustWait x = false) ∧ ∀ x ∈ (upTo 0 192).filterMap s.unread, x.before (headWith nopEntry) = false)
    ∧ (∃ (s : State) (x : HeadCmd), x ∈ (upTo 0 192).filterMap s.unread ∧ x.before { headWith nopEntry with cycle := 1 } = true
      ∧ (upTo 0 192).filterMap s.headOf = [{ headWith nopEntry with cycle := 1 }] ∧ s.mustWait { headWith nopEntry with cycle := 1 } = false)
    ∧ (∃ s : State, (upTo 0 192).filterMap s.headOf = [headWith runEntry] ∧ s.mustWait (headWith runEntry) = true ∧ (headWith runEntry).src < 64)
    ∧ (upTo 0 192).filterMap State.reset.headOf = []
    ∧ ({ headWith nopEntry with poison := true } : HeadCmd).poison = true
    ∧ ((headWith (rep 128 0)).poison = false ∧ fld (rep 128 0) 2 1 ≠ 1)
    ∧ (fld (natLE 2 0 ++ [1] ++ rep 125 0) 2 1 = 1 ∧ entOp (natLE 2 0 ++ [1] ++ rep 125 0) = 0) :=
  ⟨⟨belled 0 1 [(nopEntry, false)], by decide +kernel⟩,
    ⟨headAndUnread, { headWith [] with src := 1 }, by decide +kernel⟩,
    ⟨(belled 0 1 [(runEntry, false)]).setRegN (pSEQ 0 + Off.SEQ_STATE) 2, by decide +kernel⟩,
    by decide +kernel, rfl, by decide +kernel, by decide +kernel⟩

/-- A service descriptor (R302): core 0, batches of 1, a result of 64 bytes. -/
def service : Bytes := withCrc ([1, 0, 0, 0, 1, 1, 1, 0, 1, 0, 64, 0] ++ rep 20 0 ++ natLE 8 100 ++ rep 20 0)
def queryCmd : Cmd := { cmd 8 [1] with cpl := 64 }
def query0 : QueryRun := { cmd := 0, svc := 1, table := 0, core := 0, tick := 3, slot := 0, due := 5, len := 64, out := 0, placed := 2, written := true }

theorem wit_CommandsAct :
    (∀ n ∈ [1, 448], ∃ (s : State) (k : Cmd), s.fresh 0 0x0002 = some k ∧ fld k.cargo 8 2 = n
      ∧ s.mappedMem (fld k.cargo 0 8) n = true ∧ s.outDown (fld k.cargo 0 8) = false ∧ s.cohReady [(fld k.cargo 0 8, n)] = true)
    ∧ (∃ (s : State) (k : Cmd), s.fresh 0 0x0003 = some k)
    ∧ (∃ (s : State) (k : Cmd), s.cmd? 0 = some k ∧ k.opcode = 3 ∧ k.begun = true ∧ k.allEnded = false ∧ k.running.length < k.items
      ∧ s.copyBusy < 8 ∧ k.itemEnded k.running.length = false ∧ k.id = 0)
    ∧ (∃ (s : State) (k : Cmd), s.cmd? 0 = some k ∧ k.opcode = 3 ∧ k.begun = true ∧ k.allEnded = false ∧ k.running.length = 0 ∧ 0 < k.items
      ∧ s.copyBusy < 8 ∧ k.itemEnded 0 = false ∧ k.id = 0 ∧ k.table = 0 ∧ s.outDown 0 = false ∧ s.anyPoison 0 32 = false ∧ fld (s.rdBytes 0 32) 0 8 = 0
      ∧ fld (s.rdBytes 0 32) 8 8 = 1 ∧ fld (s.rdBytes 0 32) 16 8 = 1 ∧ fld (s.rdBytes 0 32) 24 4 = s.node ∧ s.node < 0x7FFF
      ∧ s.mappedMem 0 1 = true ∧ s.mappedMem 1 1 = true ∧ overlap (0, 1) (1, 1) = false ∧ s.outDown 1 = false ∧ s.anyPoison 0 1 = false
      ∧ s.cohReady [(0, 32)] = true ∧ s.cohReady [(0, 1), (1, 1)] = true)
    ∧ (∃ (s : State) (k : Cmd), s.fresh 0 0x0009 = some k ∧ ∀ x ∈ s.cmds, x.id < 0 → x.src = k.src ∨ k.fenceAll = true → s.recWritten x = true)
    ∧ (∃ (s : State) (k x : Cmd), s.fresh 1 0x0009 = some k ∧ x ∈ s.cmds ∧ x.id < 1 ∧ x.src = k.src ∧ s.recWritten x = false)
    ∧ (∃ (s : State) (k : Cmd), s.fresh 0 0x000A = some k ∧ k.start < s.now ∧ k.accTick < s.now)
    ∧ (∃ (s : State) (k : Cmd), s.fresh 0 0x0008 = some k ∧ s.cohReady [(k.table, 64)] = true ∧ s.outDown k.table = false ∧ s.anyPoison k.table 64 = false ∧ queryOk k = true ∧ svcOk (s.rdBytes k.table 64) = true)
    ∧ (∃ (s : State) (k : Cmd), s.cmds.filter (fun k => k.opcode == 8 && !k.allEnded && !s.queries.any (·.cmd == k.id)) = [k] ∧ k.begun = true
      ∧ s.queryWaits k = false)
    ∧ (∃ (s : State) (k : Cmd) (x : QueryRun), s.queries.find? (fun x => decide (x.due ≤ s.now)) = some x ∧ s.cmd? x.cmd = some k
      ∧ k.itemEnded 0 = false ∧ s.queryStatus x = Status.DONE ∧ s.anyPoison (lbBase x.core + x.out) x.len = false
      ∧ s.mappedMem (k.cpl + 64) x.len = true ∧ s.outDown (k.cpl + 64) = false ∧ s.cohReady [(k.cpl + 64, x.len)] = true) := by
  refine ⟨?_, ⟨commanded (cmd 3 []), _, rfl⟩, ⟨commanded { cmd 3 [] with begun := true }, _, rfl, by decide +kernel⟩,
    ⟨(holding (commanded { cmd 3 [] with begun := true }) (rep 8 0 ++ natLE 8 1 ++ natLE 8 1 ++ rep 8 0)).setRegN (pSLNK 0 + Off.SLNK_NODE) 0, _, rfl, by decide +kernel⟩,
    ⟨commanded (cmd 9 []), _, rfl, by decide +kernel⟩, ⟨{ commanded (cmd 1 []) with cmds := [cmd 1 [], { cmd 9 [] with id := 1 }] }, _, cmd 1 [], rfl, by decide +kernel⟩,
    ⟨commanded (cmd 10 []), _, rfl, by decide +kernel⟩, ⟨holding (commanded queryCmd) service, _, rfl, by decide +kernel⟩,
    ⟨commanded { queryCmd with begun := true }, { queryCmd with begun := true }, by decide +kernel⟩,
    ⟨{ commanded { queryCmd with begun := true } with queries := [query0], cmds := [{ queryCmd with begun := true }, { cmd 1 [] with id := 1 }] }, _,
      query0, rfl, rfl, by decide +kernel⟩⟩
  intro n h; refine ⟨commanded (cmd 2 (natLE 8 0 ++ natLE 2 n ++ rep 6 0)), cmd 2 (natLE 8 0 ++ natLE 2 n ++ rep 6 0), ?_⟩
  revert n; decide +kernel
/-! ### Chapters 11 and 12: PCIe and Sundlink -/

/-- Both PCIe links up, port A as an endpoint. -/
def linked : State := on [(pPCIE 0 + Off.PCIE_STAT, 1), (pPCIE 1 + Off.PCIE_STAT, 1)]
theorem wit_PciePortsCarryAndLoseTheHost :
    (widthOk 16 = true ∧ State.reset.pcieUp 0 = false ∧ State.reset.pcie.d3 = false ∧ State.reset.powered 6 = true) ∧ (linked.pcieUp 0 = true ∧ linked.pcieUp 1 = true)
    ∧ (linked.Wf ∧ linked.rootMode = false)
    ∧ (∃ s : State, s.pcie.d3 = true) ∧ (∃ s : State, s.pcie.abort = some 0 ∧ 0 < s.now)
    ∧ (linked.rootMode = false ∧ linked.pcieUp 0 = true ∧ 2 ^ 36 - 4096 + 4096 ≤ 2 ^ linked.pcie.bar2
      ∧ linked.devMem (linked.regN (pPCIE 0 + Off.PCIE_BAR2_BASE) + (2 ^ 36 - 4096)) 4096 = true
      ∧ linked.cohReady [(linked.regN (pPCIE 0 + Off.PCIE_BAR2_BASE) + (2 ^ 36 - 4096), 4096)] = true)
    ∧ ((State.reset.rangeRegion 0xE000000000000 1).isSome = true ∧ State.reset.outDown 0xE000000000000 = true)
    ∧ ((linked.rangeRegion 0xEFFFFFFFFFFFF 1).isSome = true ∧ linked.outDown 0xEFFFFFFFFFFFF = false)
    ∧ (∃ (s : State) (k : Cmd), s.cmd? 0 = some k ∧ k.closed = false ∧ k.itemEnded 0 = false ∧ 0 < k.items)
    ∧ (linked.devMem 0 (max 64 1) = true ∧ linked.cohReady [(0, max 64 1)] = true)
    ∧ ((2 ^ 36 : DWord).toNat % 2 ^ linked.pcie.bar2 = 0 ∧ (1 : DWord).toNat % 2 ^ linked.pcie.bar2 ≠ 0)
    ∧ (linked.noJob = true) :=
  ⟨by decide +kernel, by decide +kernel,
    ⟨⟨by decide +kernel, by decide +kernel, rfl, rfl, rfl, rfl, rfl, rfl, rfl, rfl⟩, by decide +kernel⟩, ⟨{ State.reset with pcie := { PcieSt.reset with d3 := true } }, rfl⟩,
    ⟨{ ticking 1 with pcie := { PcieSt.reset with abort := some 0 } }, rfl, by decide +kernel⟩, by decide +kernel, by decide +kernel, by decide +kernel,
    ⟨commanded (cmd 3 []), _, rfl, by decide +kernel⟩, by decide +kernel, by decide +kernel, by decide +kernel⟩

/-- Port 0 in a state (2: UP), with its four lanes locked. -/
def portIn (st : Nat) (x : PortSt) : State := (on [(pSLNK 0 + Off.SLNK_STAT, st), (pSLNK 0 + Off.SLNK_NODE, 0), (pTICK + Off.TICK_NOW, 64)]).setPort 0 x
/-- A port whose partner has four buffers free of each kind, and with one flit unacknowledged. -/
def portA : PortSt :=
  { PortSt.reset with credits := [4, 4, 4, 4, 4, 4], replay := [{ seq := 0, bytes := [], owner := none }], txSeq := 1, unacked := 1, stuck := 8 }

/-- A flit with a good CRC: its payload begins with the CRC of the header, so that the rest of it, and the CRC, is zeros. -/
def flitHead (typ vc seq : Nat) (late : Bool) : Bytes :=
  let h := natLE 8 (typ + vc * 2 ^ 6 + seq * 2 ^ 9 + b2n late * 2 ^ 37)
  h ++ (natLE 8 (crc64 h)).reverse
def flit (typ vc seq : Nat) (late : Bool) : Bytes := flitHead typ vc seq late ++ rep 240 0
theorem flit_length (t v q : Nat) (l : Bool) : (flit t v q l).length = 256 := by
  rw [flit, List.length_append, show (rep 240 (0 : Byte)).length = 240 by decide +kernel]; rfl
theorem crc64_zeros : ∀ l : Bytes, (∀ x ∈ l, x = 0) → l.foldl (crcByte 64 0x42F0E1EBA9EA3693) 0 = 0
  | [], _ => rfl
  | x :: l, h => by
    rw [List.foldl_cons, h x (List.mem_cons_self ..), show crcByte 64 0x42F0E1EBA9EA3693 0 0 = 0 by decide +kernel]
    exact crc64_zeros l (fun y hy => h y (List.mem_cons_of_mem _ hy))
theorem flit_good (t v q : Nat) (l : Bool) (h : crc64 (flitHead t v q l) = 0) : flitOk (flit t v q l) = true := by
  have e : (flit t v q l).take 248 = flitHead t v q l ++ rep 232 0 := by
    have n : (flitHead t v q l).length = 16 := rfl
    rw [flit, List.take_append, n, List.take_of_length_le (by omega)]; rfl
  have d : (flit t v q l).drop 248 = rep 8 0 := by
    have n : (flitHead t v q l).length = 16 := rfl
    rw [flit, List.drop_append, n, List.drop_of_length_le (by omega)]; rfl
  rw [flitOk, e, d, crc64, List.foldl_append, show (flitHead t v q l).foldl _ 0 = 0 from h, crc64_zeros _ (by decide +kernel)]
  decide +kernel

/-- A flit whose CRC is bad: zeros with a last byte of 1. -/
def badFlit : Bytes := rep 255 0 ++ [1]
theorem bad_flit : flitOk badFlit = false := by
  rw [flitOk, show badFlit.take 248 = rep 248 0 from by decide +kernel, crc64, crc64_zeros _ (by decide +kernel)]
  decide +kernel

theorem wit_FlitsAreAcceptedAcknowledgedAndReplayed :
    (portIn 2 portA).trained 0 = true
    ∧ (∃ b : Bytes, b.length = 256 ∧ flitOk b = true ∧ flitType b = 0x28 ∧ flitVC b = 3 ∧ flitSeq b = 0 ∧ portA.rxSeq = 0 ∧ portA.rxFree 3 ≠ 0
      ∧ isLink 0x28 = false ∧ seqVC 0x28 = some 3)
    ∧ (∃ b : Bytes, b.length = 256 ∧ flitOk b = true ∧ flitType b = 0x28 ∧ flitVC b = 4 ∧ flitSeq b = 0 ∧ portA.rxFree 4 ≠ 0 ∧ seqVC 0x28 ≠ some 4)
    ∧ (∃ b : Bytes, b.length = 256 ∧ flitOk b = true ∧ flitType b = 0 ∧ flitVC b ≠ 0)
    ∧ (∃ b : Bytes, b.length = 256 ∧ flitOk b = true ∧ flitType b = 0x08 ∧ flitVC b = 4 ∧ flitSeq b = 0 ∧ flitLate b = true)
    ∧ (∃ b : Bytes, b.length = 256 ∧ flitOk b = false)
    ∧ (∃ b : Bytes, b.length = 256 ∧ flitOk b = true ∧ isLink (flitType b) = false ∧ flitSeq b = 3583 ∧ flitSeq b ≠ portA.rxSeq
      ∧ seqDist portA.rxSeq (flitSeq b) = 513)
    ∧ (∀ t ∈ [0x01, 0x02, 0x03, 0x00], ∃ b : Bytes, b.length = 256 ∧ flitOk b = true ∧ flitType b = t ∧ flitVC b = 0 ∧ flitLate b = false ∧ flitRsvd b = 0
      ∧ flitCrN b = 0 ∧ portA.outstanding (flitSeq b) = true ∧ portA.outstanding ((flitSeq b + 4095) % 4096) = false ∧ portA.sync = none)
    ∧ (0 < portA.unacked ∧ 8 ≤ portA.stuck)
    ∧ (∃ x : PortSt, x.unacked = 0 ∧ x.owed.any (fun n => decide (0 < n)) = true) := by
  refine ⟨by decide, ⟨flit 0x28 3 0 false, flit_length .., flit_good _ _ _ _ (by decide +kernel), by decide +kernel⟩,
    ⟨flit 0x28 4 0 false, flit_length .., flit_good _ _ _ _ (by decide +kernel), by decide +kernel⟩,
    ⟨flit 0 1 0 false, flit_length .., flit_good _ _ _ _ (by decide +kernel), by decide +kernel⟩,
    ⟨flit 0x08 4 0 true, flit_length .., flit_good _ _ _ _ (by decide +kernel), by decide +kernel⟩, ⟨badFlit, by decide +kernel, bad_flit⟩,
    ⟨flit 0x28 3 3583 false, flit_length .., flit_good _ _ _ _ (by decide +kernel), by decide +kernel⟩, ?_, by decide,
    { PortSt.reset with owed := [1] }, by decide⟩
  intro t h; refine ⟨flit t 0 0 false, flit_length .., flit_good _ _ _ _ ?_, ?_⟩
  · revert t; decide +kernel
  · revert t; decide +kernel
theorem wit_EthernetPortsCarryFrames : (portIn (2 + 32) portA).pup 0 = true ∧ (portIn (2 + 32) portA).peth 0 = true
    ∧ ∃ b : Bytes, b.length = 20 + 248 * fld b 2 1 ∧ fld b 0 1 = 1 ∧ bit (fld b 1 1) 0 = true :=
  ⟨by decide, by decide, [1, 1] ++ rep 18 0, by decide⟩
theorem wit_FlitsCarryTheirFields : (63 : Nat) < 64 ∧ 7 < 8 ∧ 4095 < 4096 ∧ 8191 < 8192 ∧ 65535 < 65536 ∧ (rep 240 0).length ≤ 240 := by decide +kernel

theorem wit_PortsTrainRetrainAndLeave :
    (∀ st ∈ [0, 5], ∃ s : State, s.powered 7 = true ∧ s.mayTrain 0 = true ∧ s.pstate 0 = st)
    ∧ (∀ st ∈ [1, 2, 3], (portIn st portA).pstate 0 = st ∧ (portIn st portA).field (pSLNK 0 + Off.SLNK_STAT) 9 6 ≠ 15)
    ∧ ((portIn (1 + 15 * 64) portA).pstate 0 = 1 ∧ (portIn (1 + 15 * 64) portA).field (pSLNK 0 + Off.SLNK_STAT) 9 6 = 15
      ∧ ((portIn (1 + 15 * 64) portA).port 0).eth = false)
    ∧ (∃ (s : State) (b : Bytes), b.length = 256 ∧ flitOk b = true ∧ flitType b = 0x04 ∧ flitVC b = 0 ∧ s.pstate 0 = 1
      ∧ s.field (pSLNK 0 + Off.SLNK_STAT) 9 6 = 15 ∧ (s.port 0).sentTrain = true)
    ∧ (portIn 2 portA).pup 0 = true
    ∧ (∀ st ∈ [2, 3], ∃ s : State, s.pstate 0 = st ∧ s.field (pSLNK 0 + Off.SLNK_CTRL) 15 8 < s.regN (pSLNK 0 + Off.SLNK_VIOL_TIDE))
    ∧ (∃ s : State, s.pstate 0 = 4 ∧ s.mayTrain 0 = true)
    ∧ (∀ k, k < 18 → State.reset.pstate k = 0) ∧ (∃ k, k < 18 ∧ (portIn 2 portA).pstate k ≠ 0) := by
  refine ⟨?_, by decide, by decide, ⟨portIn (1 + 15 * 64) { portA with sentTrain := true }, flit 4 0 0 false, flit_length ..,  flit_good _ _ _ _ (by decide +kernel), by decide +kernel⟩,
    by decide, ?_, ⟨(portIn 4 portA).setField (pSLNK 0 + Off.SLNK_CTRL) 0 0 1, by decide⟩, by decide +kernel, 0, by decide, by decide⟩
  · intro st h; refine ⟨(portIn st portA).setField (pSLNK 0 + Off.SLNK_CTRL) 0 0 1, ?_⟩
    revert st; decide
  · intro st h; refine ⟨(portIn st portA).setRegN (pSLNK 0 + Off.SLNK_VIOL_TIDE) 256, ?_⟩
    revert st; decide

/-- A route header for a node, from node 5, of message 7 (R355). -/
def routedN (n dest a : Nat) (data : Bytes) : Bytes := natLE 4 dest ++ natLE 4 5 ++ natLE 8 a ++ natLE 2 7 ++ natLE 1 n ++ [9, 0, 0, 0, 0] ++ data
def routed : Nat → Nat → Bytes → Bytes := routedN 216
def rx (typ : Nat) (payload : Bytes) : RxFlit := { typ := typ, vc := 0, payload := payload, stamp := 0, tick := 0 }
/-- A flit delivered at port 0 of node 0, which is UP. -/
def here (typ : Nat) (payload : Bytes) : State :=
  portIn 2 { portA with rxq := [{ typ := typ, vc := 0, payload := payload, stamp := 0, tick := 0 }] }
def peer0 : PeerMsg :=
  { msg := 7, node := 5, use := .copy, cmd := 0, item := 0, remote := 0, localAddr := 0x1000, len := 216, got := 0, write := false, sent := 0 }
/-- A link-ferry slot of port 0: opcode, bytes of data, stream 9. -/
def lslot (k n : Nat) : Bytes := natLE 1 k ++ [0, 0, 0] ++ natLE 4 0 ++ natLE 4 n ++ natLE 2 9 ++ rep 10 0
def linking (s : State) (o : SlotOp) : State :=
  { s.setCore 0 { CoreSt.reset with ferries := [[], [], [], [{ o with unit := 4, link := true }]] } with cmds := [cmd 1 []] }
def lop (k n : Nat) : SlotOp := { op (lslot k n) with unit := 4, link := true }

theorem wit_MessagesAndStreamsAreServed :
    (∀ typ ∈ [0x20, 0x21, 0x28], ∃ (s : State) (fl : RxFlit), s.firstRx 0 typ = some fl ∧ rtBadDest fl.payload = false
      ∧ bits (rtDest fl.payload) 14 0 ≠ s.node ∧ s.answers fl.payload = none ∧ rtLen fl.payload = 216)
    ∧ (∀ typ ∈ [0x20, 0x21, 0x28], ∃ (s : State) (fl : RxFlit), s.firstRx 0 typ = some fl ∧ rtBadDest fl.payload = true
      ∧ s.rreqWaits fl.payload = false ∧ s.bulkWaits fl.payload = false ∧ rtLen fl.payload = 216)
    ∧ (∀ a ∈ [0, 0xF000000000], ∃ (s : State) (fl : RxFlit), s.firstRx 0 0x20 = some fl ∧ rtBadDest fl.payload = false
      ∧ bits (rtDest fl.payload) 14 0 = s.node ∧ s.rreqWaits fl.payload = false ∧ (s.rangeRegion (rtAddr fl.payload) 8).isSome = decide (a = 0))
    ∧ (∃ (s : State) (fl : RxFlit), s.firstRx 0 0x28 = some fl ∧ rtBadDest fl.payload = false ∧ bits (rtDest fl.payload) 14 0 = s.node
      ∧ s.bulkWaits fl.payload = false ∧ rtLen fl.payload = 216 ∧ s.answers fl.payload = some peer0)
    ∧ (∃ (s : State) (fl : RxFlit), s.firstRx 0 0x28 = some fl ∧ rtBadDest fl.payload = false ∧ bits (rtDest fl.payload) 14 0 = s.node
      ∧ s.bulkWaits fl.payload = false ∧ rtLen fl.payload = 8 ∧ s.answers fl.payload = none ∧ (rtBulk fl.payload).length < 216 ∧ s.inMsgs = [])
    ∧ (∃ (s : State) (fl : RxFlit), s.firstRx 0 0x21 = some fl ∧ rtBadDest fl.payload = false ∧ bits (rtDest fl.payload) 14 0 = s.node)
    ∧ (∃ s : State, s.msgs.find? (fun m => m.msg == 7) = some peer0 ∧ peer0.sent + s.regN (pSLNK 0 + Off.SLNK_MSG_TIMEOUT) ≤ s.now ∧ peer0.use = .copy)
    ∧ (∃ (s : State) (fl : RxFlit), s.firstRx 0 0x30 = some fl ∧ bit (s.regN (pg .mgmt 0 + Off.MGMT_CTRL)) 1 = true)
    ∧ (∃ (s : State) (o : SlotOp) (x : LSlot), s.linkOp 0 0x02 = some (o, x) ∧ s.schedPort x.port = true)
    ∧ (∃ (s : State) (o : SlotOp) (x : LSlot), s.linkOp 0 0x01 = some (o, x) ∧ s.schedPort x.port = true
      ∧ s.poisonIn 0 [(x.lb + 232 * o.step, min 232 (x.bytes - 232 * o.step))] = none)
    ∧ (∃ (s : State) (fl : RxFlit) (e : Nat) (o : SlotOp),
      (s.port 0).rxq.find? (fun f => f.typ == 0x10 && (s.recvFor 0 (fld f.payload 0 2)).isSome) = some fl
      ∧ s.recvFor 0 (fld fl.payload 0 2) = some (e, o))
    ∧ (∃ (s : State) (fl : RxFlit), (s.port 0).rxq.find? (s.unclaimed 0) = some fl) := by
  refine ⟨fun typ h => ⟨here typ (routed 6 0 (natLE 8 8)), rx typ (routed 6 0 (natLE 8 8)), ?_⟩,
    fun typ h => ⟨here typ (routed 0x7FFF 0 (natLE 8 8)), rx typ (routed 0x7FFF 0 (natLE 8 8)), ?_⟩,
    fun a h => ⟨here 0x20 (routed 0 a (natLE 8 8)), rx 0x20 (routed 0 a (natLE 8 8)), ?_⟩,
    ⟨{ here 0x28 (routed 0 0 (rep 216 0)) with msgs := [peer0] }, rx 0x28 (routed 0 0 (rep 216 0)), by decide +kernel⟩,
    ⟨here 0x28 (routedN 8 0 0 (rep 8 1)), rx 0x28 (routedN 8 0 0 (rep 8 1)), by decide +kernel⟩,
    ⟨here 0x21 (routed 0 0 []), rx 0x21 (routed 0 0 []), by decide +kernel⟩,
    ⟨{ portIn 2 portA with msgs := [peer0] }.setRegN (pSLNK 0 + Off.SLNK_MSG_TIMEOUT) 64, by decide +kernel⟩,
    ⟨(here 0x30 []).setRegN (pg .mgmt 0 + Off.MGMT_CTRL) 2, rx 0x30 [], by decide +kernel⟩,
    ⟨linking (portIn 2 portA) (op (lslot 2 232)), lop 2 232, lSlot (lslot 2 232), by decide +kernel⟩,
    ⟨linking (portIn 2 portA) (op (lslot 1 232)), lop 1 232, lSlot (lslot 1 232), by decide +kernel⟩,
    ⟨linking (here 0x10 (mkSdata 9 0 false true 0 [])) (op (lslot 2 232)),
      { typ := 0x10, vc := 0, payload := mkSdata 9 0 false true 0 [], stamp := 0, tick := 0 }, 0, lop 2 232, by decide +kernel⟩,
    ⟨here 0x10 (mkSdata 9 0 false true 0 []), { typ := 0x10, vc := 0, payload := mkSdata 9 0 false true 0 [], stamp := 0, tick := 0 }, by decide +kernel⟩⟩
  · revert typ; decide +kernel
  · revert typ; decide +kernel
  · revert a; decide +kernel

/-- A run of core 0 in tree 0 on stream 9, with a child on port 1 that has not ended. -/
def collRun (k : Nat) (kids : List CollIn) : CollRun :=
  { core := 0, recIx := 0, cmd := 0, item := 0, slot := lslot k 0, hollow := false, tick := 0, own := { CollIn.fresh 31 with last := true }, kids := kids, sent := false,
    got := 0, step := 0 }
/-- Tree 0 valid, rooted here (parent 31) or with its parent on port 0, child ports as given, and a timeout. -/
def inTree (par kids : Nat) (s : State) : State := s.setRegN (pCOLL 0 + Off.COLL_TREE) (par + kids * 2 ^ 8 + 2 ^ 29 + 2 ^ 32)

theorem wit_CollectivesStartAdvanceAndTimeOut :
    (∃ (s : State) (o : SlotOp) (x : LSlot) (r : CollRun), s.linkOp 0 0x12 = some (o, x)
      ∧ (s.collStart 0 o x).colls.filter (fun r => r.core == 0 && r.op == 0x12) = [r])
    ∧ (∀ k ∈ [0x10, 0x11, 0x12, 0x13], ∃ (s : State) (r : CollRun), s.linkOp 0 k = none ∧ s.colls.filter (fun r => r.core == 0 && r.op == k) = [r])
    ∧ ((collRun 0x12 []).op = 0x12 ∧ (collRun 0x12 []).sent = false ∧ (collRun 0x12 []).kids = [] ∧ (inTree 0 0 State.reset).treeParent (collRun 0x12 []).tree ≠ 31
      ∧ (inTree 31 0 State.reset).treeParent (collRun 0x12 []).tree = 31)
    ∧ (∀ up ∈ [true, false], ∃ (s : State) (fl : RxFlit) (r : CollRun),
      (s.port 0).rxq.find? (fun f => f.typ == 0x18 && (s.collRestOf 0 f.payload || (s.cdataFor 0 f.payload).isSome)) = some fl
      ∧ s.collRestOf 0 fl.payload = false ∧ s.cdataFor 0 fl.payload = some r ∧ bits (fld fl.payload 3 1) 7 6 = 0 ∧ bit (fld fl.payload 3 1) 2 = !up)
    ∧ (∀ k ∈ [0x10, 0x12], ∃ (s : State) (r : CollRun),
      s.colls.find? (fun r => r.core == 0 && !r.kids.all (·.ended) && decide (r.tick + bits (s.tree r.tree) 39 32 ≤ s.now)) = some r ∧ r.op = k)
    ∧ (busy.noJob = false ∧ State.reset.noJob = true ∧ bits (31 + 2 ^ 32) 39 32 = 1 ∧ bit (31 + 2 ^ 32) 29 = false
      ∧ bit (31 + 2 ^ 29 + 2 ^ 32) 29 = true ∧ State.reset.treeCheck (31 + 2 ^ 29 + 2 ^ 32) = 0) := by
  refine ⟨⟨inTree 31 2 (linking (portIn 2 portA) (op (lslot 0x12 0))), lop 0x12 0, lSlot (lslot 0x12 0),
      collRun 0x12 [CollIn.fresh 1], by decide +kernel⟩, ?_, by decide +kernel,
    ?_, ?_, by decide +kernel⟩
  · intro k h; refine ⟨{ State.reset with colls := [collRun k []] }, collRun k [], ?_⟩
    revert k; decide +kernel
  · intro up h; cases up
    · exact ⟨inTree 0 0 { here 0x18 (mkCdata 9 0 4 0 0 0 []) with colls := [collRun 0x11 []] }, rx 0x18 (mkCdata 9 0 4 0 0 0 []), collRun 0x11 [],
        by decide +kernel⟩
    · exact ⟨inTree 31 1 { here 0x18 (mkCdata 9 0 0 0 0 0 []) with colls := [collRun 0x10 [CollIn.fresh 0]] }, rx 0x18 (mkCdata 9 0 0 0 0 0 []),
        collRun 0x10 [CollIn.fresh 0], by decide +kernel⟩
  · intro k h; refine ⟨inTree 31 2 { ticking 64 with colls := [collRun k [CollIn.fresh 1]] }, collRun k [CollIn.fresh 1], ?_⟩
    revert k; decide +kernel
/-! ### Chapter 13: errors, leaving, snapshots -/

/-- STATE LEFT (2) or RUNNING (0) in RAS_STAT, with other bits. -/
def rasIn (st : Nat) : State := on [(pRAS + Off.RAS_STAT, st), (pTICK + Off.TICK_NOW, 5)]
/-- A FLOOD of a kind received (R380): version, kind, reason. -/
def flooded (kind reason : Nat) : State := received 0x0B ([1] ++ natLE 1 kind ++ natLE 1 reason ++ rep 29 0)
theorem wit_ErrorsStopHaltAndReset :
    ((errClass .pwr 4).map (·.1) = some clsFatal ∧ 0 < Blk.pwr.count ∧ (errClass .mgmt 2).isSome = true)
    ∧ (∃ s : State, s.ras.leavePend = true ∧ s.regN (pRAS + Off.RAS_FATAL_TICK) < s.now ∧ s.cmds = []
      ∧ s.Wf ∧ ∀ k, k < 18 → s.pstate k = 0)
    ∧ ((rasIn 2).left = true ∧ (rasIn 2).ras.leavePend = false) ∧ (rasIn 0).left = false ∧ bit ((rasIn 4).regN (pRAS + Off.RAS_STAT)) 2 = true
    ∧ (∃ s : State, s.ras.resetPend = some 0 ∧ 0 < s.now)
    ∧ (∃ s : State, s.ras.haltPend = some 0 ∧ 0 < s.now ∧ s.left = false)
    ∧ (∀ k ∈ [1, 2, 3], ∃ (s : State) (f : RxFlit), s.firstRx 0 0x0B = some f ∧ floodOk f.payload = true ∧ fld f.payload 1 1 = k) := by
  refine ⟨by decide, ⟨{ rasIn 2 with ras := { RasSt.reset with leavePend := true } }, by decide +kernel, by decide +kernel, rfl,
      ⟨rfl, by decide +kernel, rfl, rfl, rfl, rfl, rfl, rfl, rfl, rfl⟩, by decide +kernel⟩, by decide, by decide, by decide,
    ⟨{ rasIn 0 with ras := { RasSt.reset with resetPend := some 0 } }, rfl, by decide⟩,
    ⟨{ rasIn 0 with ras := { RasSt.reset with haltPend := some 0 } }, rfl, by decide, by decide⟩, ?_⟩
  intro k h; refine ⟨flooded k (if k = 3 then 1 else 0), _, rfl, ?_⟩
  revert k; decide +kernel

/-- Entry 0 of a snapshot or restore, its shard with every array at 0xA0_0000_0000, an image header and a commit record. -/
def shard2 : Shard :=
  { wfmt := 2, flags := 0, count := 1, elem := 0, master := 0xA000000000, work := 0xA000000000, grad := 0xA000000000, gscale := 0xA000000000,
    mcode := 0xA000000000, mscale := 0xA000000000, vcode := 0, vscale := 0, tags := 0xA000000000, commit := 0xA000001000, mask := 0, mfirst := 0, mcols := 0 }
def shardBytes2 : Bytes :=
  let a := natLE 8 0xA000000000
  withCrc ([1, 2, 0, 0, 1, 0, 0, 0] ++ rep 8 0 ++ a ++ a ++ a ++ a ++ a ++ a ++ rep 16 0 ++ a ++ natLE 8 0xA000001000 ++ rep 28 0)
def entry0 : Bytes := natLE 8 0x40 ++ natLE 8 0x100 ++ natLE 8 0x10000 ++ natLE 8 0x200 ++ rep 32 0
def commit0 : CommitRec := { phase := 0, last := 0, cargoCrc := 0, commit := 0, applied := 0, pstep := 0, factor := 0, ratio := 0, count := 0, sumCrc := 0 }
/-- The local stack holds the shard's commit record. -/
def stocked (op : Nat) (cargo : Bytes) : State :=
  let s := holding (State.reset.setRegN (pHBMC 0 + Off.HBMC_MAP) 16) (entry0 ++ shardBytes2 ++ rep 64 0 ++ imageHeader shard2 0 0 0)
  { s.wrRaw 0xA000001000 commit0.bytes with cmds := [cmd op cargo] }
/-- The same with the arrays in memory that is no stack's local part. -/
def farShard : Shard :=
  { shard2 with master := 0x1000, work := 0x1000, grad := 0x1000, gscale := 0x1000, mcode := 0x1000, mscale := 0x1000, tags := 0x1000 }
def farBytes : Bytes :=
  let a := natLE 8 0x1000
  withCrc ([1, 2, 0, 0, 1, 0, 0, 0] ++ rep 8 0 ++ a ++ a ++ a ++ a ++ a ++ a ++ rep 16 0 ++ a ++ natLE 8 0xA000001000 ++ rep 28 0)
def farStocked : State :=
  { (holding (State.reset.setRegN (pHBMC 0 + Off.HBMC_MAP) 16) (entry0 ++ farBytes)).wrRaw 0xA000001000 commit0.bytes with
    cmds := [cmd 6 ([1, 2] ++ rep 30 0)] }
def frozenRun : SnapRun := { cmd := 0, t := some 0, frozen := true, fstep := 0, ustate := [], held := [0], digs := [(0, [0])] }

theorem wit_SnapshotsFreezeCopyAndRestore :
    (∀ t ∈ [1, 5], ∃ (s : State) (k : Cmd), s.fresh 0 0x0005 = some k ∧ bit (fld k.cargo 1 1) 0 = false
      ∧ fld k.cargo 0x10 8 % 64 = 0 ∧ s.devMem (fld k.cargo 0x10 8) 64 = true ∧ s.snapBusy = false ∧ fld k.cargo 8 8 = t ∧ k.accTick < t)
    ∧ (∃ (s : State) (k : Cmd), s.fresh 0 0x0005 = some k ∧ fld k.cargo 0x10 8 % 64 = 0 ∧ s.devMem (fld k.cargo 0x10 8) 64 = true
      ∧ fld k.cargo 8 8 = 1 ∧ fld k.cargo 8 8 ≤ k.accTick ∧ s.snapBusy = false)
    ∧ (∃ (s : State) (k : Cmd), s.fresh 0 0x0005 = some k ∧ fld k.cargo 0x10 8 % 64 = 0 ∧ s.devMem (fld k.cargo 0x10 8) 64 = true
      ∧ s.snapBusy = true)
    ∧ (∃ (s : State) (k : Cmd) (n : SnapRun), s.snap = some n ∧ n.t = some 0 ∧ s.cmd? n.cmd = some k ∧ n.frozen = false ∧ 0 ≤ s.now
      ∧ (∀ x ∈ s.cmds, x.opcode = 4 → x.accTick < 0 → s.recWritten x = true) ∧ k.items = 0)
    ∧ (∃ (s : State) (k : Cmd), s.pont 0 = [{ work := .dig, cmd := 0, item := 0 }] ∧ s.cmd? 0 = some k
      ∧ s.digShard k 0 = some shard2 ∧ s.digStack shard2 = some 0 ∧ s.cohReady shard2.parts = true ∧ s.bodyPoison shard2 = false)
    ∧ (∃ (s : State) (k : Cmd) (n : SnapRun) (l : List Nat), s.snap = some n ∧ s.cmd? n.cmd = some k ∧ n.frozen = true ∧ k.itemEnded 0 = false
      ∧ 0 < k.items ∧ (upTo 0 0).all k.itemEnded = true ∧ n.digs.lookup 0 = some l
      ∧ s.cohReady ((fld (s.entryOf k 0) 8 8, (shardOf (s.entryShard k 0)).imageLen) :: (shardOf (s.entryShard k 0)).parts) = true
      ∧ (shardOf (s.entryShard k 0)).imageLen ≤ fld (s.entryOf k 0) 0x10 8 ∧ s.bodyPoison (shardOf (s.entryShard k 0)) = false
      ∧ s.outDown (fld (s.entryOf k 0) 8 8) = false)
    ∧ (∀ run ∈ [[], [{ cmd := 0, item := 0, stage := 2, start := 0, parts := [], desc := [], digs := rep 8 0, bad := [] }]], ∃ (s : State) (k : Cmd),
      s.cmd? 0 = some k ∧ k.opcode = 6 ∧ k.allEnded = false ∧ k.start ≤ s.now
      ∧ 0 < k.items ∧ k.itemEnded 0 = false ∧ s.rvCargoOk k = true ∧ s.rvShard k 0 = some shard2 ∧ rvMode k = 2 ∧ fld (s.entryOf k 0) 0x18 8 % 64 = 0
      ∧ s.devMem (fld (s.entryOf k 0) 0x18 8) (64 + 8 * shard2.digBlocks) = true ∧ s.bodyPoison shard2 = false
      ∧ commitOk (s.rdBytes shard2.commit 64) = true ∧ (commitOf (s.rdBytes shard2.commit 64)).commit = rvStep k
      ∧ (commitOf (s.rdBytes shard2.commit 64)).phase = 0 ∧ s.digStack shard2 = some 0
      ∧ s.rvs.find? (fun r => r.cmd == 0 && r.item == 0) = (run : List RvRun).head?)
    ∧ (∃ (s : State) (k : Cmd), s.cmd? 0 = some k ∧ k.opcode = 6 ∧ k.allEnded = false ∧ k.start ≤ s.now ∧ 0 < k.items ∧ k.itemEnded 0 = false
      ∧ s.rvCargoOk k = true ∧ s.rvShard k 0 = some farShard ∧ rvMode k = 2 ∧ fld (s.entryOf k 0) 0x18 8 % 64 = 0
      ∧ s.devMem (fld (s.entryOf k 0) 0x18 8) (64 + 8 * farShard.digBlocks) = true ∧ s.bodyPoison farShard = false
      ∧ commitOk (s.rdBytes farShard.commit 64) = true ∧ (commitOf (s.rdBytes farShard.commit 64)).commit = rvStep k
      ∧ (commitOf (s.rdBytes farShard.commit 64)).phase = 0 ∧ s.digStack farShard = none)
    ∧ (∃ (s : State) (k : Cmd), s.cmd? 0 = some k ∧ k.opcode = 6 ∧ k.allEnded = false ∧ k.start ≤ s.now ∧ 0 < k.items ∧ k.itemEnded 0 = false
      ∧ s.rvCargoOk k = true ∧ s.rvShard k 0 = some shard2 ∧ rvMode k = 0
      ∧ s.imageRead (fld (s.entryOf k 0) 8 8) shard2.imageLen = none ∧ imageOk (s.rdBytes (fld (s.entryOf k 0) 8 8) 64) (rvStep k) shard2 = true)
    ∧ (∃ (s : State) (k : Cmd), s.cmd? 0 = some k ∧ k.opcode = 6 ∧ k.allEnded = false ∧ k.start ≤ s.now ∧ 0 < k.items ∧ k.itemEnded 0 = false
      ∧ s.rvCargoOk k = true ∧ s.rvShard k 0 = some shard2 ∧ rvMode k = 1 ∧ k.itemFailed 0 = false ∧ s.msgs = [] ∧ s.rvs = []) := by
  refine ⟨?_, ⟨{ ticking 1 with cmds := [{ cmd 5 (rep 8 0 ++ [1] ++ rep 23 0) with accTick := 1 }] }, _, rfl, by decide +kernel⟩,
    ⟨{ State.reset with cmds := [cmd 5 [], { cmd 5 [] with id := 9 }], snap := some snapping }, _, rfl, by decide +kernel⟩,
    ⟨{ State.reset with cmds := [{ cmd 5 [] with items := 0 }], snap := some { snapping with cmd := 0 } }, _, _, rfl, rfl, rfl, by decide +kernel⟩,
    ⟨{ stocked 5 [] with snap := some frozenRun }.setPont 0 [{ work := .dig, cmd := 0, item := 0 }], _, rfl, rfl, by decide +kernel⟩,
    ⟨{ stocked 5 [] with snap := some frozenRun }, _, _, _, rfl, rfl, rfl, rfl, by decide, rfl, rfl, by decide +kernel⟩,
    fun run h => ⟨{ stocked 6 ([1, 2] ++ rep 30 0) with rvs := run }, cmd 6 ([1, 2] ++ rep 30 0), ?_⟩,
    ⟨farStocked, _, rfl, by decide +kernel⟩,
    ⟨stocked 6 (rep 32 0), _, rfl, by decide +kernel⟩, ⟨stocked 6 ([1, 1] ++ rep 30 0), _, rfl, by decide +kernel⟩⟩
  rotate_left
  · revert run; decide +kernel
  intro t h; refine ⟨{ State.reset with cmds := [cmd 5 (rep 8 0 ++ natLE 1 t ++ rep 23 0)] }, _, rfl, ?_⟩
  revert t; decide +kernel

/-! ### Chapters 14 and 15: power, start-up and ageing -/

/-- The package in a power phase, with PWR_STAT as given. -/
def phased (ph : PowerPhase) (st : Nat) : State := { on [(pPWR + Off.PWR_STAT, st)] with pwr := { PwrSt.reset with phase := ph } }
theorem wit_StartUpSupplyLossAndPowerModes :
    (∀ n ∈ [0, 1, 2, 4, 5, 9], ∃ s : State, s.pwr.phase = .starting ∧ s.stage = n)
    ∧ (∃ s : State, s.pwr.phase = .starting ∧ s.pwr.groups + 1 < stageGroups s.stage) ∧ (∃ s : State, s.pwr.phase = .starting ∧ ¬s.pwr.groups + 1 < stageGroups s.stage)
    ∧ (∃ s : State, s.pwr.phase = .held) ∧ ((9999 : BitVec 16).toNat < 10000 ∧ (phased .ready 0).pwr.phase ≠ .held)
    ∧ (∃ s : State, s.pwr.phase = .off ∧ s.pwr.thermtrip = false ∧ 10800 ≤ (10800 : BitVec 16).toNat)
    ∧ (State.reset.awake = true ∧ (10799 : BitVec 16).toNat < 10800) ∧ 3450 < (3451 : BitVec 16).toNat
    ∧ (State.reset.recovery = false ∧ State.reset.pwr.phase = .ready)
    ∧ (∃ s : State, s.pwr.phase = .closing ∧ s.age.hullReq = [] ∧ s.age.hullBusy = none)
    ∧ (∃ s : State, s.pwr.phase ≠ .off ∧ s.awake = true ∧ 10800 ≤ (10800 : BitVec 16).toNat)
    ∧ (∃ s : State, s.pwr.modeDue = some 1 ∧ s.now % 1000000 = 0) ∧ (∃ s : State, s.pwr.modeDue = some 1 ∧ s.now % 1000000 ≠ 0)
    ∧ State.reset.pwr.modeDue = none ∧ (∃ s : State, s.targetMode ≠ s.pmode)
    ∧ (∀ t, t < 4 → State.reset.plan t (State.reset.now + 1) ≤ State.reset.gov t + State.reset.allow t)
    ∧ (1000 ≤ (1000 : BitVec 16).toNat ∧ (3600 : BitVec 16).toNat ≤ 3600) ∧ (1 ≤ (1 : BitVec 16).toNat ∧ (450 : BitVec 16).toNat ≤ 450)
    ∧ ((999 : BitVec 16).toNat < 1000 ∧ 3600 < (3601 : BitVec 16).toNat) := by
  refine ⟨?_, ⟨phased .starting (2 * 2 ^ 11), rfl, by decide⟩, ⟨phased .starting (1 * 2 ^ 11), rfl, by decide⟩, ⟨phased .held 0, rfl⟩, ⟨by decide, nofun⟩,
    ⟨phased .off 0, rfl, rfl, by decide⟩, by decide +kernel, by decide, by decide +kernel, ⟨phased .closing 0, rfl, rfl, rfl⟩,
    ⟨State.reset, nofun, by decide +kernel, by decide⟩, ⟨{ State.reset with pwr := { PwrSt.reset with modeDue := some 1 } }, rfl, by decide⟩,
    ⟨{ ticking 1 with pwr := { PwrSt.reset with modeDue := some 1 } }, rfl, by decide⟩, rfl,
    ⟨on [(pPWR + Off.PWR_CTRL, 1)], by decide +kernel⟩, by decide +kernel, by decide, by decide, by decide⟩
  intro n h; refine ⟨phased .starting (n * 2 ^ 11), rfl, ?_⟩
  revert n; decide

/-- What a tide brings: lists of the right lengths. -/
def tide0 : TideMeas :=
  { energy := rep 6 0, eff := rep 6 0, eye := rep 72 0, ber := rep 72 0, hbm := rep 20 (-128), mv := 0, da := 0 }
theorem wit_AgeingSamplesPlansAndRecords :
    (tideMeasOk tide0 = true ∧ ∃ s : State, s.ticking = true ∧ s.now % 1000000 = 0 ∧ s.tick.tideSeen ≠ some s.tide)
    ∧ ((rep 6 (-128 : Int)).length = 6 ∧ (∀ t ∈ ([-128, 127] : List Int), -128 ≤ t ∧ t ≤ 127) ∧ State.reset.awake = true)
    ∧ ((rep 288 ((0 : Nat), (0 : Nat))).length = domains)
    ∧ ((rep 192 (0 : BitVec 7)).length = 192 ∧ (ticking 900000).planWindow = false ∧ (ticking 899999).planWindow = true)
    ∧ ((ticking 900000).age.planned ≠ some (ticking 900000).tide ∧ (ticking 900000).pwr.phase = .ready)
    ∧ (∃ (s : State) (b : Bytes), s.age.hullBusy = none ∧ s.age.hullReq = [b] ∧ s.age.hullSeq = some 0)
    ∧ (∀ r ∈ [false, true], ∃ (s : State) (b : Bytes), s.age.hullBusy = some (0, b, r))
    ∧ (∃ s : State, s.age.scored ≠ some s.tide ∧ s.age.past ≠ [] ∧ s.pwr.phase = .ready ∧ s.components.foldl (· + ·) 0 = 0
      ∧ s.field (pAGE + Off.AGE_STAT) 8 8 = 0) :=
  ⟨⟨by decide +kernel, (ticking 1000000).setRegN (pTICK + Off.TIDE_NOW) 1, by decide +kernel⟩, by decide +kernel, by decide +kernel, by decide +kernel, by decide +kernel,
    ⟨{ State.reset with age := { AgeSt.reset with hullReq := [[]], hullSeq := some 0 } }, _, rfl, rfl, rfl⟩,
    fun r _ => ⟨{ State.reset with age := { AgeSt.reset with hullBusy := some (0, [], r) } }, [], rfl⟩,
    { State.reset.setRegN (pAGE + Off.AGE_CTRL) 0 with age := { AgeSt.reset with past := [TideEv.zero] } }, by decide +kernel⟩
/-! ### Chapters 16 and 17: security, management, registers; the frames

A token with good signatures (FusesKeysAndDebugLevels) and an image slot that verifies (ManagementPortServes) rest on the signature
algorithms, which are opaque (log entry 9): no witness can be evaluated for those two clauses. -/

/-- Boot flash whose directory names a trial (R437). -/
def trialDir : Bytes := withCrc (ascii "WFDR" ++ [1, 0, 1, 3] ++ natLE 8 1 ++ rep 44 0)
def onTrial : State := { State.reset with flash := ((upTo 0 64).zip trialDir).filter (fun e => e.2 ≠ 0xFF) }
/-- Two keys of each kind programmed, and an image of a given SVN running. -/
def keyed (svn : Nat) (fuse : Option Nat) : State :=
  { State.reset with sec := { SecSt.reset with edProg := 3, mlProg := 3, runSvn := svn, fuseTo := fuse } }
theorem wit_FusesKeysAndDebugLevels :
    onTrial.dirTrial = true ∧ State.reset.dirTrial = false ∧ State.reset.sec.runSvn ≤ State.reset.sec.svnMin
    ∧ ((keyed 1 none).dirTrial = false ∧ (keyed 1 none).sec.svnMin < (keyed 1 none).sec.runSvn ∧ (keyed 1 none).sec.fuseTo = none)
    ∧ (keyed 64 (some 64)).sec.fuseTo = some 64
    ∧ ((keyed 0 none).dirTrial = false ∧ (keyed 0 none).recovery = false ∧ bit (bits (0x22 : Word).toNat 3 0) (keyed 0 none).sec.edSlot = false
      ∧ bit (bits (0x22 : Word).toNat 7 4) (keyed 0 none).sec.mlSlot = false
      ∧ (∃ i ∈ upTo 0 4, bit (keyed 0 none).sec.edProg i = true ∧ bit (keyed 0 none).sec.edRev i = false ∧ bit (bits (0x22 : Word).toNat 3 0) i = false)
      ∧ ∃ i ∈ upTo 0 4, bit (keyed 0 none).sec.mlProg i = true ∧ bit (keyed 0 none).sec.mlRev i = false ∧ bit (bits (0x22 : Word).toNat 7 4) i = false)
    ∧ (State.reset.recovery = false ∧ bit (bits (0x01 : Word).toNat 3 0) State.reset.sec.edSlot = true)
    ∧ (∀ i ∈ upTo 0 4, bit State.reset.sec.edProg i = true → bit State.reset.sec.edRev i = true ∨ bit (bits (0x01 : Word).toNat 3 0) i = true)
    ∧ (∀ i ∈ upTo 0 4, bit State.reset.sec.mlProg i = true → bit State.reset.sec.mlRev i = true ∨ bit (bits (0x10 : Word).toNat 7 4) i = true)
    ∧ (on [(pSEC + Off.SEC_DBG_TOKEN_ADDR, 1)]).tokenOk ((on [(pSEC + Off.SEC_DBG_TOKEN_ADDR, 1)]).regN (pSEC + Off.SEC_DBG_TOKEN_ADDR)) = false :=
  ⟨by decide +kernel, by decide +kernel, by decide, by decide +kernel, rfl, by decide +kernel, by decide, by decide, by decide, by decide +kernel⟩

theorem wit_SpdmRequestsAreAnswered :
    ((State.reset.mgmtReq 18 5).2 = true ∧ State.reset.recovery = false ∧ State.reset.dbgLevel ≠ 2)
    ∧ (∃ s : State, (s.mgmtReq 18 5).2 = true ∧ s.recovery = true) ∧ (∃ s : State, (s.mgmtReq 18 5).2 = true ∧ s.recovery = false ∧ s.dbgLevel = 2)
    ∧ ((1 : Nat) ≤ 1 ∧ 5 ≤ 5 ∧ (rep 32 (0 : Byte)).length = 32) :=
  ⟨by decide, ⟨on [(pSEC + Off.SEC_STAT, 32)], by decide⟩, ⟨on [(pSEC + Off.SEC_STAT, 16)], by decide⟩, by decide⟩

/-- An update in progress: the slot and the bytes so far. -/
def loading (n : Nat) : State := { State.reset with sec := { SecSt.reset with upd := some (1, n) } }
theorem wit_ManagementPortServes :
    ((State.reset.mgmtReq 18 1).2 = true ∧ State.reset.recovery = false ∧ State.reset.sec.upd = none)
    ∧ (0xFF < 0x100 ∧ State.reset.mgmt.sensors[0]? = some 0)
    ∧ (∃ s : State, (s.mgmtReq 18 1).2 = true ∧ s.sec.upd = some (1, slotSize - 256) ∧ 0 < (rep 256 (0 : Byte)).length
      ∧ (rep 256 (0 : Byte)).length ≤ 256 ∧ slotSize - 256 + (rep 256 (0 : Byte)).length ≤ slotSize ∧ s.age.hullBusy = none)
    ∧ (∃ s : State, s.age.hullBusy.isSome = true)
    ∧ (∃ s : State, (s.mgmtReq 18 1).2 = true ∧ s.sec.upd = some (1, 0) ∧ s.slotOk 1 = false)
    ∧ (∃ s : State, 0x3FFFFF8 < aperSize ∧ (s.mgmtReq 18 0x7E).2 = true ∧ bit (s.regN (pMGMT + Off.MGMT_CTRL)) 0 = false)
    ∧ (∃ s : State, pSEC < aperSize ∧ (s.mgmtReq 18 0x7E).2 = true ∧ bit (s.regN (pMGMT + Off.MGMT_CTRL)) 0 = true ∧ s.dbgLevel = 2 ∧ namesSec pSEC = true)
    ∧ (∃ s : State, 0 < aperSize ∧ (s.mgmtReq 18 0x7E).2 = true ∧ bit (s.regN (pMGMT + Off.MGMT_CTRL)) 0 = true ∧ s.dbgLevel ≠ 2)
    ∧ (State.reset.mgmtReq 18 0).2 = true ∧ State.reset.reachable .mgmt (pMGMT + Off.MGMT_EID) = true
    ∧ (State.reset.field (pMGMT + Off.MGMT_STAT) 1 0 = 0 ∧ State.reset.pwr.phase = .ready ∧ State.reset.harbourUp = true)
    ∧ (bit (1 : Word).toNat 0 = true ∧ bit (2 : Word).toNat 0 = false) :=
  ⟨by decide, by decide, ⟨loading (slotSize - 256), by decide +kernel⟩,
    ⟨{ State.reset with age := { AgeSt.reset with hullBusy := some (0, [], false) } }, rfl⟩, ⟨loading 0, by decide +kernel⟩,
    ⟨on [(pMGMT + Off.MGMT_CTRL, 0)], by decide⟩,
    ⟨on [(pMGMT + Off.MGMT_CTRL, 1), (pSEC + Off.SEC_STAT, 16)], by decide⟩,
    ⟨on [(pMGMT + Off.MGMT_CTRL, 1)], by decide⟩, by decide, by decide, by decide, by decide⟩

theorem wit_ApertureTakesAlignedAccesses :
    (0 < aperSize ∧ State.reset.reachable .harbour 0 = true ∧ aligned 0 true = true ∧ (pageOf 0).isSome = true)
    ∧ (State.reset.reachable .harbour 0x3FFFFFF = true ∧ 0x3FFFFFF < aperSize ∧ aligned 0x3FFFFFF false = false ∧ pageOf 0x3FFFFFC = none
      ∧ aligned 0x3FFFFFC false = true)
    ∧ (linked.reachable .portA 0x1FFF8 = true ∧ linked.rootMode = false ∧ 0x1FFF8 < 0x20000 ∧ 0x1FFF8 % 4 = 0)
    ∧ badShape 4 8 = true
    ∧ (halfOf (pTICK + Off.TICK_NOW) = some (pTICK + Off.TICK_NOW, false) ∧ (pageOf (pTICK + Off.TICK_NOW)).isSome = true
      ∧ (pTICK + Off.TICK_NOW) % 4 = 0)
    ∧ (∃ s : State, s.reachable .harbour (pTICK + Off.TICK_NOW + 4) = true ∧ halfOf (pTICK + Off.TICK_NOW + 4) = some (pTICK + Off.TICK_NOW, true)
      ∧ s.latch .harbour ((pTICK + Off.TICK_NOW) / 4096) = some (pTICK + Off.TICK_NOW, 7, true)) :=
  ⟨by decide +kernel, by decide +kernel, by decide +kernel, by decide, by decide +kernel, State.reset.setLatch .harbour (pTICK + Off.TICK_NOW) 7 true,
    by decide +kernel⟩
theorem wit_PageHeadersAct : 255 < Blk.me.count ∧ State.reset.reachable .harbour (pg .me 255) = true ∧ State.reset.softReset.contains (.me, 255) = false
    ∧ resetActs .tick 0 = false ∧ resetActs .me 255 = true ∧ bit (2 : Word).toNat 0 = false ∧ State.reset.noJob = true
    ∧ (bit (1 : Word).toNat 0 = true ∧ prepPend .me 255 = some 1) := by decide +kernel

theorem wit_ErrorsAreCapturedAndLogged :
    (State.reset.Wf ∧ pTICK % 4096 = 0 ∧ pg .tick 0 = pTICK ∧ 0 < Blk.tick.count)
    ∧ bit (State.reset.regN (pTICK + Off.PG_ERR_FIRST)) 31 = false ∧ bit ((on [(pTICK + Off.PG_ERR_FIRST, 2 ^ 31)]).regN (pTICK + Off.PG_ERR_FIRST)) 31 = true
    ∧ (0 < Blk.tick.count ∧ pTICK = pg .tick 0)
    ∧ State.reset.ras.cnt pTICK 1 < 16 ∧ (∃ s : State, 16 ≤ s.ras.cnt pTICK 1)
    ∧ ¬4096 ≤ State.reset.regN (pRAS + Off.RAS_LOG_HEAD) - State.reset.regN (pRAS + Off.RAS_LOG_TAIL)
    ∧ (4096 ≤ (on [(pRAS + Off.RAS_LOG_HEAD, 4096)]).regN (pRAS + Off.RAS_LOG_HEAD) - (on [(pRAS + Off.RAS_LOG_HEAD, 4096)]).regN (pRAS + Off.RAS_LOG_TAIL)
      ∧ (on [(pRAS + Off.RAS_LOG_HEAD, 4096)]).frozen pRAS = false
      ∧ (on [(pRAS + Off.RAS_LOG_HEAD, 4096)]).ras.log = []) ∧ clsItem ≠ clsFatal :=
  ⟨⟨reset_wf, by decide⟩, by decide, by decide, by decide, by decide,
    ⟨{ State.reset with ras := { RasSt.reset with tideCnt := [((pTICK, 1), 16)] } }, by decide⟩, by decide, by decide, by decide⟩
theorem wit_SecurityLeavesTheDataPlane : ∃ t, guardCommand (.secRevoke 0) = true ∧ exec (.secRevoke 0) State.reset = .next t := ⟨_, rfl, rfl⟩
theorem wit_RegisterCommandsStoreNothing : ∃ t, storelessCommand .hullNow = true ∧ exec .hullNow State.reset = .next t := ⟨_, rfl, rfl⟩
end Sys2Proof.Tests
end

section
/-!
PROOF. Proofs/Tmark.lean: what a TMARK pulse, a missing mark and the limit of missing marks do, case by case (R35 to R37).
-/
namespace Sys2Proof.Machine

/-- The state with its count of consecutive missing marks (R37) set to `k`. -/
def State.withMiss (s : State) (k : Nat) : State := { s with tick := { s.tick with miss := k } }

/-- A tide mark is expected at the next grid position (R35). -/
abbrev State.tideDue (s : State) : Prop := (s.grid + 1) % 2 ^ 64 % 1000000 = 0

section Marks
variable {s : State} {w : Nat}

/-! ### A pulse: lock and position come before its width -/

/-- Before lock there is no grid to judge a pulse by (R36; that it then changes nothing is the model's choice, log entry 2). -/
theorem exec_tmarkPulse_of_unlocked (b : Bool) (hl : s.locked = false) : exec (.tmarkPulse w b) s = .next s := by
  rw [exec_tmarkPulse, execTmarkPulse, if_pos (by simp [hl])]

theorem exec_tmarkPulse_offGrid (hl : s.locked = true) (hw : w ≠ 0) :
    exec (.tmarkPulse w false) s = .next (s.tickEvent 0x02) := by
  rw [exec_tmarkPulse, execTmarkPulse, if_neg (by simp [hl, hw]), if_pos (by rfl)]

/-- After lock a pulse on the grid clears the count of missing marks, whatever its width (R37); width and due tide then
decide what else it does (R35). -/
theorem exec_tmarkPulse_onGrid (hl : s.locked = true) (hw : w ≠ 0) :
    exec (.tmarkPulse w true) s = .next (
      if w = 3 then if s.tideDue then (s.withMiss 0).gridUp else (s.withMiss 0).logErr pTICK 0x04 clsFatal LogInfo.none
      else if w = 1 then if s.tideDue then (s.withMiss 0).gridUp.tickEvent 0x03 else (s.withMiss 0).gridUp
      else (s.withMiss 0).gridUp.tickEvent 0x03) := by
  rw [exec_tmarkPulse, execTmarkPulse, if_neg (by simp [hl, hw]), if_neg (by simp)]
  rfl

/-! ### A pulse on the grid, by its width -/

theorem exec_tmarkPulse_tickMark (hl : s.locked = true) (hd : ¬s.tideDue) :
    exec (.tmarkPulse 1 true) s = .next (s.withMiss 0).gridUp := by
  rw [exec_tmarkPulse_onGrid hl one_ne_zero, if_neg (by decide), if_pos rfl, if_neg hd]

theorem exec_tmarkPulse_tideMark (hl : s.locked = true) (hd : s.tideDue) :
    exec (.tmarkPulse 3 true) s = .next (s.withMiss 0).gridUp := by
  rw [exec_tmarkPulse_onGrid hl three_ne_zero, if_pos rfl, if_pos hd]

/-- TIDE_MISMATCH: the pulse clears the count of missing marks, but the grid does not advance. -/
theorem exec_tmarkPulse_wrongTide (hl : s.locked = true) (hd : ¬s.tideDue) :
    exec (.tmarkPulse 3 true) s = .next ((s.withMiss 0).logErr pTICK 0x04 clsFatal LogInfo.none) := by
  rw [exec_tmarkPulse_onGrid hl three_ne_zero, if_pos rfl, if_neg hd]

theorem exec_tmarkPulse_missedTide (hl : s.locked = true) (hd : s.tideDue) :
    exec (.tmarkPulse 1 true) s = .next ((s.withMiss 0).gridUp.tickEvent 0x03) := by
  rw [exec_tmarkPulse_onGrid hl one_ne_zero, if_neg (by decide), if_pos rfl, if_pos hd]

theorem exec_tmarkPulse_malformed (hl : s.locked = true) (hw : w = 2 ∨ 4 ≤ w) :
    exec (.tmarkPulse w true) s = .next ((s.withMiss 0).gridUp.tickEvent 0x03) := by
  have h0 : w ≠ 0 := by omega
  have h1 : w ≠ 1 := by omega
  have h3 : w ≠ 3 := by omega
  rw [exec_tmarkPulse_onGrid hl h0, if_neg h3, if_neg h1]

/-! ### No pulse -/

theorem exec_tmarkMissing_of_locked (hl : s.locked = true) :
    exec .tmarkMissing s = .next ((s.withMiss (s.tick.miss + 1)).gridUp.tickEvent 0x01) := by
  rw [exec_tmarkMissing, execTmarkMissing, if_pos hl, State.withMiss]

theorem exec_tmarkMissLimit_of_reached (hl : s.locked = true) (hm : s.field (pTICK + Off.TICK_CFG) 23 16 ≤ s.tick.miss) :
    exec .tmarkMissLimit s = .next (s.logErr pTICK 0x06 clsFatal LogInfo.none) := by
  rw [exec_tmarkMissLimit, execTmarkMissLimit, if_pos ⟨hl, hm⟩]

end Marks

/-- Settles O7: each row of R35's table, R36's pulse before lock and R37's limit is one of the cases above. -/
theorem tmarkDecoding : Obligations.TmarkDecoding := by
  intro s u m due
  refine ⟨?tickMark, ?tideMark, ?wrongTide, ?missedTide, ?malformed, ?stray, ?unlocked, ?missing, ?limit⟩
  case tickMark => exact exec_tmarkPulse_tickMark
  case tideMark => exact exec_tmarkPulse_tideMark
  case wrongTide => exact exec_tmarkPulse_wrongTide
  case missedTide => exact exec_tmarkPulse_missedTide
  case malformed => exact fun _ => exec_tmarkPulse_malformed
  case stray => exact fun _ hl hw => exec_tmarkPulse_offGrid hl (Nat.one_le_iff_ne_zero.mp hw)
  case unlocked => exact fun _ b hl _ => exec_tmarkPulse_of_unlocked b hl
  case missing => exact exec_tmarkMissing_of_locked
  case limit => exact exec_tmarkMissLimit_of_reached

end Sys2Proof.Machine
end

section
/-!
PROOF. Proofs/Home.lean: which slice is home of a physical address, and what it depends on (R260).
-/
namespace Sys2Proof.Machine

/-- There are eight slices: an exclusive-or of three-bit groups has three bits. -/
theorem homeOf_lt_eight (a : Nat) : homeOf a < 8 := by
  refine List.foldlRecOn (motive := (· < 2 ^ 3)) _ _ (Nat.two_pow_pos 3) fun h hh g _ => ?_
  exact Nat.xor_lt_two_pow hh (Nat.mod_lt _ (Nat.two_pow_pos 3))

/-- The home depends only on address bits 51 to 12, for every group lies in them. -/
theorem homeOf_congr {a b : Nat} (h : a % 2 ^ 52 / 2 ^ 12 = b % 2 ^ 52 / 2 ^ 12) : homeOf a = homeOf b := by
  have group (c g : Nat) : c % 2 ^ 52 / 2 ^ (3 * g + 12) = c % 2 ^ 52 / 2 ^ 12 / 2 ^ (3 * g) := by
    rw [Nat.div_div_eq_div_mul, ← Nat.pow_add, Nat.add_comm]
  refine List.foldl_ext _ _ _ fun x g _ => ?_
  rw [group, group, h]

theorem homeOf_pageBase (a : Nat) : homeOf (a / 4096 * 4096) = homeOf a := homeOf_congr (by omega)

theorem homeOf_add_two_pow_52 (a : Nat) : homeOf (a + 2 ^ 52) = homeOf a := homeOf_congr (by rw [Nat.add_mod_right])

/-- Settles O33: the exclusive-or is the definition of `homeOf`; its bound, the page and the bits above 51 are the lemmas
above. -/
theorem homeOfAnAddress : Obligations.HomeOfAnAddress := by
  refine ⟨?worked, fun a => ⟨?groups, homeOf_lt_eight a, homeOf_pageBase a, homeOf_add_two_pow_52 a⟩⟩
  case worked => decide
  case groups => rfl

end Sys2Proof.Machine
end

section
/-!
PROOF. Proofs/ErrorLog.lean: what a page that logs an error does to its header, to the RAS log and to what carries the
interrupt, and what it leaves alone (R388, R463, R464).
-/
namespace Sys2Proof.Machine

/-! ### Register writes: what they leave -/

theorem State.OnlyRegs.refl (s : State) (l : List Nat) : s.OnlyRegs s l := ⟨rfl, fun _ _ => rfl⟩

theorem State.OnlyRegs.setRegN {s t : State} {l : List Nat} (h : s.OnlyRegs t l) {o : Nat} (m : o ∈ l) (v : Nat) :
    s.OnlyRegs (t.setRegN o v) l where
  rest := by rw [h.rest]; rfl
  others k hk := (State.reg_setRegN_ne t (fun e : k = o => hk (e.symm ▸ m)) v).trans (h.others k hk)

theorem State.OnlyRegs.bump {s t : State} {l : List Nat} (h : s.OnlyRegs t l) {page off : Nat} (m : page + off ∈ l) (n : Nat) :
    s.OnlyRegs (t.bump page off n) l := by
  unfold State.bump State.bumpW
  split
  · exact h
  · exact h.setRegN m _

theorem State.OnlyRegs.regN {s t : State} {l : List Nat} (h : s.OnlyRegs t l) {o : Nat} (m : o ∉ l) : t.regN o = s.regN o :=
  congrArg BitVec.toNat (h.others o m)

theorem State.OnlyRegs.ras {s t : State} {l : List Nat} (h : s.OnlyRegs t l) : t.ras = s.ras := by rw [h.rest]

theorem State.OnlyRegs.server {s t : State} {l : List Nat} (h : s.OnlyRegs t l) (k : Nat) : t.server k = s.server k := by rw [h.rest]; rfl

theorem State.regN_bump_self {s : State} (w : s.Wf) {page : Nat} (hf : s.frozen page = false) (off n : Nat) :
    (s.bump page off n).regN (page + off) = (s.regN (page + off) + n) % 2 ^ 32 := by
  rw [State.bump, State.bumpW, if_neg (by simp [hf]), State.regN_setRegN_self w]
  omega

/-! ### What carries an interrupt -/

/-- The state with other messages on their way out, APLIC, server cores and pending vectors. -/
def State.withSignals (s : State) (out : List OutMsg) (aplic : AplicSt) (servers : List (Nat × SrvSt)) (pba : List Nat) : State :=
  { s with out := out, aplic := aplic, servers := servers, pcie := { s.pcie with pba := pba } }

/-- `t` differs from `s` only in what carries an interrupt: messages on their way out, vectors pending, the APLIC and the
interrupt files (R289, R316). -/
structure Signals (s t : State) : Prop where
  kept : Kept s t
  rest : ∃ out aplic servers pba, t = s.withSignals out aplic servers pba
  harts : s.Wf → ∀ k, (t.server k).hart = (s.server k).hart

theorem Signals.refl (s : State) : Signals s s := ⟨Kept.refl s, ⟨_, _, _, _, rfl⟩, fun _ _ => rfl⟩

theorem Signals.trans {s t u : State} (h : Signals s t) (k : Signals t u) : Signals s u where
  kept := h.kept.trans k.kept
  rest := by
    obtain ⟨_, _, _, _, rfl⟩ := h.rest
    obtain ⟨_, _, _, _, rfl⟩ := k.rest
    exact ⟨_, _, _, _, rfl⟩
  harts w j := (k.harts (h.kept.wf w) j).trans (h.harts w j)

theorem Signals.regs {s t : State} (h : Signals s t) : t.regs = s.regs := by
  obtain ⟨_, _, _, _, rfl⟩ := h.rest
  rfl

theorem Signals.ras {s t : State} (h : Signals s t) : t.ras = s.ras := by
  obtain ⟨_, _, _, _, rfl⟩ := h.rest
  rfl

theorem Signals.regN {s t : State} (h : Signals s t) (o : Nat) : t.regN o = s.regN o := State.regN_of_regs h.regs o

theorem Signals.foldl {α : Type} {f : State → α → State} (hf : ∀ t x, Signals t (f t x)) (l : List α) (s : State) :
    Signals s (l.foldl f s) :=
  List.foldlRecOn l f (motive := Signals s) (Signals.refl s) fun _ h x _ => h.trans (hf _ x)

theorem State.sendMsix_signals (s : State) (v : Nat) : Signals s (s.sendMsix v) where
  kept := State.sendMsix_kept (Kept.refl s) v
  rest := by
    unfold State.sendMsix
    dsimp only
    split
    · exact ⟨_, _, _, _, rfl⟩
    · split
      · exact ⟨_, _, _, _, rfl⟩
      · exact ⟨_, _, _, _, rfl⟩
  harts _ k := by
    unfold State.sendMsix
    dsimp only
    split
    · rfl
    · split
      · rfl
      · rfl

/-- Other interrupt files of a server core change nothing else of it. -/
theorem State.setServer_files_signals (s : State) (k : Nat) {x : SrvSt} (hx : x.hart = (s.server k).hart) : Signals s (s.setServer k x) where
  kept := State.setServer_kept (Kept.refl s) k x
  rest := ⟨_, _, _, _, rfl⟩
  harts w j := by
    rcases eq_or_ne j k with rfl | h
    · rw [State.server_setServer_self w, hx]
    · rw [State.server_setServer_ne s h]

theorem State.imsic_signals (s : State) (hart file id : Nat) : Signals s (s.imsic hart file id) := by
  unfold State.imsic
  split
  · exact Signals.refl s
  · exact State.setServer_files_signals s hart rfl

theorem State.withAplic_signals (s : State) (a : AplicSt) : Signals s { s with aplic := a } :=
  ⟨(Kept.refl s).same rfl rfl rfl rfl rfl rfl rfl rfl rfl rfl rfl rfl rfl rfl, ⟨_, _, _, _, rfl⟩, fun _ _ => rfl⟩

theorem State.aplicSource_signals (s : State) (n : Nat) : Signals s (s.aplicSource n) := by
  unfold State.aplicSource
  split
  · exact Signals.refl s
  · next x _ =>
    dsimp only
    generalize (x.enabled && if x.deleg then s.aplic.sOn else s.aplic.mOn) = go
    cases go
    · exact State.withAplic_signals s _
    · exact (State.withAplic_signals s _).trans (State.imsic_signals _ _ _ _)

/-- A change of causes or enables does what it does to the registers, and then only signals. -/
theorem State.irqEdge_signals (s : State) (page : Nat) (f : State → State) : Signals (f s) (s.irqEdge page f) := by
  unfold State.irqEdge
  dsimp only
  split
  · split
    · exact (State.aplicSource_signals _ _).trans (Signals.foldl State.sendMsix_signals _ _)
    · exact State.aplicSource_signals _ _
  · exact Signals.refl _

/-! ### The page's header: count, capture and ERROR cause -/

/-- The header registers that an error moves. -/
def errRegs (page : Nat) : List Nat := [page + Off.PG_ERR_CNT, page + Off.PG_ERR_FIRST, page + Off.PG_ERR_TICK, page + Off.PG_IRQ_STAT]

/-- Which registers an error moves is told by the offset within the page. -/
theorem not_mem_errRegs {page o : Nat} (hp : page % 4096 = 0) (ho : o % 4096 ∉ errRegs 0) : o ∉ errRegs page := by
  simp only [errRegs, Off.PG_ERR_CNT, Off.PG_ERR_FIRST, Off.PG_ERR_TICK, Off.PG_IRQ_STAT, List.mem_cons, List.not_mem_nil, or_false]
    at ho ⊢
  omega

theorem State.captureErr_onlyRegs (s : State) (page code cls : Nat) : s.OnlyRegs (s.captureErr page code cls)
    [page + Off.PG_ERR_CNT, page + Off.PG_ERR_FIRST, page + Off.PG_ERR_TICK] := by
  unfold State.captureErr
  dsimp only
  have counted := (State.OnlyRegs.refl s [page + Off.PG_ERR_CNT, page + Off.PG_ERR_FIRST, page + Off.PG_ERR_TICK]).setRegN
    (List.mem_cons_self ..) (min (s.regN (page + Off.PG_ERR_CNT) + 1) 0xFFFFFFFF)
  split
  · exact counted
  · exact (counted.setRegN (by simp) _).setRegN (by simp) _

theorem State.captureErr_cnt {s : State} (w : s.Wf) (page code cls : Nat) :
    (s.captureErr page code cls).regN (page + Off.PG_ERR_CNT) = min (s.regN (page + Off.PG_ERR_CNT) + 1) 0xFFFFFFFF := by
  have self := State.regN_setRegN_self w (page + Off.PG_ERR_CNT) (min (s.regN (page + Off.PG_ERR_CNT) + 1) 0xFFFFFFFF)
  rw [Nat.mod_eq_of_lt (by omega)] at self
  unfold State.captureErr
  dsimp only
  split
  · exact self
  · rw [State.regN_setRegN_ne _ (by simp), State.regN_setRegN_ne _ (by simp), self]

theorem State.captureErr_of_valid {s : State} {page : Nat} (hv : bit (s.regN (page + Off.PG_ERR_FIRST)) 31 = true) (code cls : Nat) :
    s.captureErr page code cls = s.setRegN (page + Off.PG_ERR_CNT) (min (s.regN (page + Off.PG_ERR_CNT) + 1) 0xFFFFFFFF) := by
  rw [State.captureErr, if_pos (by rw [State.regN_setRegN_ne _ (by simp), hv])]

theorem State.captureErr_first {s : State} (w : s.Wf) {page : Nat} (hp : page % 4096 = 0)
    (hv : bit (s.regN (page + Off.PG_ERR_FIRST)) 31 = false) (code cls : Nat) :
    (s.captureErr page code cls).regN (page + Off.PG_ERR_FIRST) = code % 256 + cls % 8 * 256 + 0x80000000
    ∧ (s.captureErr page code cls).regN (page + Off.PG_ERR_TICK) = s.now := by
  have wc := (State.setRegN_kept (Kept.refl s) (page + Off.PG_ERR_CNT) (min (s.regN (page + Off.PG_ERR_CNT) + 1) 0xFFFFFFFF)).wf w
  have wf := (State.setRegN_kept (Kept.refl _) (page + Off.PG_ERR_FIRST) (code % 256 + cls % 8 * 256 + 0x80000000)).wf wc
  have now : pg .tick 0 + Off.TICK_NOW ≠ page + Off.PG_ERR_CNT := by
    rw [show pg .tick 0 + Off.TICK_NOW = 0x2080 from rfl, Off.PG_ERR_CNT]
    omega
  rw [State.captureErr, if_neg (by rw [State.regN_setRegN_ne _ (by simp), hv]; decide)]
  constructor
  · rw [State.regN_setRegN_ne _ (by simp), State.regN_setRegN_self wc]
    omega
  · rw [State.regN_setRegN_self wf, State.now, State.regN_setRegN_ne _ now, Nat.mod_eq_of_lt (State.regN_lt s _)]
    rfl

/-- The page's part of logging an error. -/
def State.noteErr (s : State) (page code cls : Nat) : State := (s.captureErr page code cls).raiseIrq page 1

/-- The registers as the page's part leaves them, before anything is signalled. -/
def State.noted (s : State) (page code cls : Nat) : State :=
  (s.captureErr page code cls).setRegN (page + Off.PG_IRQ_STAT) ((s.captureErr page code cls).regN (page + Off.PG_IRQ_STAT) ||| 1)

theorem State.noteErr_signals (s : State) (page code cls : Nat) : Signals (s.noted page code cls) (s.noteErr page code cls) :=
  State.irqEdge_signals (s.captureErr page code cls) page fun s =>
    s.setRegN (page + Off.PG_IRQ_STAT) (s.regN (page + Off.PG_IRQ_STAT) ||| 1)

theorem State.noted_onlyRegs (s : State) (page code cls : Nat) : s.OnlyRegs (s.noted page code cls) (errRegs page) := by
  have captured := s.captureErr_onlyRegs page code cls
  refine State.OnlyRegs.setRegN ⟨captured.rest, fun o ho => captured.others o fun m => ho ?_⟩ (by simp [errRegs]) _
  exact List.mem_append_left [page + Off.PG_IRQ_STAT] m

theorem State.noted_kept (s : State) (page code cls : Nat) : Kept s (s.noted page code cls) :=
  State.setRegN_kept (State.captureErr_kept (Kept.refl s) page code cls) _ _

theorem State.noteErr_kept (s : State) (page code cls : Nat) : Kept s (s.noteErr page code cls) :=
  State.raiseIrq_kept (State.captureErr_kept (Kept.refl s) page code cls) page 1

theorem State.noteErr_ras (s : State) (page code cls : Nat) : (s.noteErr page code cls).ras = s.ras :=
  (s.noteErr_signals page code cls).ras.trans (s.noted_onlyRegs page code cls).ras

theorem State.noteErr_reg (s : State) {page o : Nat} (ho : o ∉ errRegs page) (code cls : Nat) :
    (s.noteErr page code cls).reg o = s.reg o := by
  rw [State.reg, (s.noteErr_signals page code cls).regs]
  exact (s.noted_onlyRegs page code cls).others o ho

theorem State.noteErr_regN (s : State) {page o : Nat} (ho : o ∉ errRegs page) (code cls : Nat) :
    (s.noteErr page code cls).regN o = s.regN o := congrArg BitVec.toNat (s.noteErr_reg ho code cls)

theorem State.noteErr_regN_capture (s : State) {page o : Nat} (ho : o ≠ page + Off.PG_IRQ_STAT) (code cls : Nat) :
    (s.noteErr page code cls).regN o = (s.captureErr page code cls).regN o :=
  ((s.noteErr_signals page code cls).regN o).trans (State.regN_setRegN_ne _ ho _)

theorem State.noteErr_cause {s : State} (w : s.Wf) (page code cls : Nat) :
    bit ((s.noteErr page code cls).regN (page + Off.PG_IRQ_STAT)) 0 = true := by
  have wc := (State.captureErr_kept (Kept.refl s) page code cls).wf w
  rw [(s.noteErr_signals page code cls).regN, State.noted, State.regN_setRegN_self wc,
    Nat.mod_eq_of_lt (Nat.or_lt_two_pow (State.regN_lt _ _) (by decide)), bit, Nat.testBit_or]
  simp

/-- The record names the tick and the page's identity, which the page's part leaves. -/
theorem mkLog_noteErr (s : State) {page : Nat} (hp : page % 4096 = 0) (code cls c k : Nat) (li : LogInfo) :
    mkLog (s.noteErr page c k) page code cls li = mkLog s page code cls li := by
  have id : page + Off.PG_ID ∉ errRegs page := by simp [errRegs]
  have now : (s.noteErr page c k).now = s.now := s.noteErr_regN (not_mem_errRegs hp (by decide)) c k
  rw [mkLog, now, s.noteErr_regN id, mkLog]

/-! ### The log -/

/-- The registers of the RAS page that a record moves. -/
def logRegs : List Nat := [pRAS + Off.RAS_LOG_HEAD, pRAS + Off.RAS_DROP_CNT]

/-- 4,096 records are unread (R388). -/
abbrev State.logFull (s : State) : Prop := 4096 ≤ s.regN (pRAS + Off.RAS_LOG_HEAD) - s.regN (pRAS + Off.RAS_LOG_TAIL)

/-- The log with its oldest unread correctable record replaced by `x`, as HEAD and TAIL stand. -/
abbrev State.overwritten (s : State) (x : LogRec) : Option (List LogRec) :=
  replaceOldest (s.regN (pRAS + Off.RAS_LOG_TAIL)) x s.ras.log

/-- The newest record is among those retained. -/
theorem getLast?_retained {α : Type} (l : List α) (x : α) {n : Nat} (hn : 0 < n) :
    ((l ++ [x]).drop ((l ++ [x]).length - n)).getLast? = some x := by
  rw [List.getLast?_drop, if_neg (by rw [List.length_append, List.length_singleton]; omega), List.getLast?_concat]

theorem State.appendLog_of_room {s : State} (h : ¬s.logFull) (x : LogRec) :
    (s.appendLog x).ras.log.getLast? = some { x with seq := s.regN (pRAS + Off.RAS_LOG_HEAD) } := by
  rw [State.appendLog, show pg .ras 0 = pRAS from rfl, if_pos (Nat.lt_of_not_le h), State.setRegN_ras]
  dsimp only
  exact getLast?_retained s.ras.log _ (by decide)

theorem State.appendLog_of_corr {s : State} (h : s.logFull) {x : LogRec} (hx : x.cls = 0) :
    s.appendLog x = s.bump pRAS Off.RAS_DROP_CNT 1 := by
  rw [State.appendLog, show pg .ras 0 = pRAS from rfl, if_neg (Nat.not_lt_of_le h), if_pos hx]

theorem State.appendLog_of_none {s : State} (h : s.logFull) {x : LogRec} (hx : x.cls ≠ 0) (hr : s.overwritten x = none) :
    s.appendLog x = s.bump pRAS Off.RAS_DROP_CNT 1 := by
  rw [State.appendLog, show pg .ras 0 = pRAS from rfl, if_neg (Nat.not_lt_of_le h), if_neg hx,
    show replaceOldest _ x _ = _ from hr]

theorem State.appendLog_of_some {s : State} (h : s.logFull) {x : LogRec} (hx : x.cls ≠ 0) {log : List LogRec}
    (hr : s.overwritten x = some log) : s.appendLog x = { s with ras := { s.ras with log := log } } := by
  rw [State.appendLog, show pg .ras 0 = pRAS from rfl, if_neg (Nat.not_lt_of_le h), if_neg hx,
    show replaceOldest _ x _ = _ from hr]

/-- A record is dropped and counted, unless the RAS page's counters are frozen (R388, R462). -/
def State.Drops (s t : State) : Prop :=
  t.ras.log = s.ras.log
  ∧ (s.frozen pRAS = false → t.regN (pRAS + Off.RAS_DROP_CNT) = (s.regN (pRAS + Off.RAS_DROP_CNT) + 1) % 2 ^ 32)

theorem State.drops_bump {s : State} (w : s.Wf) : s.Drops (s.bump pRAS Off.RAS_DROP_CNT 1) :=
  ⟨congrArg RasSt.log ((State.OnlyRegs.refl s [_]).bump List.mem_cons_self 1).ras, fun hf => State.regN_bump_self w hf _ 1⟩

/-- A full log keeps a record that is not correctable in place of its oldest unread correctable one, or drops it (R388). -/
theorem State.appendLog_of_other {s : State} (w : s.Wf) (h : s.logFull) {x : LogRec} (hx : x.cls ≠ 0) :
    (s.appendLog x).ras.log = (s.overwritten x).getD s.ras.log ∧ (s.overwritten x = none → s.Drops (s.appendLog x)) := by
  cases hr : s.overwritten x with
  | none =>
    rw [State.appendLog_of_none h hx hr]
    exact ⟨(State.drops_bump w).1, fun _ => State.drops_bump w⟩
  | some log =>
    rw [State.appendLog_of_some h hx hr]
    exact ⟨rfl, fun e => nomatch e⟩

/-- A record entered in the log changes the RAS page's registers and the log, and nothing else. -/
theorem State.appendLog_onlyLog (s : State) (x : LogRec) :
    (∃ log, State.OnlyRegs { s with ras := { s.ras with log := log } } (s.appendLog x) logRegs) := by
  by_cases h : s.logFull
  · by_cases hx : x.cls = 0
    · rw [State.appendLog_of_corr h hx]
      exact ⟨s.ras.log, (State.OnlyRegs.refl s _).bump (by simp [logRegs]) 1⟩
    · cases hr : s.overwritten x with
      | none =>
        rw [State.appendLog_of_none h hx hr]
        exact ⟨s.ras.log, (State.OnlyRegs.refl s _).bump (by simp [logRegs]) 1⟩
      | some log =>
        rw [State.appendLog_of_some h hx hr]
        exact ⟨log, State.OnlyRegs.refl _ _⟩
  · rw [State.appendLog, show pg .ras 0 = pRAS from rfl, if_pos (Nat.lt_of_not_le h)]
    exact ⟨_, (State.OnlyRegs.refl _ _).setRegN (by simp [logRegs]) _⟩

/-- The record's part of logging an error: of correctable records of one code at most 16 a tide are entered (R388). -/
def State.enterErr (s : State) (page code cls : Nat) (x : LogRec) : State :=
  if cls = clsCorr then
    if s.ras.cnt page code < 16 then ({ s with ras := s.ras.count page code }).appendLog x else s
  else s.appendLog x

theorem State.enterErr_of_limit {s : State} {page code cls : Nat} (hc : cls = clsCorr) (hn : 16 ≤ s.ras.cnt page code) (x : LogRec) :
    s.enterErr page code cls x = s := by
  rw [State.enterErr, if_pos hc, if_neg (Nat.not_lt_of_le hn)]

/-- Within the limit the record goes to the log, and only the count of its code may differ. -/
theorem State.enterErr_of_allowed {s : State} {page code cls : Nat} (h : cls = clsCorr → s.ras.cnt page code < 16) (x : LogRec) :
    ∃ n, s.enterErr page code cls x = State.appendLog { s with ras := { s.ras with tideCnt := n } } x := by
  by_cases hc : cls = clsCorr
  · rw [State.enterErr, if_pos hc, if_pos (h hc)]
    exact ⟨_, rfl⟩
  · rw [State.enterErr, if_neg hc]
    exact ⟨_, rfl⟩

theorem State.enterErr_onlyLog (s : State) (page code cls : Nat) (x : LogRec) :
    ∃ ras, State.OnlyRegs { s with ras := ras } (s.enterErr page code cls x) logRegs := by
  by_cases h : cls = clsCorr → s.ras.cnt page code < 16
  · obtain ⟨n, e⟩ := State.enterErr_of_allowed h x
    obtain ⟨log, only⟩ := State.appendLog_onlyLog { s with ras := { s.ras with tideCnt := n } } x
    rw [e]
    exact ⟨_, only⟩
  · obtain ⟨hc, hn⟩ := Classical.not_imp.mp h
    rw [State.enterErr_of_limit hc (Nat.le_of_not_lt hn)]
    exact ⟨_, State.OnlyRegs.refl s _⟩

theorem State.enterErr_room {s : State} {page code cls : Nat} (h : cls = clsCorr → s.ras.cnt page code < 16) (hf : ¬s.logFull)
    (x : LogRec) : (s.enterErr page code cls x).ras.log.getLast? = some { x with seq := s.regN (pRAS + Off.RAS_LOG_HEAD) } := by
  obtain ⟨n, e⟩ := State.enterErr_of_allowed h x
  rw [e]
  exact State.appendLog_of_room (s := { s with ras := { s.ras with tideCnt := n } }) hf x

theorem State.Wf.withTideCnt {s : State} (w : s.Wf) (n : List ((Nat × Nat) × Nat)) :
    State.Wf { s with ras := { s.ras with tideCnt := n } } := { w with }

theorem State.enterErr_full_corr {s : State} (w : s.Wf) {page code cls : Nat} (h : cls = clsCorr → s.ras.cnt page code < 16)
    (hf : s.logFull) {x : LogRec} (hx : x.cls = 0) : s.Drops (s.enterErr page code cls x) := by
  obtain ⟨n, e⟩ := State.enterErr_of_allowed h x
  rw [e, State.appendLog_of_corr (s := { s with ras := { s.ras with tideCnt := n } }) hf hx]
  exact State.drops_bump (w.withTideCnt n)

theorem State.enterErr_full_other {s : State} (w : s.Wf) {page code cls : Nat} (hc : cls ≠ clsCorr) (hf : s.logFull)
    {x : LogRec} (hx : x.cls ≠ 0) : (s.enterErr page code cls x).ras.log = (s.overwritten x).getD s.ras.log
      ∧ (s.overwritten x = none → s.Drops (s.enterErr page code cls x)) := by
  rw [State.enterErr, if_neg hc]
  exact State.appendLog_of_other w hf hx

/-! ### The leaving sequence -/

/-- The registers of the RAS page that a device-fatal fault writes (R391). -/
def fatalRegs : List Nat := [pRAS + Off.RAS_FATAL_SRC, pRAS + Off.RAS_FATAL_CODE, pRAS + Off.RAS_FATAL_TICK, pRAS + Off.RAS_STAT]

theorem State.goFatal_eq {s : State} (h : s.left = false) (page code : Nat) : ∃ src tick stat, s.goFatal page code =
    { (((s.setRegN (pRAS + Off.RAS_FATAL_SRC) src).setRegN (pRAS + Off.RAS_FATAL_CODE) (code % 256)).setRegN
      (pRAS + Off.RAS_FATAL_TICK) tick).setRegN (pRAS + Off.RAS_STAT) stat with
      ras := { s.ras with faultN := true, leavePend := true } } := by
  rw [State.goFatal, if_neg (by simp [h])]
  exact ⟨_, _, _, rfl⟩

/-- A device-fatal fault leaves the log and every other register. -/
theorem State.goFatal_only (s : State) (page code : Nat) :
    (s.goFatal page code).ras.log = s.ras.log ∧ ∀ o, o ∉ fatalRegs → (s.goFatal page code).reg o = s.reg o := by
  cases h : s.left with
  | true =>
    rw [State.goFatal, if_pos h]
    exact ⟨rfl, fun _ _ => rfl⟩
  | false =>
    obtain ⟨src, tick, stat, e⟩ := State.goFatal_eq h page code
    rw [e]
    refine ⟨rfl, fun o ho => ?_⟩
    have written := (((State.OnlyRegs.refl s fatalRegs).setRegN (o := pRAS + Off.RAS_FATAL_SRC) (by simp [fatalRegs]) src).setRegN
      (o := pRAS + Off.RAS_FATAL_CODE) (by simp [fatalRegs]) (code % 256)).setRegN (o := pRAS + Off.RAS_FATAL_TICK) (by simp [fatalRegs]) tick
    exact (written.setRegN (by simp [fatalRegs]) stat).others o ho

/-! ### The whole: page, record and leaving sequence -/

/-- The state with the error noted and its record entered. -/
def State.errEntered (s : State) (page code cls : Nat) (li : LogInfo) : State :=
  (s.noteErr page code cls).enterErr page code cls (mkLog s page code cls li)

/-- A device-fatal fault begins the leaving sequence in addition (R391). -/
theorem State.logErr_eq (s : State) {page : Nat} (hp : page % 4096 = 0) (code cls : Nat) (li : LogInfo) :
    s.logErr page code cls li =
      if cls = clsFatal then (s.errEntered page code cls li).goFatal page code else s.errEntered page code cls li := by
  rw [State.errEntered, ← mkLog_noteErr s hp code cls code cls li]
  rfl

section Logged
variable (s : State) {page : Nat} (hp : page % 4096 = 0) (code cls : Nat) (li : LogInfo)
include hp

theorem State.logErr_log : (s.logErr page code cls li).ras.log = (s.errEntered page code cls li).ras.log := by
  rw [State.logErr_eq s hp]
  split
  · exact (State.goFatal_only _ page code).1
  · rfl

theorem State.logErr_reg {o : Nat} (ho : o ∉ fatalRegs) :
    (s.logErr page code cls li).reg o = (s.errEntered page code cls li).reg o := by
  rw [State.logErr_eq s hp]
  split
  · exact (State.goFatal_only _ page code).2 o ho
  · rfl

/-- No record and no fault touches a page header. -/
theorem State.logErr_regN_header {o : Nat} (ho : o % 4096 < 0x40) :
    (s.logErr page code cls li).regN o = (s.noteErr page code cls).regN o := by
  have own : ∀ k ∈ logRegs ++ fatalRegs, 0x40 ≤ k % 4096 := by decide
  have apart : o ∉ logRegs ++ fatalRegs := fun m => Nat.not_lt_of_le (own o m) ho
  obtain ⟨ras, only⟩ := (s.noteErr page code cls).enterErr_onlyLog page code cls (mkLog s page code cls li)
  have entered : (s.errEntered page code cls li).regN o = (s.noteErr page code cls).regN o :=
    only.regN fun m => apart (List.mem_append_left _ m)
  rw [← entered]
  exact congrArg BitVec.toNat (s.logErr_reg hp code cls li fun m => apart (List.mem_append_right _ m))

/-- What the page's part leaves of the log: its records, its counts and its two pointers. -/
theorem State.noteErr_log : (s.noteErr page code cls).ras = s.ras
    ∧ (s.noteErr page code cls).regN (pRAS + Off.RAS_LOG_HEAD) = s.regN (pRAS + Off.RAS_LOG_HEAD)
    ∧ (s.noteErr page code cls).regN (pRAS + Off.RAS_LOG_TAIL) = s.regN (pRAS + Off.RAS_LOG_TAIL) :=
  ⟨s.noteErr_ras page code cls, s.noteErr_regN (not_mem_errRegs hp (by decide)) code cls,
    s.noteErr_regN (not_mem_errRegs hp (by decide)) code cls⟩

theorem State.Drops.of_noteErr {t : State} (h : (s.noteErr page code cls).Drops t) : s.Drops t := by
  have count : (s.noteErr page code cls).regN (pRAS + Off.RAS_DROP_CNT) = s.regN (pRAS + Off.RAS_DROP_CNT) :=
    s.noteErr_regN (not_mem_errRegs hp (by decide)) code cls
  have ctrl : pRAS + Off.PG_CTRL ∉ errRegs page := not_mem_errRegs hp (by decide)
  have frozen : (s.noteErr page code cls).frozen pRAS = s.frozen pRAS := by
    rw [State.frozen, s.noteErr_regN ctrl, State.frozen]
  rwa [State.Drops, s.noteErr_ras, count, frozen] at h

theorem State.logErr_of_limit (hc : cls = clsCorr) (hn : 16 ≤ s.ras.cnt page code) :
    s.logErr page code cls li = s.noteErr page code cls := by
  rw [State.logErr_eq s hp, if_neg (by rw [hc]; decide), State.errEntered,
    State.enterErr_of_limit hc (by rw [s.noteErr_ras]; exact hn)]

theorem State.logErr_room (h : cls = clsCorr → s.ras.cnt page code < 16) (hf : ¬s.logFull) :
    (s.logErr page code cls li).ras.log.getLast? =
      some { mkLog s page code cls li with seq := s.regN (pRAS + Off.RAS_LOG_HEAD) } := by
  obtain ⟨ras, head, tail⟩ := s.noteErr_log hp code cls
  rw [s.logErr_log hp, State.errEntered, State.enterErr_room (by rwa [ras]) (by rwa [State.logFull, head, tail]), head]

theorem State.logErr_full_corr (w : s.Wf) (hc : cls = clsCorr) (hn : s.ras.cnt page code < 16) (hf : s.logFull) :
    s.Drops (s.logErr page code cls li) := by
  obtain ⟨ras, head, tail⟩ := s.noteErr_log hp code cls
  rw [State.logErr_eq s hp, if_neg (by rw [hc]; decide)]
  exact State.Drops.of_noteErr s hp code cls (State.enterErr_full_corr ((s.noteErr_kept page code cls).wf w)
    (fun _ => by rwa [ras]) (by rwa [State.logFull, head, tail]) hc)

theorem State.logErr_full_other (w : s.Wf) (hc : cls ≠ clsCorr) (hf : s.logFull) :
    (s.logErr page code cls li).ras.log = (s.overwritten (mkLog s page code cls li)).getD s.ras.log
    ∧ (s.overwritten (mkLog s page code cls li) = none → s.Drops (s.logErr page code cls li)) := by
  obtain ⟨ras, head, tail⟩ := s.noteErr_log hp code cls
  have same : (s.noteErr page code cls).overwritten (mkLog s page code cls li) = s.overwritten (mkLog s page code cls li) := by
    rw [State.overwritten, tail, ras]
  obtain ⟨log, drops⟩ := State.enterErr_full_other (page := page) (code := code) (x := mkLog s page code cls li)
    ((s.noteErr_kept page code cls).wf w) hc (by rwa [State.logFull, head, tail]) hc
  rw [same, ras, ← State.errEntered, ← s.logErr_log hp] at log
  refine ⟨log, fun hr => ?_⟩
  obtain ⟨same', count⟩ := State.Drops.of_noteErr s hp code cls (drops (same.trans hr))
  refine ⟨(s.logErr_log hp code cls li).trans same', fun hfr => ?_⟩
  rw [← count hfr]
  exact congrArg BitVec.toNat (s.logErr_reg hp code cls li (by decide))

/-- Unless the fault is device-fatal, nothing but registers, the log and what carries the interrupt changes, and no register
but those of the error and of the log. -/
theorem State.logErr_frame (hc : cls ≠ clsFatal) :
    (∃ regs ras out aplic servers pba, s.logErr page code cls li =
      State.withSignals { s with regs := regs, ras := ras } out aplic servers pba)
    ∧ (s.Wf → ∀ k, ((s.logErr page code cls li).server k).hart = (s.server k).hart)
    ∧ ∀ o, o ∉ errRegs page ++ logRegs → (s.logErr page code cls li).reg o = s.reg o := by
  have noted := s.noted_onlyRegs page code cls
  have signals := s.noteErr_signals page code cls
  obtain ⟨ras, only⟩ := (s.noteErr page code cls).enterErr_onlyLog page code cls (mkLog s page code cls li)
  rw [State.logErr_eq s hp, if_neg hc, State.errEntered]
  refine ⟨?rest, fun w k => ?harts, fun o ho => ?others⟩
  case rest =>
    obtain ⟨out, aplic, servers, pba, e⟩ := signals.rest
    rw [only.rest, e, noted.rest]
    exact ⟨_, _, _, _, _, _, rfl⟩
  case harts =>
    rw [only.server]
    exact (signals.harts ((s.noted_kept page code cls).wf w) k).trans (congrArg SrvSt.hart (noted.server k))
  case others =>
    rw [List.mem_append, not_or] at ho
    exact (only.others o ho.2).trans (s.noteErr_reg ho.1 code cls)

end Logged

/-! ### The soft reset -/

theorem pg_aligned (b : Blk) (i : Nat) : pg b i % 4096 = 0 := by
  have base : b.place.base % 4096 = 0 := by cases b <;> decide
  rw [pg, Nat.add_mul_mod_self_left, base]

/-- The RC registers of a block lie in its pages' own lists, not in a header (R459, R461). -/
theorem rc_own (b : Blk) : ∀ q ∈ upTo 0 b.place.pages, ∀ r ∈ (b.rows q).filter (fun r => r.acc == .rc),
    ∀ o ∈ r.offs, 0x40 ≤ o % 4096 := by
  cases b <;> decide

theorem State.clearCounter_reg_ne (s : State) {o k : Nat} (h : k ≠ o) : (s.clearCounter o).reg k = s.reg k := by
  unfold State.clearCounter
  split
  · split
    · rfl
    · exact State.reg_setRegN_ne s h 0
  · rfl

theorem State.clearRc_reg_header (s : State) (b : Blk) (i : Nat) {o : Nat} (ho : o % 4096 < 0x40) :
    (s.clearRc b i).reg o = s.reg o := by
  unfold State.clearRc
  refine List.foldlRecOn (motive := fun (t : State) => t.reg o = s.reg o) _ _ rfl fun t ht q hq => ?_
  refine List.foldlRecOn (motive := fun (t : State) => t.reg o = s.reg o) _ _ ht fun t ht r hr => ?_
  refine List.foldlRecOn (motive := fun (t : State) => t.reg o = s.reg o) _ _ ht fun t ht k hk => ?_
  have own := rc_own b q hq r hr k hk
  have page := pg_aligned b i
  exact (t.clearCounter_reg_ne (by omega)).trans ht

/-- Settles O58: the header is what the page's part made it, for neither the record nor a fault touches one; the log is a
case of its room, of the limit and of the class; and the frame is that of the parts. The wrap of the drop counter is log
entry 17, and which record's number and place are kept is log entry 18. -/
theorem errorsAreCapturedAndLogged : Obligations.ErrorsAreCapturedAndLogged := by
  intro s page code cls li w hp t full
  have header {o : Nat} (ho : o % 4096 < 0x40) : t.regN o = (s.noteErr page code cls).regN o :=
    s.logErr_regN_header hp code cls li ho
  have inHeader : (page + Off.PG_ERR_CNT) % 4096 < 0x40 ∧ (page + Off.PG_ERR_FIRST) % 4096 < 0x40
      ∧ (page + Off.PG_ERR_TICK) % 4096 < 0x40 ∧ (page + Off.PG_IRQ_STAT) % 4096 < 0x40 := by
    simp only [Off.PG_ERR_CNT, Off.PG_ERR_FIRST, Off.PG_ERR_TICK, Off.PG_IRQ_STAT]
    omega
  obtain ⟨hcnt, hfirst, htick, hstat⟩ := inHeader
  have captured {o : Nat} (ho : o % 4096 < 0x40) (hs : o ≠ page + Off.PG_IRQ_STAT) :
      t.regN o = (s.captureErr page code cls).regN o :=
    (header ho).trans (s.noteErr_regN_capture hs code cls)
  refine ⟨?count, ?first, ?later, ?cause, ?softReset, ?limit, ?room, ?dropped, ?overwritten, ?frame⟩
  case count => rw [captured hcnt (by simp), State.captureErr_cnt w]
  case first =>
    intro hv
    rw [captured hfirst (by simp), captured htick (by simp)]
    exact State.captureErr_first w hp hv code cls
  case later =>
    intro hv
    rw [captured hfirst (by simp), captured htick (by simp), State.captureErr_of_valid hv]
    exact ⟨State.regN_setRegN_ne s (by simp) _, State.regN_setRegN_ne s (by simp) _⟩
  case cause => rw [header hstat, State.noteErr_cause w]
  case softReset => exact fun b i _ _ => congrArg BitVec.toNat (t.clearRc_reg_header b i hcnt)
  case limit =>
    intro hc hn
    exact (congrArg State.ras (s.logErr_of_limit hp code cls li hc hn)).trans (s.noteErr_ras page code cls)
  case room => exact s.logErr_room hp code cls li
  case dropped => exact s.logErr_full_corr hp code cls li w
  case overwritten =>
    intro hc hf
    obtain ⟨log, drops⟩ := s.logErr_full_other hp code cls li w hc hf
    exact ⟨log, fun hr => (drops hr).2⟩
  case frame =>
    intro hc
    obtain ⟨⟨regs, ras, out, aplic, servers, pba, e⟩, harts, others⟩ := s.logErr_frame hp code cls li hc
    exact ⟨(by rw [show t = _ from e]; rfl), harts w, others⟩

end Sys2Proof.Machine
end

section
/-!
PROOF. Proofs/Step.lean: what a step is, and what every step and every command keeps: the order `Kept` of states, from which the
canonical form of the sparse maps, the fuses, the queue and the output follow.
-/
namespace Sys2Proof.Machine

/-! ### A step and the queue -/

theorem step_of_pending_nil {s : State} (h : s.pending = []) : step s = .next s := by rw [step, h]

theorem step_of_pending_cons {s : State} {c : Instr} {l : List Instr} (h : s.pending = c :: l) :
    step s = exec c (s.withPending l) := by rw [step, h]

/-- The queue is no part of the canonical form. -/
theorem State.Wf.withPending {s : State} (w : s.Wf) (l : List Instr) : (s.withPending l).Wf := { w with }

/-- What a command may lead to, in one relation: `exec_kept` on an answer. -/
theorem Kept.of_exec {c : Instr} {s t : State} (h : exec c s = .next t) : Kept s t := (exec_kept c s).kept t h

/-- Settles O1: both cases of the queue. -/
theorem stepRunsFrontCommand : Obligations.StepRunsFrontCommand :=
  ⟨fun _ _ _ => step_of_pending_cons rfl, fun _ => step_of_pending_nil rfl⟩

/-- Settles O2: the maps of the reset state list nothing. -/
theorem resetIsWellKept : Obligations.ResetIsWellKept := by
  refine ⟨?maps, ?fuses, ?queue, ?output⟩
  case maps => exact ⟨rfl, rfl, rfl, rfl, rfl, rfl, rfl, rfl, rfl, rfl⟩
  case fuses => rfl
  case queue => rfl
  case output => rfl

/-! ### What every step keeps -/

/-- Settles O3: an idle step changes nothing; any other runs a command on the state with the rest of the queue. -/
theorem everyStepKeepsCanonicalForm : Obligations.EveryStepKeepsCanonicalForm := by
  intro s t w h
  cases hp : s.pending with
  | nil =>
    rw [step_of_pending_nil hp] at h
    cases h
    exact w
  | cons c l =>
    rw [step_of_pending_cons hp] at h
    exact (Kept.of_exec h).wf (w.withPending l)

/-- Settles O4: no command undoes a fuse, the power and reset commands among them, and the queue holds no fuse. -/
theorem fusesOnlyGrow : Obligations.FusesOnlyGrow := by
  intro s t f h
  cases hp : s.pending with
  | nil =>
    rw [step_of_pending_nil hp] at h
    cases h
    exact ⟨f, SecSt.Grown.refl _⟩
  | cons c l =>
    rw [step_of_pending_cons hp] at h
    exact (Kept.of_exec h).fuse f

/-- Settles O5. -/
theorem queueAndOutputAreKept : Obligations.QueueAndOutputAreKept := fun _ _ _ h =>
  have k := Kept.of_exec h
  ⟨k.pending, k.out, k.free⟩

/-! ### Every command answers -/

/-- Every command's meaning is a next state as it stands, whatever its branches. -/
theorem exec_answers (c : Instr) (s : State) : ∃ t, exec c s = .next t := by
  cases c <;> exact ⟨_, rfl⟩

/-- Settles O6: a command answers, and O5 says what its answer keeps. -/
theorem wellFormedCommandsComplete : Obligations.WellFormedCommandsComplete := fun c s =>
  have ⟨t, h⟩ := exec_answers c s
  have ⟨pending, out, _⟩ := queueAndOutputAreKept c s t h
  ⟨t, h, pending, out⟩

end Sys2Proof.Machine
end

section
/-!
PROOF. Proofs/Ticks.lean: what a grid mark changes, the two copies of the tick unit, TLATE, and the tick boundary (chapter 02).
-/
namespace Sys2Proof.Machine

/-! ### A grid mark (R35, R37) -/

theorem State.Wf.withMiss {s : State} (w : s.Wf) (k : Nat) : (s.withMiss k).Wf := { w with }

theorem State.grid_setRegN_grid {s : State} (w : s.Wf) (n : Nat) : (s.setRegN (pTICK + Off.TICK_GRID) n).grid = n % 2 ^ 64 :=
  State.regN_setRegN_self w _ n

/-- At a grid position that is no tide mark the grid counts, and that is all. -/
theorem State.gridUp_of_not_due {s : State} (w : s.Wf) (hd : ¬s.tideDue) :
    s.gridUp = s.setRegN (pTICK + Off.TICK_GRID) ((s.grid + 1) % 2 ^ 64) := by
  rw [State.gridUp, if_neg]
  rwa [State.grid_setRegN_grid w, Nat.mod_mod]

/-- TICK_GRID is no register of the address map. -/
theorem MapSame.setGrid (s : State) (n : Nat) : MapSame s (s.setRegN (pTICK + Off.TICK_GRID) n) :=
  MapSame.setReg s _ (by decide) (by decide) (by decide)

/-- Settles O8: on such a mark the answer is a write of TICK_GRID with the count of missing marks at 0. -/
theorem gridMarkCountsAndChangesNothingElse : Obligations.GridMarkCountsAndChangesNothingElse := by
  intro s w hl hd
  have w0 := w.withMiss 0
  refine ⟨(s.withMiss 0).gridUp, exec_tmarkPulse_tickMark hl hd, ?_⟩
  rw [State.gridUp_of_not_due w0 hd]
  refine ⟨?grid, ?miss, ?rest, ?registers, ?bytes⟩
  case grid => rw [State.grid_setRegN_grid w0, Nat.mod_mod]; rfl
  case miss => rfl
  case rest => rfl
  case registers => exact fun o ho => State.reg_setRegN_ne (s.withMiss 0) ho _
  case bytes => exact fun a => (MapSame.setGrid (s.withMiss 0) _).rd8 rfl a

/-! ### TLATE (R38, R57, R59) -/

/-- Counters, stretch units and credits are registers: the record of the tick stays. -/
@[simp] theorem State.bumpW_tick (s : State) (w page off n : Nat) : (s.bumpW w page off n).tick = s.tick := by
  unfold State.bumpW
  split <;> rfl

@[simp] theorem State.bump64_tick (s : State) (page off n : Nat) : (s.bump64 page off n).tick = s.tick := s.bumpW_tick 64 page off n

/-- A fold of steps that each leave a part of the state leaves it. -/
theorem State.foldl_same {α β : Type} (g : State → β) {f : State → α → State} (hf : ∀ s x, g (f s x) = g s) (l : List α) (s : State) :
    g (l.foldl f s) = g s :=
  List.foldlRecOn (motive := fun t => g t = g s) l f rfl fun t ht x _ => (hf t x).trans ht

@[simp] theorem State.govCredit_tick (s : State) : s.govCredit.tick = s.tick :=
  by
  rw [State.govCredit]
  exact State.foldl_same State.tick (fun u t => by rw [State.setGov, State.setRegN_tick]) _ s

theorem State.addStretch_tick (s : State) : s.addStretch.tick =
    { s.tick with stretch := s.tick.stretch + 1, lag := s.tick.lag + (stretchRef s.pmode : Int) } :=
  State.bump64_tick _ _ _ _

/-- The ports are told of the notice; the tick is as it was. -/
theorem State.tellPorts_tick (s : State) (l : List Nat) (n : Nat) :
    (l.foldl (fun s q => if (s.port q).late.contains n then s
      else s.setPort q { s.port q with late := (s.port q).late ++ [n] }) s).tick = s.tick :=
  State.foldl_same State.tick (fun s q => by split <;> rfl) l s

/-- A late notice sampled in ELASTIC mode that is not applied yet lengthens the tick once (R57, R59). -/
theorem exec_tlateSample_elastic {s : State} (he : s.elastic = true) (hn : s.tick.applied.contains (s.now - 1) = false) :
    ∃ t, exec (.tlateSample 1 true) s = .next t ∧ t.tick.applied = (s.now - 1) :: s.tick.applied
      ∧ t.tick.stretch = s.tick.stretch + 1 ∧ t.tick.lag = s.tick.lag + (stretchRef s.pmode : Int) := by
  rw [exec_tlateSample, execTlateSample, if_neg (by decide), if_pos rfl, if_pos he, if_neg (by simp only [hn]; decide)]
  refine ⟨_, rfl, ?_⟩
  rw [State.tellPorts_tick]
  have tick (u : State) : (if u.tick.govUnit then u else u.govCredit).tick = u.tick := by split <;> simp
  rw [tick, State.bump64_tick, State.addStretch_tick]
  exact ⟨rfl, rfl, rfl⟩

/-- Settles O9: each row of R39's, R38's and R57's cases is one branch of its command. -/
theorem tickCopiesAndTlateLevels : Obligations.TickCopiesAndTlateLevels := by
  refine ⟨fun s => ⟨?differ, ?oneCopy, ?loss, ?lastLoss, ?failover⟩, fun s => ⟨?strict, ?elastic, ?stray, ?strayAgain, ?cycle0⟩⟩
  case differ =>
    intro g n p h2 hf hd
    rw [exec_tickCopyCompare, execTickCopyCompare, if_neg (by simp [h2, hf]), if_neg hd]
  case oneCopy =>
    intro g n p h2
    rw [exec_tickCopyCompare, execTickCopyCompare, if_pos (by simp [h2])]
  case loss =>
    intro h2
    rw [exec_tickSourceLoss, execTickSourceLoss, if_neg (by simp [h2])]
  case lastLoss =>
    intro h2
    rw [exec_tickSourceLoss, execTickSourceLoss, if_pos h2]
  case failover =>
    intro hf
    rw [exec_tickFailover, execTickFailover, if_pos hf]
  case strict =>
    intro he
    rw [exec_tlateSample, execTlateSample, if_neg (by decide), if_pos rfl, if_neg (by simp [he])]
  case elastic => exact exec_tlateSample_elastic
  case stray =>
    intro k hk hs
    rw [exec_tlateSample, execTlateSample, if_neg (by simp; omega), if_neg (by omega), if_neg (by simp [hs])]
  case strayAgain =>
    intro k hk hs
    rw [exec_tlateSample, execTlateSample, if_neg (by simp; omega), if_neg (by omega), if_pos hs]
  case cycle0 => rfl

/-! ### The tick boundary (R40, R44) -/

theorem exec_tickBoundary_of_ticking {s : State} (h : s.ticking = true) : exec .tickBoundary s = .next (
    let u := s.endTick.dueNotices.softResets.applyRgen.beginCores
    if u.pwr.shutPend then u.shutDown else u) := by
  rw [exec_tickBoundary, execTickBoundary, if_neg (by simp [h])]

/-- With no late sailing and no request of the governor no notice is raised. -/
theorem State.notice_of_quiet {s : State} (hg : s.tick.govReq = false) :
    s.notice false = { s with tick := { s.tick with govReq := false, govUnit := false, asserting := false } } := by
  rw [State.notice, if_neg (by simp [hg]), hg]
  rfl

/-- The end of a tick with no core in use and no request of the governor is the next number. -/
theorem State.endTick_of_idle {s : State} (hc : s.cores = []) (hg : s.tick.govReq = false) :
    ∃ k, s.endTick = { s.setNow (s.now + 1) with tick := k } ∧ k.notices = s.tick.notices := by
  rw [State.endTick, hc, List.map_nil, lateCores, State.notice_of_quiet hg]
  exact ⟨_, rfl, rfl⟩

theorem State.dueNotices_of_none {s : State} (h : s.tick.notices = []) : s.dueNotices = s.setTickStat 3 false := by
  rw [State.dueNotices, h, List.filter_nil, List.foldl_nil, h, List.filter_nil]
  exact congrArg (State.setTickStat · 3 false) (by rw [← h])

theorem State.softResets_of_none {s : State} (h : s.softReset = []) : s.softResets = s := by
  rw [State.softResets, h, List.foldl_nil, ← h]

theorem State.applyRgen_of_none {s : State} (h : s.rgenPend = []) : s.applyRgen = s := by
  rw [State.applyRgen, h, List.foldl_nil, ← h]

theorem State.beginCores_of_none {s : State} (h : s.cores = []) : s.beginCores = s := by
  rw [State.beginCores, h, List.map_nil, List.foldl_nil, List.foldl_nil, List.foldl_nil, List.foldl_nil]

/-- The data-plane counters after a load, and after writes of TICK_STAT behind it. -/
theorem State.now_setNow {s : State} (w : s.Wf) (n : Nat) : (s.setNow n).now = n % 2 ^ 64 := by
  rw [State.setNow, State.now, State.regN_setRegN_ne _ (by decide), show pg .tick 0 = pTICK from rfl, State.regN_setRegN_self w,
    Nat.mod_mod]

theorem State.tide_setNow {s : State} (w : s.Wf) (n : Nat) : (s.setNow n).tide = n % 2 ^ 64 / 1000000 % 2 ^ 32 := by
  rw [State.setNow, State.tide, show pg .tick 0 = pTICK from rfl, State.regN_setRegN_self (Kept.wf (State.setRegN_kept (Kept.refl s) _ _) w)]
  omega

theorem State.now_setTickStat (s : State) (i : Nat) (v : Bool) : (s.setTickStat i v).now = s.now :=
  congrArg BitVec.toNat (State.reg_setField_ne s (by decide) _ _ _)

theorem State.tide_setTickStat (s : State) (i : Nat) (v : Bool) : (s.setTickStat i v).tide = s.tide :=
  congrArg BitVec.toNat (State.reg_setField_ne s (by decide) _ _ _)

/-- A boundary with nothing due is the next tick number. -/
theorem exec_tickBoundary_of_idle {s : State} (h : s.ticking = true) (hc : s.cores = []) (hg : s.tick.govReq = false)
    (hn : s.tick.notices = []) (hr : s.softReset = []) (hp : s.rgenPend = []) (hs : s.pwr.shutPend = false) :
    ∃ k, exec .tickBoundary s = .next (State.setTickStat { s.setNow (s.now + 1) with tick := k } 3 false) := by
  obtain ⟨k, he, hk⟩ := State.endTick_of_idle hc hg
  refine ⟨k, ?_⟩
  rw [exec_tickBoundary_of_ticking h, he, State.dueNotices_of_none (hk.trans hn), State.softResets_of_none (by exact hr),
    State.applyRgen_of_none (by exact hp), State.beginCores_of_none (by exact hc)]
  exact congrArg _ (if_neg (ne_true_of_eq_false hs))

/-- Settles O11: the order of R44 is the definition; with nothing due the counters alone move. -/
theorem tickBoundaryBeginsNextTick : Obligations.TickBoundaryBeginsNextTick := by
  intro s h
  refine ⟨exec_tickBoundary_of_ticking h, fun w hc hg hn hr hp hs => ?_⟩
  obtain ⟨k, e⟩ := exec_tickBoundary_of_idle h hc hg hn hr hp hs
  exact ⟨_, e, (State.now_setTickStat _ 3 false).trans (State.now_setNow w _),
    (State.tide_setTickStat _ 3 false).trans (State.tide_setNow w _), rfl⟩

end Sys2Proof.Machine
end

section
/-!
PROOF. Proofs/Sequencer.lean: timetables, engine starts, sailings, signals and flags (chapter 02; R323, R143).
-/
namespace Sys2Proof.Machine

/-! ### Commands and cores -/

/-- The command named is changed, and found as before. -/
theorem State.cmd?_updCmd (s : State) (id : Nat) {f : Cmd → Cmd} (hf : ∀ k, (f k).id = k.id) :
    (s.updCmd id f).cmd? id = (s.cmd? id).map f := by
  have hid : ((fun k : Cmd => k.id == id) ∘ fun k => if k.id = id then f k else k) = fun k => k.id == id := by
    funext k
    by_cases h : k.id = id <;> simp [Function.comp, hf, h]
  rw [State.cmd?, State.updCmd, List.find?_map, hid, State.cmd?]
  cases h : s.cmds.find? (fun k => k.id == id) with
  | none => rfl
  | some k =>
    have hk : k.id = id := by simpa using List.find?_some h
    simp [hk]

@[simp] theorem Cmd.run_id (k : Cmd) (i : Nat) : (k.run i).id = k.id := by unfold Cmd.run; split <;> rfl

@[simp] theorem Cmd.itemFailed_run (k : Cmd) (i j : Nat) : (k.run i).itemFailed j = k.itemFailed j := by
  unfold Cmd.run; split <;> rfl

/-- A core that is not at its reset value reads back as written, whatever the other cores' entries. -/
theorem State.core_setCore_of_ne (s : State) (c : Nat) {x : CoreSt} (h : x ≠ CoreSt.reset) : (s.setCore c x).core c = x := by
  rw [State.core, State.setCore, smSet, if_neg h, smGet_put_self]

section Timetables
variable {s : State} {c : CoreIx} {t : TimetableRun}

/-- The load check of a sound timetable keeps what it read (R47, R48). -/
theorem exec_timetableLoadCheck_of_ok {k : Cmd} {a : Nat} (ht : (s.core c).tt = some t) (hr : t.read = false)
    (hk : s.cmd? t.cmd = some k) (ha : a = s.regN (pSEQ c + Off.SEQ_TT_ADDR)) (ho : s.loadCheck c a k.items = none) :
    exec (.timetableLoadCheck c) s = .next ((s.setCore c { s.core c with
      tt := some { t with bytes := s.rdBytes a (64 + 256 * ttCount (s.rdBytes a 64)), read := true, refused := none } }).ttDecide t.cmd) := by
  subst ha
  simp only [exec_timetableLoadCheck, execTimetableLoadCheck, ht, hr, hk, ho, Option.isNone_none, if_true, Bool.false_eq_true, if_false]

/-- A live first issue adds its sailing, which is not hollow, and shows the item at work. -/
theorem State.firstIssue_eq (hf : s.recFailed t t.pos = false) : ∃ x run, x.sailings = (s.core c).sailings ++ [run]
    ∧ run.recIx = t.pos ∧ run.hollow = false
    ∧ s.firstIssue c t = (s.setCore c x).updCmd t.cmd (·.run (recItem (ttRec t.bytes t.pos))) := by
  simp only [State.firstIssue, hf, Bool.false_and, Bool.false_eq_true, if_false]
  exact ⟨_, _, rfl, rfl, rfl, rfl⟩

theorem State.now_firstIssue (hf : s.recFailed t t.pos = false) : (s.firstIssue c t).now = s.now := by
  obtain ⟨x, run, -, -, -, e⟩ := State.firstIssue_eq (c := c) hf
  rw [e, State.updCmd_now, State.setCore_now]

theorem State.recFailed_setRegN (o v i : Nat) : (s.setRegN o v).recFailed t i = s.recFailed t i := rfl
theorem State.recFailed_setCore (k : Nat) (x : CoreSt) (i : Nat) : (s.setCore k x).recFailed t i = s.recFailed t i := rfl

/-- A first issue fails no item. -/
theorem State.recFailed_firstIssue (hf : s.recFailed t t.pos = false) : (s.firstIssue c t).recFailed t t.pos = false := by
  obtain ⟨x, run, -, -, -, e⟩ := State.firstIssue_eq (c := c) hf
  unfold State.recFailed at hf ⊢
  rw [e, State.cmd?_updCmd _ _ fun k => k.run_id _, show (s.setCore c x).cmd? t.cmd = s.cmd? t.cmd from rfl]
  cases h : s.cmd? t.cmd with
  | none => simp [h] at hf
  | some k => simpa [h] using hf

/-- A record whose item has not failed issues no hollow sailing at its first issue (R58). -/
theorem State.issueHollow_firstIssue (hf : s.recFailed t t.pos = false) (hn : (s.core c).sailings.any (fun x => x.recIx == t.pos) = false) :
    (s.firstIssue c t).issueHollow c t = false := by
  obtain ⟨x, run, hx, hr, hh, e⟩ := State.firstIssue_eq (c := c) hf
  have core : (s.firstIssue c t).core c = x := by
    rw [e, State.updCmd_core, State.core_setCore_of_ne]
    intro h
    rw [h] at hx
    exact absurd hx.symm (List.append_ne_nil_of_right_ne_nil _ (List.cons_ne_nil _ _))
  have old : (s.core c).sailings.any (fun x => x.recIx == t.pos && x.hollow) = false := by
    simp only [List.any_eq_false, beq_iff_eq, Bool.and_eq_true] at hn ⊢
    exact fun y hy h => hn y hy h.1
  simp [State.issueHollow, core, hx, hr, hh, old]

/-- The record in course issues (R49, R50), when it is not hollow (R58). -/
theorem exec_sailingIssue_of_live {u : State} (ht : (s.core c).tt = some t) (hc : t.checked = true) (hp : t.pos < ttCount t.bytes)
    (hn : t.nextTick ≤ s.now) (hl : t.lastTick ≠ some s.now) (hu : u = if t.issues = 0 then s.firstIssue c t else s) (hnow : u.now = s.now)
    (hf : u.recFailed t t.pos = false) (hh : u.issueHollow c t = false)  :
    let last := decide (recRepeat (ttRec t.bytes t.pos) ≤ t.issues + 1)
    let t' := { t with pos := if last then t.pos + 1 else t.pos, issues := if last then 0 else t.issues + 1, lastTick := some s.now }
    exec (.sailingIssue c) s = .next ((((u.setCore c { u.core c with tt := some t' }).setRegN (pSEQ c + Off.SEQ_POS) t.pos).setRegN
      (pSEQ c + Off.SEQ_STATE) ((if ttCount t.bytes ≤ t'.pos then 5 else 3) + recItem (ttRec t.bytes t.pos) * 256)).checkWaits c) := by
  intro last t'
  rw [exec_sailingIssue, execSailingIssue, ht]
  refine congrArg _ ((if_neg (by simp [hc, hp, hn, hl])).trans ?_)
  simp only [← hu, hh, Bool.false_and, Bool.false_eq_true, if_false, State.recFailed_setRegN, State.recFailed_setCore, hf, hnow]
  rfl

end Timetables

/-- Settles O12. -/
theorem timetablesAreReadIssuedAndEnded : Obligations.TimetablesAreReadIssuedAndEnded := by
  refine ⟨fun s => ⟨?run, ?check⟩, ?issue, ?itemEnd⟩
  case run =>
    intro cmd k hk hd hp ho hi
    simp only [exec_runTimetable, execRunTimetable, hk, hd, hp, ho, hi, Bool.false_eq_true, if_false, Bool.not_true]
  case check => exact fun _ _ _ _ ht hr hk ha ho => exec_timetableLoadCheck_of_ok ht hr hk ha ho
  case issue =>
    intro s c t ht hc hp hn hl hf hh
    by_cases h0 : t.issues = 0
    · have u0 : (if t.issues = 0 then s.firstIssue c t else s) = s.firstIssue c t := if_pos h0
      rw [if_pos h0] at hh
      refine exec_sailingIssue_of_live ht hc hp hn hl rfl ?_ ?_ ?_ <;> rw [u0]
      · exact State.now_firstIssue hf
      · exact State.recFailed_firstIssue hf
      · exact State.issueHollow_firstIssue hf hh
    · have u0 : (if t.issues = 0 then s.firstIssue c t else s) = s := if_neg h0
      rw [if_neg h0] at hh
      refine exec_sailingIssue_of_live ht hc hp hn hl rfl ?_ ?_ ?_ <;> rw [u0]
      · exact hf
      · exact hh
  case itemEnd =>
    intro s cmd item k hk ho hb he hi hcs hbusy u
    rw [exec_itemEnd, execItemEnd, hk]
    refine congrArg _ ((if_neg (by simp [ho, hb, he, hi])).trans ((if_neg (by simp only [hcs, hbusy]; decide)).trans ?_))
    cases hu : u.cmd? cmd with
    | none => simp [u, hu]
    | some k' => simp [u, hu]

/-! ### Engine starts (R54, R91, R119) -/

section Engines
variable {s : State} {c : CoreIx} {o : SlotOp} {x : SailingRun} {rest : List SlotOp}

theorem State.startMe_of_clear (ho : (s.core c).meOps = o :: rest) (hx : s.sailing c o.first = some x) (hb : o.begun = false)
    (hw : x.waited = true) (hh : x.hollow = false) (hm : s.maskReady c o = true)
    (hc : s.engineClear c { o.todo with unit := 0 } = true) : s.startMe c = s.meBegin c o := by
  simp only [State.startMe, ho, hx, hb, hw, hh, hm, hc, Option.orElse_some, Bool.not_true, Bool.or_self, Bool.false_eq_true, if_false]

theorem State.startVe_of_clear {u : Nat} (ho : (s.core c).veOps = o :: rest) (hx : s.sailing c o.recIx = some x) (hb : o.begun = false)
    (hw : x.waited = true) (hh : x.hollow = false) (hu : o.unit = u) (hc : s.engineClear c { o.todo with unit := 1 + u } = true)
    (hz : s.veHazard c o = false) : s.startVe c u = s.veBegin c o := by
  subst hu
  simp only [State.startVe, ho, hx, hb, hw, hh, hc, hz, bne_self_eq_false, Bool.not_true, Bool.or_self, Bool.false_eq_true, if_false]

end Engines

/-! ### Flags (R51) -/

/-- Clearing bits of a 64-bit number leaves one. -/
theorem without_lt {a : Nat} (h : a < 2 ^ 64) (b : Nat) : without a b < 2 ^ 64 := Nat.lt_of_le_of_lt Nat.and_le_left h

/-- Both flag registers as they are set, and nothing else but what the core keeps of its flags. -/
theorem State.setFlags_spec {s : State} (w : s.Wf) (c : Nat) {f p : Nat} (hf : f < 2 ^ 64) (hp : p < 2 ^ 64) :
    (s.setFlags c f p).flags c = f ∧ (s.setFlags c f p).flagPoison c = p
      ∧ s.setFlags c f p = { s with regs := (s.setFlags c f p).regs, cores := (s.setFlags c f p).cores }
      ∧ ∀ o, o ≠ pg .seq c + Off.SEQ_FLAGS → o ≠ pg .seq c + Off.SEQ_POISON → (s.setFlags c f p).reg o = s.reg o := by
  have w' := (State.setRegN_kept (Kept.refl s) (pg .seq c + Off.SEQ_FLAGS) f).wf w
  refine ⟨?flags, ?poison, rfl, ?others⟩
  case flags =>
    rw [State.setFlags, State.flags, State.setCore_regN, State.regN_setRegN_ne _ (by simp), State.regN_setRegN_self w,
      Nat.mod_eq_of_lt hf]
  case poison => rw [State.setFlags, State.flagPoison, State.setCore_regN, State.regN_setRegN_self w', Nat.mod_eq_of_lt hp]
  case others =>
    intro o hf hp
    rw [State.setFlags, State.setCore_reg, State.reg_setRegN_ne _ hp, State.reg_setRegN_ne _ hf]

/-- Settles O13: the posts of a sailing that R58 poisons are those of a hollow one (log entry 12). -/
theorem enginesStartSailingsCompleteFlagsPost : Obligations.EnginesStartSailingsCompleteFlagsPost := by
  refine ⟨fun s c => ⟨?me, ?ve, ?hazard, ?complete, ?hollow⟩, fun s c => ⟨?signal, ?set, ?clear⟩⟩
  case me => exact fun o x rest ho hx hb hw hh hm hc => congrArg _ (State.startMe_of_clear ho hx hb hw hh hm hc)
  case ve =>
    rintro o x rest e u ho hx hb hw hh (⟨rfl, rfl⟩ | ⟨rfl, rfl⟩) hu hc hz
    · exact congrArg _ (State.startVe_of_clear ho hx hb hw hh hu hc hz)
    · exact congrArg _ (State.startVe_of_clear ho hx hb hw hh hu hc hz)
  case hazard =>
    intro o x rest ho hx hb hw hh hs hz hc
    rw [exec_veHazardClear, execVeHazardClear, if_pos hs, ho]
    exact congrArg _ ((if_neg (by simp [hz])).trans (State.startVe_of_clear ho hx hb hw hh rfl hc hz))
  case complete =>
    intro x k cyc hx hh hk
    simp only [exec_sailingComplete, execSailingComplete, hx, hh, hk, Bool.false_or, Bool.false_eq_true, if_false]
  case hollow =>
    intro x cyc hx hh
    simp only [exec_sailingComplete, execSailingComplete, hx, hh, Bool.true_or, if_true]
  case signal =>
    intro m hm
    rw [exec_signalArrival, execSignalArrival, hm]
  case set => exact fun v => rfl
  case clear =>
    exact fun v w => ⟨_, rfl, State.setFlags_spec w c (without_lt (s.regN_lt _) _) (without_lt (s.regN_lt _) _)⟩

end Sys2Proof.Machine
end

section
/-!
PROOF. Proofs/Engines.lean: what the operations of the matrix engine and the vector engine do once begun, how they fail and how
they end (chapters 04 to 06).
-/
namespace Sys2Proof.Machine

/-! ### The matrix engine -/

/-- Settles O16: below the range, in it, above it. -/
theorem integerAccumulatorsSaturate : Obligations.IntegerAccumulatorsSaturate := by
  intro v
  refine ⟨fun lo hi => ?fits, fun lo => ?below, fun hi => ?above⟩
  case fits => rw [sat32, if_neg (by omega), if_neg (by omega)]
  case below => rw [sat32, if_pos lo]
  case above => rw [sat32, if_neg (by omega), if_pos hi]

theorem eq_cons_of_head?_eq_some {α : Type} {l : List α} {a : α} (h : l.head? = some a) : ∃ r, l = a :: r :=
  ⟨l.tail, (List.cons_head?_tail h).symm⟩

@[simp] theorem State.poisonIn_setMeOp (s : State) (c : Nat) (o : SlotOp) (k : Nat) (rs : List Span) :
    (s.setMeOp c o).poisonIn k rs = s.poisonIn k rs := rfl

section Matrix
variable {s : State} {c : CoreIx} {o : SlotOp} {want : SlotOp → MeSlot → Bool} {f : State → SlotOp → MeSlot → State}

/-- A running ME operation that its row asks for writes its results (R91). -/
theorem State.meRow_of_runs (h : s.MeRuns c o) (hw : want o (meSlot o.slot) = true) :
    s.meRow c want f = f (s.meAt c o) o (meSlot o.slot) := by
  obtain ⟨first, begun, open_, works, clean⟩ := h
  obtain ⟨rest, hl⟩ := eq_cons_of_head?_eq_some first
  rw [State.meRow, hl]
  refine (if_pos (by simp [begun, open_, works, hw])).trans ?_
  simp only [State.poisonIn_setMeOp, clean, State.meAt]

/-- One that reads a poisoned line makes no result (R220). -/
theorem State.meRow_of_poison {rest : List SlotOp} {a : Nat} (hl : (s.core c).meOps = o :: rest) (begun : o.begun = true)
    (open_ : o.done = false) (works : o.hollow = false) (hw : want o (meSlot o.slot) = true)
    (hp : s.poisonIn c (meSlot o.slot).spans.1 = some a) :
    s.meRow c want f = (s.setMeOp c { o with done := true }).landUE c o a := by
  rw [State.meRow, hl]
  refine (if_pos (by simp [begun, open_, works, hw])).trans ?_
  simp only [State.poisonIn_setMeOp, hp]

end Matrix

/-- Settles O14: each row asks for its opcode and mode, and the operation runs. -/
theorem matrixOperationsWriteTheirResults : Obligations.MatrixOperationsWriteTheirResults := by
  intro s c o h
  dsimp only
  refine ⟨?mma, ?f3, ?mmaD, ?merge, ?mergeFirst, ?mergeD, ?mergeDFirst, ?drain, ?dscan, ?dslice⟩
  case mma => exact fun hop ha => congrArg _ (State.meRow_of_runs h (by simp [hop, ha]))
  case f3 => exact fun hop ha => congrArg _ (State.meRow_of_runs h (by simp [hop, ha]))
  case mmaD => exact fun hop hd => congrArg _ (State.meRow_of_runs h (by simp [hop, hd]))
  case merge =>
    intro hop hd hf
    refine congrArg _ ((State.meRow_of_runs h (by simp [hop, hd, hf])).trans ?_)
    rw [State.mergeRun, if_neg (by simp [hf])]
  case mergeFirst =>
    intro hop hd hf hm
    refine congrArg _ ((State.meRow_of_runs h (by simp [hop, hd, hm])).trans ?_)
    rw [State.mergeRun, if_pos hf]
  case mergeD => exact fun hop hd hf => congrArg _ (State.meRow_of_runs h (by simp [hop, hd, hf]))
  case mergeDFirst => exact fun hop hd _ hm => congrArg _ (State.meRow_of_runs h (by simp [hop, hd, hm]))
  case drain => exact fun hop => congrArg _ (State.meRow_of_runs h (by simp [hop]))
  case dscan => exact fun hop => congrArg _ (State.meRow_of_runs h (by simp [hop]))
  case dslice => exact fun hop => congrArg _ (State.meRow_of_runs h (by simp [hop]))

section Partials
variable {s : State} {c : CoreIx} {o : SlotOp} {p : Nat}

/-- The next partial of a FIRST-COME MERGE that runs is dealt with by its flag's poison and by the mode (R101, R111). -/
theorem exec_meMergePartial_of_runs (first : (s.core c).meOps.head? = some o) (begun : o.begun = true) (open_ : o.done = false)
    (works : o.hollow = false) (hop : (meSlot o.slot).op = 2) (hf : (meSlot o.slot).first = true)
    (hp : (s.core c).nextPartial (meSlot o.slot) = some p) :
    let x := meSlot o.slot
    let u := s.setCore c { s.core c with merged := (s.core c).merged ++ [p] }
    exec (.meMergePartial c) s = .next (
      if bit (s.flagPoison c) (x.flag0 + p) then
        (s.failItem o.cmd o.item Status.ABORTED).setMeOp c { o with done := true, hollow := true }
      else if x.dmode then u
      else match s.poisonIn c [(x.a + 65536 * p * x.nb, 65536 * x.nb)] with
        | some a => (u.landUE c o a).setMeOp c { o with done := true }
        | none => u.mergePart c x p) := by
  obtain ⟨rest, hl⟩ := eq_cons_of_head?_eq_some first
  rw [exec_meMergePartial, execMeMergePartial, hl]
  refine congrArg _ ((if_pos (by simp [begun, open_, works, hop, hf])).trans ?_)
  simp only [hp]
  rfl

end Partials

/-- Settles O15: a poisoned operand, a partial by its flag, and the end of an operation; that FIRST-COME shows the sets as the
run does is log entry 20. -/
theorem engineOperationsFailMergeAndEnd : Obligations.EngineOperationsFailMergeAndEnd := by
  refine ⟨?poison, ?partials, ?ends⟩
  case poison =>
    exact fun s c o rest a hl hb hd hh hop ha hp => congrArg _ (State.meRow_of_poison hl hb hd hh (by simp [hop, ha]) hp)
  case partials =>
    intro s c o p first begun open_ works hop hf hp
    rw [exec_meMergePartial_of_runs first begun open_ works hop hf hp]
    refine ⟨fun clean hd => ?_, fun clean hd hq => ?_, fun poison => ?_⟩
    · rw [if_neg (by simp [clean]), if_pos hd]
    · rw [if_neg (by simp [clean]), if_neg (by simp [hd]), hq]
    · rw [if_pos poison]
  case ends =>
    intro s c o rest hd hh
    refine ⟨fun hl => ?_, fun hl => ?_⟩
    · simp only [exec_meOpComplete, execMeOpComplete, hl, hd, hh, List.tail_cons, if_true, Bool.false_eq_true, if_false]
    · simp only [exec_veOpComplete, execVeOpComplete, hl, hd, hh, List.tail_cons, if_true, Bool.false_eq_true, if_false]

/-! ### The vector engine -/

@[simp] theorem State.poisonIn_setVeOp (s : State) (c : Nat) (o : SlotOp) (k : Nat) (rs : List Span) :
    (s.setVeOp c o).poisonIn k rs = s.poisonIn k rs := rfl

/-- An opcode whose operation counts as having made something where it runs: neither of the window path, which is empty where
its box is, nor GMASK, which binds a mask (R143). -/
def makes (op : Nat) : Bool := !({ veSlot [] with op := op } : VeSlot).window && op != 0x40

section Vector
variable {s : State} {c : CoreIx} {o : SlotOp} {want : VeSlot → Bool} {rs : VeSlot → List Span} {f : State → SlotOp → VeSlot → State}

/-- A running VE operation that its row asks for writes its results (R119). -/
theorem State.veRow_of_runs (h : s.VeRuns c o (rs (veSlot o.slot))) (hw : want (veSlot o.slot) = true)
    (hm : makes (veSlot o.slot).op = true) : s.veRow c want rs f = f (s.veAt c o) o (veSlot o.slot) := by
  obtain ⟨first, begun, open_, works, clean⟩ := h
  obtain ⟨rest, hl⟩ := eq_cons_of_head?_eq_some first
  have hn : ((veSlot o.slot).window || (veSlot o.slot).op == 0x40) = false := by
    simp only [makes, Bool.and_eq_true, Bool.not_eq_true', bne_iff_ne] at hm
    exact (Bool.or_eq_false_iff).mpr ⟨hm.1, beq_false_of_ne hm.2⟩
  rw [State.veRow, hl]
  refine (if_pos (by simp [begun, open_, works, hw])).trans ?_
  simp only [State.poisonIn_setVeOp, clean, hn, State.veAt, Bool.false_eq_true, if_false]

/-- So for a window operation and GMASK, but that they make nothing yet. -/
theorem State.veRow_of_runs_unmade (h : s.VeRuns c o (rs (veSlot o.slot))) (hw : want (veSlot o.slot) = true)
    (hm : makes (veSlot o.slot).op = false) :
    s.veRow c want rs f = f (s.setVeOp c { o with done := true }) o (veSlot o.slot) := by
  obtain ⟨first, begun, open_, works, clean⟩ := h
  obtain ⟨rest, hl⟩ := eq_cons_of_head?_eq_some first
  have hn : ((veSlot o.slot).window || (veSlot o.slot).op == 0x40) = true := by
    rw [makes, Bool.and_eq_false_iff, Bool.not_eq_false', bne_eq_false_iff_eq] at hm
    exact (Bool.or_eq_true_iff).mpr (hm.imp_right beq_iff_eq.mpr)
  rw [State.veRow, hl]
  refine (if_pos (by simp [begun, open_, works, hw])).trans ?_
  simp only [State.poisonIn_setVeOp, clean, hn, if_true]

/-- The rows that ask for an opcode. -/
theorem State.veRow_of_op {op : Nat} (h : s.VeRuns c o (rs (veSlot o.slot))) (hm : makes op = true) (e : (veSlot o.slot).op = op) :
    s.veRow c (fun x => x.op == op) rs f = f (s.veAt c o) o (veSlot o.slot) :=
  State.veRow_of_runs h (beq_iff_eq.mpr e) (e ▸ hm)

theorem State.veRow_of_op_unmade {op : Nat} (h : s.VeRuns c o (rs (veSlot o.slot))) (hm : makes op = false) (e : (veSlot o.slot).op = op) :
    s.veRow c (fun x => x.op == op) rs f = f (s.setVeOp c { o with done := true }) o (veSlot o.slot) :=
  State.veRow_of_runs_unmade h (beq_iff_eq.mpr e) (e ▸ hm)

end Vector

theorem makes_of_window {x : VeSlot} (h : x.window = true) : makes x.op = false := by
  rw [makes, show ({ veSlot [] with op := x.op } : VeSlot).window = true from h]
  rfl

/-- Settles O17: the row of each opcode is `veEach`. -/
theorem elementwiseOperationsWriteEveryElement : Obligations.ElementwiseOperationsWriteEveryElement := by
  intro s c o h
  dsimp only
  refine ⟨?add, ?sub, ?mul, ?fma, ?max2, ?min2, ?scale, ?convert, ?div, ?sqrt, ?exp2, ?exp, ?log2, ?rcp, ?rsqrt, ?act, ?actBwd⟩
  all_goals exact fun hop => congrArg _ (State.veRow_of_op h rfl hop)

/-- The engine reads its landing buffer as before its operation is marked. -/
theorem State.lbRd_veAt (s : State) (c : Nat) (o : SlotOp) (k a n : Nat) : (s.veAt c o).lbRd k a n = s.lbRd k a n := rfl

theorem State.lbRd_setVeOp (s : State) (c : Nat) (o : SlotOp) (k a n : Nat) : (s.setVeOp c o).lbRd k a n = s.lbRd k a n := rfl

theorem State.rngDesc_veAt (s : State) (c : Nat) (o : SlotOp) (k : Nat) (x : VeSlot) : (s.veAt c o).rngDesc k x = s.rngDesc k x := rfl

/-- A backward norm with a sound descriptor writes its results (R166, R167). -/
theorem State.normBwd_of_runs {s : State} {c : CoreIx} {o : SlotOp} {op : Nat} {ln : Bool} (h : s.VeRuns c o (veSlot o.slot).spans.1)
    (hm : makes op = true) (hop : (veSlot o.slot).op = op) (hd : (normDesc (s.lbRd c (veSlot o.slot).aux 64) ln).ok = true) :
    s.normBwd c op ln = (s.veAt c o).normBwdRun c (veSlot o.slot) (normDesc (s.lbRd c (veSlot o.slot).aux 64) ln) ln := by
  rw [State.normBwd, State.veRow_of_op h hm hop]
  simp only [State.lbRd_veAt]
  exact if_neg (by simp [hd])

/-- Settles O18: reductions share `veReduce`, the backward norms `normBwd`, and every other opcode has its own row. -/
theorem rowOperationsWriteTheirResults : Obligations.RowOperationsWriteTheirResults := by
  intro s c o h
  dsimp only
  refine ⟨?rsum, ?rmax, ?rmin, ?rsumsq, ?rargmax, ?rmeanvar, ?softmax, ?layernorm, ?rmsnorm, ?transpose, ?relayout, ?softmaxBwd,
    ?layernormBwd, ?rmsnormBwd, ?gmask⟩
  case layernormBwd => exact fun hop hd => congrArg _ (State.normBwd_of_runs h rfl hop hd)
  case rmsnormBwd => exact fun hop hd => congrArg _ (State.normBwd_of_runs h rfl hop hd)
  case gmask => exact fun hop => congrArg _ (State.veRow_of_op_unmade h rfl hop)
  all_goals exact fun hop => congrArg _ (State.veRow_of_op h rfl hop)

/-! ### Random numbers (R130 to R132, R138) -/

section Random
variable {s : State} {c : CoreIx} {o : SlotOp} {op n cyc : Nat} {f : State → SlotOp → VeSlot → State}

/-- A random operation on a stream below the reserved ones, with a sound probability where it has one, writes its result and
moves the position (R130, R131). -/
theorem State.veRandom_of_runs (h : s.VeRuns c o (veSlot o.slot).spans.1) (hm : makes op = true) (hop : (veSlot o.slot).op = op)
    (hd : (s.rngDesc c (veSlot o.slot)).1 < 0xFF00)
    (hp : ¬(op = 0x20 ∧ ((dec32 (veSlot o.slot).imm).isNaN || (dec32 (veSlot o.slot).imm).lt (.fin false 0 0)
      || !(dec32 (veSlot o.slot).imm).lt oneV) = true)) :
    s.veRandom c op n cyc f = (f (s.veAt c o) o (veSlot o.slot)).rngAfter c n cyc (s.rngDesc c (veSlot o.slot)) (veSlot o.slot) := by
  rw [State.veRandom, State.veRow_of_op h hm hop]
  simp only [State.rngDesc_veAt]
  exact (if_neg (by omega)).trans (if_neg hp)

/-- A reserved stream fails the item, and the position stays (R130). -/
theorem State.veRandom_of_reserved (h : s.VeRuns c o (veSlot o.slot).spans.1) (hm : makes op = true) (hop : (veSlot o.slot).op = op)
    (hd : 0xFF00 ≤ (s.rngDesc c (veSlot o.slot)).1) : s.veRandom c op n cyc f = (s.veAt c o).veErr c 0x01 o := by
  rw [State.veRandom, State.veRow_of_op h hm hop]
  simp only [State.rngDesc_veAt]
  exact if_pos hd

end Random

/-- Settles O19. -/
theorem randomStreamsAdvanceAndRestore : Obligations.RandomStreamsAdvanceAndRestore := by
  refine ⟨?streams, ?reserved, fun s c v => ⟨?seed, ?seedBusy, ?differs, ?same, ?busy⟩⟩
  case streams =>
    intro s c o h
    dsimp only
    intro hd
    refine ⟨fun hop nan neg one => ?_, fun hop => ?_, fun hop => ?_⟩
    · exact congrArg _ (State.veRandom_of_runs h rfl hop hd (by simp [nan, neg, one]))
    · exact congrArg _ (State.veRandom_of_runs h rfl hop hd (by simp))
    · exact congrArg _ (State.veRandom_of_runs h rfl hop hd (by simp))
  case reserved => exact fun s c o h hop hd => congrArg _ (State.veRandom_of_reserved h rfl hop hd)
  case seed => exact fun hi => congrArg _ (if_pos hi)
  case seedBusy => exact fun hi => congrArg _ (if_neg (by simp [hi]))
  case differs => exact fun hi hp => congrArg _ ((if_neg (by simp [hi])).trans (if_neg hp))
  case same => exact fun hi hp => congrArg _ ((if_neg (by simp [hi])).trans (if_pos hp))
  case busy => exact fun hi => congrArg _ (if_pos (by simp [hi]))

/-! ### Window operations (R139 to R155) -/

/-- Some of the ranges are clean where all are. -/
theorem State.poisonIn_of_cons {s : State} {c : Nat} {r : Span} {rs : List Span} (h : s.poisonIn c (r :: rs) = none) :
    s.poisonIn c [r] = none := by
  simp only [State.poisonIn, List.flatMap_cons, List.find?_append, Option.map_eq_none_iff, Option.or_eq_none_iff, List.flatMap_nil,
    List.append_nil] at h ⊢
  exact h.1

/-- A window operation with a sound descriptor, a box in its bound and clean operands writes its rows. -/
theorem State.veWin_of_runs {s : State} {c : CoreIx} {o : SlotOp} {op : Nat} {range : WinDesc → Bool}
    {row : State → VeSlot → WinDesc → Nat → List FVal} {cyc : WinDesc → Nat}
    (h : s.VeRuns c o (winSpans (veSlot o.slot) (winDesc (s.lbRd c (veSlot o.slot).aux 128))).1) (hw : (veSlot o.slot).window = true)
    (hok : winOk (veSlot o.slot) (winDesc (s.lbRd c (veSlot o.slot).aux 128)) = true)
    (hb : (winBound (veSlot o.slot).op (winDesc (s.lbRd c (veSlot o.slot).aux 128))).contains 0 = false)
    (hx : boxOk (winBound (veSlot o.slot).op (winDesc (s.lbRd c (veSlot o.slot).aux 128))) (winDesc (s.lbRd c (veSlot o.slot).aux 128)) = true)
    (hop : (veSlot o.slot).op = op) (hr : range (winDesc (s.lbRd c (veSlot o.slot).aux 128)) = true) :
    s.veWin c op range row cyc = (s.setVeOp c { o with done := true }).winWrite c op o (veSlot o.slot)
      (winDesc (s.lbRd c (veSlot o.slot).aux 128))
      (row (s.setVeOp c { o with done := true }) (veSlot o.slot) (winDesc (s.lbRd c (veSlot o.slot).aux 128)))
      (cyc (winDesc (s.lbRd c (veSlot o.slot).aux 128))) := by
  have r : s.VeRuns c o [((veSlot o.slot).aux, 128)] := { h with clean := State.poisonIn_of_cons h.clean }
  subst hop
  rw [State.veWin, State.veRow_of_op_unmade (rs := fun x => [(x.aux, 128)]) r (makes_of_window hw) rfl]
  simp only [State.lbRd_setVeOp, State.poisonIn_setVeOp, h.clean, hok, hb, hx, hr, Bool.not_true, Bool.or_self, Bool.false_eq_true, if_false]

/-- Settles O20: each opcode's row is `veWin`, with its own bound on the sources where it has one. -/
theorem windowOperationsWriteTheirRows : Obligations.WindowOperationsWriteTheirRows := by
  intro s c o h
  dsimp only
  intro hw hok hb hx
  refine ⟨?wconv, ?maxpool, ?avgpool, ?wconvBwdData, ?wconvBwdWeight, ?maxpoolBwd, ?avgpoolBwd, ?nearest, ?bilinear, ?nearestBwd,
    ?bilinearBwd, ?padFold⟩
  case nearest | bilinear | nearestBwd | bilinearBwd | padFold =>
    exact fun hop hr => congrArg _ (State.veWin_of_runs h hw hok hb hx hop hr)
  all_goals exact fun hop => congrArg _ (State.veWin_of_runs h hw hok hb hx hop rfl)

end Sys2Proof.Machine
end

section
/-!
PROOF. Proofs/Prep.lean: run control of a prep core, its traps, its interrupts and the flags it posts (R133 to R137).
-/
namespace Sys2Proof.Machine

/-! ### Registers of the page -/

@[simp] theorem State.setPrep_regN (s : State) (c : Nat) (x : PrepSt) (k : Nat) : (s.setPrep c x).regN k = s.regN k := rfl

/-- Two registers of a page are apart as their offsets are. -/
theorem page_add_ne {p a b : Nat} (h : a ≠ b) : p + a ≠ p + b := fun e => h (Nat.add_left_cancel e)

/-! ### Traps (R134, R137) -/

/-- Settles O22: three registers of the page and the core's hart are written; that the trap is taken in machine mode at its
vector is `HartSt.trapM` (log entry 65). -/
theorem prepTrapShowsItsCause : Obligations.PrepTrapShowsItsCause := by
  intro s c cause epc tval w
  have w1 := (State.setReg_kept (Kept.refl s) (pPREP c + Off.PREP_MCAUSE) cause).wf w
  have w2 := (State.setReg_kept (Kept.refl _) (pPREP c + Off.PREP_MEPC) epc).wf w1
  have w3 := (State.setReg_kept (Kept.refl _) (pPREP c + Off.PREP_MTVAL) tval).wf w2
  refine ⟨?cause, ?epc, ?tval, ?hart, rfl, ?others⟩
  case cause =>
    refine (State.reg_setReg_ne _ (page_add_ne (by decide)) tval).trans ?_
    exact (State.reg_setReg_ne _ (page_add_ne (by decide)) epc).trans (State.reg_setReg_self w _ _)
  case epc => exact (State.reg_setReg_ne _ (page_add_ne (by decide)) tval).trans (State.reg_setReg_self w1 _ _)
  case tval => exact State.reg_setReg_self w2 _ _
  case hart => rw [State.prepTrap, State.setHart, State.setPrep, State.core_setCore_self w3]; rfl
  case others =>
    intro o hc he ht
    refine (State.reg_setReg_ne _ ht tval).trans ?_
    exact (State.reg_setReg_ne _ he epc).trans (State.reg_setReg_ne s hc cause)

/-! ### Run control, posts, interrupts -/

section Run
variable {s : State} {c : CoreIx}

/-- A reset keeps RUN and the start address of the page (R133). -/
theorem State.regN_prepReset {k : Nat} (h : k ≠ pPREP c + Off.PREP_STAT) :
    ((s.setPrep c PrepSt.reset).setRegN (pPREP c + Off.PREP_STAT) 0).regN k = s.regN k :=
  State.regN_setRegN_ne _ h 0

theorem exec_prepRun_of_stopped (h : s.prepState c = 0 ∨ s.prepState c = 2) :
    exec (.prepRun c) s = .next (((s.setField (pPREP c + Off.PREP_CTRL) 0 0 1).setRegN (pPREP c + Off.PREP_STAT) 1).setHart c
      { (s.core c).prep.hart with pc := s.regN (pPREP c + Off.PREP_RESET_VEC) }) := by
  rw [exec_prepRun, execPrepRun, if_pos h]
  refine congrArg Host.Outcome.next (congrArg (State.setHart _ c) ?_)
  rw [State.setField, State.regN_setRegN_ne _ (page_add_ne (by decide))]
  rfl

theorem exec_prepReset_of_run (h : bit (s.regN (pPREP c + Off.PREP_CTRL)) 0 = true) :
    exec (.prepReset c) s = .next ((((s.setPrep c PrepSt.reset).setRegN (pPREP c + Off.PREP_STAT) 0).setPrepState c 1).setHart c
      { HartSt.reset with pc := s.regN (pPREP c + Off.PREP_RESET_VEC) }) := by
  rw [exec_prepReset, execPrepReset, State.regN_prepReset (page_add_ne (by decide)), if_pos h,
    State.regN_prepReset (page_add_ne (by decide))]

/-- A post is late for the sailings that wait for one of its flags in their tick or after it (R136). -/
theorem exec_ptflagset_of_up (v : DWord) (h : s.prepUp c = true) :
    exec (.ptflagset c v) s = .next ((if (s.core c).sailings.any (fun x => !x.waited && decide (x.tick ≤ s.now)
        && (recWait x.bytes &&& (v.toNat % 2 ^ 32)) != 0) then s.bump (pPREP c) Off.PREP_LATE_POST 1 else s).handFlags c
      (v.toNat % 2 ^ 32)) := by
  rw [exec_ptflagset, execPtflagset, if_neg (by simp [h])]

end Run

/-- Settles O21: that a reset with RUN set starts the core again is log entry 32; causes and double traps are as log entry 65
has them. -/
theorem prepCoresRunPostAndTrap : Obligations.PrepCoresRunPostAndTrap := by
  refine ⟨fun s c => ⟨?run, ?halt, ?reset, ?restart⟩,
    fun s c => ⟨?post, ?late, ?halted, ?timer, ?timerSet, ?bus, ?double, ?unit⟩⟩
  case run => exact exec_prepRun_of_stopped
  case halt => exact fun h => congrArg _ (if_pos h)
  case reset =>
    intro h
    rw [exec_prepReset, execPrepReset, State.regN_prepReset (page_add_ne (by decide)), if_neg (by simp [h])]
  case restart => exact exec_prepReset_of_run
  case post =>
    intro v hu hs
    rw [exec_ptflagset_of_up v hu, hs, if_neg (by simp)]
  case late =>
    intro v x rest hu hs hw ht hm
    rw [exec_ptflagset_of_up v hu, hs, if_pos]
    simp only [List.any_cons, hw, ht, bne_iff_ne.mpr hm, decide_true, Bool.not_false, Bool.and_self, Bool.true_or]
  case halted => exact fun v h => congrArg _ (if_pos (by simp [h]))
  case timer => exact fun cmp h => congrArg _ (if_pos h)
  case timerSet => exact fun cmp h => congrArg _ (if_neg (Nat.not_le.mpr h))
  case bus =>
    rintro cause epc addr hu (rfl | rfl | rfl) hr <;> exact congrArg _ (if_pos (by simp [hu, hr]))
  case double => exact fun cause epc tval hu => congrArg _ (if_pos hu)
  case unit => exact fun u hb => congrArg _ (if_pos (by simp [hb]))

end Sys2Proof.Machine
end

section
/-!
PROOF. Proofs/FerryWindow.lean: a window gather of a ferry checks its output box as a halo does, which the statement on ferries
leaves out.
-/
namespace Sys2Proof.Machine

/-- A GATHER descriptor of one element in, one tap and one element out (R141), whose output box asks for two outputs along its
first dimension. -/
def wideGather : Bytes :=
  [1, 1, 3, 0, 1, 0, 1, 0, 1, 0, 0, 0, 1, 0, 1, 0, 1, 0, 1, 0] ++ rep 4 0 ++ natLE 4 256 ++ rep 12 0 ++ [1, 0, 1, 0, 1, 0, 0, 0]
    ++ rep 9 1 ++ rep 7 0 ++ rep 3 0 ++ [1, 1, 1] ++ rep 10 0 ++ [2, 0, 1, 0, 1, 0] ++ rep 42 0

/-- A begun WINDOW operation of a ferry whose descriptor stands at the start of the landing buffer. -/
def gatherOp : SlotOp :=
  { cmd := 0, item := 0, recIx := 0, first := 0, tick := 0, unit := 0, slot := 2 :: rep 23 0, hollow := false, begun := true, done := false,
    step := 0, moved := 0, refetch := none, retried := [], issued := false, rgen := [], live := [], jobs := [], ring := 0, link := false,
    voided := false, signalled := false }

/-- Ferry 0 of core 0 with that operation and that descriptor. -/
def wideGathering : State :=
  { State.reset with
    cores := [(0, { CoreSt.reset with ferries := [[gatherOp], [], [], []] })]
    mem := ((upTo (lbBase 0) 128).zip wideGather).filter (fun e => e.2 ≠ 0) }

/-- Records in the log of a next state. -/
def loggedBy (o : Host.Outcome State Fault Refusal) : Nat :=
  match o with
  | .next t => t.ras.log.length
  | _ => 0

theorem wideGathering_lbRd : wideGathering.lbRd 0 0 128 = wideGather := by decide +kernel

/-- The gather is refused as FERRY_WIN_BOX, and logged (R143). -/
theorem loggedBy_exec_wideGathering : loggedBy (exec (.ferryGather 0 0) wideGathering) = 1 := by decide +kernel

/-- The rows that the statement would have it land are landed without a record. -/
theorem loggedBy_winLand_wideGathering : loggedBy (.next (wideGathering.winLand 0 0 gatherOp (winDesc wideGather)
    ((upTo (winDesc wideGather).mBase (winDesc wideGather).mCount).map (winDesc wideGather).gatherRow))) = 0 := by decide +kernel

/-- Refutes O23: the statement asks for an output box within its bound of HALO alone; a GATHER whose descriptor is correct but
for its box fails its item with the box error and lands nothing. -/
theorem not_ferriesMoveTheirRows : ¬Obligations.FerriesMoveTheirRows := by
  intro h
  have desc : wideGathering.lbRd ((0 : CoreIx) : Nat) (fSlot gatherOp.slot).lb 128 = wideGather := wideGathering_lbRd
  obtain ⟨-, -, gather, -⟩ := h wideGathering 0 0 gatherOp (fSlot gatherOp.slot)
  rw [desc] at gather
  have lands := gather rfl ⟨rfl, by decide +kernel, by decide +kernel⟩ (by decide +kernel)
  have logged : 1 = 0 := loggedBy_exec_wideGathering.symm.trans ((congrArg loggedBy lands).trans loggedBy_winLand_wideGathering)
  exact absurd logged (by decide)

end Sys2Proof.Machine
end

section
/-!
PROOF. Proofs/FerryQueue.lean: entries of a ferry's queue enter, start and leave, its rings, and the fills of a pontoon
(R226 to R236).
-/
namespace Sys2Proof.Machine

section
variable {s : State} {c : CoreIx} {f : FerryIx} {o : SlotOp}

/-- The slot whose tick has come enters the queue (R227). -/
theorem exec_ferryEnqueue_of_room {t : TimetableRun} {w i u : Nat} (ht : (s.core c).tt = some t)
    (hw : (sortSlots (t.waiting f)).head? = some (w, i, u)) (hc : t.checked = true) (hn : w ≤ s.now)
    (hr : u = 4 → fld (recUnit (ttRec t.bytes i) u) 0 1 ≠ 0x02) (hf : s.recFailed t i = false)
    (room : ((s.fq c f).filter (·.ring == 0)).length < 16) :
    exec (.ferryEnqueue c f) s = .next (((s.noteEnq c i u).useSlots (coreDie c) (s.liveSlots (coreDie c)) true).setFq c f
      ((s.noteEnq c i u).fq c f ++ [s.mkOp c t i u false])) := by
  have due : (!t.checked || decide (s.now < w)) = false := by simp [hc, hn]
  simp only [exec_ferryEnqueue, execFerryEnqueue, ht, hw, due, hf, Bool.false_eq_true, if_false]
  refine congrArg Host.Outcome.next ((if_neg (by simpa using room)).trans ((if_neg ?_).trans rfl))
  exact fun h => hr h.1 h.2.1

theorem exec_ferryOpStart_of_clear (ho : nextStart (s.fq c f) = some o) (hf : s.opFailed o = false) (hh : o.hollow = false)
    (hw : s.waitMet c o.unit o.slot = true) (hc : s.ferryClear c o.todo = true) :
    exec (.ferryOpStart c f) s = .next (s.putOp c f { o with begun := true }) := by
  simp only [exec_ferryOpStart, execFerryOpStart, ho, hf, hh, hw, hc, Bool.not_true, Bool.false_and, Bool.and_false, Bool.or_self,
    Bool.false_eq_true, if_false]

/-- An operation of the queue itself leaves, gives its table slots back and posts its signals (R45, R51). -/
theorem State.opLeaves_of_unsignalled {rest : List SlotOp} (hq : s.fq c f = o :: rest) (hr : o.ring = 0) (hs : o.signalled = false) :
    s.opLeaves c f o = (((s.setFq c f rest).bump (pFERRY c f) Off.FERRY_OP_CNT 1).useSlots (coreDie c) o.live false).postSlot c o.slot
      (s.opFailed o || o.voided) := by
  simp only [State.opLeaves, hq, hr, hs, List.tail_cons, if_true, Bool.false_eq_true, if_false]

theorem exec_ferryOpComplete_of_done {rest : List SlotOp} (hq : s.fq c f = o :: rest) (hd : o.done = true) (hu : o.unit ≠ 4)
    (hr : o.ring = 0) (hs : o.signalled = false) : exec (.ferryOpComplete c f) s =
      .next ((((s.setFq c f rest).bump (pFERRY c f) Off.FERRY_OP_CNT 1).useSlots (coreDie c) o.live false).postSlot c o.slot
        (s.opFailed o || o.voided)) := by
  have plain : (if o.unit = 4 ∧ fld o.slot 0 1 = 0x01 ∧ o.issued = true ∧ s.sendAcked c o = true then { o with done := true } else o) = o :=
    if_neg fun h => hu h.1
  rw [exec_ferryOpComplete, execFerryOpComplete, hq]
  refine congrArg _ ?_
  dsimp only
  rw [plain, hd, State.opLeaves_of_unsignalled hq hr hs]
  simp only [Bool.not_true, Bool.false_eq_true, if_false]
  split
  · exact if_neg fun h => h.1 hr
  · rfl

end

/-- Settles O24. -/
theorem ferryQueueEntersStartsAndLeaves : Obligations.FerryQueueEntersStartsAndLeaves := by
  intro s c f o
  dsimp only
  refine ⟨?enters, ?starts, ?leaves, ?qrun, ?size, ?base, ?busy, ?tail, ?fill⟩
  case enters => exact fun t w i u => exec_ferryEnqueue_of_room
  case starts => exact exec_ferryOpStart_of_clear
  case leaves => exact fun rest => exec_ferryOpComplete_of_done
  case qrun =>
    intro x hx ne hp
    refine ⟨fun hb => ?_, fun hb hw hc => ?_⟩ <;>
      simp only [exec_ferryQrun, execFerryQrun, hx, ne, hp, hb, if_false, Bool.not_true, Bool.not_false, Bool.false_eq_true]
    · rfl
    · simp only [hw, hc, Bool.and_self, if_true]
  case size =>
    intro v hi h16 hmax hpow
    have ok : (s.seqIdle c && (!true || decide (16 ≤ v.toNat ∧ v.toNat ≤ 4096 ∧ 2 ^ Nat.log2 v.toNat = v.toNat))) = true := by
      simp [hi, h16, hmax, hpow]
    exact congrArg _ (if_pos ok)
  case base =>
    intro v hi
    exact congrArg _ (if_pos (by simp [hi]))
  case busy =>
    intro b v hi
    exact congrArg _ (if_neg (by simp [hi]))
  case tail =>
    refine fun v => ⟨fun hq hold => ?_, fun hq => congrArg _ (if_pos hq)⟩
    refine congrArg _ ((if_neg (Nat.not_lt.mpr hq)).trans ?_)
    simp only [hold, Bool.false_eq_true, if_false]
  case fill =>
    intro k rest a n v hready hk
    simp only [exec_pontFill, execPontFill, hk, hready, Bool.not_true, Bool.false_eq_true, if_false] <;> rfl

end Sys2Proof.Machine
end

section
/-!
PROOF. Proofs/Slipway.lean: the segments of the slipway, its pushes and pops, and what a pushed tile changes (R170 to R179).
-/
namespace Sys2Proof.Machine

/-! ### What an access of an agent that holds no lines changes (R228, R261) -/

/-- Copies, directory and slices may differ, and registers from the HOME pages on: the pages of homes and die caches. -/
structure State.CachesOnly (s t : State) : Prop where
  rest : ∃ r x, t = { s with regs := r, coh := x }
  low : ∀ o, o < pHOME 0 → t.reg o = s.reg o

namespace State.CachesOnly
variable {s t u : State}

theorem refl (s : State) : s.CachesOnly s := ⟨⟨_, _, rfl⟩, fun _ _ => rfl⟩

theorem trans (h : s.CachesOnly t) (k : t.CachesOnly u) : s.CachesOnly u := by
  obtain ⟨⟨r, x, rfl⟩, low⟩ := h
  obtain ⟨⟨r', x', rfl⟩, low'⟩ := k
  exact ⟨⟨_, _, rfl⟩, fun o ho => (low' o ho).trans (low o ho)⟩

theorem setCoh (h : s.CachesOnly t) (x : CohSt) : s.CachesOnly (t.setCoh x) := h.trans ⟨⟨_, _, rfl⟩, fun _ _ => rfl⟩

theorem setRegN (h : s.CachesOnly t) {o : Nat} (ho : pHOME 0 ≤ o) (v : Nat) : s.CachesOnly (t.setRegN o v) :=
  h.trans ⟨⟨_, _, rfl⟩, fun _ hk => State.reg_setRegN_ne t (Nat.ne_of_lt (Nat.lt_of_lt_of_le hk ho)) v⟩

theorem bumpW (h : s.CachesOnly t) {page : Nat} (hp : pHOME 0 ≤ page) (w off n : Nat) : s.CachesOnly (t.bumpW w page off n) := by
  unfold State.bumpW
  split
  · exact h
  · exact h.setRegN (Nat.le_trans hp (Nat.le_add_right _ _)) _

theorem foldl {α : Type} {f : State → α → State} (hf : ∀ (s : State) x, s.CachesOnly (f s x)) (l : List α) (s : State) : s.CachesOnly (l.foldl f s) :=
  List.foldlRecOn (motive := s.CachesOnly) l f (refl s) fun t ht x _ => ht.trans (hf t x)

end State.CachesOnly

theorem pHOME_zero_le (h : Nat) : pHOME 0 ≤ pHOME h := Nat.le_add_right _ _

theorem pHOME_zero_le_pDCACHE (t : Nat) : pHOME 0 ≤ pDCACHE t := Nat.le_trans (by decide) (Nat.le_add_right (pDCACHE 0) _)

theorem State.showDir_cachesOnly (s : State) (h : Nat) : s.CachesOnly (s.showDir h) :=
  (CachesOnly.refl s).setRegN (Nat.le_trans (pHOME_zero_le h) (Nat.le_add_right _ _)) _

theorem State.dirSet_cachesOnly (s : State) (line : Nat) (owned : Bool) (sh : List Nat) : s.CachesOnly (s.dirSet line owned sh) :=
  ((CachesOnly.refl s).setCoh _).trans (State.showDir_cachesOnly _ _)

theorem State.dirFree_cachesOnly (s : State) (line : Nat) : s.CachesOnly (s.dirFree line) :=
  ((CachesOnly.refl s).setCoh _).trans (State.showDir_cachesOnly _ _)

theorem State.dirDrop_cachesOnly (s : State) (line p : Nat) : s.CachesOnly (s.dirDrop line p) := by
  unfold State.dirDrop
  split
  · exact CachesOnly.refl s
  · dsimp only
    split
    · exact s.dirFree_cachesOnly line
    · exact s.dirSet_cachesOnly line _ _

/-- A snoop counts, and changes the copy and the directory. -/
theorem State.snoopNow_cachesOnly (s : State) (k : SnoopKind) (line p : Nat) : s.CachesOnly (s.snoopNow k line p) := by
  have counted := (CachesOnly.refl s).bumpW (pHOME_zero_le (homeOf (64 * line))) 64 Off.HOME_SNOOP_CNT 1
  have held : (s.bump64 (linePage line) Off.HOME_SNOOP_CNT 1).CachesOnly _ :=
    ((CachesOnly.refl _).bumpW (pHOME_zero_le (homeOf (64 * line))) 64 Off.HOME_SNOOP_CNT 1).bumpW
      (pHOME_zero_le (homeOf (64 * line))) 32 Off.HOME_HOLD_CNT 1
  unfold State.snoopNow
  dsimp only
  split
  · exact counted.trans (State.dirDrop_cachesOnly _ _ _)
  · next c _ =>
    generalize hu : (if c.held = true then _ else _ : State) = u
    have hold : s.CachesOnly u := by
      subst hu
      split
      · split
        · exact (counted.trans held).bumpW (pHOME_zero_le_pDCACHE _) 32 _ _
        · exact counted.trans held
      · exact counted
    split
    · exact (hold.setCoh _).trans (State.dirSet_cachesOnly _ _ _ _)
    · exact (hold.setCoh _).trans (State.dirDrop_cachesOnly _ _ _)

theorem State.serveNow_cachesOnly (s : State) (k : SnoopKind) (line : Nat) : s.CachesOnly (s.serveNow k line) := by
  unfold State.serveNow
  split
  · exact CachesOnly.refl s
  · exact CachesOnly.foldl (fun s p => s.snoopNow_cachesOnly k line p) _ s

theorem State.viaHomes_cachesOnly (s : State) (k : SnoopKind) (write : Bool) (ls : List Nat) : s.CachesOnly (s.viaHomes k write ls) := by
  have counts (s : State) (p : Nat) : s.CachesOnly (s.bump64 (linePage (64 * p)) Off.HOME_REQ_CNT 1) :=
    (CachesOnly.refl s).bumpW (pHOME_zero_le _) 64 _ 1
  have served (pages lines : List Nat) : s.CachesOnly (lines.foldl (fun s l => s.serveNow k l)
      (pages.foldl (fun s p => s.bump64 (linePage (64 * p)) Off.HOME_REQ_CNT 1) s)) :=
    (CachesOnly.foldl counts pages s).trans (CachesOnly.foldl (fun s l => s.serveNow_cachesOnly k l) lines _)
  unfold State.viaHomes
  dsimp only
  split
  · exact (served _ _).setCoh _
  · exact served _ _

theorem State.ferryAccess_cachesOnly (s : State) (t : Nat) (write : Bool) (rs : List (Nat × Nat)) :
    s.CachesOnly (s.ferryAccess t write rs) := by
  unfold State.ferryAccess
  dsimp only
  generalize hu : (if ((s.cohLines rs).filter (s.coh.owns t)).isEmpty = true then s else _) = u
  have hit : s.CachesOnly u := by
    subst hu
    split
    · exact CachesOnly.refl s
    · exact (CachesOnly.refl s).bumpW (pHOME_zero_le_pDCACHE t) 64 _ _
  refine CachesOnly.trans ?_ (State.viaHomes_cachesOnly _ _ _ _)
  split
  · exact hit.setCoh _
  · exact hit

/-- The address map rests on registers below the HOME pages. -/
theorem State.CachesOnly.mapSame {s t : State} (h : s.CachesOnly t) : MapSame s t :=
  ⟨congrArg BitVec.toNat (h.low _ (by decide)), congrArg BitVec.toNat (h.low _ (by decide)), congrArg BitVec.toNat (h.low _ (by decide))⟩

theorem State.CachesOnly.mem {s t : State} (h : s.CachesOnly t) : t.mem = s.mem := by
  obtain ⟨⟨r, x, rfl⟩, -⟩ := h; rfl

theorem State.CachesOnly.berths {s t : State} (h : s.CachesOnly t) : t.berths = s.berths := by
  obtain ⟨⟨r, x, rfl⟩, -⟩ := h; rfl

/-! ### Pushes and pops -/

/-- Settles O25. -/
theorem slipwayPushesAndPops : Obligations.SlipwayPushesAndPops := by
  intro s c f b o x
  refine ⟨?enable, ?unsound, ?disable, ?busy, ?push, ?pushOff, ?pop, ?reread⟩
  case enable =>
    intro hon hok
    exact congrArg _ ((if_neg (by simp [hon])).trans (if_pos hok))
  case unsound =>
    intro hon hok
    exact congrArg _ ((if_neg (by simp [hon])).trans (if_neg (by simp [hok])))
  case disable =>
    intro hon hi
    refine congrArg _ ((if_neg (by simp [hon])).trans ((if_neg (by simp [hi])).trans ?_))
    cases hb : (s.berth c b).isEmpty <;> rfl
  case busy =>
    intro hon hi
    exact congrArg _ ((if_neg (by simp [hon])).trans (if_pos (by simp [hi])))
  case push =>
    intro ho hc hon hx
    simp only [exec_slipPush, execSlipPush, ho, hc, hon, hx, decide_false, Bool.and_false, Bool.false_and, Bool.not_true,
      Bool.false_eq_true, if_false]
  case pushOff =>
    intro ho hc hon
    simp only [exec_slipPush, execSlipPush, ho, hc, hon, Bool.not_true, Bool.not_false, Bool.false_eq_true, if_false, if_true]
  case pop =>
    intro ho hc hon
    simp only [exec_slipPop, execSlipPop, ho, hc, hon, Bool.not_true, Bool.false_eq_true, if_false]
  case reread =>
    intro a hr
    simp only [exec_slipTrailerReread, execSlipTrailerReread, hr]

/-! ### A pushed tile -/

section Pushed
variable {s : State} {c b : Nat}

theorem State.setBerth_regs_ne (s : State) (l : List BerthEntry) {r : Nat} (hs : r ≠ slipAt c b Off.SLIP_BSTAT)
    (hi : r ≠ slipAt c b Off.SLIP_TOP_ID) : (s.setBerth c b l).reg r = s.reg r :=
  (State.reg_setRegN_ne _ hi _).trans (State.reg_setRegN_ne _ hs _)

theorem State.setBerth_mem (s : State) (l : List BerthEntry) : (s.setBerth c b l).mem = s.mem := rfl

theorem State.berth_setBerth (s : State) {l : List BerthEntry} (h : l ≠ []) : (s.setBerth c b l).berth c b = l := by
  show smGet (fun _ => []) (smSet (fun _ => []) s.berths (32 * c + b) l) (32 * c + b) = l
  rw [smSet, if_neg h, smGet_put_self]

/-- The registers of the slipway lie beyond those that the address map rests on. -/
theorem ne_slipAt {o : Nat} (ho : o < pSLIP 0) (off : Nat) : o ≠ slipAt c b off := by
  have : pSLIP 0 ≤ pSLIP c := Nat.le_add_right _ _
  rw [slipAt]
  omega

theorem MapSame.setRegN_slipAt (s : State) (c b off v : Nat) : MapSame s (s.setRegN (slipAt c b off) v) :=
  MapSame.setReg s _ (ne_slipAt (by decide) _) (ne_slipAt (by decide) _) (ne_slipAt (by decide) _)

theorem MapSame.setBerth (s : State) (l : List BerthEntry) : MapSame s (s.setBerth c b l) := by
  have same {o : Nat} (ho : o < pSLIP 0) : (s.setBerth c b l).regN o = s.regN o :=
    congrArg BitVec.toNat (State.setBerth_regs_ne s l (ne_slipAt ho _) (ne_slipAt ho _))
  exact ⟨same (by decide), same (by decide), same (by decide)⟩

/-- A tile in the home segment: the die cache and the homes, its bytes, the top, and the berth. -/
theorem State.place_home {a : Nat} {bytes : Bytes} {e : BerthEntry} (h : e.spill = false) :
    s.place c b a bytes e =
      let u := (((s.ferryAccess (coreDie c) true [(a, bytes.length)]).wrBytes a bytes).setRegN (slipAt c b Off.SLIP_HTOP) (a + bytes.length))
      u.setBerth c b (e :: u.berth c b) := by
  simp only [State.place, h, Bool.false_eq_true, if_false]

end Pushed

/-- Settles O26. -/
theorem pushedTileLiesAtTheTop : Obligations.PushedTileLiesAtTheTop := by
  intro s c b bytes e w he htop hfit
  rw [State.place_home he]
  generalize hu : s.ferryAccess (coreDie c) true [(s.sHtop c b, bytes.length)] = u
  have access : s.CachesOnly u := hu ▸ s.ferryAccess_cachesOnly _ _ _
  dsimp only
  refine ⟨if_pos ⟨htop, hfit⟩, ?top, ?berth, ?registers, ?bytes⟩
  case top =>
    have small : s.sHtop c b + bytes.length < 2 ^ 64 := Nat.lt_of_le_of_lt hfit (State.regN_lt s _)
    have wu : (u.wrBytes (s.sHtop c b) bytes).Wf :=
      (State.wrBytes_kept (hu ▸ State.ferryAccess_kept (Kept.refl s) _ _ _) _ _).wf w
    refine (congrArg BitVec.toNat (State.setBerth_regs_ne _ _ ?_ ?_)).trans ((State.regN_setRegN_self wu _ _).trans (Nat.mod_eq_of_lt small))
    · simp [slipAt, Off.SLIP_HTOP, Off.SLIP_BSTAT]
    · simp [slipAt, Off.SLIP_HTOP, Off.SLIP_TOP_ID]
  case berth =>
    rw [State.berth_setBerth _ (List.cons_ne_nil _ _)]
    obtain ⟨q, hq⟩ := State.wrBytes_eq u (s.sHtop c b) bytes
    simp only [hq, State.berth, State.setRegN, State.setReg, access.berths]
  case registers =>
    intro r hh hs hi
    rw [State.setBerth_regs_ne _ _ hs hi, State.reg_setRegN_ne _ hh, State.reg, State.wrBytes_regs, State.reg]
  case bytes =>
    intro a ha
    have clear : ∀ j, j < bytes.length → u.loc a ≠ u.loc (s.sHtop c b + j) := fun j hj => by
      rw [access.mapSame.loc, access.mapSame.loc]
      exact ha j hj
    refine ((MapSame.setBerth _ _).rd8 (State.setBerth_mem _ _) a).trans (((MapSame.setRegN_slipAt _ _ _ _ _).rd8 rfl a).trans ?_)
    exact (State.rd8_wrBytes_ne clear).trans (access.mapSame.rd8 access.mem a)

end Sys2Proof.Machine
end

section
/-!
PROOF. Proofs/Coded.lean: coded blocks and tags on a load: what a check reads, and what it comes to (R243, R244, R253).
-/
namespace Sys2Proof.Machine

theorem lt_add_of_mem_upTo : ∀ {n a k : Nat}, k ∈ upTo a n → k < a + n
  | n + 1, a, k, h => by
    rw [upTo, List.mem_cons] at h
    rcases h with rfl | h
    · omega
    · have := lt_add_of_mem_upTo h
      omega

theorem bits_lt (v hi lo : Nat) : bits v hi lo < 2 ^ (hi + 1 - lo) := Nat.mod_lt _ (Nat.two_pow_pos _)

theorem coreDie_lt (c : CoreIx) : coreDie c < 4 := by
  have := c.isLt
  unfold coreDie
  omega

/-! ### What the check of a block reads -/

/-- Of the decode tables a block is checked against the one that its header names alone. -/
theorem expandBlock_congr {tab tab' : Nat → Nat → Option Bytes} {bs : Bytes}
    (h : tab (blkHdr bs).slot (blkHdr bs).gen = tab' (blkHdr bs).slot (blkHdr bs).gen) (want : Nat) :
    expandBlock tab want bs = expandBlock tab' want bs := by
  simp only [expandBlock, h]

section
variable {s t : State} {c : Nat}

theorem State.rdBytes_congr (h : ∀ a, t.rd8 a = s.rd8 a) (a n : Nat) : t.rdBytes a n = s.rdBytes a n :=
  List.map_congr_left fun k _ => h k

theorem State.decTab_congr {d q : Nat} (hr : t.regN (ctabSlot d q) = s.regN (ctabSlot d q)) (ht : t.tables = s.tables) (g : Nat) :
    t.decTab d q g = s.decTab d q g := by
  unfold State.decTab State.tabState State.field State.tabImage
  rw [hr, ht]

theorem State.expandJob_congr (h8 : ∀ a, t.rd8 a = s.rd8 a) (ht : t.tables = s.tables)
    (hr : ∀ q, q < 8 → t.regN (ctabSlot (coreDie c) q) = s.regN (ctabSlot (coreDie c) q)) (j : ExpJob) :
    t.expandJob c j = s.expandJob c j := by
  have bytes : t.jobBytes j = s.jobBytes j := State.rdBytes_congr h8 _ _
  rw [State.expandJob, bytes]
  exact expandBlock_congr (State.decTab_congr (hr _ (bits_lt _ 10 8)) ht _) _

end

/-- A counter of the expander is no part of what a check reads. -/
theorem State.expandJob_bump (s : State) (c : CoreIx) (g : TideEv → TideEv) (j : ExpJob) :
    ((s.bump (pEXP c) Off.EXP_REFETCH_CNT 1).ev g).expandJob c j = s.expandJob c j := by
  have far {o : Nat} (ho : o < pEXP 0) : o ≠ pEXP c + Off.EXP_REFETCH_CNT := by
    have : pEXP 0 ≤ pEXP c := Nat.le_add_right _ _
    omega
  have slot (q : Nat) (hq : q < 8) : ctabSlot (coreDie c) q < pEXP 0 := by
    have slots : ∀ d < 4, ∀ q < 8, ctabSlot d q < pEXP 0 := by decide
    exact slots _ (coreDie_lt c) q hq
  unfold State.bump State.bumpW
  split
  · rfl
  · exact State.expandJob_congr (fun a => (MapSame.setReg s _ (far (by decide)) (far (by decide)) (far (by decide))).rd8 rfl a) rfl
      (fun q hq => State.regN_setRegN_ne s (far (slot q hq)) _) j

/-! ### What a region is found by -/

theorem State.regionOf_congr {s t : State} (h : ∀ r, r < 64 → ∀ off, off = Off.TAGR_RCTRL ∨ off = Off.TAGR_BASE ∨ off = Off.TAGR_SIZE →
    t.regN (tagrAt r off) = s.regN (tagrAt r off)) (a : Nat) : t.regionOf a = s.regionOf a := by
  have on : t.regions = s.regions := List.filter_congr fun r hr => by
    rw [State.rOn, h r (by simpa using lt_add_of_mem_upTo hr) _ (.inl rfl), State.rOn]
  have bounds : ∀ r ∈ s.regions, t.rBase r = s.rBase r ∧ t.rSize r = s.rSize r := fun r hr => by
    have hr64 : r < 64 := by simpa using lt_add_of_mem_upTo (List.mem_of_mem_filter hr)
    exact ⟨h r hr64 _ (.inr (.inl rfl)), h r hr64 _ (.inr (.inr rfl))⟩
  rw [State.regionOf, on, State.regionOf]
  refine List.find?_congr fun r hr => ?_
  rw [(bounds r hr).1, (bounds r hr).2]

/-- A clean copy that a die cache drops is no register's matter. -/
theorem State.dropClean_regs (s : State) (t : DieIx) (rs : List (Nat × Nat)) : (s.dropClean t rs).regs = s.regs := by
  refine State.foldl_same State.regs (fun u l => ?_) _ s
  unfold State.evictLine
  cases u.coh.copy (32 + t) l with
  | none => rfl
  | some k => cases hk : k.st <;> simp [hk, State.setCoh]

theorem State.dropClean_fold_regN (dies : List DieIx) (rs : List (Nat × Nat)) (s : State) (o : Nat) :
    (dies.foldl (fun (s : State) t => s.dropClean t rs) s).regN o = s.regN o :=
  State.regN_of_regs (State.foldl_same State.regs (fun u t => u.dropClean_regs t rs) dies s) o

/-- Fetching a tag once more counts, logs and drops clean copies: no region's descriptor is written. -/
theorem State.regionOf_refetchTag (s : State) (dies : List DieIx) (src g n a : Nat) :
    (s.refetchTag dies src g n).regionOf a = s.regionOf a := by
  refine State.regionOf_congr (fun r hr off hoff => ?_) a
  have own : pTAGR + 0x100 ≤ tagrAt r off ∧ tagrAt r off < pTAGR + 0x1000 := by
    simp only [tagrAt, Off.TAGR_RCTRL, Off.TAGR_BASE, Off.TAGR_SIZE] at hoff ⊢
    omega
  generalize tagrAt r off = o at own
  have page : pTAGR = 0x450000 := rfl
  have unlogged : o ∉ errRegs pTAGR ++ logRegs := by
    simp only [errRegs, logRegs, Off.PG_ERR_CNT, Off.PG_ERR_FIRST, Off.PG_ERR_TICK, Off.PG_IRQ_STAT, show pRAS = 0xA000 from rfl,
      Off.RAS_LOG_HEAD, Off.RAS_DROP_CNT, List.mem_append, List.mem_cons, List.not_mem_nil, or_false]
    omega
  have counted : (s.bump pTAGR Off.TAGR_REFETCH_CNT 1).regN o = s.regN o :=
    ((State.OnlyRegs.refl s [pTAGR + Off.TAGR_REFETCH_CNT]).bump List.mem_cons_self 1).regN (by
      simp only [List.mem_singleton, Off.TAGR_REFETCH_CNT]; omega)
  refine (State.dropClean_fold_regN _ _ _ _).trans ?_
  refine (congrArg BitVec.toNat ((State.logErr_frame _ (pg_aligned .tagr 0) 0x05 clsCorr _ (by decide)).2.2 o unlogged)).trans ?_
  refine (State.regN_setRegN_ne _ ?_ _).trans ((State.regN_setRegN_ne _ ?_ _).trans counted)
  · rw [Off.TAGR_LAST_SRC]; omega
  · rw [Off.TAGR_LAST_ADDR]; omega

theorem exec_expBlockExpand_of_err {s : State} {c : CoreIx} {f : FerryIx} {o : SlotOp} {j : ExpJob} {js : List ExpJob}
    (he : s.expanding c f = some (o, j, js)) (hr : o.refetch = none) {code st : Nat} {again : Bool}
    (hb : blkErr (s.expandJob c j) = some (code, st, again)) : exec (.expBlockExpand c f) s =
      .next (if again && !o.retried.contains (.block j.addr) then s.putOp c f { o with refetch := some (.block j.addr) }
        else s.expErr c f o code st j.addr) := by
  simp only [exec_expBlockExpand, execExpBlockExpand, he, hr, Option.isSome_none, Bool.false_eq_true, if_false]
  split
  · next raw hj => rw [hj] at hb; cases hb
  · rw [hb]

/-- Settles O27. -/
theorem codedBlocksAreCheckedAndExpanded : Obligations.CodedBlocksAreCheckedAndExpanded := by
  intro s c f o j js
  dsimp only
  refine ⟨fun he hr => ⟨?passes, ?again, ?fails⟩, fun a y hr he => ⟨?passesNow, ?failsNow⟩, fun g r t hr ht => ⟨?granule, ?entry⟩⟩
  case passes =>
    intro raw hj
    simp only [exec_expBlockExpand, execExpBlockExpand, he, hr, hj, Option.isSome_none, Bool.false_eq_true, if_false]
  case again => exact fun code st again hb ha => (exec_expBlockExpand_of_err he hr hb).trans (congrArg _ (if_pos ha))
  case fails => exact fun code st again hb ha => (exec_expBlockExpand_of_err he hr hb).trans (congrArg _ (if_neg (ne_true_of_eq_false ha)))
  case passesNow =>
    intro hb
    simp only [exec_expRefetch, execExpRefetch, hr, he, State.expandJob_bump, hb]
  case failsNow =>
    intro code st again hb
    simp only [exec_expRefetch, execExpRefetch, hr, he, State.expandJob_bump, hb]
  case granule =>
    intro hp hg
    obtain rfl : t = ⟨coreDie c, coreDie_lt c⟩ := Fin.ext ht
    simp only [exec_tagRefetch, execTagRefetch, hr, hg, beq_eq_false_iff_ne.mpr hp, State.regionOf_refetchTag, Bool.false_eq_true, if_false]
  case entry =>
    intro top hp htop
    obtain rfl : t = ⟨coreDie c, coreDie_lt c⟩ := Fin.ext ht
    simp only [exec_tagRefetch, execTagRefetch, hr, hp, htop, beq_self_eq_true, if_true, Option.getD_some]

end Sys2Proof.Machine
end

section
/-!
PROOF. Proofs/Updates.lean: UPDATE_PARAMS is decided once and applied shard by shard, and its exponents move (R186 to R207, R79).
-/
namespace Sys2Proof.Machine

/-! ### The decision (R186, R189) -/

section Decision
variable {s : State} {cmd algo : Nat} {k : Cmd}

theorem State.updateParams_of_turn (hf : s.fresh cmd 0x0004 = some k) (he : s.earlierUpd cmd = false) (ha : caAlgo k.cargo = algo)
    (hh : s.updHeld k = false) (hb : s.holdBit = false) : s.updateParams cmd algo = s.updBegin k := by
  have turn : ¬((caAlgo k.cargo ≠ algo ∧ caAlgo k.cargo ≤ 3) ∨ s.earlierUpd cmd = true) := by simp [ha, he]
  simp only [State.updateParams, hf, if_neg turn, hh, hb, Bool.false_eq_true, if_false]

theorem State.updateParams_of_held (hf : s.fresh cmd 0x0004 = some k) (he : s.earlierUpd cmd = false) (ha : caAlgo k.cargo = algo)
    (hh : s.updHeld k = true) : s.updateParams cmd algo = s.setField (pg .ras 0 + Off.RAS_SNAP_STAT) 3 3 1 := by
  have turn : ¬((caAlgo k.cargo ≠ algo ∧ caAlgo k.cargo ≤ 3) ∨ s.earlierUpd cmd = true) := by simp [ha, he]
  simp only [State.updateParams, hf, if_neg turn, hh, if_true]

theorem exec_updHoldRelease_of_none (h : ∀ y ∈ s.cmds, s.updHeld y = false) :
    exec .updHoldRelease s = .next (s.setField (pg .ras 0 + Off.RAS_SNAP_STAT) 3 3 0) := by
  have none : s.cmds.any (fun k => k.opcode == 4 && !k.begun && !k.allEnded && !s.earlierUpd k.id && s.updHeld k) = false :=
    List.any_eq_false.mpr fun y hy => by simp [h y hy]
  exact congrArg _ (if_neg (ne_true_of_eq_false none))

end Decision

/-! ### A shard's item (R188, R199 to R207) -/

/-- Poison is found by the address map and the poisoned lines. -/
theorem MapSame.anyPoison {s t : State} (h : MapSame s t) (hp : t.poison = s.poison) (a n : Nat) : t.anyPoison a n = s.anyPoison a n := by
  have unit (x : Nat) : t.unitAt x = s.unitAt x := by rw [State.unitAt, h.region, State.unitAt]
  have each : t.poisoned = s.poisoned := by
    funext x
    rw [State.poisoned, State.poisoned, hp, State.poisonKey, State.poisonKey, h.region, h.loc]
  rw [State.anyPoison, State.anyPoison, State.unitsIn, State.unitsIn, unit, each]

theorem State.CachesOnly.poison {s t : State} (h : s.CachesOnly t) : t.poison = s.poison := by
  obtain ⟨⟨r, x, rfl⟩, -⟩ := h; rfl

section Item
variable {s : State} {cmd item : Nat} {k : Cmd} {r : UpdRun}

theorem exec_updShardItem_of_begun {it : UpdItem} (hr : s.upd = some r) (hk : s.cmd? cmd = some k) (hc : r.cmd = cmd)
    (he : k.itemEnded item = false) (hi : item < k.items) (hit : r.items.find? (·.item == item) = some it)
    (ht : s.pontTurn k item (s.updStack r (shardOf (s.shardBytes k item))) = true)
    (hq : s.cohReady (stepRanges r (shardOf (s.shardBytes k item)) item) = true) :
    exec (.updShardItem cmd item) s = .next (((s.homeRecall (stepRanges r (shardOf (s.shardBytes k item)) item)).updNext k r
      (shardOf (s.shardBytes k item)) it (s.updStack r (shardOf (s.shardBytes k item)))).updCount k item
        (s.updStack r (shardOf (s.shardBytes k item)))) := by
  have turn : ¬(r.cmd ≠ cmd ∨ k.itemEnded item = true ∨ k.items ≤ item) := by simp [hc, he, hi]
  simp only [exec_updShardItem, execUpdShardItem, hr, hk, if_neg turn, hit, ht, hq, Bool.and_self, if_true]

section Exponents
variable (hr : s.upd = some r) (hk : s.cmd? cmd = some k) (hc : r.cmd = cmd) (ha : r.algo ≠ 3) (hm : r.moved = false)
  (he : k.allEnded = true) (hf : k.failed = []) (hw : k.whole = none) (hl : r.last ≠ r.step)
include hr hk hc ha hm he hf hw hl

/-- An update that moves no exponent writes its state record (R207). -/
theorem exec_updExponentMove_of_none (hmv : (moveRule r.status (fld r.ustate 4 4) (fld r.ustate 2 2)).2 = none) :
    exec (.updExponentMove cmd) s = .next ((s.wrBytes (caUstate k.cargo) (ustateAfter r.ustate r.step r.status
      (moveRule r.status (fld r.ustate 4 4) (fld r.ustate 2 2)).1)).setUpd { r with moved := true }) := by
  have due : (r.cmd ≠ cmd || r.algo = 3 || r.moved || !k.allEnded || !k.failed.isEmpty || k.whole.isSome) = false := by
    simp [hc, ha, hm, he, hf, hw]
  simp only [exec_updExponentMove, execUpdExponentMove, hr, hk]
  refine congrArg Host.Outcome.next ((if_neg (ne_true_of_eq_false due)).trans ((if_neg hl).trans ?_))
  rw [hmv]

/-- Otherwise each item's range is queued at the pontoon that serves it (R205). -/
theorem exec_updExponentMove_of_some {up : Bool} (hmv : (moveRule r.status (fld r.ustate 4 4) (fld r.ustate 2 2)).2 = some up)
    (hsite : r.site ≠ 1) (hq : r.queued = false) :
    exec (.updExponentMove cmd) s = .next ((upTo 0 k.items).foldl (fun (s' : State) j =>
      let e := shardOf (s.shardBytes k j)
      match s'.localStack e.gscale e.buckets with
      | some t => s'.setPont t (s'.pont t ++ [{ cmd := cmd, item := j, work := .gexp e.gscale e.buckets up }])
      | none => s') (s.setUpd { r with queued := true })) := by
  have due : (r.cmd ≠ cmd || r.algo = 3 || r.moved || !k.allEnded || !k.failed.isEmpty || k.whole.isSome) = false := by
    simp [hc, ha, hm, he, hf, hw]
  simp only [exec_updExponentMove, execUpdExponentMove, hr, hk]
  refine congrArg Host.Outcome.next ((if_neg (ne_true_of_eq_false due)).trans ((if_neg hl).trans ?_))
  rw [hmv]
  refine (if_neg hsite).trans ((if_pos (by rw [hq]; rfl)).trans ?_)
  exact List.foldl_map

end Exponents
end Item

/-- Settles O28. -/
theorem updatesAreDecidedAndApplied : Obligations.UpdatesAreDecidedAndApplied := by
  refine ⟨fun s cmd k hf he => ⟨fun hh hb => ⟨?adamw, ?lamb, ?sgd, ?verify⟩, ?held, ?release⟩, ?apply⟩
  case adamw => exact fun ha => congrArg _ (State.updateParams_of_turn hf he ha hh hb)
  case lamb => exact fun ha => congrArg _ (State.updateParams_of_turn hf he ha hh hb)
  case sgd => exact fun ha => congrArg _ (State.updateParams_of_turn hf he ha hh hb)
  case verify => exact fun ha => congrArg _ (State.updateParams_of_turn hf he ha hh hb)
  case held => exact fun hh ha => congrArg _ (State.updateParams_of_held hf he ha hh)
  case release => exact exec_updHoldRelease_of_none
  case apply =>
    intro s cmd item k r hr hk hc
    dsimp only
    refine ⟨fun hne hi => ⟨fun it => ?next, ?start⟩, fun ha hm hend hfail hwhole hlast => ⟨?close, ?queue⟩, ?range⟩
    case next => exact exec_updShardItem_of_begun hr hk hc hne hi
    case start =>
      intro hit hp hok hsh hpl ht hq hcm
      have turn : ¬(r.cmd ≠ cmd ∨ k.itemEnded item = true ∨ k.items ≤ item) := by simp [hc, hne, hi]
      simp only [exec_updShardItem, execUpdShardItem, hr, hk, if_neg turn, hit, hp, hok, hsh, hpl, ht, hq, Bool.not_true, Bool.or_self,
        Bool.false_eq_true, if_false]
      have recalled := State.viaHomes_cachesOnly s .inv false (s.cohLines (stepRanges r (shardOf (s.shardBytes k item)) item))
      have clean := (recalled.mapSame.anyPoison recalled.poison (shardOf (s.shardBytes k item)).commit 64).trans hcm
      exact congrArg (fun u : State => Host.Outcome.next (u.updCount k item _)) (if_neg (ne_true_of_eq_false clean))
    case close => exact exec_updExponentMove_of_none hr hk hc ha hm hend hfail hwhole hlast
    case queue => exact fun up => exec_updExponentMove_of_some hr hk hc ha hm hend hfail hwhole hlast
    case range =>
      intro p a n up rest hp hl hq hn
      simp only [exec_pontGexp, execPontGexp, hp, hl, hq, hn, ne_eq, not_true_eq_false, Bool.not_true, Bool.false_eq_true, if_false]

/-! ### The range of an exponent (R79) -/

/-- Settles O29. -/
theorem bucketExponentsStayInRange : Obligations.BucketExponentsStayInRange := by
  intro up b hb
  have range : -128 ≤ sext 8 b ∧ sext 8 b ≤ 127 := by
    unfold sext
    split <;> omega
  have back {i : Int} (h : -128 ≤ i ∧ i ≤ 127) : unsext 8 i < 256 ∧ sext 8 (unsext 8 i) = i := by
    unfold unsext sext
    split <;> omega
  refine back ?_
  cases up
  · simp only [Bool.false_eq_true, if_false]
    omega
  · simp only [if_true]
    omega

end Sys2Proof.Machine
end

section
/-!
PROOF. Proofs/Memory.lean: memory errors and scrubs, the map, the tier and landing buffers (R213 to R237); tagged regions and
decode-table slots (R240 to R258).
-/
namespace Sys2Proof.Machine

/-! ### Landing buffers (R221) -/

section Deck
variable {s : State} {c : CoreIx} {off n : Nat}

/-- An access that R221 allows: a size up to 64, aligned, within the buffer. -/
theorem deckAccess_allowed (hn : n ∈ [1, 2, 4, 8, 16, 32, 64]) (ha : off % n = 0) (hl : off + n ≤ 0x400000) :
    ¬(!([1, 2, 4, 8, 16, 32, 64].contains n) || decide (off % n ≠ 0 ∨ 0x400000 < off + n)) = true := by
  rw [List.contains_iff_mem.mpr hn]
  simp [ha, Nat.not_lt.mpr hl]

theorem exec_deckLbAccess_write {data : Bytes} (hn : n ∈ [1, 2, 4, 8, 16, 32, 64]) (ha : off % n = 0) (hl : off + n ≤ 0x400000)
    (hd : data.length = n) : exec (.deckLbAccess c off n true data) s = .next (s.lbWr c off data) := by
  refine congrArg _ ((if_neg (deckAccess_allowed hn ha hl)).trans ((if_pos rfl).trans ?_))
  rw [fit_of_length 0 hd]

end Deck

/-- Settles O31. -/
theorem deckWriteChangesItsBytesOnly : Obligations.DeckWriteChangesItsBytesOnly := by
  intro s c off n data hn ha hl hd
  refine ⟨_, exec_deckLbAccess_write hn ha hl hd, ?_, fun a far => State.rd8_wrBytes_ne fun j hj => far j (hd ▸ hj)⟩
  obtain ⟨m, q, e⟩ := State.lbWr_eq s c off data
  rw [e]

/-- Settles O30. -/
theorem memoryErrorsMapAndTier : Obligations.MemoryErrorsMapAndTier := by
  refine ⟨fun s a => ⟨?read, ?land, ?scrub, ?off, ?tierScrub⟩, fun s => ⟨?map, ?mapBusy, ?tierOn, ?tierOff, ?clear, ?cleared, ?deck⟩⟩
  case read =>
    rintro (h | h) <;> exact ⟨by rw [exec_memoryReadError, execMemoryReadError, h], by rw [exec_memoryReadError, execMemoryReadError, h]⟩
  case land => intro h; rw [exec_memoryReadError, execMemoryReadError, h]
  case scrub => exact fun k ce ue h => congrArg _ (if_pos h)
  case off =>
    intro k ce ue h
    exact congrArg _ (if_neg (by simp [State.scrubDue, h]))
  case tierScrub => exact fun l ce ue h ht => congrArg _ ((if_pos ht).trans (if_pos h))
  case map =>
    intro v hj
    refine congrArg _ ((if_neg (by simp [hj])).trans ?_)
    by_cases h : bits v.toNat 5 0 ≤ 48
    · exact (if_neg (Nat.not_lt.mpr h)).trans (if_pos h).symm
    · exact (if_pos (Nat.lt_of_not_le h)).trans (if_neg h).symm
  case mapBusy => exact fun v hj => ⟨congrArg _ (if_pos (by simp [hj])), congrArg _ (if_pos (by simp [hj]))⟩
  case tierOn => exact fun v hj hb ht => congrArg _ (if_neg (by simp [hj, hb, ht]))
  case tierOff => exact fun v hj hb hs => congrArg _ (if_neg (by simp [hj, hb, hs]))
  case clear => exact fun c => rfl
  case cleared => exact fun c h => congrArg _ (if_pos h)
  case deck =>
    refine fun c off n data hn ha hl => ⟨exec_deckLbAccess_write hn ha hl, fun hp => ?_, fun o hp => ?_⟩ <;>
      refine congrArg _ ((if_neg (deckAccess_allowed hn ha hl)).trans ((if_neg Bool.false_ne_true).trans ?_)) <;> rw [hp]

/-! ### Tagged regions and decode tables -/

section Tables
variable {s : State} {d : DieIx} {q : Fin 8}

theorem State.tabItem_none (s : State) : s.tabItem none = s := rfl

/-- The last load of a die that ends leaves its slot LIVE and the die's loader idle (R256). -/
theorem exec_ctabSlotLive_of_last {l : TabLoad}
    (hl : s.tabLoads.find? (fun l => l.die == d.val && l.slot == q.val && decide (l.tick < s.now)) = some l)
    (hlast : ∀ x ∈ s.tabLoads.erase l, x.die ≠ d.val) (ho : l.owner = none) :
    let u : State := { s with tabLoads := s.tabLoads.erase l, tables := smSet (fun _ => []) s.tables (8 * d.val + q.val) l.image }
    exec (.ctabSlotLive d q) s = .next ((u.setRegN (ctabSlot d q) (setBits (setBits (setBits (u.regN (ctabSlot d q)) 1 0 2) 15 8
      (tabElem l.image)) 23 16 (tabGen l.image))).setField (pCTAB d + Off.CTAB_STAT) 0 0 0) := by
  have idle : (s.tabLoads.erase l).any (·.die == d.val) = false := List.any_eq_false.mpr fun x hx => by simpa using hlast x hx
  rw [exec_ctabSlotLive, execCtabSlotLive, hl]
  refine congrArg Host.Outcome.next ?_
  dsimp only
  rw [ho]
  exact congrArg (fun u : State => u.tabItem none) (if_neg (ne_true_of_eq_false idle))

end Tables

/-- Settles O32. -/
theorem taggedRegionsAndDecodeTables : Obligations.TaggedRegionsAndDecodeTables := by
  refine ⟨fun s r => ⟨?enable, ?busy, ?generation, ?retag, ?retagged⟩,
    fun s d q => ⟨?load, ?refuse, ?named, ?retire, fun l => exec_ctabSlotLive_of_last, ?draining, ?free, ?command⟩⟩
  case enable => exact fun hj hr => congrArg _ ((if_neg (by simp [hj])).trans (if_neg (by simp [hr])))
  case busy => exact fun hj => congrArg _ (if_pos (by simp [hj]))
  case generation => exact fun v => rfl
  case retag =>
    intro a n t hon hre hcode hlo hhi ha hn
    have plain : (s.rCoded r && a == s.rBase r && decide (0 < n)) = false := by
      cases hc : s.rCoded r with
      | false => rfl
      | true =>
        rcases hcode hc with h | h
        · simp [h]
        · simp [h]
    have whole : (s.rOn r && s.retag.isNone && decide (s.rBase r ≤ a ∧ a + n ≤ s.rBase r + s.rSize r ∧ (a - s.rBase r) % t = 0 ∧
        n % t = 0) && !(s.rCoded r && a == s.rBase r && decide (0 < n))) = true := by
      rw [hon, hre, plain, decide_eq_true ⟨hlo, hhi, ha, hn⟩]
      rfl
    exact congrArg _ (if_pos whole)
  case retagged =>
    intro a n hre
    simp only [exec_tagrRetagDone, execTagrRetagDone, hre]
  case load =>
    intro hb hm hp
    simp only [exec_ctabLoadGo, execCtabLoadGo, hb, hm, hp, Bool.not_true, Bool.or_self, Bool.false_eq_true, if_false]
  case refuse =>
    intro e hb
    simp only [exec_ctabLoadGo, execCtabLoadGo, hb]
  case named => exact fun v h => congrArg _ (if_pos h)
  case retire => exact fun v h => congrArg _ (if_neg (ne_true_of_eq_false h))
  case draining =>
    intro l hl ho h2
    rw [exec_ctabSlotDraining, execCtabSlotDraining, hl]
    refine congrArg Host.Outcome.next ?_
    dsimp only
    rw [ho]
    exact congrArg (fun u : State => u.tabItem none) (if_pos h2)
  case free =>
    intro t ht hn h3
    simp only [exec_ctabSlotFree, execCtabSlotFree, ht]
    exact congrArg Host.Outcome.next (if_pos ⟨hn, h3⟩)
  case command =>
    intro cmd k hk h1
    simp only [exec_loadDecodeTable, execLoadDecodeTable, hk]
    exact congrArg Host.Outcome.next (if_neg (not_not.mpr h1))

end Sys2Proof.Machine
end

section
/-!
PROOF. Proofs/Homes.lean: requests enter the FIFO of their line, homes serve its head, and what completing a request does
(R262 to R277).
-/
namespace Sys2Proof.Machine

/-! ### Requests enter (R264, R265) -/

/-- The state in which a request that is a die cache's own is counted as its miss. -/
def State.missed (s : State) (g : CohAgent) : State :=
  match agentPart g with
  | some p => if classA p then s.bump64 (pDCACHE (p - 32)) Off.DCACHE_MISS_CNT 1 else s
  | none => s

section Requests
variable {s : State} {a : Nat}

/-- With no request on its way, one that its sender may make enters; a die cache's own is a miss. -/
theorem State.request_of_none (hq : s.coh.reqs = []) {line : Nat} {t : HomeTx} (hm : mayAsk t.kind t.agent = true) :
    s.request line t = (s.missed t.agent).enter line t := by
  simp only [State.request, hm, hq, arrive, List.any_nil, Bool.not_true, Bool.false_eq_true, if_false, State.missed] <;> rfl

theorem State.requestAt_of_none (hq : s.coh.reqs = []) (hd : s.devMem (a / 64 * 64) 64 = true) {t : HomeTx} (hm : mayAsk t.kind t.agent = true) :
    s.requestAt a t = (s.missed t.agent).enter (a / 64) t := by
  rw [State.requestAt, if_pos hd, State.request_of_none hq hm]

theorem State.requestAt_of_forbidden (hd : s.devMem (a / 64 * 64) 64 = true) {t : HomeTx} (hm : mayAsk t.kind t.agent = false) :
    s.requestAt a t = s.cohProtocol (a / 64) := by
  rw [State.requestAt, if_pos hd, State.request, if_pos (by rw [hm]; rfl)]

theorem State.bulkRequest_of_mem {n : Nat} {kind : TxKind} {g : CohAgent} (hn : 0 < n) (hd : s.devMem (64 * (a / 64)) (64 * n) = true)
    (hm : mayAsk kind g = true) (data : Bytes) :
    s.bulkRequest a n kind g data = (upTo 0 n).foldl (fun (s' : State) i =>
      s'.enter (a / 64 + i) { mkTx kind g 0 ((data.drop (64 * i)).take 64) with bulk := some (s.coh.nextBulk, a / 64) })
      (s.setCoh { s.coh with nextBulk := s.coh.nextBulk + 1 }) := by
  have inside : ¬(n = 0 || !s.devMem (64 * (a / 64)) (64 * n)) = true := by simp [hd, Nat.ne_of_gt hn]
  exact (if_neg inside).trans (if_neg (by simp [hm]))

/-- The page of a line holds the line itself. -/
theorem pageLines_pos {n : Nat} (hn : 0 < n) : 0 < pageLines a n := by
  unfold pageLines
  omega

end Requests

/-- Settles O34; that a request stays within the page of its first line is log entry 3, and that none is on its way is the
statement's own premise (log entry 41). -/
theorem requestsEnterTheLineFifo : Obligations.RequestsEnterTheLineFifo := by
  intro s a hq hd
  dsimp only
  refine ⟨fun p core => ⟨?shared, ?own, ?upgrade, ?forbidden, ?amo⟩, ?once, ?line, ?part, ?bulkRd, ?bulkWr, ?recalled⟩
  case shared => exact congrArg _ (State.requestAt_of_none hq hd rfl)
  case own => exact congrArg _ (State.requestAt_of_none hq hd rfl)
  case upgrade =>
    intro hA
    refine congrArg _ ((State.requestAt_of_none hq hd (by simp [mkTx, mayAsk, hA])).trans ?_)
    simp [mkTx, State.missed, agentPart, hA]
  case forbidden =>
    intro hA
    exact congrArg _ (State.requestAt_of_forbidden hd (by simp [mkTx, mayAsk, hA]))
  case amo => exact fun op wide v ha => congrArg _ ((if_pos ha).trans (State.requestAt_of_none hq hd rfl))
  case once => exact fun g => congrArg _ (State.requestAt_of_none hq hd rfl)
  case line =>
    intro g data hl
    refine congrArg _ ((State.requestAt_of_none hq hd rfl).trans ?_)
    rw [fit_of_length 0 hl]
    rfl
  case part =>
    intro m data hl
    refine congrArg _ ((State.requestAt_of_none hq hd rfl).trans ?_)
    rw [fit_of_length 0 hl]
    rfl
  case bulkRd => exact fun c f n h => congrArg _ (State.bulkRequest_of_mem (pageLines_pos h.1) h.2 rfl _)
  case bulkWr => exact fun c f data h => congrArg _ (State.bulkRequest_of_mem (pageLines_pos h.1) h.2 rfl _)
  case recalled => exact fun k n h => congrArg _ (State.bulkRequest_of_mem (pageLines_pos h.1) h.2 rfl _)

/-! ### The head of a FIFO (R265, R267 to R271) -/

section Head
variable {s : State} {l : Nat} {t : HomeTx} {rest : List HomeTx}

/-- A head that needs no entry, or has one to take, snoops whom it must or completes. -/
theorem State.cohServe_of_fits (hf : s.fifo l = t :: rest) (hs : t.started = false)
    (fits : needsEntry t = false ∨ (s.coh.entry l).isSome = true ∨ (s.coh.setOf l).length < 12) :
    s.cohServe l = if (s.coh.targets l t).2.isEmpty then s.cohFinish l
      else (s.setFifo l ({ t with
        started := true
        contended := true
        waits := (s.coh.targets l t).2.map (fun p => { part := p, kind := (s.coh.targets l t).1, resend := none, dif := false }) } :: rest)).sendSnoops
          l (s.coh.targets l t).1 (s.coh.targets l t).2 := by
  have room : (needsEntry t && (s.coh.entry l).isNone && decide (12 ≤ (s.coh.setOf l).length)) = false := by
    rcases fits with h | h | h
    · simp [h]
    · simp [Option.isNone_eq_false_iff.mpr h]
    · simp [h]
  simp only [State.cohServe, hf, hs, room, Bool.false_eq_true, if_false]

/-- A full set has the least recently allocated line with an empty FIFO invalidated first (R271). -/
theorem State.cohServe_of_full {v : DirEntry} (hf : s.fifo l = t :: rest) (hs : t.started = false) (hn : needsEntry t = true)
    (he : s.coh.entry l = none) (h12 : 12 ≤ (s.coh.setOf l).length)
    (hb : (s.coh.setOf l).any (fun e => (s.fifo e.line).any (·.kind == .backInv)) = false)
    (hv : (s.coh.setOf l).find? (fun e => (s.fifo e.line).isEmpty) = some v) :
    s.cohServe l = (s.enter v.line (mkTx .backInv .host 0 [])).bump64 (linePage l) Off.HOME_BACKINV_CNT 1 := by
  have full : (needsEntry t && (s.coh.entry l).isNone && decide (12 ≤ (s.coh.setOf l).length)) = true := by simp [hn, he, h12]
  simp only [State.cohServe, hf, hs, full, hb, hv, Bool.false_eq_true, if_false, if_true]

theorem State.fifo_dirDrop (s : State) (l p k : Nat) : (s.dirDrop l p).fifo k = s.fifo k := by
  unfold State.dirDrop
  split
  · rfl
  · dsimp only
    split <;> rfl

theorem State.setFifo_cachesOnly (s : State) (l : Nat) (f : List HomeTx) : s.CachesOnly (s.setFifo l f) := by
  have shown := ((CachesOnly.refl s).setCoh { s.coh with fifos := smSet (fun _ => []) s.coh.fifos l f })
  unfold State.setFifo State.raiseTo
  dsimp only
  split
  · exact shown.setRegN (Nat.le_trans (pHOME_zero_le _) (Nat.le_add_right _ _)) _
  · refine (shown.setRegN (Nat.le_trans (pHOME_zero_le _) (Nat.le_add_right _ _)) _).setRegN ?_ _
    exact Nat.le_trans (pHOME_zero_le _) (Nat.le_add_right _ _)

theorem State.rdBytes_of_map {s t : State} (h : MapSame s t) (hm : t.mem = s.mem) (a n : Nat) : t.rdBytes a n = s.rdBytes a n :=
  List.map_congr_left fun k _ => h.rd8 hm k

theorem State.rdBytes_setFifo (s : State) (l : Nat) (f : List HomeTx) (a n : Nat) : (s.setFifo l f).rdBytes a n = s.rdBytes a n :=
  State.rdBytes_of_map (s.setFifo_cachesOnly l f).mapSame (s.setFifo_cachesOnly l f).mem a n

theorem State.sharers_setFifo (s : State) (l k : Nat) (f : List HomeTx) : (s.setFifo l f).coh.sharers k = s.coh.sharers k := by
  unfold State.setFifo State.raiseTo
  dsimp only
  split <;> rfl

end Head

/-- Settles O35; the message order that the premises speak of is log entry 42. -/
theorem homesServeAndRequestsComplete : Obligations.HomesServeAndRequestsComplete := by
  refine ⟨fun s a p t rest => ?serve, fun s l t rest p hf => ?complete⟩
  case serve =>
    dsimp only
    refine ⟨?alone, ?snoops, fun v => ?full, ?invalid, ?hold, ?unasked, ?resend, ?timeout, ?evict, ?writeBack⟩
    case alone =>
      intro hf hs fits hn
      rw [exec_homeTransactionServe, execHomeTransactionServe, State.cohServe_of_fits hf hs fits, hn]
      rfl
    case snoops =>
      intro hf hs fits k q ps hn
      rw [exec_homeTransactionServe, execHomeTransactionServe, State.cohServe_of_fits hf hs fits, hn]
      rfl
    case full => exact fun hf hs hn he h12 hb hv => congrArg _ (State.cohServe_of_full hf hs hn he h12 hb hv)
    case invalid =>
      intro w x r hx hi hw hq
      simp only [exec_homeSnoopAnswer, execHomeSnoopAnswer, hx, hw, hi, State.fifo_dirDrop]
      rw [show (s.setCoh { s.coh with answers := r }).fifo (a / 64) = s.fifo (a / 64) from rfl, if_neg (ne_true_of_eq_false hq)]
    case hold =>
      intro w x r n hx hi hw
      simp only [exec_homeSnoopAnswer, execHomeSnoopAnswer, hx, hw, hi]
    case unasked =>
      intro hx
      simp only [exec_homeSnoopAnswer, execHomeSnoopAnswer, hx]
    case resend =>
      intro w n hw hr
      simp only [exec_snoopResend, execSnoopResend, hw, hr, Option.isSome_some, if_true]
    case timeout =>
      intro w hw hr
      simp only [exec_cohSnoopTimeout, execCohSnoopTimeout, hw, hr, Option.isNone_none, if_true]
    case evict =>
      intro x r hx
      simp only [exec_homeEvict, execHomeEvict, hx]
      rfl
    case writeBack =>
      intro x r hx hsh
      simp only [exec_homeWb, execHomeWb, hx]
      exact congrArg Host.Outcome.next (if_neg (ne_true_of_eq_false (congrArg (!·) hsh)))
  case complete =>
    dsimp only
    refine ⟨?own, ?write, ?ack, ?shared, ?once⟩
    case own =>
      intro hk ha
      simp only [State.cohFinish, hf, hk, ha, agentPart, Option.getD_some, State.rdBytes_setFifo]
    case write =>
      intro hk
      simp only [State.cohFinish, hf, hk]
    case ack =>
      intro hk ha
      simp only [State.cohFinish, hf, hk, ha, agentPart, Option.getD_some]
    case shared =>
      intro hk ha ho hA
      have plain : (classA p && (t.dirty || !true)) = false := by
        rcases hA with h | h <;> simp [h]
      simp only [State.cohFinish, hf, hk, ha, agentPart, Option.getD_some, State.rdBytes_setFifo, State.sharers_setFifo, ho,
        List.isEmpty_nil, if_true, plain, Bool.false_eq_true, if_false]
    case once =>
      intro hk ha hA ho
      have held : (classA p && (t.dirty || !false)) = true := by simp [hA]
      simp only [State.cohFinish, hf, hk, ha, agentPart, Option.getD_some, State.rdBytes_setFifo, State.sharers_setFifo,
        List.isEmpty_eq_false_iff.mpr ho, held, if_true, Bool.false_eq_true, if_false]

end Sys2Proof.Machine
end

section
/-!
PROOF. Proofs/Participants.lean: which participant a die cache is (R261, R264); atomics, die caches and HOME_CFG (R274 to R286).
-/
namespace Sys2Proof.Machine

/-! ### The reply of a participant's number -/

/-- Participant 0, a server cluster, is about to receive data to use once. -/
def onceReplied : State :=
  { State.reset with
    coh := { State.reset.coh with
      replies := [{ agent := .part 0, line := 0, kind := .dataOnce, core := 0, contended := false, poison := false, data := [] }] } }

/-- DCACHE_ONCE_CNT of die 0 in a next state. -/
def onceCount (o : Host.Outcome State Fault Refusal) : Nat :=
  match o with
  | .next t => t.regN (pDCACHE 0 + Off.DCACHE_ONCE_CNT)
  | _ => 0

/-- No die cache received the data, so none counts. -/
theorem onceCount_exec_onceReplied : onceCount (exec (.dataOnce (.part 0) 0) onceReplied) = 0 := by decide +kernel

/-- What the statement would have that exec answer. -/
theorem onceCount_bump_onceReplied : onceCount (.next (((onceReplied.setCoh { onceReplied.coh with replies := [] }).answer [] false).bump64
    (pDCACHE (0 : DieIx)) Off.DCACHE_ONCE_CNT 1)) = 1 := by decide +kernel

/-- Refutes O36: in its clause on DATA_ONCE the sum `32 + d` is taken among the four dies, so it names participant `d`, a server
cluster, where the die cache of `d` is participant 32 + d; and a server cluster's data count in no die cache. -/
theorem not_participantsAnswerAndReceive : ¬Obligations.ParticipantsAnswerAndReceive := by
  intro h
  obtain ⟨-, -, -, once, -⟩ := h onceReplied 0 0
  have counted := congrArg onceCount ((once _ [] (.part 0) rfl).2 0 rfl)
  exact absurd (onceCount_exec_onceReplied.symm.trans (counted.trans onceCount_bump_onceReplied)) (by decide)

/-! ### Atomics, die caches and HOME_CFG -/

/-- Settles O37; that a misaligned access raises exceptions 4 and 6 is log entry 65. -/
theorem atomicsAndDieCachesAct : Obligations.AtomicsAndDieCachesAct := by
  intro s
  refine ⟨?near, ?misaligned, ?flush, ?flushBusy, ?predictors, ?poison, ?config, ?configLow⟩
  case near =>
    intro core op size aq rl a v c hk ha hd hat hc hs hcore
    refine congrArg _ ((if_neg (by simp [hk])).trans ((if_neg (not_not.mpr ha)).trans ((if_pos hd).trans ?_)))
    have free : (s.coh.atomHeld { core := core, op := op, size := size, aq := aq, a := a, v := v.toNat, far := false } rl
        || (s.coh.copy (atomPart core) (a / 64)).any (·.st == .wbp)) = false := by
      rcases hs with hs | hs <;> simp [CohSt.atomHeld, hat, hc, hs]
    have inPlace : ((s.coh.copy (atomPart core) (a / 64)).any (fun c => c.st == .e || c.st == .m)
        && (s.coh.copy (atomPart core) (a / 64)).any (·.cores.contains (atomIx core))) = true := by
      rw [hc, Option.any_some, Option.any_some, hcore]
      rcases hs with hs | hs <;> simp [hs]
    exact (if_neg (ne_true_of_eq_false free)).trans (if_pos inPlace)
  case misaligned =>
    intro k op size aq rl a v hk ha hrun
    refine congrArg _ ((if_neg (by simp [hk])).trans ((if_pos ha).trans (if_pos hrun)))
  case flush =>
    intro t hi hn
    refine ⟨congrArg _ ((if_neg (by simp [hi])).trans ?_), congrArg _ (if_neg ?_)⟩
    · rw [hn]; rfl
    · have none : s.coh.copies.any (fun c => c.part == 32 + t.val && c.st == .wbp) = false :=
        List.any_eq_false.mpr fun c hc e => by
          have mine : c ∈ s.coh.copies.filter (·.part == 32 + t.val) := List.mem_filter.mpr ⟨hc, (Bool.and_eq_true_iff.mp e).1⟩
          rw [hn] at mine
          exact List.not_mem_nil mine
      exact ne_true_of_eq_false none
  case flushBusy => exact fun t hi => congrArg _ (if_pos (by simp [hi]))
  case predictors =>
    intro t
    cases hi : s.dieIdle t
    · exact congrArg _ (if_pos (by simp [hi]))
    · exact congrArg _ (if_neg (by simp [hi]))
  case poison =>
    intro c epc a hu hp
    exact congrArg _ (if_pos (by simp [hu, hp]))
  case config =>
    intro h v hj hv
    exact congrArg _ (if_neg (by simp [hj, hv]))
  case configLow =>
    intro h v hv
    exact congrArg _ (if_pos (by simp [hv]))

end Sys2Proof.Machine
end

section
/-!
PROOF. Proofs/Servers.lean: the server cores run, stop and fail (R275, R288 to R293, R308).
-/
namespace Sys2Proof.Machine

/-- Settles O38; that a reserved core ignores RUN and STOP is log entry 43, and the exceptions of a poisoned access are log entry 65. -/
theorem serverCoresRunStopAndFail : Obligations.ServerCoresRunStopAndFail := by
  intro s k p
  have running {n : Nat} (h : s.srvState k = n) (hn : n ≠ 2) : ¬s.srvState k = 2 := fun e => hn (h.symm.trans e)
  refine ⟨fun h => ⟨?run, congrArg _ (if_pos h)⟩, fun h => ⟨congrArg _ (if_pos h), congrArg _ (if_pos h)⟩, fun h => ⟨?reserve, ?stop⟩,
    ?release, rfl, rfl, rfl, ?clock, ?clockRange, ?poison, fun a => ⟨rfl, rfl, rfl⟩⟩
  case run =>
    refine congrArg _ ((if_neg (running h (by decide))).trans ((if_pos h).trans ?_))
    have vector : (s.setField (p + Off.SRVC_CTRL) 0 0 1).regN (p + Off.SRVC_RESET_VEC) = s.regN (p + Off.SRVC_RESET_VEC) :=
      State.regN_setRegN_ne s (page_add_ne (by decide)) _
    rw [← vector]
  case reserve => exact congrArg _ (if_neg (by rw [h]; decide))
  case stop => exact congrArg _ (if_neg (running h (by decide)))
  case release => exact fun h hu => congrArg _ ((if_neg (not_not.mpr h)).trans (if_neg (ne_true_of_eq_false hu)))
  case clock =>
    intro m hlo hhi hstep
    exact congrArg _ (if_neg (by omega))
  case clockRange => exact fun m h => congrArg _ (if_pos h)
  case poison =>
    intro fetch epc a h hp
    exact congrArg _ (if_pos (by simp [h, hp]))

end Sys2Proof.Machine
end

section
/-!
PROOF. Proofs/Queues.lean: queues and docks serve their rings and write completion records (R294 to R298, R317 to R341).
-/
namespace Sys2Proof.Machine

/-! ### Enabling and disabling (R294, R298, R317, R338, R341) -/

section Enabling
variable {s : State} {q : Nat}

theorem State.qEnable_of_sound (hd : s.qDetached q = false) (he : s.qEnabled q = false) (hr : s.ringsOk q = true) :
    s.qEnable q = ((s.setQStat q 0 true).setField (qPage q + Off.CQ_CTRL) 0 0 1).zeroIndices q := by
  simp only [State.qEnable, hd, he, hr, Bool.not_true, Bool.not_false, Bool.and_false, Bool.false_and, Bool.false_eq_true, if_false]

theorem State.qEnable_of_unsound (hd : s.qDetached q = false) (he : s.qEnabled q = false) (hr : s.ringsOk q = false) :
    s.qEnable q = s.logCorr (qPage q) 0x02 := by
  simp only [State.qEnable, hd, he, hr, Bool.not_false, Bool.and_self, Bool.false_and, Bool.false_eq_true, if_false, if_true]

theorem State.qEnable_of_detached (hd : s.qDetached q = true) (hp : s.pcieUp 0 = true) (hr : s.qEnabled q = true ∨ s.ringsOk q = true) :
    s.qEnable q = ((s.setQStat q 0 true).setField (qPage q + Off.CQ_CTRL) 0 0 1).reattach q := by
  have served : (!s.qEnabled q && !s.ringsOk q) = false := by
    rcases hr with h | h <;> simp [h]
  simp only [State.qEnable, hd, hp, served, Bool.not_true, Bool.and_false, Bool.false_eq_true, if_false, if_true]

/-- A source with nothing in flight and no record held goes out of service. -/
theorem State.qDisable_of_empty (hi : s.inflight q = 0) (hh : s.heldCount q = 0) (ho : (s.queue q).overflow = none) :
    s.qDisable q = State.setQueue (
      let u := (s.setQStat q 0 false).setField (qPage q + Off.CQ_CTRL) 0 0 0
      if q < 64 then u.setQStat q 4 false else u) q QueueSt.reset := by
  rw [State.qDisable, if_neg]
  simp [hi, hh, ho]

theorem State.doorbell_of_enabled (he : s.qEnabled q = true) (hd : s.qDetached q = false) (cyc v : Nat) :
    s.doorbell q cyc v =
      if s.qReg q Off.CQ_RING_SIZE < ringDist (s.qReg q Off.CQ_RING_SIZE) (s.qReg q Off.CQ_HEAD) (v % (2 * s.qReg q Off.CQ_RING_SIZE)) then
        s.qRange q
      else (s.setQReg q Off.CQ_TAIL (v % (2 * s.qReg q Off.CQ_RING_SIZE))).setQueue q { s.queue q with
        bells := (s.queue q).bells ++ [{ tick := s.now, cycle := cyc, tail := v % (2 * s.qReg q Off.CQ_RING_SIZE) }] } := by
  have served : ¬(!s.qEnabled q || s.qDetached q) = true := by simp [he, hd]
  exact if_neg served

end Enabling

/-! ### Reading an entry (R295) -/

section Reading
variable {s : State}

theorem State.CachesOnly.queues {s t : State} (h : s.CachesOnly t) : t.queues = s.queues := by
  obtain ⟨⟨r, x, rfl⟩, -⟩ := h
  rfl

theorem State.logAddr_queues (s : State) {page : Nat} (hp : page % 4096 = 0) (code a : Nat) : (s.logAddr page code a).queues = s.queues := by
  obtain ⟨regs, ras, out, aplic, servers, pba, e⟩ :=
    (State.logErr_frame s hp code clsCorr { LogInfo.none with addr := some a } (by decide)).1
  rw [State.logAddr, e]
  rfl

/-- An entry is read at the homes, or found lost with its port: the sources hold what they held. -/
theorem State.queue_engineRead (s : State) (a n q : Nat) : (s.engineRead a n).1.queue q = s.queue q := by
  have same : (s.engineRead a n).1.queues = s.queues := by
    unfold State.engineRead
    split
    · exact State.logAddr_queues s (pg_aligned _ _) _ _
    · exact (State.viaHomes_cachesOnly s _ _ _).queues
  rw [State.queue, same, State.queue]

/-- The entry read is the last of those fetched. -/
theorem State.fetched_fetchEntry (s : State) (q : Nat) :
    ((s.fetchEntry q).queue q).fetched = (s.queue q).fetched ++ [(s.engineRead (s.qReg q Off.CQ_RING_BASE
      + 128 * ((s.queue q).fetchIx % s.qReg q Off.CQ_RING_SIZE)) 128).2] := by
  have kept := s.queue_engineRead (s.qReg q Off.CQ_RING_BASE + 128 * ((s.queue q).fetchIx % s.qReg q Off.CQ_RING_SIZE)) 128 q
  unfold State.fetchEntry
  dsimp only
  rw [kept]
  generalize hx : ({ s.queue q with
    fetched := _, fetchIx := _ } : QueueSt) = x
  have hne : x ≠ QueueSt.reset := fun e => by
    have := congrArg QueueSt.fetched (hx.trans e)
    exact absurd this (by simp [QueueSt.reset])
  rw [State.queue, State.setQueue, smSet, if_neg hne, smGet_put_self, ← hx]

end Reading

/-! ### Records (R328, R332) -/

theorem length_natLE (n v : Nat) : (natLE n v).length = n := by
  induction n generalizing v with
  | zero => rfl
  | succ n ih => rw [natLE, List.length_cons, ih]

theorem CplRec.length_bytesOf (r : CplRec) : r.bytesOf.length = 32 := by
  simp [CplRec.bytesOf, length_natLE]

section Records
variable {s : State} {k : Cmd} {a : Nat}

theorem State.regs_flushes (s : State) (k : Cmd) (a : Nat) : (s.flushes k a).regs = s.regs := by
  rw [State.flushes, State.updCmd_regs]
  exact State.foldl_same State.regs (f := fun s p => s.send (.flush p)) (fun _ _ => rfl) _ s

theorem State.qDetached_flushes (q : Nat) : (s.flushes k a).qDetached q = s.qDetached q := by
  rw [State.qDetached, State.qReg, State.regN_of_regs (s.regs_flushes k a), State.qDetached, State.qReg]

theorem MapSame.outDown {s t : State} (h : MapSame s t) (hp : ∀ p, t.pcieUp p = s.pcieUp p) (a : Nat) : t.outDown a = s.outDown a := by
  rw [State.outDown, h.region, hp, hp, State.outDown]

theorem State.outDown_flushes (b : Nat) : (s.flushes k a).outDown b = s.outDown b :=
  (MapSame.of_regs (s.regs_flushes k a)).outDown (fun p => by rw [State.pcieUp, State.regN_of_regs (s.regs_flushes k a), State.pcieUp]) b

/-- A record with an address of its own that is not the command's last is written there, once the lines are ready (R328). -/
theorem State.nextRec_of_addr {r : CplRec} (hs : k.src < 64) (hc : k.cpl ≠ 0) (hr : k.due[k.recsOut]? = some r) (hl : bit r.flags 0 = false)
    (hf : k.fenceAll = false) (hd : s.qDetached k.src = false) (ho : (s.queue k.src).owed = 0) (hv : (s.queue k.src).owedOv = false)
    (ha : a = k.cpl + 32 * k.recsOut) (hu : s.reaches a = true) (hq : s.cohReady [(a, 32), (a, 32)] = true) :
    s.nextRec k = (((s.flushes k a).recBytes a r.bytesOf).updCmd k.id (fun k =>
      { k with recsOut := k.recsOut + 1, closed := false })).qShow k.src := by
  subst ha
  have served : (s.qDetached k.src || !s.reaches (k.cpl + 32 * k.recsOut)) = false := by rw [hd, hu]; rfl
  have put : (s.flushes k (k.cpl + 32 * k.recsOut)).putRec k.src (some (k.cpl + 32 * k.recsOut)) r false =
      (s.flushes k (k.cpl + 32 * k.recsOut)).recBytes (k.cpl + 32 * k.recsOut) r.bytesOf := by
    rw [State.putRec, Option.getD_some, State.reaches, State.outDown_flushes, State.qDetached_flushes]
    refine (if_neg (ne_true_of_eq_false served)).trans ((if_pos hs).trans ?_)
    rfl
  simp only [State.nextRec, hr, hl, hc, hs, hf, hd, ho, hv, hq, put, if_true, if_false, Bool.false_and, Bool.and_false, Bool.false_eq_true,
    Option.isNone_some, Option.getD_some, Nat.lt_irrefl, decide_false, Bool.or_self, Bool.not_true]

end Records

/-- Settles O39; the order of acceptance is log entries 27 and 28, and the flushes before a record are log entry 74. -/
theorem queuesServeRingsAndWriteRecords : Obligations.QueuesServeRingsAndWriteRecords := by
  refine ⟨fun s q d => ?rings, CplRec.length_bytesOf, fun s cmd k r hk hs hcl hc hr hl hf hd ho hv => ?record⟩
  case rings =>
    dsimp only
    refine ⟨fun hd he hr => congrArg _ (State.qEnable_of_sound hd he hr), fun hd he hr => congrArg _ (State.qEnable_of_sound hd he hr),
      fun hd he hr => congrArg _ (State.qEnable_of_unsound hd he hr), fun hd hp hr => congrArg _ (State.qEnable_of_detached hd hp hr),
      fun hi hh ho => congrArg _ ((State.qDisable_of_empty hi hh ho).trans ?disable), fun hi => congrArg _ (if_pos (.inl hi)),
      fun hi hh ho => congrArg _ ((State.qDisable_of_empty hi hh ho).trans ?dockDisable),
      fun v cyc h => congrArg _ (State.doorbell_of_enabled h.1 h.2 cyc _), fun v cyc h => congrArg _ (State.doorbell_of_enabled h.1 h.2 cyc _),
      ?returned, fun v => rfl, ?fetch, ?dockRead, ?cqRecord, ?dockRecord⟩
    case disable => exact congrArg (fun u : State => u.setQueue q QueueSt.reset) (if_pos q.isLt)
    case dockDisable => exact congrArg (fun u : State => u.setQueue (64 + d) QueueSt.reset) (if_neg (by omega))
    case returned => exact fun v h => congrArg _ (if_neg (by simp [h.1, h.2]))
    case fetch => exact fun h hf => congrArg _ (if_neg (by simp [h.1, h.2, hf]))
    case dockRead =>
      intro b e hb he hx hf _ hent hext
      have read : ((s.fetchEntry (64 + d)).queue (64 + d)).fetched = [(e, (s.engineRead (s.qReg (64 + d) Off.CQ_RING_BASE
          + 128 * ((s.queue (64 + d)).fetchIx % s.qReg (64 + d) Off.CQ_RING_SIZE)) 128).2.2)] := by
        rw [State.fetched_fetchEntry, hx, hent]
        rfl
      have some1 : ¬(!s.qEnabled (64 + d) || !(s.queue (64 + d)).fetched.isEmpty
          || ringDist (s.qReg (64 + d) Off.DOCK_RING_SIZE) (s.queue (64 + d)).fetchIx b.tail = 0 || !s.fetchReady (64 + d)) = true := by
        have : ringDist (s.qReg (64 + d) Off.DOCK_RING_SIZE) (s.queue (64 + d)).fetchIx b.tail ≠ 0 := by omega
        simp [he, hx, hf, this]
      simp only [exec_dockEntryRead, execDockEntryRead, hb]
      refine congrArg Host.Outcome.next ((if_neg some1).trans ?_)
      rw [read]
      exact if_neg (Nat.not_lt.mpr hext)
    case cqRecord =>
      intro cmd k hk hsrc hcl
      simp only [exec_completionRecordWrite, execCompletionRecordWrite, hk]
      exact congrArg Host.Outcome.next (if_pos ⟨hsrc ▸ q.isLt, by simp [hcl]⟩)
    case dockRecord =>
      intro cmd k hk hsrc hcl
      simp only [exec_dockCompletion, execDockCompletion, hk]
      exact congrArg Host.Outcome.next (if_pos ⟨hsrc, by simp [hcl]⟩)
  case record =>
    intro a hu hq
    simp only [exec_completionRecordWrite, execCompletionRecordWrite, hk]
    exact congrArg Host.Outcome.next ((if_pos ⟨hs, by simp [hcl]⟩).trans (State.nextRec_of_addr hs hc hr hl hf hd ho hv rfl hu hq))

end Sys2Proof.Machine
end

section
/-!
PROOF. Proofs/Commands.lean: commands are accepted in order, and the commands of the copy engine and of the queues act (R295,
R302 to R307, R318 to R326).
-/
namespace Sys2Proof.Machine

/-! ### Acceptance (R295, R321) -/

section Acceptance
variable {s : State} {h : HeadCmd}

/-- The state in which the command queues show which of some heads wait for their cores. -/
def State.showWaits (s : State) (hs : List HeadCmd) : State :=
  (hs.filter (fun h => s.mustWait h && decide (h.src < 64))).foldl (fun (t : State) h => t.setQStat h.src 3 true) s

theorem State.showWaits_of_none {hs : List HeadCmd} (hw : ∀ x ∈ hs, s.mustWait x = false) : s.showWaits hs = s := by
  have none : hs.filter (fun h => s.mustWait h && decide (h.src < 64)) = [] :=
    List.filter_eq_nil_iff.mpr fun x hx => by simp [hw x hx]
  rw [State.showWaits, none, List.foldl_nil]

/-- The first head that need not wait is accepted, unless an unread command comes before it. -/
theorem exec_commandAccept_of_some (hh : (((upTo 0 192).filterMap s.headOf).mergeSort HeadCmd.before).find? (fun x => !s.mustWait x) = some h) :
    exec .commandAccept s = .next (
      let t := s.showWaits (((upTo 0 192).filterMap s.headOf).mergeSort HeadCmd.before)
      if ((upTo 0 192).filterMap s.unread).any (fun u => u.before h) then t else t.accept h) := by
  simp only [exec_commandAccept, execCommandAccept, hh]
  rfl

theorem exec_commandAccept_of_none (hh : (((upTo 0 192).filterMap s.headOf).mergeSort HeadCmd.before).find? (fun x => !s.mustWait x) = none) :
    exec .commandAccept s = .next (s.showWaits (((upTo 0 192).filterMap s.headOf).mergeSort HeadCmd.before)) := by
  simp only [exec_commandAccept, execCommandAccept, hh]
  rfl

end Acceptance

/-- Settles O40; what waits and what is still to be read is log entry 27. -/
theorem commandsAreAcceptedInOrder : Obligations.CommandsAreAcceptedInOrder := by
  intro s h
  refine ⟨?first, ?unread, ?waits, ?none, ?poison, ?version, ?opcode⟩
  case first =>
    intro hh hw hu
    have order : ((upTo 0 192).filterMap s.unread).any (fun u => u.before h) = false :=
      List.any_eq_false.mpr fun x hx => ne_true_of_eq_false (hu x hx)
    rw [exec_commandAccept_of_some hh, State.showWaits_of_none fun x hx => hw x (List.mem_mergeSort.mp hx)]
    exact congrArg Host.Outcome.next (if_neg (ne_true_of_eq_false order))
  case unread =>
    intro x hx hb hone hw
    have order : ((upTo 0 192).filterMap s.unread).any (fun u => u.before h) = true := List.any_eq_true.mpr ⟨x, hx, hb⟩
    rw [exec_commandAccept_of_some (h := h) (by rw [hone]; simp [hw]), hone, State.showWaits_of_none (by simpa using hw)]
    exact congrArg Host.Outcome.next (if_pos order)
  case waits =>
    intro hone hw hs
    rw [exec_commandAccept_of_none (by rw [hone]; simp [hw]), hone]
    simp [State.showWaits, hw, hs]
  case none =>
    intro hnone
    rw [exec_commandAccept_of_none (by rw [hnone]; simp), hnone, State.showWaits_of_none (by simp)]
  case poison => exact fun hp => if_pos hp
  case version => exact fun hp hv => (if_neg (ne_true_of_eq_false hp)).trans (if_pos (.inl hv))
  case opcode =>
    intro hp hv ho
    refine (if_neg (ne_true_of_eq_false hp)).trans ((if_neg ?_).trans ((if_neg (by simp [ho])).trans (if_pos ?_)))
    · simp [hv, ho, cargoVersioned]
    · simp [entryRules, ho]

/-! ### WRITE_INLINE and COPY (R324, R325) -/

section Copies
variable {s : State}

theorem MapSame.mappedMem {s t : State} (h : MapSame s t) (a n : Nat) : t.mappedMem a n = s.mappedMem a n := by
  rw [State.mappedMem, State.rangeRegion, h.region, h.region, State.mappedMem, State.rangeRegion]

theorem State.CachesOnly.outDown {s t : State} (h : s.CachesOnly t) (a : Nat) : t.outDown a = s.outDown a := by
  have below : ∀ p, p < 2 → t.pcieUp p = s.pcieUp p := fun p hp => by
    rw [State.pcieUp, State.pcieUp, State.regN, State.regN, h.low _ (by revert p; decide)]
  rw [State.outDown, h.mapSame.region, below 0 (by decide), below 1 (by decide), State.outDown]

theorem State.engineRead_of_up {a n : Nat} (h : s.outDown a = false) :
    s.engineRead a n = (s.homeRead [(a, n)], (s.rdBytes a n, s.anyPoison a n)) :=
  if_neg (ne_true_of_eq_false h)

/-- A copy within the node, of data that can be read to where they can be written (R324). -/
theorem State.copyItem_of_local {k : Cmd} {j t src dst n : Nat} {b : Bytes} (ht : t = k.table + 32 * j) (hb : b = s.rdBytes t 32)
    (hsrc : src = fld b 0 8) (hdst : dst = fld b 8 8) (hn : n = fld b 16 8) (htd : s.outDown t = false) (htp : s.anyPoison t 32 = false)
    (h0 : 0 < n) (h40 : n ≤ 2 ^ 40) (hnode : fld b 24 4 = s.node) (hlocal : s.node < 0x7FFF) (hms : s.mappedMem src n = true)
    (hmd : s.mappedMem dst n = true) (hov : overlap (src, n) (dst, n) = false) (hsd : s.outDown src = false) (hdd : s.outDown dst = false)
    (hsp : s.anyPoison src n = false) (hq : s.cohReady [(t, 32)] = true) (hq' : s.cohReady [(src, n), (dst, n)] = true) :
    s.copyItem k j = (((((s.homeRead [(t, 32)]).updCmd k.id (·.run j)).homeRead [(src, n)]).engineWrite k.id dst
      (s.rdBytes src n)).updCmd k.id (·.addBytes j n)).endItem k.id j Status.DONE := by
  have caches : s.CachesOnly (s.homeRead [(t, 32)]) := State.viaHomes_cachesOnly s _ _ _
  generalize hv : (s.homeRead [(t, 32)]).updCmd k.id (·.run j) = v
  have map : MapSame s v := by rw [← hv]; exact caches.mapSame.trans (MapSame.of_regs rfl)
  have mem : v.mem = s.mem := by rw [← hv]; exact caches.mem
  have poison : v.poison = s.poison := by rw [← hv]; exact caches.poison
  have down (a : Nat) : v.outDown a = s.outDown a := by rw [← hv]; exact caches.outDown a
  have read : v.rdBytes src n = s.rdBytes src n := List.map_congr_left fun a _ => map.rd8 mem a
  have named : ¬(n = 0 ∨ 2 ^ 40 < n ∨ 2 ^ 15 ≤ fld b 24 4 ∨ fld b 24 4 = 0x7FFF ∨ (!v.mappedMem src n) = true ∨
      (fld b 24 4 = s.node ∧ ((!v.mappedMem dst n) = true ∨ overlap (src, n) (dst, n) = true))) := by
    rw [map.mappedMem, map.mappedMem, hms, hmd, hov, hnode]
    simp only [Bool.not_true, Bool.false_eq_true, or_self, and_false, or_false]
    omega
  subst hsrc hdst hn ht hb
  unfold State.copyItem
  dsimp only
  rw [State.engineRead_of_up htd]
  dsimp only
  rw [hv]
  refine (if_neg ?wait).trans ((if_neg (ne_true_of_eq_false htp)).trans ((if_neg named).trans ((if_neg ?reached).trans
    ((if_neg ?clean).trans ((if_pos hnode).trans ((if_neg ?open_).trans ?_))))))
  case wait => simp [hq, hq', hnode]
  case reached => simp [down, hsd, hdd]
  case clean => rw [map.anyPoison poison, hsp]; exact Bool.false_ne_true
  case open_ => rw [down, hdd]; exact Bool.false_ne_true
  rw [State.engineRead_of_up ((down _).trans hsd), read]

end Copies

/-! ### Placing a query (R303, R305) -/

/-- A placed query but for whether its slot is written. -/
def QueryRun.unwritten (x : QueryRun) : QueryRun := { x with written := false }

/-- Slots may have been written: of the commands, the registers and the placed queries that is all that differs. -/
structure State.SlotsWritten (s t : State) : Prop where
  cmds : t.cmds = s.cmds
  regs : t.regs = s.regs
  queries : t.queries.map QueryRun.unwritten = s.queries.map QueryRun.unwritten

theorem State.writeSlot_slotsWritten {s t : State} (h : s.SlotsWritten t) (x : QueryRun) : s.SlotsWritten (t.writeSlot x) := by
  unfold State.writeSlot
  split
  · exact h
  · dsimp only
    split
    · exact h
    · obtain ⟨m, q, e⟩ := State.lbWr_eq t (svcDesc _).core _ (inboxSlot _)
      rw [e]
      obtain ⟨m', q', e'⟩ := State.lbWr_eq { t with mem := m, poison := q } (svcDesc _).core _ _
      rw [e']
      refine ⟨h.cmds, h.regs, Eq.trans ?_ h.queries⟩
      rw [List.map_map]
      exact List.map_congr_left fun y _ => by
        rw [Function.comp_apply]
        split <;> rfl

section Placing
variable {s t : State} (h : s.SlotsWritten t)
include h

theorem State.SlotsWritten.any {p : QueryRun → Bool} (hp : ∀ x, p x.unwritten = p x) : t.queries.any p = s.queries.any p := by
  have each (l : List QueryRun) : (l.map QueryRun.unwritten).any p = l.any p := by
    rw [List.any_map]
    exact congrArg l.any (funext hp)
  rw [← each, h.queries, each]

theorem State.SlotsWritten.count {p : QueryRun → Bool} (hp : ∀ x, p x.unwritten = p x) :
    (t.queries.filter p).length = (s.queries.filter p).length := by
  have each (l : List QueryRun) : ((l.map QueryRun.unwritten).filter p).length = (l.filter p).length := by
    rw [List.filter_map, List.length_map]
    exact congrArg (fun q => (l.filter q).length) (funext hp)
  rw [← each, h.queries, each]

theorem State.SlotsWritten.queryWaits (k : Cmd) : t.queryWaits k = s.queryWaits k := by
  have now : t.now = s.now := State.regN_of_regs h.regs _
  have seq (c : Nat) : t.seqState c = s.seqState c := by rw [State.seqState, State.field, State.regN_of_regs h.regs]; rfl
  unfold State.queryWaits
  dsimp only
  rw [now, seq, h.count fun _ => rfl, h.count fun _ => rfl]

end Placing

/-- The one query that waits to be placed is placed, if its batch has room. -/
theorem exec_queryPlace_of_one {s : State} {k : Cmd}
    (hone : s.cmds.filter (fun k => k.opcode == 8 && !k.allEnded && !s.queries.any (·.cmd == k.id)) = [k]) (hb : k.begun = true)
    (hw : s.queryWaits k = false) :
    exec .queryPlace s = .next ((s.queries.foldl (fun (t : State) x => t.writeSlot x) s).placeQuery k) := by
  have written : s.SlotsWritten (s.queries.foldl (fun (t : State) x => t.writeSlot x) s) :=
    List.foldlRecOn (motive := s.SlotsWritten) _ _ ⟨rfl, rfl, rfl⟩ fun t ht x _ => State.writeSlot_slotsWritten ht x
  generalize hu : s.queries.foldl (fun (t : State) x => t.writeSlot x) s = u at written
  have one : u.cmds.filter (fun k => k.opcode == 8 && !k.allEnded && !u.queries.any (·.cmd == k.id)) = [k] := by
    rw [written.cmds, ← hone]
    exact congrArg s.cmds.filter (funext fun y => by rw [written.any fun _ => rfl])
  have room : u.queryWaits k = false := (written.queryWaits k).trans hw
  simp only [exec_queryPlace, execQueryPlace, hu, one, List.takeWhile_cons, hb, List.takeWhile_nil, if_true, List.find?_cons, room, Bool.not_false,
    List.filter_cons, Bool.false_and, Bool.false_eq_true, if_false, List.filter_nil, List.foldl_nil]

/-- Settles O41; a command's first boundary after START is log entry 26, the order of its items log entry 27. -/
theorem commandsAct : Obligations.CommandsAct := by
  intro s cmd k
  refine ⟨?inline, ?copy, ?items, ?fence, ?fenceWaits, ?nop, ?query, ?place, ?collect⟩
  case inline =>
    intro hk a n h1 h448 hm hd hq u
    have sound : ¬(fld k.cargo 8 2 = 0 ∨ 448 < fld k.cargo 8 2 ∨ (!s.mappedMem (fld k.cargo 0 8) (fld k.cargo 8 2)) = true) := by
      have hm' : s.mappedMem (fld k.cargo 0 8) (fld k.cargo 8 2) = true := hm
      rw [hm']
      simp only [Bool.not_true, Bool.false_eq_true, or_false]
      exact fun h => by omega
    simp only [exec_writeInline, execWriteInline, hk]
    exact congrArg Host.Outcome.next ((if_neg sound).trans ((if_neg (ne_true_of_eq_false hd)).trans (if_neg (by simpa using hq))))
  case copy =>
    intro hk
    simp only [exec_copy, execCopy, hk]
  case items =>
    intro hk ho hb he hj hc hne hid
    have turn : (k.opcode ≠ 3 || !k.begun || k.allEnded || decide (k.items ≤ k.running.length) || decide (8 ≤ s.copyBusy)) = false := by
      simp [ho, hb, he, hj, hc]
    have runs : exec (.copyItem cmd) s = .next (s.copyItem k k.running.length) := by
      simp only [exec_copyItem, execCopyItem, hk]
      exact congrArg Host.Outcome.next ((if_neg (ne_true_of_eq_false turn)).trans (if_neg (ne_true_of_eq_false hne)))
    refine ⟨runs, ?_⟩
    intro j t b src dst n htd htp h0 h40 hnode hl hms hmd hov hsd hdd hsp hq hq'
    exact runs.trans (congrArg _ (State.copyItem_of_local rfl rfl rfl rfl rfl htd htp h0 h40 hnode hl hms hmd hov hsd hdd hsp hq hq'))
  case fence =>
    intro hk hall
    have done : s.cmds.any (fun x => decide (x.id < cmd) && !s.recWritten x && (k.fenceAll || x.src == k.src)) = false :=
      List.any_eq_false.mpr fun x hx e => by
        simp only [Bool.and_eq_true, decide_eq_true_eq, Bool.not_eq_true', Bool.or_eq_true, beq_iff_eq] at e
        obtain ⟨⟨hlt, hw⟩, hsame⟩ := e
        rw [hall x hx hlt hsame.symm] at hw
        exact Bool.noConfusion hw
    simp only [exec_fence, execFence, hk, done, Bool.false_eq_true, if_false]
  case fenceWaits =>
    intro x hk hx hlt hsrc hw
    have open_ : s.cmds.any (fun x => decide (x.id < cmd) && !s.recWritten x && (k.fenceAll || x.src == k.src)) = true :=
      List.any_eq_true.mpr ⟨x, hx, by simp [hlt, hw, hsrc]⟩
    simp only [exec_fence, execFence, hk, open_, if_true]
  case nop =>
    intro hk hs ha
    simp only [exec_nop, execNop, hk]
    exact congrArg Host.Outcome.next (if_pos (Nat.max_lt.mpr ⟨hs, ha⟩))
  case query =>
    intro hk hq hd hp hok hsvc
    simp only [exec_query, execQuery, hk, State.engineRead_of_up hd, hq, hp, hok, hsvc, Bool.not_true, Bool.or_self, Bool.false_eq_true, if_false]
  case place => exact exec_queryPlace_of_one
  case collect =>
    intro x hx hk he hst hp hm hd hq
    simp only [exec_queryResultCollect, execQueryResultCollect, hx, hk, he, hst, hp, hm, hd, hq, ne_eq, not_true_eq_false, Bool.not_true,
      Bool.false_eq_true, if_false]

end Sys2Proof.Machine
end

section
/-!
PROOF. Proofs/Pcie.lean: the PCIe ports carry accesses and lose the host (R309 to R314, R334 to R340).
-/
namespace Sys2Proof.Machine

/-! ### The loss of a link (R335) -/

section Loss
variable {s : State} {p : PcieIx}

theorem State.regN_logCorr (s : State) {page o : Nat} (hp : page % 4096 = 0) (ho : o ∉ errRegs page ++ logRegs) (code : Nat) :
    (s.logCorr page code).regN o = s.regN o :=
  congrArg BitVec.toNat ((s.logErr_frame hp code clsCorr LogInfo.none (by decide)).2.2 o ho)

theorem State.regN_bump_ne {page off o : Nat} (h : o ≠ page + off) (n : Nat) : (s.bump page off n).regN o = s.regN o := by
  unfold State.bump State.bumpW
  split
  · rfl
  · exact State.regN_setRegN_ne s h _

/-- Clearing the low bits leaves the bits beyond them. -/
theorem bit_setBits_zero {v hi i : Nat} (h : hi < i) : bit (setBits v hi 0 0) i = bit v i := by
  have cleared : setBits v hi 0 0 = (v >>> (hi + 1)) <<< (hi + 1) := by simp [setBits, Nat.mod_one]
  rw [bit, bit, cleared, Nat.testBit_shiftLeft, Nat.testBit_shiftRight, Nat.add_sub_cancel' (by omega)]
  simp [h]

/-- Port A stays what it was: the loss clears status bits 9 to 0, and counts and logs elsewhere. -/
theorem State.rootMode_of_loss (w : s.Wf) (x : PcieSt) :
    ((({ s.setField (pPCIE 0 + Off.PCIE_STAT) 9 0 0 with pcie := x } : State).bump (pPCIE 0) Off.PCIE_DOWN_CNT 1).logCorr (pPCIE 0) 0x02).rootMode
      = s.rootMode := by
  have kept : ((({ s.setField (pPCIE 0 + Off.PCIE_STAT) 9 0 0 with pcie := x } : State).bump (pPCIE 0) Off.PCIE_DOWN_CNT 1).logCorr
      (pPCIE 0) 0x02).regN (pPCIE 0 + Off.PCIE_STAT) = (s.setField (pPCIE 0 + Off.PCIE_STAT) 9 0 0).regN (pPCIE 0 + Off.PCIE_STAT) :=
    (State.regN_logCorr _ (pg_aligned _ _) (by decide) _).trans (State.regN_bump_ne (by decide) 1)
  rw [State.rootMode, show pg .pcie 0 = pPCIE 0 from rfl, kept, State.setField, State.regN_setRegN_self w, bit, Nat.testBit_mod_two_pow]
  exact (congrArg (true && ·) (bit_setBits_zero (by decide))).trans (Bool.true_and _)

end Loss

/-! ### Accesses -/

theorem MapSame.devMem {s t : State} (h : MapSame s t) (a n : Nat) : t.devMem a n = s.devMem a n := by
  rw [State.devMem, State.rangeRegion, h.region, h.region, State.devMem, State.rangeRegion]

/-- Whether an access can be served is told by the address map and the caches. -/
theorem MapSame.cohReady {s t : State} (h : MapSame s t) (hc : t.coh = s.coh) (rs : List (Nat × Nat)) : t.cohReady rs = s.cohReady rs := by
  have lines : t.cohLines rs = s.cohLines rs := by
    unfold State.cohLines
    simp only [h.devMem]
  rw [State.cohReady, hc, lines, State.cohReady]

theorem State.bump_coh (s : State) (page off n : Nat) : (s.bump page off n).coh = s.coh := by
  unfold State.bump State.bumpW
  split <;> rfl

section Accesses
variable {s : State} {off n len a : Nat} {wr : Bool} {data : Bytes}

/-- A host access that BAR2 reaches and whose lines are ready moves its bytes (R314). -/
theorem exec_bar2Access_of_ready (ha : a = s.regN (pPCIE 0 + Off.PCIE_BAR2_BASE) + off) (hl : len = if wr then data.length else n)
    (hr : s.rootMode = false) (hu : s.pcieUp 0 = true) (h1 : 1 ≤ len) (h4096 : len ≤ 4096) (hb : off + len ≤ 2 ^ s.pcie.bar2)
    (hm : s.devMem a len = true) (hq : s.cohReady [(a, len)] = true) :
    exec (.bar2Access off n wr data .none) s = .next (
      if wr then ((s.homeWrite [(a, len)]).wrBytes a data).bump64 (pPCIE 0) Off.PCIE_RX_BYTES len
      else ((s.homeRead [(a, len)]).bump64 (pPCIE 0) Off.PCIE_TX_BYTES len).answered (s.rdBytes a len) (s.anyPoison a len) false) := by
  have sound : ¬(4096 < len ∨ TlpFault.none = .malformed ∨ TlpFault.none = .ecrc) := by simp [Nat.not_lt.mpr h4096]
  have within : ¬(s.rootMode || !s.pcieUp 0 || decide (2 ^ s.pcie.bar2 < off + len)) = true := by simp [hr, hu, Nat.not_lt.mpr hb]
  have there : ¬(!(s.devMem a (max len 1) || s.rangeRegion a (max len 1) == some .land)) = true := by
    rw [Nat.max_eq_left h1, hm]
    exact Bool.false_ne_true
  have ready : ¬(!s.cohReady [(a, len)]) = true := by simp [hq]
  subst ha hl
  refine congrArg _ ((if_neg sound).trans ((if_neg within).trans ((if_neg there).trans ((if_neg ready).trans ?_))))
  cases wr <;> rfl

/-- A device access to a half of the outbound window whose port is up moves its bytes (R310). -/
theorem exec_outboundAccess_of_up (hl : len = if wr then data.length else n) (h1 : 1 ≤ len) (hlo : 0xE000000000000 ≤ a)
    (hhi : a < 0xF000000000000) (hreg : (s.rangeRegion a len).isSome = true) (hu : s.outDown a = false) :
    exec (.outboundAccess a n wr data none) s = .next (
      if wr then (s.wrBytes a data).bump64 (pPCIE (outPort a)) Off.PCIE_TX_BYTES len
      else (s.bump64 (pPCIE (outPort a)) Off.PCIE_RX_BYTES len).answered (s.rdBytes a len) (s.anyPoison a len) false) := by
  have window : ¬(a < 0xE000000000000 ∨ 0xF000000000000 ≤ a) := by omega
  have half : ¬(s.rangeRegion a (max len 1)).isNone = true := by
    rw [Nat.max_eq_left h1, Option.isNone_eq_false_iff.mpr hreg]
    exact Bool.false_ne_true
  subst hl
  exact congrArg _ ((if_neg window).trans ((if_neg half).trans (if_neg (ne_true_of_eq_false hu))))

/-- With its port down a read answers poison. -/
theorem exec_outboundAccess_of_down (h1 : 1 ≤ n) (hlo : 0xE000000000000 ≤ a) (hhi : a < 0xF000000000000)
    (hreg : (s.rangeRegion a n).isSome = true) (hu : s.outDown a = true) :
    exec (.outboundAccess a n false [] none) s = .next ((s.logDown a).answered (rep n 0) true false) := by
  have window : ¬(a < 0xE000000000000 ∨ 0xF000000000000 ≤ a) := by omega
  have half : ¬(s.rangeRegion a (max n 1)).isNone = true := by
    rw [Nat.max_eq_left h1, Option.isNone_eq_false_iff.mpr hreg]
    exact Bool.false_ne_true
  exact congrArg _ ((if_neg window).trans ((if_neg half).trans (if_pos hu)))

/-- The address map rests on no register of the PCIe pages. -/
theorem MapSame.bump_aer (s : State) (p : PcieIx) : MapSame s (s.bump (pPCIE p) Off.PCIE_AER_CNT 1) := by
  have far : ∀ p : PcieIx, pg .hbmc 0 + Off.HBMC_MAP ≠ pPCIE p + Off.PCIE_AER_CNT ∧ pg .lpdc 0 + Off.LPDC_STAT ≠ pPCIE p + Off.PCIE_AER_CNT
      ∧ pg .lpdc 0 + Off.LPDC_TIER ≠ pPCIE p + Off.PCIE_AER_CNT := by decide
  unfold State.bump State.bumpW
  split
  · exact MapSame.of_regs rfl
  · exact MapSame.setReg s _ (far p).1 (far p).2.1 (far p).2.2

end Accesses

/-- Settles O42; what the loss of the host fails is log entry 29, and the accesses that wait for their lines are log entry 73. -/
theorem pciePortsCarryAndLoseTheHost : Obligations.PciePortsCarryAndLoseTheHost := by
  intro s p
  dsimp only
  refine ⟨?train, fun h => congrArg _ (if_pos h), ?lossB, ?lossA, fun h => congrArg _ (if_pos h), ?abort, ?bar2, ?outbound, fun a n => rfl, rfl,
    ?timeout, ?poisoned, fun v => rfl, ?ctrl⟩
  case train =>
    intro gen w hg hw hu hd hp
    exact congrArg _ (if_neg (by simp [hg, hw, hu, hd, hp]))
  case lossB =>
    intro why cut hu hp
    have asleep : ¬(!s.pcieUp p && (!(p.val == 0 && s.pcie.d3) || why == .d3hot)) = true := by simp [hu]
    have portB : ¬(why = .d3hot ∧ p.val = 0) := by omega
    have awake : (s.pcie.d3 && p.val != 0) = s.pcie.d3 := by simp [hp]
    refine congrArg _ ((if_neg asleep).trans ?_)
    dsimp only
    rw [if_neg portB, awake]
    exact if_pos (.inl hp)
  case lossA =>
    intro why w hu hwhy hp hr
    obtain rfl : p = 0 := Fin.ext hp
    have asleep : ¬(!s.pcieUp 0 && (!(((0 : PcieIx) : Nat) == 0 && s.pcie.d3) || why == .d3hot)) = true := by
      rw [show s.pcieUp 0 = true from hu]
      exact Bool.false_ne_true
    have other : ¬(why = .d3hot ∧ ((0 : PcieIx) : Nat) = 0) := fun h => hwhy h.1
    have woken : (s.pcie.d3 && ((0 : PcieIx) : Nat) != 0) = false := Bool.and_false _
    refine congrArg _ ((if_neg asleep).trans ?_)
    dsimp only
    rw [if_neg other, woken]
    refine if_neg ?_
    rintro (h | h)
    · exact absurd h (by decide)
    · exact absurd ((State.rootMode_of_loss w _).symm.trans h) (ne_true_of_eq_false hr)
  case abort =>
    intro t ht hn
    simp only [exec_hostDetachAbort, execHostDetachAbort, ht]
    exact congrArg Host.Outcome.next (if_neg (Nat.not_le.mpr hn))
  case bar2 =>
    intro off n data hr hu h1 h4096 hb hm hq
    exact ⟨exec_bar2Access_of_ready rfl rfl hr hu h1 h4096 hb hm hq,
      fun hd => exec_bar2Access_of_ready rfl hd.symm hr hu h1 h4096 hb hm hq⟩
  case outbound =>
    intro a n h1 hlo hhi hreg
    exact ⟨exec_outboundAccess_of_down h1 hlo hhi hreg, exec_outboundAccess_of_up rfl h1 hlo hhi hreg,
      fun data hd => exec_outboundAccess_of_up hd.symm h1 hlo hhi hreg⟩
  case timeout =>
    intro cmd j k hk hcl he hj
    simp only [exec_pcieCplTimeout, execPcieCplTimeout, hk]
    exact congrArg Host.Outcome.next (if_neg (by simp [hcl, he, hj]))
  case poisoned =>
    intro a n hm hq
    have map := MapSame.bump_aer s p
    have ready : ¬(!(s.bump (pPCIE p) Off.PCIE_AER_CNT 1).cohReady [(a, max n 1)]) = true := by
      rw [map.cohReady (State.bump_coh _ _ _ _), hq]
      exact Bool.false_ne_true
    exact congrArg _ ((if_neg ready).trans (if_pos (by rw [map.devMem, hm]; rfl)))
  case ctrl =>
    intro v hp hj
    have policy : (if p.val = 0 then bits v.toNat 1 0 else bits v.toNat 1 1 * 2) = bits v.toNat 1 0 := if_pos hp
    rw [exec_pcieCtrlWrite, execPcieCtrlWrite]
    rw [policy]
    exact congrArg Host.Outcome.next (if_neg (by simp [hj]))

end Sys2Proof.Machine
end

section
/-!
PROOF. Proofs/Flits.lean: what a flit carries, and the data link that accepts, acknowledges and replays flits (R343 to R350,
R362 to R364).
-/
namespace Sys2Proof.Machine

/-! ### The fields of a flit (R343 to R345) -/

theorem leNat_natLE (n v : Nat) : leNat (natLE n v) = v % 256 ^ n := by
  induction n generalizing v with
  | zero => simp [natLE, leNat, Nat.mod_one]
  | succ n ih =>
    rw [natLE, leNat, ih, BitVec.toNat_ofNat, show 2 ^ 8 = 256 from rfl, Nat.pow_succ', Nat.mod_mul]

theorem crcByte_lt {w p : Nat} (hp : p < 2 ^ w) (r : Nat) (b : Byte) : crcByte w p r b < 2 ^ w := by
  have step (x : Nat) : crcStep w p x < 2 ^ w := by
    have shifted : x * 2 % 2 ^ w < 2 ^ w := Nat.mod_lt _ (Nat.two_pow_pos w)
    unfold crcStep
    split
    · exact Nat.xor_lt_two_pow shifted hp
    · exact shifted
  exact step _

theorem crc64_lt (bs : Bytes) : crc64 bs < 2 ^ 64 :=
  List.foldlRecOn (motive := (· < 2 ^ 64)) bs _ (by decide) fun _ _ _ _ => crcByte_lt (by decide) _ _

/-- The header word of a flit. -/
def flitWord (typ vc seq cv cn stamp : Nat) (late : Bool) : Nat :=
  typ % 64 + vc % 8 * 2 ^ 6 + seq % 4096 * 2 ^ 9 + cv % 8 * 2 ^ 21 + cn % 8192 * 2 ^ 24 + b2n late * 2 ^ 37 + stamp % 65536 * 2 ^ 38

/-- The payload of a flit, filled up. -/
def flitFill (payload : Bytes) : Bytes := (payload ++ rep 240 (0 : Byte)).take 240

theorem length_flitFill (payload : Bytes) : (flitFill payload).length = 240 := by
  rw [flitFill, List.length_take, List.length_append, rep, List.length_replicate]
  omega

section Fields
variable {typ vc seq cv cn stamp : Nat} {late : Bool} {payload : Bytes}

theorem mkFlit_eq : mkFlit typ vc seq cv cn late stamp payload =
    natLE 8 (flitWord typ vc seq cv cn stamp late) ++ flitFill payload
      ++ natLE 8 (crc64 (natLE 8 (flitWord typ vc seq cv cn stamp late) ++ flitFill payload)) := rfl

theorem b2n_le_one (b : Bool) : b2n b ≤ 1 := by cases b <;> decide

theorem flitWord_lt : flitWord typ vc seq cv cn stamp late < 2 ^ 54 := by
  have := b2n_le_one late
  unfold flitWord
  omega

theorem length_mkFlit : (mkFlit typ vc seq cv cn late stamp payload).length = 256 := by
  simp [mkFlit_eq, length_natLE, length_flitFill]

theorem flitHdr_mkFlit : flitHdr (mkFlit typ vc seq cv cn late stamp payload) = flitWord typ vc seq cv cn stamp late := by
  have small : flitWord typ vc seq cv cn stamp late < 256 ^ 8 := Nat.lt_trans flitWord_lt (by decide)
  rw [flitHdr, mkFlit_eq, List.append_assoc, List.take_left' (length_natLE _ _), leNat_natLE, Nat.mod_eq_of_lt small]

theorem flitOk_mkFlit : flitOk (mkFlit typ vc seq cv cn late stamp payload) = true := by
  have body : (natLE 8 (flitWord typ vc seq cv cn stamp late) ++ flitFill payload).length = 248 := by
    simp [length_natLE, length_flitFill]
  rw [flitOk, mkFlit_eq, List.take_left' body, List.drop_left' body, leNat_natLE,
    Nat.mod_eq_of_lt (show _ < 256 ^ 8 from crc64_lt _)]
  exact beq_self_eq_true _

theorem flitPayload_mkFlit : flitPayload (mkFlit typ vc seq cv cn late stamp payload) = flitFill payload := by
  rw [flitPayload, mkFlit_eq, List.append_assoc, List.drop_left' (length_natLE _ _), List.take_left' (length_flitFill _)]

theorem flitFill_of_short (h : payload.length ≤ 240) : flitFill payload = payload ++ rep (240 - payload.length) 0 := by
  rw [flitFill, List.take_append, List.take_of_length_le h, rep, List.take_replicate, Nat.min_eq_left (Nat.sub_le _ _), rep]

end Fields

/-- Settles O45. -/
theorem flitsCarryTheirFields : Obligations.FlitsCarryTheirFields := by
  intro typ vc seq cv cn stamp late payload htyp hvc hseq hcv hcn hstamp hlen b
  have bound := b2n_le_one late
  have field (hi lo : Nat) : bits (flitHdr b) hi lo = flitWord typ vc seq cv cn stamp late / 2 ^ lo % 2 ^ (hi + 1 - lo) := by
    rw [flitHdr_mkFlit, bits, Nat.shiftRight_eq_div_pow]
  refine ⟨length_mkFlit, flitOk_mkFlit, ?_, ?_, ?_, ?_, ?_, ?late, ?_, ?_, flitPayload_mkFlit.trans (flitFill_of_short hlen)⟩
  case late =>
    rw [flitLate, flitHdr_mkFlit, bit, Nat.testBit_eq_decide_div_mod_eq]
    have place : flitWord typ vc seq cv cn stamp late / 2 ^ 37 % 2 = b2n late := by
      unfold flitWord
      omega
    rw [place]
    cases late <;> rfl
  all_goals
    refine (field _ _).trans ?_
    unfold flitWord
    omega

end Sys2Proof.Machine
end

section
/-!
PROOF. Proofs/Link.lean: the Sundlink data link, a port's frames in Ethernet mode, and how a port trains, retrains and leaves
(R347 to R350, R356 to R368).
-/
namespace Sys2Proof.Machine

/-! ### Link flits (R346, R349, R364) -/

section LinkFlits
variable {s : State} {p : PortIx} {b : Bytes}

/-- A link flit on VC 0 with no late notice and no reserved bit acts at once. -/
theorem State.linkFlit_of_plain {typ : Nat} {f : State → State} (ht : s.trained p = true) (hok : flitOk b = true) (hty : flitType b = typ)
    (hvc : flitVC b = 0) (hl : flitLate b = false) (hr : flitRsvd b = 0) : s.linkFlit p typ b f = f s := by
  have mine : ¬(!s.trained p || !flitOk b || flitType b != typ) = true := by simp [ht, hok, hty]
  have header : s.linkHdr p b = s := by
    rw [State.linkHdr, if_neg (ne_true_of_eq_false hl), if_neg (not_not.mpr hr)]
  exact (if_neg mine).trans ((if_neg (not_not.mpr hvc)).trans (congrArg f header))

/-- One on another VC is a violation. -/
theorem State.linkFlit_of_vc {typ : Nat} {f : State → State} (ht : s.trained p = true) (hok : flitOk b = true) (hty : flitType b = typ)
    (hvc : flitVC b ≠ 0) : s.linkFlit p typ b f = s.viol p 0x03 (flitVC b) := by
  have mine : ¬(!s.trained p || !flitOk b || flitType b != typ) = true := by simp [ht, hok, hty]
  exact (if_neg mine).trans (if_pos hvc)

theorem State.takeCredits_of_zero (h : flitCrN b = 0) : s.takeCredits p b = s := if_pos h

/-- The expected flit with a buffer free is delivered, or discarded as a violation (R349, R364). -/
theorem exec_flitAccept_of_expected {typ vc : Nat} (hlen : b.length = 256) (ht : s.trained p = true) (hok : flitOk b = true)
    (hty : flitType b = typ) (hlink : isLink typ = false) (hnull : typ ≠ 0x08) (hvc : vc = flitVC b) (hseq : flitSeq b = (s.port p).rxSeq)
    (hfree : vc < 6 → (s.port p).rxFree vc ≠ 0) :
    exec (.flitAccept p b) s = .next (
      let u := s.acceptSeq p b
      let u := if flitLate b then u.lateRx p (fullTick u.now (flitStamp b)) else u
      if seqVC typ = some vc then
        let st := if flitLate b then u.now else fullTick u.now (flitStamp b)
        let v := if (typ = 0x10 ∨ typ = 0x18) && u.stampOut st then u.logCorr (pSLNK p) 0x07 else u
        v.setPort p { v.port p with
          rxq := (v.port p).rxq ++ [{ typ := typ, vc := vc, payload := flitPayload b, stamp := st, tick := v.now }] }
      else (u.freed p vc).viol p 0x03 vc) := by
  subst hty hvc
  have expected : ¬(!s.trained p || !flitOk b || isLink (flitType b) || flitType b == 0x08 || flitSeq b != (s.port p).rxSeq) = true := by
    simp [ht, hok, hlink, hnull, hseq]
  have buffer : ¬(decide (flitVC b < 6) && (s.port p).rxFree (flitVC b) == 0) = true := by simpa using hfree
  rw [exec_flitAccept, execFlitAccept, fit_of_length 0 hlen]
  exact congrArg Host.Outcome.next ((if_neg expected).trans (if_neg buffer))

end LinkFlits

/-- Settles O43; how many flits a CREDIT_SYNC counts as sent is log entry 30. -/
theorem flitsAreAcceptedAcknowledgedAndReplayed : Obligations.FlitsAreAcceptedAcknowledgedAndReplayed := by
  intro s p b hlen ht
  dsimp only
  have fits : fit 256 0 b = b := fit_of_length 0 hlen
  have up : s.pup p = true := (Bool.and_eq_true_iff.mp ht).1
  have sundlink : s.peth p = false := by simpa using (Bool.and_eq_true_iff.mp ht).2
  refine ⟨?accept, ?null, ?crc, ?gap, ?ack, ?nak, ?sync, ?credits, ?creditsVc, ?ackTimer, ?idle, ?replay, ?exhausted, ?granted⟩
  case accept =>
    intro typ vc hg hlink hnull hvc hseq hfree
    refine ⟨fun hv => ?_, fun hv => ?_⟩ <;>
      refine (exec_flitAccept_of_expected hlen ht hg.1 hg.2 hlink hnull hvc hseq hfree).trans (congrArg Host.Outcome.next ?_)
    · refine (if_pos hv).trans ?_
      simp only [Bool.and_eq_true, decide_eq_true_eq]
    · exact if_neg hv
  case null =>
    intro hg hseq hvc hl
    have expected : ¬(!s.trained p || !flitOk b || flitType b != 0x08 || flitSeq b != (s.port p).rxSeq) = true := by
      simp [ht, hg.1, hg.2, hseq]
    rw [exec_nullFlitRx, execNullFlitRx, fits]
    exact congrArg Host.Outcome.next ((if_neg expected).trans ((if_neg (not_not.mpr hvc)).trans (if_pos hl)))
  case crc =>
    intro hok
    rw [exec_flitCrcError, execFlitCrcError, fits]
    exact congrArg Host.Outcome.next ((if_neg (by simp [ht])).trans (if_pos (by simp [hok])))
  case gap =>
    intro hok hlink hseq hfar
    rw [exec_flitCrcError, execFlitCrcError, fits]
    exact congrArg Host.Outcome.next ((if_neg (by simp [ht])).trans ((if_neg (by simp [hok])).trans
      ((if_neg (ne_true_of_eq_false hlink)).trans ((if_neg hseq).trans (if_neg (Nat.not_le.mpr hfar))))))
  case ack =>
    rintro ⟨⟨hok, hty⟩, hvc, hl, hr, hn⟩ ho
    rw [exec_ackRx, execAckRx, fits]
    refine congrArg Host.Outcome.next ((State.linkFlit_of_plain ht hok hty hvc hl hr).trans ?_)
    rw [State.takeCredits_of_zero hn]
    exact if_pos ho
  case nak =>
    rintro ⟨⟨hok, hty⟩, hvc, hl, hr, hn⟩ ho
    rw [exec_nakRx, execNakRx, fits]
    refine congrArg Host.Outcome.next ((State.linkFlit_of_plain ht hok hty hvc hl hr).trans ?_)
    rw [State.takeCredits_of_zero hn]
    exact if_pos ho
  case sync =>
    rintro ⟨⟨hok, hty⟩, hvc, hl, hr, -⟩
    rw [exec_creditSyncRx, execCreditSyncRx, fits]
    exact congrArg Host.Outcome.next (State.linkFlit_of_plain ht hok hty hvc hl hr)
  case credits =>
    rintro ⟨hok, hty⟩ hvc hl hr
    rw [exec_creditReturn, execCreditReturn, fits]
    exact congrArg Host.Outcome.next (State.linkFlit_of_plain ht hok hty hvc hl hr)
  case creditsVc =>
    rintro ⟨hok, hty⟩ hvc
    rw [exec_creditReturn, execCreditReturn, fits]
    exact congrArg Host.Outcome.next (State.linkFlit_of_vc ht hok hty hvc)
  case ackTimer => exact fun hu => congrArg _ ((if_neg (by simp [ht])).trans (if_pos hu))
  case idle => exact fun hu ho => congrArg _ ((if_neg (by simp [ht])).trans ((if_neg (by omega)).trans (if_pos ho)))
  case replay => exact congrArg _ (if_pos ht)
  case exhausted => exact fun hs => congrArg _ (if_pos (by simp [up, hs]))
  case granted => exact congrArg _ ((if_neg (by simp [up])).trans (if_neg (ne_true_of_eq_false sundlink)))

/-! ### Ethernet mode (R362, R363) -/

/-- Settles O44; that frames not acknowledged are sent again is log entry 31, and that no flit is taken log entry 39. -/
theorem ethernetPortsCarryFrames : Obligations.EthernetPortsCarryFrames := by
  intro s p b hu he
  refine ⟨congrArg _ ((if_neg (by simp [hu])).trans (if_pos he)), congrArg _ (if_pos (by simp [hu, he])),
    congrArg _ (if_pos (by simp [State.trained, he])), fun hlen hver hack => ?_⟩
  exact congrArg _ ((if_neg (by simp [hu, he, hlen, hver])).trans (if_pos (.inl hack)))

/-! ### Training, retraining, leaving (R356 to R368) -/

/-- Settles O46; what a port that is down keeps is log entry 30. -/
theorem portsTrainRetrainAndLeave : Obligations.PortsTrainRetrainAndLeave := by
  intro s p
  dsimp only
  refine ⟨?train, ?step, ?flit, ?record, fun h => congrArg _ (if_pos h), ?locked, ?relocked, ?retrain, ?quarantine, ?cleared, ?down,
    ?failed, ?node, ?nodeBusy, rfl⟩
  case train =>
    intro hp hm hs
    exact congrArg _ (if_pos (by rcases hs with hs | hs <;> simp [hp, hm, hs]))
  case step => exact fun h1 hl => congrArg _ (if_pos ⟨h1, hl⟩)
  case flit => exact fun h1 hl he => congrArg _ (if_pos ⟨h1, hl, by simp [he]⟩)
  case record =>
    intro b hlen hok hty hvc h1 hl hs
    have down : ¬s.trained p = true := by simp [State.trained, State.pup, h1]
    have mine : ¬(!flitOk b || flitType b != 0x04) = true := by simp [hok, hty]
    rw [exec_trainFlitRx, execTrainFlitRx, fit_of_length 0 hlen, if_neg mine, if_neg down, if_neg fun h => h.2 hvc, if_pos ⟨h1, hl⟩]
    simp only [hs, Bool.and_self, Bool.or_true, if_true]
  case locked => exact fun h => congrArg _ (if_pos h)
  case relocked => exact fun h => congrArg _ ((if_neg (by rw [h]; decide)).trans (if_pos h))
  case retrain => exact fun h => ⟨congrArg _ (if_pos h), congrArg _ (if_pos h), congrArg _ (if_pos h)⟩
  case quarantine => exact fun hv hs => congrArg _ (if_pos ⟨hv, hs⟩)
  case cleared => exact fun h hm => congrArg _ ((if_pos h).trans (if_pos hm))
  case down => exact fun h => congrArg _ ((if_neg (by rw [h]; decide)).trans (if_pos (.inl h)))
  case failed => exact fun h => congrArg _ (if_pos ⟨h, rfl⟩)
  case node =>
    intro v h
    have down : (upTo 0 18).all (fun p => s.pstate p == 0) = true :=
      List.all_eq_true.mpr fun k hk => beq_iff_eq.mpr (h k (by simpa using lt_add_of_mem_upTo hk))
    exact congrArg _ (if_pos down)
  case nodeBusy =>
    rintro v ⟨k, hk, hs⟩
    have up : (upTo 0 18).all (fun p => s.pstate p == 0) = false :=
      List.all_eq_false.mpr ⟨k, by interval_cases k <;> decide, by simpa using hs⟩
    exact congrArg _ (if_neg (ne_true_of_eq_false up))

end Sys2Proof.Machine
end

section
/-!
PROOF. Proofs/Route.lean: the messages and streams that the links carry (R353 to R357, R364, R372, R450).
-/
namespace Sys2Proof.Machine

theorem ne_page_add {page o k : Nat} (hp : page % 4096 = 0) (h : o % 4096 ≠ k % 4096) : o ≠ page + k := by omega

/-! ### What consuming a flit and noting its header leave -/

/-- The node ID, the messages sent and the messages coming in are the same. -/
structure State.SameRouting (s t : State) : Prop where
  node : t.node = s.node
  msgs : t.msgs = s.msgs
  inMsgs : t.inMsgs = s.inMsgs

theorem State.SameRouting.trans {s t u : State} (h : s.SameRouting t) (k : t.SameRouting u) : s.SameRouting u :=
  ⟨k.node.trans h.node, k.msgs.trans h.msgs, k.inMsgs.trans h.inMsgs⟩

theorem State.setPort_sameRouting (s : State) (p : Nat) (x : PortSt) : s.SameRouting (s.setPort p x) := ⟨rfl, rfl, rfl⟩

/-- A consumed flit frees its buffer: only the port changes. -/
theorem State.dropRx_ports (s : State) (p : Nat) (f : RxFlit) : ∃ ports, s.dropRx p f = { s with ports := ports } := by
  unfold State.dropRx State.freed
  split
  · exact ⟨_, rfl⟩
  · exact ⟨_, rfl⟩

theorem State.dropRx_sameRouting (s : State) (p : Nat) (f : RxFlit) : s.SameRouting (s.dropRx p f) := by
  obtain ⟨ports, e⟩ := s.dropRx_ports p f
  exact e ▸ ⟨rfl, rfl, rfl⟩

theorem State.setRegN_sameRouting (s : State) {o : Nat} (h : pSLNK 0 + Off.SLNK_NODE ≠ o) (v : Nat) : s.SameRouting (s.setRegN o v) :=
  ⟨congrArg (bits · 14 0) (State.regN_setRegN_ne s h v), rfl, rfl⟩

theorem State.violCount_sameRouting (s : State) (p code vc : Nat) : s.SameRouting (s.violCount p code vc) := by
  have unlike : ∀ k, (pSLNK 0 + Off.SLNK_NODE) % 4096 ≠ k % 4096 → pSLNK 0 + Off.SLNK_NODE ≠ pSLNK p + k := fun k h => ne_page_add (pg_aligned .slnk p) h
  have counted : ∀ t : State, t.SameRouting (t.bump (pSLNK p) Off.SLNK_VIOL_TOTAL 1) := fun t => by
    unfold State.bump State.bumpW
    split
    · exact ⟨rfl, rfl, rfl⟩
    · exact State.setRegN_sameRouting t (unlike _ (by decide)) _
  exact ((State.setRegN_sameRouting s (unlike _ (by decide)) _).trans (counted _)).trans
    (State.setRegN_sameRouting _ (unlike _ (by decide)) _)

theorem State.logCorr_sameRouting (s : State) (p code : Nat) : s.SameRouting (s.logCorr (pSLNK p) code) := by
  have unlogged : pSLNK 0 + Off.SLNK_NODE ∉ errRegs (pSLNK p) ++ logRegs :=
    fun h => (List.mem_append.mp h).elim (not_mem_errRegs (pg_aligned .slnk p) (by decide)) (by decide)
  obtain ⟨regs, ras, out, aplic, servers, pba, e⟩ := (s.logErr_frame (pg_aligned .slnk p) code clsCorr LogInfo.none (by decide)).1
  exact ⟨congrArg (bits · 14 0) (State.regN_logCorr s (pg_aligned .slnk p) unlogged code),
    (congrArg State.msgs e).trans rfl, (congrArg State.inMsgs e).trans rfl⟩

theorem State.rsvd_sameRouting (s : State) (p vc : Nat) : s.SameRouting (s.rsvd p vc) := by
  unfold State.rsvd
  split
  · exact ⟨rfl, rfl, rfl⟩
  · exact (s.setPort_sameRouting p _).trans ((State.violCount_sameRouting _ p 4 vc).trans (State.logCorr_sameRouting _ p 4))

theorem State.set_inMsgs_of_eq {s : State} {l : List InMsg} (h : s.inMsgs = l) : { s with inMsgs := l } = s := by subst h; rfl

/-- The state in which a routed flit's reserved fields are noted. -/
def State.seenRoute (s : State) (p typ : Nat) (b : Bytes) : State := if rtRsvd b = true then s.rsvd p (routedVC typ) else s

theorem State.seenRoute_sameRouting (s : State) (p typ : Nat) (b : Bytes) : s.SameRouting (s.seenRoute p typ b) := by
  unfold State.seenRoute
  split
  · exact s.rsvd_sameRouting p _
  · exact ⟨rfl, rfl, rfl⟩

section Header
variable {s : State} {p typ : Nat} {b : Bytes} {fl : RxFlit}

theorem State.SameRouting.answers {t : State} (h : s.SameRouting t) (b : Bytes) : t.answers b = s.answers b := by
  rw [State.answers, h.msgs, State.answers]

theorem State.routedHere_of_bad (h : rtBadDest b = true) : s.routedHere p typ b =
    (((s.seenRoute p typ b).viol p 0x08 (routedVC typ)).sendRack (bits (rtSrc b) 14 0) (rtMsg b) (rtAddr b) 3, false) := if_pos h

theorem State.routedHere_of_here (hd : rtBadDest b = false) (h : bits (rtDest b) 14 0 = s.node) :
    s.routedHere p typ b = (s.seenRoute p typ b, true) :=
  (if_neg (ne_true_of_eq_false hd)).trans (if_pos (h.trans (s.seenRoute_sameRouting p typ b).node.symm))

theorem State.routedHere_of_other (hd : rtBadDest b = false) (h : bits (rtDest b) 14 0 ≠ s.node) :
    s.routedHere p typ b = ((s.seenRoute p typ b).forward p typ b, false) :=
  (if_neg (ne_true_of_eq_false hd)).trans (if_neg fun e => h (e.trans (s.seenRoute_sameRouting p typ b).node))

theorem State.takeRx_of_first (h : s.firstRx p typ = some fl) : s.takeRx p typ = some (fl, s.dropRx p fl) := by
  rw [State.takeRx, h, Option.map_some]

/-- A flit for another node waits for no line of this one. -/
theorem State.rreqWaits_of_other (h : bits (rtDest b) 14 0 ≠ s.node) : s.rreqWaits b = false := by simp [State.rreqWaits, h]

theorem State.bulkWaits_of_other (h : bits (rtDest b) 14 0 ≠ s.node) : s.bulkWaits b = false := by simp [State.bulkWaits, h]

theorem State.takeBulk_of_first (h : s.firstRx p 0x28 = some fl) (hw : s.bulkWaits fl.payload = false) :
    s.takeBulk p = some (fl, s.dropRx p fl) := by
  rw [State.takeBulk, State.takeRx_of_first h, Option.filter_some, hw]
  rfl

end Header

/-! ### A flit that is forwarded or refused -/

section Away
variable {s t : State} {p : PortIx} {fl : RxFlit}

theorem exec_rreqRx_of_away (h : s.firstRx p 0x20 = some fl) (hw : s.rreqWaits fl.payload = false)
    (away : (s.dropRx p fl).routedHere p 0x20 fl.payload = (t, false)) : exec (.rreqRx p) s = .next t := by
  simp only [exec_rreqRx, execRreqRx, State.takeRx_of_first h, hw, away, Bool.not_false, if_true, Bool.false_eq_true, if_false]

theorem exec_rackRx_of_away (h : s.firstRx p 0x21 = some fl)
    (away : (s.dropRx p fl).routedHere p 0x21 fl.payload = (t, false)) : exec (.rackRx p) s = .next t := by
  simp only [exec_rackRx, execRackRx, State.takeRx_of_first h, away, Bool.false_eq_true, if_false]

theorem exec_bulkRx_of_away (h : s.firstRx p 0x28 = some fl) (hw : s.bulkWaits fl.payload = false) (hl : rtLen fl.payload ≤ 216)
    (away : (s.dropRx p fl).routedHere p 0x28 fl.payload = (t, false)) : exec (.bulkRx p) s = .next t := by
  simp only [exec_bulkRx, execBulkRx, State.takeBulk_of_first h hw, decide_eq_false (Nat.not_lt.mpr hl), away, Bool.not_false, if_true,
    Bool.false_eq_true, if_false]

end Away

/-- Settles O47; that a read refused for poison is answered with KIND 3 is log entry 38. -/
theorem messagesAndStreamsAreServed : Obligations.MessagesAndStreamsAreServed := by
  intro s p c fl
  dsimp only
  have dropped := s.dropRx_sameRouting p fl
  refine ⟨?other, ?refused, ?read, ?answer, ?message, ?ack, ?timeout, ?mgmt, ?receive, ?send, ?sdata, ?unclaimed⟩
  case other =>
    intro typ h hd ho hn
    have away : (s.dropRx p fl).routedHere p typ fl.payload = (((s.dropRx p fl).seenRoute p typ fl.payload).forward p typ fl.payload, false) :=
      State.routedHere_of_other hd (dropped.node ▸ ho)
    refine ⟨?_, ?_, ?_⟩
    · rintro rfl; exact exec_rreqRx_of_away h (State.rreqWaits_of_other ho) away
    · rintro rfl; exact exec_rackRx_of_away h away
    · rintro rfl hl; exact exec_bulkRx_of_away h (State.bulkWaits_of_other ho) hl away
  case refused =>
    intro typ h hd hr hb
    have away := State.routedHere_of_bad (s := s.dropRx p fl) (p := p) (typ := typ) hd
    refine ⟨?_, ?_, ?_⟩
    · rintro rfl; exact exec_rreqRx_of_away h hr away
    · rintro rfl; exact exec_rackRx_of_away h away
    · rintro rfl hl; exact exec_bulkRx_of_away h hb hl away
  case read =>
    rintro h ⟨hd, hn⟩ hw
    have here := State.routedHere_of_here (p := p) (typ := 0x20) hd (hn.trans dropped.node.symm)
    simp only [exec_rreqRx, execRreqRx, State.takeRx_of_first h, hw, here, Bool.not_true, Bool.false_eq_true, if_false]
    rfl
  case answer =>
    rintro m h ⟨hd, hn⟩ hw hl ha
    have here := State.routedHere_of_here (p := p) (typ := 0x28) hd (hn.trans dropped.node.symm)
    have asked : ((s.dropRx p fl).seenRoute p 0x28 fl.payload).answers fl.payload = some m :=
      ((dropped.trans (State.seenRoute_sameRouting _ _ _ _)).answers _).trans ha
    simp only [exec_bulkRx, execBulkRx, State.takeBulk_of_first h hw, decide_eq_false (Nat.not_lt.mpr hl), here, asked, Bool.not_true,
      Bool.false_eq_true, if_false]
    rfl
  case message =>
    rintro h ⟨hd, hn⟩ hw hl ha hlen hi
    have here := State.routedHere_of_here (p := p) (typ := 0x28) hd (hn.trans dropped.node.symm)
    have same := dropped.trans (State.seenRoute_sameRouting _ p 0x28 fl.payload)
    have unasked := (same.answers fl.payload).trans ha
    have nothing := same.inMsgs.trans hi
    simp only [exec_bulkRx, execBulkRx, State.takeBulk_of_first h hw, decide_eq_false (Nat.not_lt.mpr hl), here, unasked, nothing, Bool.not_true,
      Bool.false_eq_true, if_false, List.find?_nil, List.filter_nil, Option.getD_none, List.nil_append, hlen, if_true]
    exact congrArg (fun t : State => Host.Outcome.next (t.finishIn _ _)) (State.set_inMsgs_of_eq nothing)
  case ack =>
    rintro h ⟨hd, hn⟩
    have here := State.routedHere_of_here (p := p) (typ := 0x21) hd (hn.trans dropped.node.symm)
    simp only [exec_rackRx, execRackRx, State.takeRx_of_first h, here, if_true]
    rfl
  case timeout =>
    intro n m hm ht hu
    simp only [exec_slMsgTimeout, execSlMsgTimeout, hm, ht, hu, if_true]
  case mgmt =>
    intro h hc
    obtain ⟨ports, e⟩ := s.dropRx_ports p fl
    have enabled : bit ((s.dropRx p fl).regN (pg .mgmt 0 + Off.MGMT_CTRL)) 1 = true := by rw [e]; exact hc
    simp only [exec_mgmtFlitRx, execMgmtFlitRx, State.takeRx_of_first h, enabled, Bool.not_true, Bool.false_eq_true, if_false]
    cases mgmtFlitOk fl.payload <;> rfl
  case receive =>
    intro o x ho hs
    simp only [exec_linkRecv, execLinkRecv, ho, hs, Bool.not_true, Bool.false_eq_true, if_false]
  case send =>
    intro o x ho hs hp
    simp only [exec_linkSend, execLinkSend, ho, hs, hp, Bool.not_true, Bool.false_eq_true, if_false]
  case sdata =>
    intro e o hf hr
    simp only [exec_sdataRx, execSdataRx, hf, hr]
  case unclaimed =>
    intro h
    simp only [exec_slNoRecv, execSlNoRecv, h]

end Sys2Proof.Machine
end

section
/-!
PROOF. Proofs/Coll.lean: collective operations start, advance, receive and time out, and the write of a tree (R369 to R379, R384).
-/
namespace Sys2Proof.Machine

/-! ### The rows of the collective operations -/

section Rows
variable {s : State} {c : Nat}

theorem State.collRow_of_some {op : Nat} {o : SlotOp} {x : LSlot} (h : s.linkOp c op = some (o, x)) : s.collRow c op =
    ((s.collStart c o x).colls.filter (fun r => r.core == c && r.op == op)).foldl (fun (s : State) r => s.collAdvance r)
      (s.collStart c o x) := by
  simp only [State.collRow, h]

theorem State.collRow_of_none {op : Nat} {r : CollRun} (h : s.linkOp c op = none)
    (hr : s.colls.filter (fun r => r.core == c && r.op == op) = [r]) : s.collRow c op = s.collAdvance r := by
  simp only [State.collRow, h, hr, List.foldl_cons, List.foldl_nil]

/-- A BARRIER whose children have all arrived reports to its parent. -/
theorem State.collAdvance_barrier {r : CollRun} (ho : r.op = 0x12) (hs : r.sent = false) (hk : r.kids = []) (hp : s.treeParent r.tree ≠ 31) :
    s.collAdvance r = (s.sendStream [s.treeParent r.tree] r.stream 0 0 0 [] none).putColl { r with sent := true } := by
  simp only [State.collAdvance, ho, hs, hk, hp, List.all_nil, Bool.not_true, Bool.or_self, Bool.false_eq_true, if_false, if_true,
    Nat.reduceEqDiff]

/-- At the root it releases the children and completes. -/
theorem State.collAdvance_barrier_root {r : CollRun} (ho : r.op = 0x12) (hs : r.sent = false) (hk : r.kids = [])
    (hp : s.treeParent r.tree = 31) : s.collAdvance r = (s.sendStream (s.treeKids r.tree) r.stream 4 0 0 [] none).collFinish r false := by
  simp only [State.collAdvance, ho, hs, hk, hp, List.all_nil, Bool.not_true, Bool.or_self, Bool.false_eq_true, if_false, if_true,
    Nat.reduceEqDiff]

end Rows

/-- A corrected event leaves the rests of streams that were given up. -/
theorem State.logErr_collRest (s : State) {page code cls : Nat} {li : LogInfo} (hp : page % 4096 = 0) (hc : cls ≠ clsFatal) :
    (s.logErr page code cls li).collRest = s.collRest := by
  obtain ⟨regs, ras, out, aplic, servers, pba, e⟩ := (s.logErr_frame hp code cls li hc).1
  exact (congrArg State.collRest e).trans rfl

theorem State.bump_collRest (s : State) (page off n : Nat) : (s.bump page off n).collRest = s.collRest := by
  unfold State.bump State.bumpW
  split <;> rfl

/-- Settles O48. -/
theorem collectivesStartAdvanceAndTimeOut : Obligations.CollectivesStartAdvanceAndTimeOut := by
  intro s c r
  dsimp only
  refine ⟨?start, ?advance, State.collAdvance_barrier, State.collAdvance_barrier_root, ?data, ?late, ?tree⟩
  case start =>
    intro op o x h
    have row := State.collRow_of_some h
    refine ⟨?_, ?_, ?_, ?_⟩ <;> rintro rfl <;> exact congrArg Host.Outcome.next row
  case advance =>
    intro op h hr
    have row := State.collRow_of_none h hr
    refine ⟨?_, ?_, ?_, ?_⟩ <;> rintro rfl <;> exact congrArg Host.Outcome.next row
  case data =>
    intro p fl hf hrest hc hz
    refine ⟨fun hd => ?_, fun hd => ?_⟩ <;>
    simp only [exec_cdataRx, execCdataRx, hf, hrest, hc, hz, hd, Bool.false_eq_true, ne_eq, not_true_eq_false, if_false, if_true]
  case late =>
    intro h
    have aligned : pCOLL (s.treeMaster r.tree) % 4096 = 0 := pg_aligned .coll _
    refine ⟨fun ho => ?_, fun ho => ?_⟩ <;>
    simp only [exec_collChildTimeout, execCollChildTimeout, h, ho, if_true, if_false]
    rw [State.logErr_collRest _ aligned (by decide : clsCorr ≠ clsFatal), State.bump_collRest]
  case tree =>
    intro g v
    refine ⟨fun h => congrArg _ (if_pos ?_), fun hj hw he => congrArg Host.Outcome.next ?_, fun hj hw he hc => congrArg Host.Outcome.next ?_⟩
    · exact h.imp_left fun h => by simp [h]
    · exact (if_neg (by simp [hj, hw])).trans (if_pos (by simp [he]))
    · refine (if_neg (by simp [hj, hw])).trans ((if_neg (by simp [he])).trans ?_)
      simp only [hc]

end Sys2Proof.Machine
end

section
/-!
PROOF. Proofs/Ras.lean: logged errors, the end of a job on a device, HALT, local resets and floods (R380, R385 to R393, R401, R405).
-/
namespace Sys2Proof.Machine

/-! ### What holds of every value of a sparse map -/

section Values
variable {α : Type} {d : Nat → α} {P : α → Prop} {m : List (Nat × α)} {k : Nat} {v : α}

theorem forall_mem_smErase : ∀ {m : List (Nat × α)}, (∀ e ∈ m, P e.2) → ∀ e ∈ smErase m k, P e.2
  | [], h => h
  | (j, w) :: m, h => by
    have tail : ∀ e ∈ m, P e.2 := fun e he => h e (List.mem_cons_of_mem _ he)
    unfold smErase
    split
    · exact tail
    · exact List.forall_mem_cons.mpr ⟨h _ List.mem_cons_self, forall_mem_smErase tail⟩

theorem forall_mem_smPut (hv : P v) : ∀ {m : List (Nat × α)}, (∀ e ∈ m, P e.2) → ∀ e ∈ smPut m k v, P e.2
  | [], _ => by simpa [smPut] using hv
  | (j, w) :: m, h => by
    have tail : ∀ e ∈ m, P e.2 := fun e he => h e (List.mem_cons_of_mem _ he)
    have head := h _ List.mem_cons_self
    unfold smPut
    split
    · exact List.forall_mem_cons.mpr ⟨hv, h⟩
    · split
      · exact List.forall_mem_cons.mpr ⟨hv, tail⟩
      · exact List.forall_mem_cons.mpr ⟨head, forall_mem_smPut hv tail⟩

theorem forall_mem_smSet [DecidableEq α] (h : ∀ e ∈ m, P e.2) (hv : P v) : ∀ e ∈ smSet d m k v, P e.2 := by
  unfold smSet
  split
  · exact forall_mem_smErase h
  · exact forall_mem_smPut hv h

theorem smGet_of_forall_mem (hd : P (d k)) : ∀ {m : List (Nat × α)}, (∀ e ∈ m, P e.2) → P (smGet d m k)
  | [], _ => hd
  | (j, w) :: m, h => by
    unfold smGet
    split
    · exact h _ List.mem_cons_self
    · exact smGet_of_forall_mem hd fun e he => h e (List.mem_cons_of_mem _ he)

end Values

/-! ### The units have stopped (R391) -/

/-- The core runs no timetable and its ferries hold no operation. -/
def CoreSt.Stopped (x : CoreSt) : Prop := x.tt = none ∧ x.ferries = CoreSt.reset.ferries

/-- No message, collective operation, update or snapshot is in course, and every core has stopped. -/
structure State.Stopped (s : State) : Prop where
  msgs : s.msgs = []
  colls : s.colls = []
  upd : s.upd = none
  snap : s.snap = none
  cores : ∀ e ∈ s.cores, e.2.Stopped

theorem State.set_msgs_of_eq {s : State} {l : List PeerMsg} (h : s.msgs = l) : { s with msgs := l } = s := by subst h; rfl

section Stopped
variable {s : State} (h : s.Stopped)
include h

theorem State.Stopped.core (c : Nat) : (s.core c).Stopped := smGet_of_forall_mem ⟨rfl, rfl⟩ h.cores

theorem State.Stopped.foldCores_id {f : State → Nat → CoreSt → State} (hf : ∀ c x, x.Stopped → f s c x = s) : s.foldCores f = s :=
  List.foldlRecOn (motive := (· = s)) s.cores _ rfl fun t ht e he => ht ▸ hf e.1 e.2 (h.cores e he)

/-- Nothing is on its way that a port's loss could take. -/
theorem State.Stopped.failPortItems (p st : Nat) : s.failPortItems p st = s := by
  have idle : ∀ (f : Nat → State → SlotOp → State), s.foldCores (fun s c x =>
      ((x.ferries.getD 3 []).filter (·.onPort p)).foldl (f c) s) = s := fun f =>
    h.foldCores_id fun c x hx => by rw [hx.2]; rfl
  unfold State.failPortItems
  dsimp only
  rw [idle (fun c s o => _), h.msgs]
  exact State.set_msgs_of_eq h.msgs

theorem State.Stopped.collPortLost (p : Nat) : s.collPortLost p = s := by
  rw [State.collPortLost, h.colls, List.foldl_nil]

/-- What leaves the units as they are. -/
theorem State.Stopped.of_same {t : State} (hm : t.msgs = s.msgs) (hc : t.colls = s.colls) (hu : t.upd = s.upd) (hs : t.snap = s.snap)
    (hk : t.cores = s.cores) : t.Stopped :=
  ⟨hm.trans h.msgs, hc.trans h.colls, hu.trans h.upd, hs.trans h.snap, hk ▸ h.cores⟩

theorem State.Stopped.logErr {page code cls : Nat} {li : LogInfo} (hp : page % 4096 = 0) (hc : cls ≠ clsFatal) :
    (s.logErr page code cls li).Stopped := by
  obtain ⟨regs, ras, out, aplic, servers, pba, e⟩ := (s.logErr_frame hp code cls li hc).1
  rw [e]
  exact h.of_same rfl rfl rfl rfl rfl

theorem State.Stopped.setCore (c : Nat) {x : CoreSt} (hx : x.Stopped) : (s.setCore c x).Stopped :=
  ⟨h.msgs, h.colls, h.upd, h.snap, forall_mem_smSet (d := fun _ => CoreSt.reset) (P := CoreSt.Stopped) (k := c) h.cores hx⟩

/-- No send waits for its acknowledgement. -/
theorem State.Stopped.sendsAcked (gone : List (Option (Nat × Nat))) : (s.sendsAcked gone).Stopped := by
  refine List.foldlRecOn (motive := State.Stopped) gone _ h fun t ht o _ => ?_
  cases o with
  | none => exact ht
  | some e =>
    dsimp only
    split
    · exact ht
    · exact ht.setCore _ ⟨(ht.core _).1, by rw [(ht.core _).2]; rfl⟩

theorem State.Stopped.portIdle (p v : Nat) : (s.portIdle p v).Stopped := h.of_same rfl rfl rfl rfl rfl

theorem State.Stopped.portLeave (p v code st : Nat) : (s.portLeave p v code st).Stopped := by
  have idle := h.portIdle p v
  unfold State.portLeave
  dsimp only
  split
  · have logged : ((s.portIdle p v).logErr (pSLNK p) code clsLink { LogInfo.none with info := v }).Stopped :=
      idle.logErr (pg_aligned .slnk p) (by decide)
    generalize (s.portIdle p v).logErr (pSLNK p) code clsLink { LogInfo.none with info := v } = u at logged ⊢
    have counted : (if v = 4 ∨ v = 5 then u.ev (fun e => { e with portFail := e.portFail + 1 }) else u).Stopped := by
      split
      · exact logged.of_same rfl rfl rfl rfl rfl
      · exact logged
    rw [counted.failPortItems, counted.collPortLost]
    refine State.Stopped.sendsAcked ?_ _
    exact counted.of_same rfl rfl rfl rfl rfl
  · exact idle

end Stopped

theorem State.stopped_of_units (s : State) : s.stopCores.stopUnits.Stopped where
  msgs := rfl
  colls := rfl
  upd := rfl
  snap := rfl
  cores := by
    intro e he
    obtain ⟨x, -, rfl⟩ := List.mem_map.mp (List.mem_filter.mp he).1
    exact ⟨rfl, rfl⟩

/-- Every port goes down. -/
def State.portsDown (s : State) : State :=
  (upTo 0 18).foldl (fun (s : State) p =>
    if s.pstate p = 2 ∨ s.pstate p = 3 then s.portLeave p 0 0x13 Status.PEER_LINK_LOST
    else if s.pstate p = 1 then s.portIdle p 0 else s) s

/-- Whatever the ports were, the units stay stopped when they go down. -/
theorem State.Stopped.portsDown {s : State} (h : s.Stopped) : s.portsDown.Stopped := by
  refine List.foldlRecOn (motive := State.Stopped) (upTo 0 18) _ h fun t ht p _ => ?_
  split
  · exact ht.portLeave p _ _ _
  · split
    · exact ht.portIdle p _
    · exact ht

/-- The state in which nothing is due any more and no notice asserts TLATE. -/
def State.leftQuiet (s : State) : State :=
  { s with
    ras := { s.ras with leavePend := false, haltPend := none, resetPend := none }
    tick := { s.tick with notices := [], asserting := false } }

theorem State.leftQuiet_spec (s : State) :
    s.leftQuiet.ras = { s.leftQuiet.ras with leavePend := false, haltPend := none, resetPend := none }
    ∧ s.leftQuiet.tick.asserting = false ∧ s.leftQuiet.tick.notices = [] ∧ (s.Stopped → s.leftQuiet.Stopped) :=
  ⟨rfl, rfl, rfl, fun h => h.of_same rfl rfl rfl rfl rfl⟩

/-- The state in which the device stops: every item of a command not closed has its status. -/
def State.itemsLeft (s : State) : State := (s.cmds.filter (fun k => !k.closed)).foldl (fun (s : State) k => s.leaveCmd k) s

theorem exec_leaveStop_of_due {s : State} (hp : s.ras.leavePend = true) (ht : s.regN (pRAS + Off.RAS_FATAL_TICK) < s.now) :
    exec .leaveStop s = .next s.itemsLeft.stopCores.stopUnits.portsDown.leftQuiet := by
  have due : ¬(!s.ras.leavePend || decide (s.now ≤ s.regN (pRAS + Off.RAS_FATAL_TICK))) = true := by simp [hp, ht]
  rw [exec_leaveStop, execLeaveStop, if_neg due]
  simp only [State.leftQuiet, State.portsDown, State.itemsLeft]

/-! ### Floods (R380) -/

theorem State.takeFlood_of_kind {s : State} {p kind : Nat} {f : RxFlit} (h : s.firstRx p 0x0B = some f) (hok : floodOk f.payload = true)
    (hk : fld f.payload 1 1 = kind) : s.takeFlood p kind = (s.dropRx p f, some f.payload) := by
  simp only [State.takeFlood, State.takeRx_of_first h, hok, hk, Bool.not_true, Bool.false_eq_true, if_false, if_true]

/-- Settles O49; the cause that HALT raises on the RAS page is log entry 50. -/
theorem errorsStopHaltAndReset : Obligations.ErrorsStopHaltAndReset := by
  intro s b i code c item addr p
  refine ⟨?append, ?fatal, fun v => rfl, ?stop, ?records, ?reset, ?cleared, fun h => congrArg _ (if_pos h), ?halt, ?flood⟩
  case append =>
    intro hc hi info
    simp only [exec_rasLogAppend, execRasLogAppend, hc, hi, if_true]
  case fatal =>
    intro hc hi hf
    simp only [exec_deviceFatalFault, execDeviceFatalFault, hc, hi, hf, and_self, if_true]
  case stop =>
    intro hp ht
    obtain ⟨ras, asserting, notices, units⟩ := s.itemsLeft.stopCores.stopUnits.portsDown.leftQuiet_spec
    have stopped := units s.itemsLeft.stopped_of_units.portsDown
    exact ⟨_, exec_leaveStop_of_due hp ht, ras, asserting, notices, fun _ _ _ =>
      ⟨stopped.msgs, stopped.colls, stopped.upd, stopped.snap, fun c => (stopped.core c).1⟩⟩
  case records => exact fun hl hp => congrArg _ (if_neg (by simp [hl, hp]))
  case reset => exact fun t ht hn => congrArg _ (if_pos (by simp [ht, hn]))
  case cleared =>
    intro hl
    rw [State.localReset, if_neg (ne_true_of_eq_false hl)]
    exact ⟨rfl, rfl⟩
  case halt => exact fun t ht hn hl => congrArg _ (if_neg (by simp [ht, hn, hl]))
  case flood =>
    intro f hf hok
    refine ⟨fun hk => ?_, fun hk => ?_, fun hk => ?_⟩
    · simp only [exec_floodSnapshotAt, execFloodSnapshotAt, State.takeFlood_of_kind hf hok hk]
    · simp only [exec_floodGlobalReset, execFloodGlobalReset, State.takeFlood_of_kind hf hok hk]
    · simp only [exec_floodRequest, execFloodRequest, State.takeFlood_of_kind hf hok hk]

end Sys2Proof.Machine
end

section
/-!
PROOF. Proofs/Snap.lean: snapshots freeze and copy out, and restores verify and copy back (R233, R394 to R403).
-/
namespace Sys2Proof.Machine

/-! ### SNAPSHOT (R394, R395) -/

section Snapshot
variable {s : State} {cmd : Nat} {k : Cmd} (h : s.fresh cmd 0x0005 = some k) (ha : fld k.cargo 0x10 8 % 64 = 0)
  (hm : s.devMem (fld k.cargo 0x10 8) 64 = true)
include h ha hm

theorem exec_snapshot_of_busy (hb : s.snapBusy = true) : exec (.snapshot cmd) s = .next (s.snapRefuse k 0x05) := by
  simp only [exec_snapshot, execSnapshot, h, ha, hm, hb, ne_eq, not_true_eq_false, Bool.not_true, Bool.false_eq_true, or_self, if_false, if_true]

theorem exec_snapshot_of_past (hb : s.snapBusy = false) (h0 : fld k.cargo 8 8 ≠ 0) (ht : fld k.cargo 8 8 ≤ k.accTick) :
    exec (.snapshot cmd) s = .next (s.snapRefuse k 0x06) := by
  simp only [exec_snapshot, execSnapshot, h, ha, hm, hb, h0, ht, ne_eq, not_true_eq_false, not_false_eq_true, Bool.not_true, Bool.false_eq_true,
    or_self, and_self, if_false, if_true]

theorem exec_snapshot_of_sound (hb : s.snapBusy = false) (ht : k.accTick < fld k.cargo 8 8) (hn : bit (fld k.cargo 1 1) 0 = false) :
    exec (.snapshot cmd) s = .next (
      let u := ({ s.beginCmd cmd with snap := some {
        cmd := cmd, t := some (fld k.cargo 8 8), frozen := false, fstep := 0, ustate := [], held := [], digs := [] } } : State).setRegN
          (pRAS + Off.RAS_SNAP_T) (fld k.cargo 8 8)
      ((upTo 0 k.items).foldl (fun (s : State) j =>
        if s.anyPoison (k.table + 32 * j) 32 = true then s.endItem cmd j Status.MEM_UE
        else if s.snapEntryOk k j = true then s
        else (s.itemErr pRAS 0x08 cmd j Status.BAD_COMMAND).endItem cmd j Status.BAD_COMMAND) u).showSnap 1) := by
  have h0 : fld k.cargo 8 8 ≠ 0 := by omega
  have later : ¬fld k.cargo 8 8 ≤ k.accTick := Nat.not_le.mpr ht
  simp only [exec_snapshot, execSnapshot, h, ha, hm, hb, h0, later, hn, ne_eq, not_true_eq_false, Bool.not_true, Bool.not_false,
    Bool.false_eq_true, or_self, and_false, false_and, if_false, if_true]

end Snapshot

/-! ### Restores (R402, R403) -/

/-- The state in which a command has begun and works on an item. -/
def State.takeItem (s : State) (cmd item : Nat) : State := (s.beginCmd cmd).updCmd cmd (·.run item)

section TakeItem
variable (s : State) (cmd item : Nat)

@[simp] theorem State.takeItem_rdBytes (a n : Nat) : (s.takeItem cmd item).rdBytes a n = s.rdBytes a n := rfl
@[simp] theorem State.takeItem_devMem (a n : Nat) : (s.takeItem cmd item).devMem a n = s.devMem a n := rfl
@[simp] theorem State.takeItem_anyPoison (a n : Nat) : (s.takeItem cmd item).anyPoison a n = s.anyPoison a n := rfl
@[simp] theorem State.takeItem_localStack (a n : Nat) : (s.takeItem cmd item).localStack a n = s.localStack a n := rfl
@[simp] theorem State.takeItem_rangeRegion (a n : Nat) : (s.takeItem cmd item).rangeRegion a n = s.rangeRegion a n := rfl
@[simp] theorem State.takeItem_outDown (a : Nat) : (s.takeItem cmd item).outDown a = s.outDown a := rfl
@[simp] theorem State.takeItem_isHost (a : Nat) : (s.takeItem cmd item).isHost a = s.isHost a := rfl
@[simp] theorem State.takeItem_rvs : (s.takeItem cmd item).rvs = s.rvs := rfl
@[simp] theorem State.takeItem_msgs : (s.takeItem cmd item).msgs = s.msgs := rfl
@[simp] theorem State.takeItem_now : (s.takeItem cmd item).now = s.now := rfl

@[simp] theorem State.takeItem_entryOf (k : Cmd) (j : Nat) : (s.takeItem cmd item).entryOf k j = s.entryOf k j := by simp only [State.entryOf, State.takeItem_rdBytes]

@[simp] theorem State.takeItem_rvShard (k : Cmd) (j : Nat) : (s.takeItem cmd item).rvShard k j = s.rvShard k j := by simp only [State.rvShard, State.takeItem_entryOf, State.takeItem_rdBytes, State.takeItem_devMem]

@[simp] theorem State.takeItem_bodyPoison (d : Shard) : (s.takeItem cmd item).bodyPoison d = s.bodyPoison d := by
  simp only [State.bodyPoison, State.takeItem_anyPoison]

@[simp] theorem State.takeItem_shardBody (d : Shard) : (s.takeItem cmd item).shardBody d = s.shardBody d := by
  simp only [State.shardBody, State.takeItem_rdBytes]

@[simp] theorem State.takeItem_digStack (d : Shard) : (s.takeItem cmd item).digStack d = s.digStack d := by
  simp only [State.digStack, State.takeItem_localStack] <;> rfl

@[simp] theorem State.takeItem_imagePlace (a n : Nat) : (s.takeItem cmd item).imagePlace a n = s.imagePlace a n := rfl

@[simp] theorem State.takeItem_imageRead (a n : Nat) : (s.takeItem cmd item).imageRead a n = s.imageRead a n := by
  simp only [State.imageRead, State.takeItem_imagePlace, State.takeItem_outDown, State.takeItem_isHost, State.takeItem_anyPoison] <;> rfl

end TakeItem

theorem State.takeItem_eq (s : State) (cmd item : Nat) : (s.beginCmd cmd).updCmd cmd (fun k => k.run item) = s.takeItem cmd item := rfl

theorem Cmd.id_run (item : Nat) (k : Cmd) : (k.run item).id = k.id := by
  unfold Cmd.run
  split <;> rfl

theorem Cmd.itemEnded_run (k : Cmd) (item j : Nat) : (k.run item).itemEnded j = k.itemEnded j := by
  unfold Cmd.run
  split <;> rfl

/-- The command with a number, after a change of one command that keeps its number. -/
theorem State.cmd?_updCmd_ite (s : State) (c id : Nat) {f : Cmd → Cmd} (hf : ∀ k, (f k).id = k.id) :
    (s.updCmd c f).cmd? id = (s.cmd? id).map (fun k => if k.id = c then f k else k) := by
  have hid : ((fun k : Cmd => k.id == id) ∘ fun k => if k.id = c then f k else k) = fun k => k.id == id := by
    funext k
    by_cases h : k.id = c <;> simp [Function.comp, hf, h]
  rw [State.cmd?, State.updCmd, List.find?_map, hid, State.cmd?]

/-- What waits at a pontoon stays when a command changes but ends no item. -/
theorem State.pont_updCmd (s : State) (c p : Nat) {f : Cmd → Cmd} (hid : ∀ k, (f k).id = k.id)
    (hend : ∀ k j, (f k).itemEnded j = k.itemEnded j) : (s.updCmd c f).pont p = s.pont p := by
  unfold State.pont
  refine congrArg₂ List.filter (funext fun x => ?_) rfl
  cases x.work with
  | upd =>
    dsimp only
    rw [s.cmd?_updCmd_ite c x.cmd hid]
    cases s.cmd? x.cmd with
    | none => rfl
    | some k => by_cases h : k.id = c <;> simp [h, hend]
  | _ => rfl

/-- What waits at a pontoon does not change when an item begins. -/
@[simp] theorem State.takeItem_pont (s : State) (cmd item p : Nat) : (s.takeItem cmd item).pont p = s.pont p :=
  ((s.beginCmd cmd).pont_updCmd cmd p (Cmd.id_run item) (fun k => k.itemEnded_run item)).trans (s.pont_updCmd cmd p (fun _ => rfl) fun _ _ => rfl)

/-- A restore's row takes an item of its own mode that has not ended. -/
theorem State.rvItem_of_due {s : State} {cmd item : Nat} {k : Cmd} (hk : s.cmd? cmd = some k) (ho : k.opcode = 6) (ha : k.allEnded = false)
    (hs : k.start ≤ s.now ∨ k.begun = true) (hi : item < k.items) (he : k.itemEnded item = false) (hc : s.rvCargoOk k = true) :
    s.rvItem cmd item (rvMode k) = (s.takeItem cmd item, some k) := by
  have started : (decide (s.now < k.start) && !k.begun) = false := by
    rcases hs with hs | hs
    · simp [Nat.not_lt.mpr hs]
    · simp [hs]
  simp only [State.rvItem, hk, ho, ha, started, he, hc, decide_eq_false (Nat.not_le.mpr hi), ne_eq, not_true_eq_false, decide_false,
    Bool.or_self, Bool.not_true, Bool.false_eq_true, false_and, if_false]
  rfl

/-- Settles O50; the digest blocks of a body are log entry 48. -/
theorem snapshotsFreezeCopyAndRestore : Obligations.SnapshotsFreezeCopyAndRestore := by
  intro s cmd item k n
  refine ⟨?snapshot, ?freeze, ?digest, ?image, ?restore⟩
  case snapshot => exact fun h ha hm => ⟨exec_snapshot_of_busy h ha hm, exec_snapshot_of_past h ha hm, exec_snapshot_of_sound h ha hm⟩
  case freeze =>
    intro t hn ht hk hf hnow hrec hi
    have written : s.cmds.any (fun x => x.opcode == 4 && decide (x.accTick < t) && !s.recWritten x) = false :=
      List.any_eq_false.mpr fun x hx => by
        have := hrec x hx
        simp only [Bool.and_eq_true, beq_iff_eq, decide_eq_true_eq, Bool.not_eq_true', not_and, Bool.not_eq_false, and_imp]
        exact this
    simp only [exec_snapshotFreeze, execSnapshotFreeze, hn, ht, hk, hf, written, hi, decide_eq_false (Nat.not_lt.mpr hnow), Bool.or_self,
      Bool.false_eq_true, if_false, upTo, List.filter_nil, List.foldl_nil]
  case digest =>
    intro p rest d hp hk hd hst hc hb
    simp only [exec_pontDig, execPontDig, hp, hk, Option.bind_some, hd, hst, hc, hb, ne_eq, not_true_eq_false, Bool.not_true, Bool.false_eq_true,
      if_false]
  case image =>
    intro l hn hk hf he hi hall
    dsimp only
    intro hl hc hlen hb hd
    have before : (upTo 0 item).any (fun j => !k.itemEnded j) = false :=
      List.any_eq_false.mpr fun j hj => by simp [List.all_eq_true.mp hall j hj]
    rcases hl with hl | ⟨hl, hst, rfl⟩
    · simp only [exec_snapshotItemDone, execSnapshotItemDone, hn, hk, hf, he, decide_eq_false (Nat.not_le.mpr hi), before, hc, hl,
        Nat.not_lt.mpr hlen, hb, hd, Bool.not_true, Bool.or_self, Bool.false_eq_true, if_false]
    · simp only [exec_snapshotItemDone, execSnapshotItemDone, hn, hk, hf, he, decide_eq_false (Nat.not_le.mpr hi), before, hc, hl, hst,
        Nat.not_lt.mpr hlen, hb, hd, Option.isSome_none, Bool.not_true, Bool.or_self, Bool.false_eq_true, if_false]
  case restore =>
    intro d hk ho ha hs hi he hc hd
    have due := State.rvItem_of_due hk ho ha hs hi he hc
    refine ⟨fun hm => ?serve, fun hm => ?stored, fun hm => ?replica⟩ <;> rw [hm] at due
    case serve =>
      dsimp only
      intro hat hdev hp hok hcs hph
      refine ⟨fun hst => ?_, fun p hst hr => ?_, fun p r hst hr hg => ?_⟩
      · simp [exec_restoreVerifyServe, execRestoreVerifyServe, due, State.takeItem_eq, hd, hat, hdev, hp, hok, hcs, hph, hst]
      · simp [exec_restoreVerifyServe, execRestoreVerifyServe, due, State.takeItem_eq, hd, hat, hdev, hp, hok, hcs, hph, hst, hr]
      · simp [exec_restoreVerifyServe, execRestoreVerifyServe, due, State.takeItem_eq, hd, hat, hdev, hp, hok, hcs, hph, hst, hr, hg]
    case stored =>
      dsimp only
      intro hr hok
      simp only [exec_restoreVerifyStored, execRestoreVerifyStored, due, State.takeItem_eq, State.takeItem_entryOf, State.takeItem_rvShard, hd,
        State.takeItem_imageRead, hr, State.takeItem_rdBytes, hok, Bool.not_true, Bool.false_eq_true, if_false] <;> rfl
    case replica =>
      intro hf hmsg hr
      simp only [exec_restoreVerifyReplica, execRestoreVerifyReplica, due, State.takeItem_eq, hf, State.takeItem_msgs, hmsg, State.takeItem_rvs, hr,
        State.takeItem_entryOf, State.takeItem_rvShard, hd, State.takeItem_now, Bool.false_eq_true, if_false]

end Sys2Proof.Machine
end

section
/-!
PROOF. Proofs/Start.lean: start-up, the loss and return of the supplies, power modes and the governor (R391, R392, R408 to R422, R473, R481).
-/
namespace Sys2Proof.Machine

/-! ### The governor (R415) -/

theorem govDie_of_covered {avail plan : Nat} (h : plan ≤ avail) (unit burst : Nat) (elastic : Bool) :
    govDie avail plan unit burst elastic = (min (avail - plan) burst, false, false) := if_pos h

theorem govDie_le_burst (avail plan unit burst : Nat) (elastic : Bool) : (govDie avail plan unit burst elastic).1 ≤ burst := by
  unfold govDie
  split
  · exact Nat.min_le_right _ _
  · split
    · split
      · exact Nat.min_le_right _ _
      · exact Nat.zero_le _
    · exact Nat.zero_le _

theorem govDie_flags_iff (avail plan unit burst : Nat) : (govDie avail plan unit burst false).2.2 = true ↔ avail < plan := by
  unfold govDie
  split
  · simpa using ‹plan ≤ avail›
  · simpa using ‹¬plan ≤ avail›

/-- Where each die covers what it has planned, no stretch is asked for and nothing is flagged. -/
theorem exec_governorDecision_of_covered {s : State} (h : ∀ t, t < 4 → s.plan t (s.now + 1) ≤ s.gov t + s.allow t) :
    exec .governorDecision s =
      .next ((upTo 0 4).foldl (fun u t => u.setGov t (min (s.gov t + s.allow t - s.plan t (s.now + 1)) s.burst)) s) := by
  have die : ∀ t, t < 4 → ∀ unit elastic, govDie (s.gov t + s.allow t) (s.plan t (s.now + 1)) unit s.burst elastic
      = (min (s.gov t + s.allow t - s.plan t (s.now + 1)) s.burst, false, false) := fun t ht unit elastic =>
    govDie_of_covered (h t ht) unit s.burst elastic
  have dies : upTo 0 4 = [0, 1, 2, 3] := rfl
  simp [exec_governorDecision, execGovernorDecision, dies, die]

/-! ### The supplies (R408, R481) -/

theorem State.unlocked_regs (s : State) : ∃ regs : List (Nat × DWord), s.unlocked = { s with regs := regs } := by
  unfold State.unlocked
  refine List.foldlRecOn (motive := fun t => ∃ regs : List (Nat × DWord), t = { s with regs := regs }) (upTo 0 12) _
    ⟨(s.setRegN (pTICK + Off.TICK_STAT) 0).regs, rfl⟩ fun t ht c _ => ?_
  obtain ⟨regs, rfl⟩ := ht
  exact ⟨_, rfl⟩

/-- The loss of power keeps of the device fuses and boot flash alone. -/
theorem State.dark_spec (s : State) (ph : PowerPhase) :
    (s.dark ph).mem = s.mem.filter hostCell ∧ (s.dark ph).poison = [] ∧ (s.dark ph).cores = [] ∧ (s.dark ph).cmds = []
    ∧ (s.dark ph).flash = s.flash ∧ (s.dark ph).sec = s.sec.fuses s.free := by
  unfold State.dark
  generalize hu : State.unlocked _ = u
  obtain ⟨regs, e⟩ := State.unlocked_regs _
  subst hu
  rw [e]
  exact ⟨rfl, rfl, rfl, rfl, rfl, rfl⟩

/-- Settles O51; what is held on the loss of VAUX is log entry 52. -/
theorem startUpSupplyLossAndPowerModes : Obligations.StartUpSupplyLossAndPowerModes := by
  refine ⟨fun s => ?_, fun s => ?_⟩
  · refine ⟨?stage, ?fail0, ?fail, ?deassert, ⟨rfl, rfl⟩, ?vbus, ?comes, ?dip, ?low, ?overcurrent, ?reset, ?shutdown, ?off, ?dark⟩
    case stage => intro lp ms h; rw [exec_startupStageDone, execStartupStageDone, if_neg (not_not.mpr h)]
    case fail0 =>
      intro h h0
      simp only [exec_startFail, execStartFail, h, h0, ne_eq, not_true_eq_false, if_false]
    case fail =>
      intro h hs
      simp only [List.mem_cons, List.not_mem_nil, or_false] at hs
      rcases hs with h1 | h1 | h1 | h1 <;>
      simp only [exec_startFail, execStartFail, h, h1, ne_eq, not_true_eq_false, if_false]
    case deassert => intro x h; rw [exec_sysResetDeassert, execSysResetDeassert, if_neg (not_not.mpr h)]
    case vbus => intro mv hm hp; rw [exec_vbusLoss, execVbusLoss, if_neg (Nat.not_le.mpr hm), if_neg hp]
    case comes =>
      intro mv hp ht hm
      have starts : s.pwr.phase = .off ∧ (!s.pwr.thermtrip) = true ∧ 10800 ≤ mv.toNat := ⟨hp, by simp [ht], hm⟩
      rw [exec_vbusReturn, execVbusReturn, if_pos starts]
    case dip =>
      intro mv ha hp hm
      rw [exec_vbusReturn, execVbusReturn, if_neg fun h => hp h.1, if_pos (by simp [ha, hm])]
    case low => intro mv ha hm; rw [exec_vbusLow, execVbusLow, if_pos (by simp [ha, hm])]
    case overcurrent => intro da ha hd; rw [exec_pwrOvercurrent, execPwrOvercurrent, if_pos (by simp [ha, hd])]
    case reset =>
      intro hr h
      rw [exec_deviceReset, execDeviceReset, if_neg (ne_true_of_eq_false hr)]
      rcases h with h | ⟨h | h, h2⟩
      · simp only [h, true_or, if_true]
      · simp only [h, h2, or_true, if_true]
      · simp only [h, h2, or_true, if_true]
    case shutdown => intro h; rw [exec_pwrShutdown, execPwrShutdown, if_pos h]
    case off => intro hp hr hb; rw [exec_offReady, execOffReady, if_pos ⟨hp, hr, hb⟩]
    case dark =>
      intro ph
      obtain ⟨mem, poison, cores, cmds, flash, sec⟩ := s.dark_spec ph
      have grown := s.sec.fuses_grown s.free
      refine ⟨mem, poison, cores, cmds, flash, ?_, ?_, ?_⟩ <;> rw [sec]
      · rfl
      · rfl
      · exact grown.svn
  · refine ⟨fun m h => ⟨fun h0 => ?now, fun h0 => ?later⟩, fun h => ?none, rfl, exec_governorDecision_of_covered, fun v => rfl, ?cap, ?burst,
      ?outOfRange, fun avail plan unit burst => ⟨govDie_le_burst _ _ _ _ _, govDie_flags_iff _ _ _ _⟩⟩
    case now => simp only [exec_powerModeChange, execPowerModeChange, h]; exact congrArg Host.Outcome.next (if_pos h0)
    case later => simp only [exec_powerModeChange, execPowerModeChange, h]; exact congrArg Host.Outcome.next (if_neg h0)
    case none => simp only [exec_powerModeChange, execPowerModeChange, h]
    case cap =>
      intro v h1 h2
      simp only [exec_pwrCapWrite, execPwrCapWrite, h1, h2, and_self, Bool.false_eq_true, if_false, if_true]
    case burst =>
      intro v h1 h2
      simp only [exec_pwrCapWrite, execPwrCapWrite, h1, h2, and_self, if_true]
    case outOfRange =>
      intro v h
      have outside : ¬(1000 ≤ v.toNat ∧ v.toNat ≤ 3600) := by omega
      simp only [exec_pwrCapWrite, execPwrCapWrite, outside, Bool.false_eq_true, if_false]

end Sys2Proof.Machine
end

section
/-!
PROOF. Proofs/Age.lean: ageing samples, the margin plan, the health-risk score and hull records (R40, R408, R423 to R433).
-/
namespace Sys2Proof.Machine

/-! ### Measurements of the right sizes -/

theorem fitTemps_of_ok {n : Nat} {l : List Int} (hl : l.length = n) (h : ∀ t ∈ l, -128 ≤ t ∧ t ≤ 127) : fitTemps n l = l := by
  rw [fitTemps, fit_of_length 0 hl]
  refine (List.map_congr_left fun t ht => ?_).trans (List.map_id l)
  obtain ⟨low, high⟩ := h t ht
  simp [high, low]

theorem fitMeas_of_ok {m : TideMeas} (h : tideMeasOk m = true) : fitMeas m = m := by
  simp only [tideMeasOk, Bool.and_eq_true, beq_iff_eq, List.all_eq_true, decide_eq_true_eq] at h
  obtain ⟨⟨⟨⟨⟨energy, eff⟩, eye⟩, ber⟩, hbm⟩, temps⟩ := h
  rw [fitMeas, fit_of_length 0 energy, fit_of_length 0 eff, fit_of_length 0 eye, fit_of_length 0 ber, fitTemps_of_ok hbm temps]

theorem length_upTo : ∀ a n : Nat, (upTo a n).length = n
  | _, 0 => rfl
  | a, n + 1 => congrArg (· + 1) (length_upTo (a + 1) n)

/-! ### The score (R432, R433) -/

/-- A score two or more below the threshold re-arms the event and raises nothing. -/
theorem State.scoreEvent_of_low (s : State) {bitNo thr code score : Nat} {e : PldmEvent} (h : score + 2 ≤ thr) :
    s.scoreEvent bitNo thr code e score = (s.setField (pAGE + Off.AGE_STAT) bitNo bitNo 0, false) :=
  (if_neg fun hn => by omega).trans (if_pos h)

/-- Settles O52; the order and the retry of a hull record's write are log entry 55. -/
theorem ageingSamplesPlansAndRecords : Obligations.AgeingSamplesPlansAndRecords := by
  intro s
  refine ⟨?tide, fun m => fitMeas_of_ok, fun tj h => ?tj, fun tj => fitTemps_of_ok, fun f => ⟨_, rfl, rfl, ?osc⟩, ?sentinel, ?plan, ?write, ?done,
    rfl, ?score, ⟨rfl, rfl, rfl, by decide, by decide, by decide, by decide⟩⟩
  case tide =>
    intro m ht hn hs
    have due : (s.ticking && s.now % 1000000 == 0 && s.tick.tideSeen != some s.tide) = true := by simp [ht, hn, hs]
    rw [exec_tideBoundary, execTideBoundary, if_pos due]
  case tj => rw [exec_tjSample, execTjSample, if_pos h]
  case osc => rw [List.length_map, List.length_zip, fit_length, length_upTo, Nat.min_self]
  case sentinel =>
    intro codes hl
    have whole : fit 192 0 codes = codes := fit_of_length 0 hl
    refine ⟨fun h => ?_, fun h => ?_⟩
    · rw [exec_sentinelSample, execSentinelSample, whole]
      exact congrArg Host.Outcome.next (if_neg (ne_true_of_eq_false h))
    · rw [exec_sentinelSample, execSentinelSample, whole]
      exact congrArg Host.Outcome.next (if_pos h)
  case plan =>
    intro hw hp hr
    have due : ¬(s.planWindow || s.age.planned == some s.tide || s.pwr.phase != .ready) = true := by simp [hw, hp, hr]
    rw [exec_marginReplan, execMarginReplan, if_neg due]
  case write =>
    intro b bs hb hr
    simp only [exec_hullWrite, execHullWrite, hb, hr]
    cases s.age.hullSeq <;> rfl
  case done =>
    intro slot b again hb
    refine ⟨?_, fun h => ?_, fun h => ?_⟩
    · simp only [exec_hullWriteDone, execHullWriteDone, hb, if_true]
    · simp only [exec_hullWriteDone, execHullWriteDone, hb, h, Bool.false_eq_true, if_false]
    · simp only [exec_hullWriteDone, execHullWriteDone, hb, h, Bool.false_eq_true, if_false, if_true]
  case score =>
    intro hs hp hr hc h8
    have due : ¬(s.age.scored == some s.tide || s.age.past.isEmpty || s.pwr.phase != .ready) = true := by simp [hs, hp, hr]
    rw [exec_healthScore, execHealthScore, if_neg due]
    simp only [hc, Nat.min_zero, State.scoreEvent_of_low, Nat.reduceAdd, Nat.reduceLeDiff, Bool.false_and, Bool.false_eq_true, if_false]
    exact ⟨_, rfl, rfl⟩

end Sys2Proof.Machine
end

section
/-!
PROOF. Proofs/Sec.lean: fuses, keys and debug levels, SPDM, and the management port (R430, R434, R440 to R453).
-/
namespace Sys2Proof.Machine

/-! ### Revocations (R443) -/

/-- A programmed slot of the four stays usable. -/
theorem slotLeft_iff (prog rev m : Nat) : (upTo 0 4).any (fun i => bit prog i && !bit rev i && !bit m i) = true
    ↔ ∃ i ∈ upTo 0 4, bit prog i = true ∧ bit rev i = false ∧ bit m i = false := by
  simp only [List.any_eq_true, Bool.and_eq_true, Bool.not_eq_true', and_assoc]

theorem noSlotLeft_of_all {prog rev m : Nat} (h : ∀ i ∈ upTo 0 4, bit prog i = true → bit rev i = true ∨ bit m i = true) :
    (upTo 0 4).any (fun i => bit prog i && !bit rev i && !bit m i) = false := by
  refine Bool.eq_false_iff.mpr fun hs => ?_
  obtain ⟨i, hi, hp, hr, hm⟩ := (slotLeft_iff prog rev m).mp hs
  rcases h i hi hp with h | h
  · exact Bool.false_ne_true (hr.symm.trans h)
  · exact Bool.false_ne_true (hm.symm.trans h)

/-- Settles O53; the nonce after an unlock and the refusal in recovery are log entries 58 and 59. -/
theorem fusesKeysAndDebugLevels : Obligations.FusesKeysAndDebugLevels := by
  intro s v
  refine ⟨fun h => ?confirm, fun h => ?confirmed, fun h => ?refusedCommit, fun ht hs hf => ?commit, fun m hm => ?fused, ?revoke, ?refuse,
    ?nonce, ?unlock, rfl⟩
  case confirm => rw [exec_secConfirm, execSecConfirm, if_pos h]
  case confirmed => rw [exec_secConfirm, execSecConfirm, if_neg (ne_true_of_eq_false h)]
  case refusedCommit =>
    have refused : (s.dirTrial || decide (s.sec.runSvn ≤ s.sec.svnMin)) = true := by simpa using h
    rw [exec_secSvnCommit, execSecSvnCommit, if_pos refused]
  case commit =>
    have above : ¬(s.dirTrial || decide (s.sec.runSvn ≤ s.sec.svnMin)) = true := by simp [ht, hs]
    have idle : ¬s.sec.fuseTo.isSome = true := by simp [hf]
    rw [exec_secSvnCommit, execSecSvnCommit, if_neg above, if_neg idle]
  case fused => simp only [exec_fusingDone, execFusingDone, hm]
  case revoke =>
    intro ht hr he hm hel hml
    have ok : s.revokeOk (bits v.toNat 3 0) (bits v.toNat 7 4) = true := by
      simp [State.revokeOk, ht, he, hm, (slotLeft_iff _ _ _).mpr hel, (slotLeft_iff _ _ _).mpr hml]
    rw [exec_secRevoke, execSecRevoke, if_pos ok]
  case refuse =>
    intro h
    have bad : s.revokeOk (bits v.toNat 3 0) (bits v.toNat 7 4) = false := by
      rcases h with ht | ⟨hr, he | hm⟩ | hel | hml
      · simp [State.revokeOk, ht]
      · simp [State.revokeOk, hr, he]
      · simp [State.revokeOk, hr, hm]
      · simp [State.revokeOk, noSlotLeft_of_all hel]
      · simp [State.revokeOk, noSlotLeft_of_all hml]
    rw [exec_secRevoke, execSecRevoke, if_neg (ne_true_of_eq_false bad)]
  case nonce => rw [exec_secDbgNonceRead, execSecDbgNonceRead]
  case unlock =>
    rintro a rfl
    refine ⟨fun h => ?_, fun h => ?_⟩ <;> rw [exec_secDbgUnlock, execSecDbgUnlock]
    · rw [if_pos h]
    · rw [if_neg (ne_true_of_eq_false h)]

/-! ### Requests that are served (R446, R449, R450) -/

/-- A packet that is taken is gone, and nothing else has changed. -/
theorem State.takePacket_served {s : State} {chan typ : Nat} (h : (s.takePacket chan typ).2 = true) :
    ∃ m, s.takePacket chan typ = ({ s with mctpIn := m }, true) := by
  unfold State.takePacket at h ⊢
  split at h
  · exact absurd h Bool.false_ne_true
  · rename_i m hm
    dsimp only at h
    split at h
    · exact absurd h Bool.false_ne_true
    · rename_i sound
      split at h
      · rename_i own
        exact ⟨s.mctpIn.erase m, (if_neg sound).trans (if_pos own)⟩
      · exact absurd h Bool.false_ne_true

/-- A request that is served took at most its packet. -/
theorem State.mgmtReq_served {s : State} {c : MgmtChan} {typ : Nat} (h : (s.mgmtReq c typ).2 = true) :
    ∃ m, s.mgmtReq c typ = ({ s with mctpIn := m }, true) := by
  unfold State.mgmtReq at h ⊢
  split at h
  · exact absurd h Bool.false_ne_true
  · rename_i up
    rw [if_neg up]
    split at h
    · rename_i link
      rw [if_pos link]
      exact State.takePacket_served h
    · rename_i link
      rw [if_neg link]
      split at h
      · rename_i port
        exact ⟨s.mctpIn, if_pos port⟩
      · rename_i port
        exact ⟨s.mctpIn, (if_neg port).trans (congrArg (Prod.mk s) h)⟩

theorem State.mgmtReq_eq {s : State} {c : MgmtChan} {typ : Nat} (h : (s.mgmtReq c typ).2 = true) :
    s.mgmtReq c typ = ((s.mgmtReq c typ).1, true) := congrArg (Prod.mk _) h

section Served
variable {s : State} {c : MgmtChan} {typ : Nat} (h : (s.mgmtReq c typ).2 = true)
include h

theorem State.mgmtReq_regs : (s.mgmtReq c typ).1.regs = s.regs := by
  obtain ⟨m, e⟩ := State.mgmtReq_served h
  rw [e]

theorem State.mgmtReq_regN (o : Nat) : (s.mgmtReq c typ).1.regN o = s.regN o := by
  obtain ⟨m, e⟩ := State.mgmtReq_served h
  rw [e]
  rfl

theorem State.mgmtReq_recovery : (s.mgmtReq c typ).1.recovery = s.recovery := by
  rw [State.recovery, State.secStat, State.field, State.mgmtReq_regN h, State.recovery, State.secStat, State.field]

theorem State.mgmtReq_dbgLevel : (s.mgmtReq c typ).1.dbgLevel = s.dbgLevel := by
  rw [State.dbgLevel, State.secStat, State.field, State.mgmtReq_regN h, State.dbgLevel, State.secStat, State.field]

end Served

/-! ### SPDM (R441, R446, R447, R452) -/

section Spdm
variable {s : State} {c : MgmtChan} (h : (s.mgmtReq c 5).2 = true)
include h

theorem State.spdm_of_recovery (hr : s.recovery = true) (f : State → SpdmAns) : s.spdm c f = (s.mgmtReq c 5).1 := by
  rw [State.spdm, State.mgmtReq_eq h]
  exact if_pos ((State.mgmtReq_recovery h).trans hr)

theorem State.spdm_of_verified (hr : s.recovery = false) (f : State → SpdmAns) : s.spdm c f =
    ((s.mgmtReq c 5).1.bump pMGMT Off.MGMT_SPDM_CNT 1).send (.mgmt (.spdm c.val (f (s.mgmtReq c 5).1))) := by
  rw [State.spdm, State.mgmtReq_eq h]
  exact if_neg (ne_true_of_eq_false ((State.mgmtReq_recovery h).trans hr))

end Spdm

/-- Settles O54; that recovery answers none is log entry 59, and what a debug level signs entry 58. -/
theorem spdmRequestsAreAnswered : Obligations.SpdmRequestsAreAnswered := by
  intro s c h
  dsimp only
  refine ⟨fun hr => ⟨congrArg _ (State.spdm_of_recovery h hr _), congrArg _ (State.spdm_of_recovery h hr _)⟩, fun hr => ?_⟩
  have answer : ∀ {f : State → SpdmAns} {a : SpdmAns}, f (s.mgmtReq c 5).1 = a → s.spdm c f =
      ((s.mgmtReq c 5).1.bump pMGMT Off.MGMT_SPDM_CNT 1).send (.mgmt (.spdm c.val a)) :=
    fun e => (State.spdm_of_verified h hr _).trans (by rw [e])
  refine ⟨congrArg _ (answer rfl), congrArg _ (answer rfl), fun _ _ => congrArg _ (answer rfl), congrArg _ (answer rfl), ?certificate,
    ?unsigned, ?signed, ?one, ?evidence, ?all, congrArg _ (answer rfl)⟩
  case certificate => exact fun slot off len hs => congrArg _ (answer (if_neg (Nat.not_lt.mpr (Nat.le_of_lt_succ hs))))
  case unsigned =>
    intro nonce hd
    have level : (s.mgmtReq c 5).1.dbgLevel = 2 := (State.mgmtReq_dbgLevel h).trans hd
    exact congrArg _ (answer ((if_neg (not_not.mpr rfl)).trans (congrArg (SpdmAns.challenge 0 _) (if_pos level))))
  case signed =>
    intro nonce hd
    have level : ¬(s.mgmtReq c 5).1.dbgLevel = 2 := (State.mgmtReq_dbgLevel h).trans_ne hd
    exact congrArg _ (answer ((if_neg (not_not.mpr rfl)).trans (congrArg (SpdmAns.challenge 0 _) (if_neg level))))
  case one =>
    intro ix nonce h1 h5 hn
    have named : ix ≠ 0xFF ∧ ix ≠ 0 ∧ ix ≠ 0xF0 := by omega
    rw [exec_spdmGetMeasurements, execSpdmGetMeasurements]
    refine congrArg _ (answer ?_)
    simp only [named, h5, true_or, if_true, if_false]
  case evidence =>
    intro nonce hn
    rw [exec_spdmGetMeasurements, execSpdmGetMeasurements, fit_of_length 0 hn]
    exact congrArg _ (answer rfl)
  case all =>
    intro nonce hn
    rw [exec_spdmGetMeasurements, execSpdmGetMeasurements, fit_of_length 0 hn]
    refine congrArg _ (answer ?_)
    simp only [List.map_cons, List.map_nil, if_true, if_false, Nat.reduceEqDiff, OfNat.one_ne_ofNat]

end Sys2Proof.Machine
end

section
/-!
PROOF. Proofs/Mgmt.lean: the management port serves PLDM and MCTP (R430, R434, R448 to R451, R453).
-/
namespace Sys2Proof.Machine

/-! ### An image slot depends on flash and fuses alone (R438, R440) -/

section Slot
variable {s t : State} (hf : t.flash = s.flash) (hs : t.sec = s.sec)
include hf

theorem State.flashRd_of_flash (a n : Nat) : t.flashRd a n = s.flashRd a n :=
  congrArg (List.map · (upTo a n)) (funext fun k => by rw [State.flashByte, hf, State.flashByte])

theorem State.imgHeader_of_flash (k : Nat) : t.imgHeader k = s.imgHeader k := State.flashRd_of_flash hf _ _

theorem State.imgDigest_of_flash (k : Nat) : t.imgDigest k = s.imgDigest k := by
  simp only [State.imgDigest, State.imgHeader_of_flash hf, State.flashRd_of_flash hf]

include hs

theorem State.slotOk_of_same (k : Nat) : t.slotOk k = s.slotOk k := by
  simp only [State.slotOk, State.headerOk, State.imgHeader_of_flash hf, State.imgDigest_of_flash hf, hs]

end Slot

theorem State.mgmtReq_flash {s : State} {c : MgmtChan} {typ : Nat} (h : (s.mgmtReq c typ).2 = true) : (s.mgmtReq c typ).1.flash = s.flash := by
  obtain ⟨m, e⟩ := State.mgmtReq_served h
  rw [e]

theorem State.mgmtReq_sec {s : State} {c : MgmtChan} {typ : Nat} (h : (s.mgmtReq c typ).2 = true) : (s.mgmtReq c typ).1.sec = s.sec := by
  obtain ⟨m, e⟩ := State.mgmtReq_served h
  rw [e]

/-! ### PLDM (R434, R451) -/

section Pldm
variable {s : State} {c : MgmtChan}

/-- A step of an update that is served is answered. -/
theorem exec_pldmFirmwareUpdate_of_served {q : FwStep} {t : State} {a : PldmAns} (h : (s.mgmtReq c 1).2 = true)
    (hb : fwPage q = true → s.age.hullBusy = none) (hq : (s.mgmtReq c 1).1.updateStep q = (t, a)) :
    exec (.pldmFirmwareUpdate c q) s = .next (t.pldmAnswer c a) := by
  have free : ¬(fwPage q && s.age.hullBusy.isSome) = true := by
    cases hp : fwPage q with
    | false => simp
    | true => simp [hb hp]
  rw [exec_pldmFirmwareUpdate, execPldmFirmwareUpdate, if_neg free, State.mgmtReq_eq h]
  dsimp only
  rw [hq]

end Pldm

/-! ### MGMT_EID (R453) -/

theorem pageOf_mgmtEid : pageOf (pMGMT + Off.MGMT_EID) = some ⟨.mgmt, 0, 0⟩ := by decide +kernel

theorem regRow_mgmtEid : regRow (pMGMT + Off.MGMT_EID) = some ⟨0x088, 1, 0, false, .rw, 0xff, 0⟩ := by decide +kernel

theorem halfOf_mgmtEid : halfOf (pMGMT + Off.MGMT_EID) = none := by
  rw [halfOf, regRow_mgmtEid]
  rfl

/-- A write of MGMT_EID by any requester replaces its 8 bits. -/
theorem State.writeReg_mgmtEid (s : State) (r : Requester) (v : Nat) :
    s.writeReg r (pMGMT + Off.MGMT_EID) v = s.writePlain (pMGMT + Off.MGMT_EID) 0xFF v := by
  rw [State.writeReg, pageOf_mgmtEid, regRow_mgmtEid]
  rfl

theorem State.aperWrite_mgmtEid {s : State} {r : Requester} (h : s.reachable r (pMGMT + Off.MGMT_EID) = true) (v : DWord) :
    s.aperWrite r (pMGMT + Off.MGMT_EID) false v
      = (s.freeLatch r (pMGMT + Off.MGMT_EID)).writePlain (pMGMT + Off.MGMT_EID) 0xFF (v.setWidth 32).toNat := by
  have placed : ¬(pageOf (pMGMT + Off.MGMT_EID)).isNone = true := by rw [pageOf_mgmtEid]; exact Bool.false_ne_true
  have fits : ¬(!aligned (pMGMT + Off.MGMT_EID) false) = true := by decide
  rw [State.aperWrite, h, if_neg (by decide), if_neg fits, if_neg placed, State.writeAt, if_pos (by decide), State.writeWord, halfOf_mgmtEid]
  exact State.writeReg_mgmtEid _ r _

/-- Settles O55; the one requester of all management paths is log entry 60. -/
theorem managementPortServes : Obligations.ManagementPortServes := by
  intro s c
  refine ⟨?platform, ?sensor, ?update, ?request, ?busy, ?aper, ?eid, ?eidWrite, ?timeout, ?address, ?ctrl, ?aperEn⟩
  case platform =>
    intro q h hr
    obtain ⟨m, e⟩ := State.mgmtReq_served h
    rw [exec_pldmPlatformRequest, execPldmPlatformRequest, e]
    exact congrArg _ (if_neg (ne_true_of_eq_false hr))
  case sensor =>
    intro id x hid
    refine ⟨?_, fun hx => ?_⟩
    · simp only [State.platform, Nat.not_le.mpr hid, if_false]
    · simp only [State.platform, Nat.le_add_right, if_true, Nat.add_sub_cancel_left, hx]
  case update =>
    intro slot n h hu
    dsimp only
    have upd : (s.mgmtReq c 1).1.sec.upd = some (slot, n) := (congrArg SecSt.upd (State.mgmtReq_sec h)).trans hu
    have same := State.slotOk_of_same (State.mgmtReq_flash h) (State.mgmtReq_sec h) slot
    refine ⟨fun b h0 h256 hn hb => ?page, fun ho => ?good, fun ho => ?bad⟩
    case page =>
      have fits : ¬(b.length = 0 ∨ 256 < b.length ∨ slotSize < n + b.length) := by omega
      refine exec_pldmFirmwareUpdate_of_served h (fun _ => hb) ?_
      simp only [State.updateStep, upd, fits, if_false]
    case good =>
      refine exec_pldmFirmwareUpdate_of_served h (fun hp => absurd hp Bool.false_ne_true) ?_
      simp only [State.updateStep, upd, same, ho, if_true]
    case bad =>
      refine exec_pldmFirmwareUpdate_of_served h (fun hp => absurd hp Bool.false_ne_true) ?_
      simp only [State.updateStep, upd, same, ho, Bool.false_eq_true, if_false]
  case request =>
    intro h hu
    have idle : (s.mgmtReq c 1).1.sec.upd = none := (congrArg SecSt.upd (State.mgmtReq_sec h)).trans hu
    refine exec_pldmFirmwareUpdate_of_served h (fun hp => absurd hp Bool.false_ne_true) ?_
    simp only [State.updateStep, idle, State.secStat, State.field, State.mgmtReq_regN h]
  case busy =>
    intro b h
    have waits : (fwPage (.page b) && s.age.hullBusy.isSome) = true := by simp [fwPage, h]
    rw [exec_pldmFirmwareUpdate, execPldmFirmwareUpdate, if_pos waits]
  case aper =>
    intro w off wide v cyc hoff h
    dsimp only
    have level := State.mgmtReq_dbgLevel h
    have enable := congrArg (bit · 0) (State.mgmtReq_regN h (pMGMT + Off.MGMT_CTRL))
    have inside : decide (aperSize ≤ off) = false := decide_eq_false (Nat.not_le.mpr hoff)
    refine ⟨fun hr => ?_, fun he hl => ?_⟩
    · have refused : ((s.mgmtReq c 0x7E).1.dbgLevel == 2 && namesSec off || !bit ((s.mgmtReq c 0x7E).1.regN (pMGMT + Off.MGMT_CTRL)) 0
          || decide (aperSize ≤ off)) = true := by
        rw [level, enable]
        rcases hr with hr | ⟨hl, hn⟩
        · simp [hr]
        · simp [hl, hn]
      rw [exec_mctpApertureAccess, execMctpApertureAccess, State.mgmtReq_eq h]
      exact congrArg _ (if_pos refused)
    · have served : ((s.mgmtReq c 0x7E).1.dbgLevel == 2 && namesSec off || !bit ((s.mgmtReq c 0x7E).1.regN (pMGMT + Off.MGMT_CTRL)) 0
          || decide (aperSize ≤ off)) = false := by
        rw [level, enable, inside]
        rcases hl with hl | hn
        · simp [he, hl]
        · simp [he, hn]
      rw [exec_mctpApertureAccess, execMctpApertureAccess, State.mgmtReq_eq h]
      exact congrArg _ (if_neg (ne_true_of_eq_false served))
  case eid =>
    intro eid h
    rw [exec_mctpSetEndpointId, execMctpSetEndpointId, State.mgmtReq_eq h]
  case eidWrite =>
    intro r v cyc hr
    exact congrArg _ ((if_neg (by decide)).trans (State.aperWrite_mgmtEid (s := { s with busCycle := cyc }) hr v))
  case timeout => intro h0 hp; rw [exec_i3cBroadcastTimeout, execI3cBroadcastTimeout, if_pos ⟨h0, hp⟩]
  case address =>
    intro x h2 hu
    have up : ¬(!s.harbourUp) = true := by simp [hu]
    rw [exec_i3cDynamicAddressAssignment, execI3cDynamicAddressAssignment, if_neg (not_or.mpr ⟨h2, up⟩)]
  case ctrl =>
    intro r v h
    have kept : ¬(r = .mgmt ∧ (!bit v.toNat 0) = true) := by
      rintro ⟨hr, hb⟩
      simp [h hr] at hb
    rw [exec_mgmtCtrlWrite, execMgmtCtrlWrite, State.mgmtCtrl, if_neg kept]
  case aperEn =>
    intro v h
    have clears : Requester.mgmt = .mgmt ∧ (!bit v.toNat 0) = true := ⟨rfl, by simp [h]⟩
    rw [exec_mgmtCtrlWrite, execMgmtCtrlWrite, State.mgmtCtrl, if_pos clears]

end Sys2Proof.Machine
end

section
/-!
PROOF. Proofs/Aper.lean: the register aperture takes aligned accesses, and the header registers of a page act (R311, R315, R454 to R464).
-/
namespace Sys2Proof.Machine

/-! ### Accesses (R454, R455, R457) -/

section Access
variable {s : State} {r : Requester} {off : Nat} (h : s.reachable r off = true)
include h

/-- A requester that reaches the aperture finds the harbour controller up, and is not port A in D3hot. -/
theorem State.up_of_reachable : (s.harbourUp && !(r == .portA && s.pcie.d3)) = true := by
  unfold State.reachable at h
  exact (Bool.and_eq_true_iff.mp h).1

theorem State.aperWrite_of_aligned {wide : Bool} (ha : aligned off wide = true) (hp : (pageOf off).isSome = true) (v : DWord) :
    s.aperWrite r off wide v = s.writeAt r off wide v := by
  have placed : ¬(pageOf off).isNone = true := by rw [Option.isNone_iff_eq_none, ← Option.not_isSome_iff_eq_none]; exact not_not.mpr hp
  rw [State.aperWrite, if_neg (by simp [h]), if_neg (by simp [ha]), if_neg placed]

theorem State.aperWrite_of_misaligned {wide : Bool} (ha : aligned off wide = false) (v : DWord) :
    s.aperWrite r off wide v = s.badAccess 0x01 off := by
  rw [State.aperWrite, if_neg (by simp [h]), if_pos (by simp [ha])]

theorem State.aperWrite_of_absent {wide : Bool} (ha : aligned off wide = true) (hp : pageOf off = none) (v : DWord) :
    s.aperWrite r off wide v = s.badAccess 0x02 off := by
  rw [State.aperWrite, if_neg (by simp [h]), if_neg (by simp [ha]), if_pos (by simp [hp])]

theorem State.aperRead_of_aligned {wide : Bool} (ha : aligned off wide = true) (hp : (pageOf off).isSome = true) : s.aperRead r off wide =
    { (s.readAt r off wide).1 with busRead := BitVec.ofNat 64 (s.readAt r off wide).2 } := by
  have placed : ¬(pageOf off).isNone = true := by rw [Option.isNone_iff_eq_none, ← Option.not_isSome_iff_eq_none]; exact not_not.mpr hp
  rw [State.aperRead, if_neg (by simp [h]), if_neg (by simp [ha]), if_neg placed]

end Access

/-- A 4-byte write of half of a 64-bit register. -/
theorem exec_aperSplitAccess_write {s : State} {r : Requester} {off : Nat} (hoff : off < aperSize) (hr : s.reachable r off = true)
    (h4 : off % 4 = 0) (hp : (pageOf off).isSome = true) {a : Nat} {high : Bool} (hh : halfOf off = some (a, high)) (w : Word) :
    exec (.aperSplitAccess r off true w) s = .next (s.writeHalf r a high w) := by
  have half : ¬(aperSize ≤ off ∨ (halfOf off).isNone = true) := by simp [hh, hoff]
  have low : (w.setWidth 64).setWidth 32 = w := by simp
  have word : s.writeAt r off false (w.setWidth 64) = s.writeHalf r a high w := by
    simp only [State.writeAt, State.writeWord, hh, Bool.not_false, if_true, low]
  rw [exec_aperSplitAccess, execAperSplitAccess, if_neg half, if_pos rfl, State.aperWrite_of_aligned hr (by simp [aligned, h4]) hp, word]

/-- Settles O56; the host's accesses of BAR4 and of the configuration space are log entry 60. -/
theorem apertureTakesAlignedAccesses : Obligations.ApertureTakesAlignedAccesses := by
  intro s r off v cyc hoff hr
  dsimp only
  have busy : (({ s with busCycle := cyc } : State)).reachable r off = true := hr
  have inside : ¬aperSize ≤ off := Nat.not_le.mpr hoff
  have up := State.up_of_reachable hr
  have write : ∀ wide, exec (.registerWrite r (.aperture off) wide ⟨v, cyc⟩) s =
      .next ((({ s with busCycle := cyc } : State)).aperWrite r off wide v) := fun wide => congrArg _ (if_neg inside)
  refine ⟨fun wide ha hp => (write wide).trans (congrArg _ (State.aperWrite_of_aligned busy ha hp v)),
    fun wide ha => (write wide).trans (congrArg _ (State.aperWrite_of_misaligned busy ha v)),
    fun wide ha hp => (write wide).trans (congrArg _ (State.aperWrite_of_absent busy ha hp v)), ?host, ?bad, ?absent, ?low, ?high, ?read⟩
  case host =>
    rintro rfl hm
    have d3 : s.pcie.d3 = false := by simpa using (Bool.and_eq_true_iff.mp up).2
    refine ⟨fun wide hb h4 => ?_, fun wide x => congrArg _ (if_pos ⟨rfl, by simp [hm]⟩)⟩
    have served : ¬(s.rootMode || s.pcie.d3 || decide (0x20000 ≤ off) || off % 4 != 0) = true := by simp [hm, d3, hb, h4]
    exact congrArg _ ((if_pos rfl).trans (if_neg served))
  case bad =>
    intro size write hs hb
    have refused : ¬(aperSize ≤ off ∨ size = 0 ∨ (!badShape off size) = true) := by simp [hb]; omega
    rw [exec_aperBadAccess, execAperBadAccess, if_neg refused, if_pos up]
  case absent =>
    intro hp
    rw [exec_aperAbsent, execAperAbsent, if_neg (by simp [hp, hoff]), if_pos up]
  case low =>
    rintro a rfl hh h4 hp w
    exact exec_aperSplitAccess_write hoff hr h4 hp hh w
  case high =>
    intro a low hh h4 hp hl w
    rw [exec_aperSplitAccess_write hoff hr h4 hp hh w]
    simp only [State.writeHalf, hl, Bool.not_true, Bool.false_eq_true, if_false, if_true]
  case read =>
    intro h4 hp hh w
    have half : ¬(aperSize ≤ off ∨ (halfOf off).isNone = true) := by
      rw [Option.isNone_iff_eq_none, ← Option.not_isSome_iff_eq_none]
      rintro (h | h)
      · exact absurd hoff (Nat.not_lt.mpr h)
      · exact h hh
    rw [exec_aperSplitAccess, execAperSplitAccess, if_neg half, if_neg Bool.false_ne_true,
      State.aperRead_of_aligned hr (by simp [aligned, h4]) hp]

/-! ### The header registers (R459 to R464) -/

section Header
variable {s : State} {r : Requester} {b : Blk} {i : Nat}

theorem State.header_of_reachable (hi : i < b.count) (hr : s.reachable r (pg b i) = true) (f : State → State) :
    s.header r b i f = .next (f (s.freeLatch r (pg b i))) := by
  rw [State.header, if_neg (Nat.not_le.mpr hi), if_pos hr]

theorem homePage_aligned (off : Nat) : homePage off % 4096 = 0 := by
  unfold homePage
  split
  · exact pg_aligned _ _
  · exact Nat.mul_mod_left _ _

/-- Freeing a latch logs at most a lost half: no soft reset comes or goes, and no register outside the error and log registers changes. -/
theorem State.freeLatch_softReset (s : State) (r : Requester) (off : Nat) : (s.freeLatch r off).softReset = s.softReset := by
  unfold State.freeLatch
  split
  · obtain ⟨regs, ras, out, aplic, servers, pba, e⟩ :=
      ((s.dropLatch r (off / 4096)).logErr_frame (homePage_aligned off) 0xF2 clsCorr LogInfo.none (by decide)).1
    exact (congrArg State.softReset e).trans rfl
  · rfl
  · rfl

theorem State.freeLatch_regN (s : State) (r : Requester) {off o : Nat} (h : o ∉ errRegs (homePage off) ++ logRegs) :
    (s.freeLatch r off).regN o = s.regN o := by
  unfold State.freeLatch
  split
  · exact State.regN_logCorr _ (homePage_aligned off) h 0xF2
  · rfl
  · rfl

/-- No log register is a page's control register. -/
theorem pgCtrl_not_mem (b : Blk) (i : Nat) (page : Nat) (hp : page % 4096 = 0) : pg b i + Off.PG_CTRL ∉ errRegs page ++ logRegs := by
  intro h
  have control : (pg b i + Off.PG_CTRL) % 4096 = Off.PG_CTRL := by rw [Nat.add_mod, pg_aligned]; rfl
  rcases List.mem_append.mp h with h | h
  · exact not_mem_errRegs hp (by rw [control]; decide) h
  · have logs : ∀ o ∈ logRegs, o % 4096 ≠ Off.PG_CTRL := by decide
    exact logs _ h control

theorem State.freeLatch_frozen (s : State) (r : Requester) (b : Blk) (i off : Nat) :
    (s.freeLatch r off).frozen (pg b i) = s.frozen (pg b i) :=
  congrArg (bit · 2) (s.freeLatch_regN r (pgCtrl_not_mem b i _ (homePage_aligned off)))

end Header

/-- Settles O57; that a soft reset with an action waits for the boundary is log entry 62. -/
theorem pageHeadersAct : Obligations.PageHeadersAct := by
  intro s r b i hi hr
  dsimp only
  have act := State.header_of_reachable hi hr
  refine ⟨fun h => ?reset, fun h => ?due, fun v => ?freeze, ?level, fun v hv => ?levels, fun v => ⟨fun h => ?cleared, fun n h hn => ?prep⟩,
    fun v => ?force, ?first⟩
  case reset =>
    rw [exec_pgSoftReset, execPgSoftReset, act]
    exact congrArg _ (if_pos (by simp [h]))
  case due =>
    rw [exec_pgSoftReset, execPgSoftReset, act, ← s.freeLatch_softReset r (pg b i)]
    exact congrArg _ (if_neg (by simp [h]))
  case freeze =>
    rw [exec_pgFreezeWrite, execPgFreezeWrite, act, State.freezeWrite, s.freeLatch_frozen]
    simp only [Bool.and_eq_true, Bool.not_eq_true']
  case level =>
    rw [exec_pgLevelWrite, execPgLevelWrite, act, State.levelWrite, if_neg (by decide)]
    cases (s.freeLatch r (pg b i)).noJob <;> rfl
  case levels =>
    have other : v.toNat % 256 ≠ 1 := by
      intro h
      exact hv (BitVec.eq_of_toNat_eq (by rw [Nat.mod_eq_of_lt v.isLt] at h; exact h))
    rw [exec_pgLevelWrite, execPgLevelWrite, act, State.levelWrite, if_pos other]
  case cleared =>
    rw [exec_pgIrqStatClear, execPgIrqStatClear, act, State.irqClear]
    rcases h with h | h
    · cases prepPend b i <;> simp only [h, Bool.false_eq_true, if_false]
    · rw [h]
  case prep =>
    rw [exec_pgIrqStatClear, execPgIrqStatClear, act]
    simp only [State.irqClear, hn, h, if_true]
  case force => rw [exec_pgIrqForce, execPgIrqForce, act]
  case first => rw [exec_pgErrFirstClear, execPgErrFirstClear, act, State.errClear]

end Sys2Proof.Machine
end

section
/-!
PROOF. Proofs/Quiet.lean: commands that only set registers store nothing (R15, R35 to R39, R57, R64, R65, R405, R421 to R423, R460 to R464).
-/
namespace Sys2Proof.Machine

/-! ### What stores nothing -/

/-- Memory, poison and the registers of the address map are the same. -/
structure State.StoresNothing (s t : State) : Prop where
  mem : t.mem = s.mem
  poison : t.poison = s.poison
  map : MapSame s t

theorem State.StoresNothing.refl (s : State) : s.StoresNothing s := ⟨rfl, rfl, MapSame.of_regs rfl⟩

theorem State.StoresNothing.trans {s t u : State} (h : s.StoresNothing t) (k : t.StoresNothing u) : s.StoresNothing u :=
  ⟨k.mem.trans h.mem, k.poison.trans h.poison, h.map.trans k.map⟩

theorem State.StoresNothing.ite {s a b : State} {c : Prop} [Decidable c] (ha : s.StoresNothing a) (hb : s.StoresNothing b) :
    s.StoresNothing (if c then a else b) := by
  split
  · exact ha
  · exact hb

theorem State.StoresNothing.foldl {α : Type} {f : State → α → State} {l : List α} (hf : ∀ s, ∀ x ∈ l, State.StoresNothing s (f s x)) (s : State) :
    s.StoresNothing (l.foldl f s) :=
  List.foldlRecOn (motive := s.StoresNothing) l f (.refl s) fun t ht x hx => ht.trans (hf t x hx)

/-- The register is none that the address map rests on. -/
abbrev OffMap (o : Nat) : Prop :=
  pg .hbmc 0 + Off.HBMC_MAP ≠ o ∧ pg .lpdc 0 + Off.LPDC_STAT ≠ o ∧ pg .lpdc 0 + Off.LPDC_TIER ≠ o

/-- The map's registers lie at two offsets of their pages. -/
theorem offMap_of_mod {o : Nat} (h : o % 4096 ∉ [0x80, 0x84]) : OffMap o := by
  have map : (pg .hbmc 0 + Off.HBMC_MAP) % 4096 = 0x80 := by decide
  have stat : (pg .lpdc 0 + Off.LPDC_STAT) % 4096 = 0x84 := by decide
  have tier : (pg .lpdc 0 + Off.LPDC_TIER) % 4096 = 0x80 := by decide
  refine ⟨?_, ?_, ?_⟩ <;> rintro rfl
  · exact h (by rw [map]; decide)
  · exact h (by rw [stat]; decide)
  · exact h (by rw [tier]; decide)

theorem offMap_page {page k : Nat} (hp : page % 4096 = 0) (h : k % 4096 ∉ [0x80, 0x84]) : OffMap (page + k) :=
  offMap_of_mod (by rw [Nat.add_mod, hp, Nat.zero_add, Nat.mod_mod]; exact h)

theorem offMap_errRegs {page : Nat} (hp : page % 4096 = 0) : ∀ o ∈ errRegs page, OffMap o := by
  simp only [errRegs, List.mem_cons, List.not_mem_nil, or_false, forall_eq_or_imp, forall_eq]
  exact ⟨offMap_page hp (by decide), offMap_page hp (by decide), offMap_page hp (by decide), offMap_page hp (by decide)⟩

section Operations
variable (s : State)

theorem State.setReg_storesNothing {o : Nat} (h : OffMap o) (v : DWord) : s.StoresNothing (s.setReg o v) :=
  ⟨rfl, rfl, MapSame.setReg s v h.1 h.2.1 h.2.2⟩

theorem State.setRegN_storesNothing {o : Nat} (h : OffMap o) (v : Nat) : s.StoresNothing (s.setRegN o v) := s.setReg_storesNothing h _

theorem State.setField_storesNothing {o : Nat} (h : OffMap o) (hi lo v : Nat) : s.StoresNothing (s.setField o hi lo v) :=
  s.setRegN_storesNothing h _

theorem State.bumpW_storesNothing {page off : Nat} (h : OffMap (page + off)) (w n : Nat) : s.StoresNothing (s.bumpW w page off n) :=
  .ite (.refl s) (s.setRegN_storesNothing h _)

/-- What changes registers among some that are not the map's. -/
theorem State.OnlyRegs.storesNothing {s t : State} {l : List Nat} (h : s.OnlyRegs t l) (hl : ∀ o ∈ l, OffMap o) : s.StoresNothing t where
  mem := by rw [h.rest]
  poison := by rw [h.rest]
  map := ⟨h.regN fun m => (hl _ m).1 rfl, h.regN fun m => (hl _ m).2.1 rfl, h.regN fun m => (hl _ m).2.2 rfl⟩

theorem Signals.storesNothing {s t : State} (h : Signals s t) : s.StoresNothing t := by
  obtain ⟨out, aplic, servers, pba, rfl⟩ := h.rest
  exact ⟨rfl, rfl, MapSame.of_regs rfl⟩

theorem State.raiseIrq_storesNothing {page : Nat} (h : OffMap (page + Off.PG_IRQ_STAT)) (causes : Nat) : s.StoresNothing (s.raiseIrq page causes) :=
  (s.setRegN_storesNothing h (s.regN (page + Off.PG_IRQ_STAT) ||| causes)).trans
    (State.irqEdge_signals s page fun s => s.setRegN (page + Off.PG_IRQ_STAT) (s.regN (page + Off.PG_IRQ_STAT) ||| causes)).storesNothing

theorem State.errEntered_storesNothing {page : Nat} (hp : page % 4096 = 0) (code cls : Nat) (li : LogInfo) :
    s.StoresNothing (s.errEntered page code cls li) := by
  obtain ⟨ras, only⟩ := (s.noteErr page code cls).enterErr_onlyLog page code cls (mkLog s page code cls li)
  have noted : s.StoresNothing (s.noteErr page code cls) :=
    ((s.noted_onlyRegs page code cls).storesNothing (offMap_errRegs hp)).trans (s.noteErr_signals page code cls).storesNothing
  have log : State.StoresNothing (s.noteErr page code cls) { s.noteErr page code cls with ras := ras } := ⟨rfl, rfl, MapSame.of_regs rfl⟩
  exact noted.trans (log.trans (only.storesNothing (by decide)))

theorem State.goFatal_storesNothing (page code : Nat) : s.StoresNothing (s.goFatal page code) := by
  cases h : s.left with
  | true =>
    rw [State.goFatal, if_pos h]
    exact .refl s
  | false =>
    obtain ⟨src, tick, stat, e⟩ := State.goFatal_eq h page code
    have source := s.setRegN_storesNothing (o := pRAS + Off.RAS_FATAL_SRC) (by decide) src
    have what := source.trans (State.setRegN_storesNothing _ (o := pRAS + Off.RAS_FATAL_CODE) (by decide) (code % 256))
    have when := what.trans (State.setRegN_storesNothing _ (o := pRAS + Off.RAS_FATAL_TICK) (by decide) tick)
    have shown := when.trans (State.setRegN_storesNothing _ (o := pRAS + Off.RAS_STAT) (by decide) stat)
    rw [e]
    exact shown.trans ⟨rfl, rfl, MapSame.of_regs rfl⟩

/-- An error of any class stores nothing. -/
theorem State.logErr_storesNothing {page : Nat} (hp : page % 4096 = 0) (code cls : Nat) (li : LogInfo) :
    s.StoresNothing (s.logErr page code cls li) := by
  rw [State.logErr_eq s hp]
  exact .ite ((s.errEntered_storesNothing hp code cls li).trans (State.goFatal_storesNothing _ page code))
    (s.errEntered_storesNothing hp code cls li)

theorem State.logCorr_storesNothing {page : Nat} (hp : page % 4096 = 0) (code : Nat) : s.StoresNothing (s.logCorr page code) :=
  s.logErr_storesNothing hp code clsCorr LogInfo.none

theorem State.setCore_storesNothing (c : Nat) (x : CoreSt) : s.StoresNothing (s.setCore c x) := ⟨rfl, rfl, MapSame.of_regs rfl⟩

theorem State.setPort_storesNothing (p : Nat) (x : PortSt) : s.StoresNothing (s.setPort p x) := ⟨rfl, rfl, MapSame.of_regs rfl⟩

theorem State.setTick_storesNothing (x : TickSt) : s.StoresNothing { s with tick := x } := ⟨rfl, rfl, MapSame.of_regs rfl⟩

/-! ### The tick unit and its flags -/

theorem State.tickEvent_storesNothing (code : Nat) : s.StoresNothing (s.tickEvent code) :=
  (s.bumpW_storesNothing (by decide) 32 1).trans (State.logCorr_storesNothing _ (pg_aligned .tick 0) code)

theorem State.setTickStat_storesNothing (i : Nat) (v : Bool) : s.StoresNothing (s.setTickStat i v) := s.setField_storesNothing (by decide) _ _ _

theorem State.sendJoin_storesNothing (p : Nat) : s.StoresNothing (s.sendJoin p) := by
  unfold State.sendJoin
  split
  · split
    · exact s.setPort_storesNothing p _
    · exact s.setTick_storesNothing _
  · exact .refl s

theorem State.gridUp_storesNothing : s.StoresNothing s.gridUp := by
  have counted : s.StoresNothing (s.setRegN (pTICK + Off.TICK_GRID) ((s.grid + 1) % 2 ^ 64)) := s.setRegN_storesNothing (by decide) _
  refine .ite (counted.trans ?_) counted
  exact (State.setTick_storesNothing _ _).trans (.foldl (fun t p _ => t.sendJoin_storesNothing p) _)

theorem State.addStretch_storesNothing : s.StoresNothing s.addStretch :=
  (s.setTick_storesNothing _).trans (State.bumpW_storesNothing _ (by decide) 64 _)

theorem State.govCredit_storesNothing : s.StoresNothing s.govCredit := by
  have balance : ∀ d ∈ upTo 0 4, OffMap (pPWR + Off.PWR_GOV_BAL + 4 * d) := by decide
  exact .foldl (fun t d hd => t.setRegN_storesNothing (balance d hd) _) s

theorem State.setFlags_storesNothing (c f p : Nat) : s.StoresNothing (s.setFlags c f p) :=
  ((s.setRegN_storesNothing (offMap_page (pg_aligned .seq c) (by decide)) f).trans
    (State.setRegN_storesNothing _ (offMap_page (pg_aligned .seq c) (by decide)) p)).trans (State.setCore_storesNothing _ c _)

theorem State.handFlags_storesNothing (c mask : Nat) : s.StoresNothing (s.handFlags c mask) :=
  (s.setFlags_storesNothing c _ _).trans (State.setCore_storesNothing _ c _)

/-! ### Page headers -/

theorem State.freeLatch_storesNothing (r : Requester) (off : Nat) : s.StoresNothing (s.freeLatch r off) := by
  have dropped : s.StoresNothing (s.dropLatch r (off / 4096)) := ⟨rfl, rfl, MapSame.of_regs rfl⟩
  unfold State.freeLatch
  split
  · exact dropped.trans (State.logCorr_storesNothing _ (homePage_aligned off) 0xF2)
  · exact dropped
  · exact .refl s

theorem State.freezeWrite_storesNothing {p : Nat} (hp : p % 4096 = 0) (v : Bool) : s.StoresNothing (s.freezeWrite p v) :=
  have held : s.StoresNothing (if v && !s.frozen p then s.clearLoose (p + Off.PG_CTRL) else s) := .ite ⟨rfl, rfl, MapSame.of_regs rfl⟩ (.refl s)
  held.trans (State.setField_storesNothing _ (offMap_page hp (by decide)) _ _ _)

theorem State.levelWrite_storesNothing {p : Nat} (hp : p % 4096 = 0) (v : Nat) : s.StoresNothing (s.levelWrite p v) :=
  .ite (s.logCorr_storesNothing hp _) (.ite (s.logCorr_storesNothing hp _) (s.setField_storesNothing (offMap_page hp (by decide)) _ _ _))

theorem State.irqClear_storesNothing (b : Blk) (i v : Nat) : s.StoresNothing (s.irqClear b i v) := by
  have cleared : s.StoresNothing (s.setRegN (pg b i + Off.PG_IRQ_STAT) (without (s.regN (pg b i + Off.PG_IRQ_STAT)) v)) :=
    s.setRegN_storesNothing (offMap_page (pg_aligned b i) (by decide)) _
  have pending : ∀ c, OffMap (pPREP c + Off.PREP_IRQ_PEND) := fun c =>
    offMap_page (pg_aligned .prep c) (by decide)
  unfold State.irqClear
  dsimp only
  split
  · exact .ite (cleared.trans (State.setField_storesNothing _ (pending _) _ _ _)) cleared
  · exact cleared

theorem State.errClear_storesNothing {p : Nat} (hp : p % 4096 = 0) : s.StoresNothing (s.errClear p) :=
  (s.setRegN_storesNothing (offMap_page hp (by decide)) _).trans (State.setRegN_storesNothing _ (offMap_page hp (by decide)) _)

end Operations

/-! ### The commands -/

/-- What an outcome leads to has stored nothing. -/
def StoresNothingOut (s : State) (o : Host.Outcome State Fault Refusal) : Prop := ∀ t, o = .next t → s.StoresNothing t

section Commands
variable {s : State}

theorem StoresNothingOut.next {t : State} (h : s.StoresNothing t) : StoresNothingOut s (.next t) := fun _ e => by cases e; exact h

theorem StoresNothingOut.header {r : Requester} {b : Blk} {i : Nat} {f : State → State} (hf : ∀ t, State.StoresNothing t (f t)) :
    StoresNothingOut s (s.header r b i f) :=
  .next (.ite (.refl s) (.ite ((s.freeLatch_storesNothing r _).trans (hf _)) (.refl s)))

theorem tmarkPulse_storesNothing (width : Nat) (onGrid : Bool) : StoresNothingOut s (execTmarkPulse width onGrid s) := by
  have up : s.StoresNothing ({ s with tick := { s.tick with miss := 0 } } : State).gridUp :=
    (s.setTick_storesNothing _).trans (State.gridUp_storesNothing _)
  refine .next (.ite (.refl s) (.ite (s.tickEvent_storesNothing _) (.ite (.ite up ?_) (.ite (.ite ?_ up) ?_))))
  · exact (s.setTick_storesNothing _).trans (State.logErr_storesNothing _ (pg_aligned .tick 0) _ _ _)
  · exact up.trans (State.tickEvent_storesNothing _ _)
  · exact up.trans (State.tickEvent_storesNothing _ _)

theorem tlateSample_storesNothing (cycle : Nat) (low : Bool) : StoresNothingOut s (execTlateSample cycle low s) := by
  refine .next (.ite (.refl s) (.ite (.ite (.ite (.refl s) ?_) ?_) (.ite (.refl s) ?_)))
  · have stretched := ((s.setTick_storesNothing { s.tick with applied := (s.now - 1) :: s.tick.applied }).trans
      (State.addStretch_storesNothing _)).trans (State.bumpW_storesNothing _ (page := pTICK) (off := Off.TICK_LATE_CNT) (by decide) 64 1)
    refine (stretched.trans (.ite (.refl _) (State.govCredit_storesNothing _))).trans (.foldl (fun t q _ => ?_) _)
    exact .ite (.refl t) (t.setPort_storesNothing q _)
  · exact s.bumpW_storesNothing (by decide) 32 1
  · exact (s.setTick_storesNothing _).trans (State.tickEvent_storesNothing _ _)

theorem tickCfgWrite_storesNothing (v : Word) : StoresNothingOut s (execTickCfgWrite v s) := by
  have pending := s.setTick_storesNothing
  exact .next (.ite ((pending _).trans (State.logCorr_storesNothing _ (pg_aligned .tick 0) _)) (pending _))

theorem tickCfgApply_storesNothing : StoresNothingOut s (execTickCfgApply s) := by
  have applied := s.setTick_storesNothing { s.tick with cfgPend := none }
  refine .next ?_
  split
  · exact .refl s
  · exact .ite ((applied.trans (State.setRegN_storesNothing _ (by decide) _)).trans (State.setTickStat_storesNothing _ _ _))
      (applied.trans (State.logCorr_storesNothing _ (pg_aligned .tick 0) _))

theorem pwrCapWrite_storesNothing (burst : Bool) (v : BitVec 16) : StoresNothingOut s (execPwrCapWrite burst v s) := by
  have refused := s.logCorr_storesNothing (page := pPWR) (pg_aligned .pwr 0) 0x09
  exact .next (.ite (.ite ⟨rfl, rfl, MapSame.of_regs rfl⟩ refused) (.ite ⟨rfl, rfl, MapSame.of_regs rfl⟩ refused))

theorem sentinelSample_storesNothing (codes : List (BitVec 7)) : StoresNothingOut s (execSentinelSample codes s) := by
  have shown : ∀ l : List (BitVec 7), s.StoresNothing ((l.zip (upTo 0 192)).foldl (fun (s : State) e => s.setRegN (ageSent e.2) e.1.toNat) s) := by
    intro l
    refine .foldl (fun t e he => t.setRegN_storesNothing ?_ _) s
    have place : e.2 < 192 := by simpa using lt_add_of_mem_upTo (List.of_mem_zip he).2
    have inPage : (0x600 + 4 * e.2) % 4096 ∉ [0x80, 0x84] := by
      simp only [List.mem_cons, List.not_mem_nil, or_false]
      omega
    rw [ageSent, Nat.add_assoc (pAGE + 0x1000)]
    exact offMap_page (by decide) inPage
  exact .next (.ite ((shown _).trans ⟨rfl, rfl, MapSame.of_regs rfl⟩) (shown _))

end Commands

theorem exec_storesNothing (c : Instr) (s : State) (h : storelessCommand c = true) : StoresNothingOut s (exec c s) := by
  cases c with
  | tmarkPulse width onGrid => exact tmarkPulse_storesNothing width onGrid
  | tmarkMissing =>
    exact .next (.ite ((s.setTick_storesNothing _).trans ((State.gridUp_storesNothing _).trans (State.tickEvent_storesNothing _ _))) (.refl s))
  | tmarkMissLimit => exact .next (.ite (s.logErr_storesNothing (pg_aligned .tick 0) _ _ _) (.refl s))
  | tickCopyCompare grid now phase => exact .next (.ite (.refl s) (.ite (.refl s) (s.logErr_storesNothing (pg_aligned .tick 0) _ _ _)))
  | tickSourceLoss => exact .next (.ite (s.logErr_storesNothing (pg_aligned .tick 0) _ _ _) (s.setTick_storesNothing _))
  | tickFailover =>
    exact .next (.ite ((((s.setTick_storesNothing _).trans (State.setTickStat_storesNothing _ _ _)).trans (State.setTickStat_storesNothing _ _ _)).trans
      (State.logCorr_storesNothing _ (pg_aligned .tick 0) _)) (.refl s))
  | tlateSample cycle low => exact tlateSample_storesNothing cycle low
  | tickCfgWrite v => exact tickCfgWrite_storesNothing v
  | tickCfgApply => exact tickCfgApply_storesNothing
  | seqFlagSet c v => exact .next (s.handFlags_storesNothing c _)
  | seqFlagClr c v => exact .next (s.setFlags_storesNothing c _ _)
  | pgFreezeWrite r b i v => exact .header fun t => t.freezeWrite_storesNothing (pg_aligned b i) v
  | pgLevelWrite r b i v => exact .header fun t => t.levelWrite_storesNothing (pg_aligned b i) _
  | pgIrqStatClear r b i v => exact .header fun t => t.irqClear_storesNothing b i _
  | pgIrqForce r b i v => exact .header fun t => t.raiseIrq_storesNothing (offMap_page (pg_aligned b i) (by decide)) _
  | pgErrFirstClear r b i => exact .header fun t => t.errClear_storesNothing (pg_aligned b i)
  | pwrModeReqWrite v => exact .next (.ite (s.logCorr_storesNothing (pg_aligned .pwr 0) _) (s.setField_storesNothing (by decide) _ _ _))
  | pwrCapWrite burst v => exact pwrCapWrite_storesNothing burst v
  | pwrShutdown => exact .next (.ite ⟨rfl, rfl, MapSame.of_regs rfl⟩ (.refl s))
  | oscSample f => exact .next ⟨rfl, rfl, MapSame.of_regs rfl⟩
  | sentinelSample codes => exact sentinelSample_storesNothing codes
  | hullNow => exact .next ⟨rfl, rfl, MapSame.of_regs rfl⟩
  | rasLogTailWrite v => exact .next (.ite (s.logCorr_storesNothing (pg_aligned .ras 0) _) (s.setReg_storesNothing (by decide) v))
  | _ => exact absurd h Bool.false_ne_true

/-- Settles O60. -/
theorem registerCommandsStoreNothing : Obligations.RegisterCommandsStoreNothing := by
  intro c s t h e
  obtain ⟨mem, poison, map⟩ := exec_storesNothing c s h t e
  exact ⟨mem, poison, map.rd8 mem⟩

end Sys2Proof.Machine
end

section
/-!
PROOF. Proofs/Guard.lean: the commands on keys, fuses, debug and the management port leave the data plane alone (R434, R440 to R453).
-/
namespace Sys2Proof.Machine

/-! ### What the commands leave -/

/-- What the data plane and the power controller hold. -/
def State.dataPlane (s : State) := (s.mem, s.poison, s.cores, s.cmds, s.ports, s.coh, s.tick, s.pwr)

/-- The register lies in one of the pages that the commands may touch. -/
abbrev GuardPage (o : Nat) : Prop := o / 4096 = pSEC / 4096 ∨ o / 4096 = pMGMT / 4096 ∨ o / 4096 = pRAS / 4096

/-- `t` differs from `s` in nothing of the data plane, in no hart, and in no register outside the SEC, MGMT and RAS pages. -/
structure State.Guarded (s t : State) : Prop where
  wf : s.Wf → t.Wf
  plane : t.dataPlane = s.dataPlane
  harts : s.Wf → ∀ k, (t.server k).hart = (s.server k).hart
  others : ∀ o, ¬GuardPage o → t.reg o = s.reg o

theorem State.Guarded.refl (s : State) : s.Guarded s := ⟨id, rfl, fun _ _ => rfl, fun _ _ => rfl⟩

theorem State.Guarded.trans {s t u : State} (h : s.Guarded t) (k : t.Guarded u) : s.Guarded u where
  wf := k.wf ∘ h.wf
  plane := k.plane.trans h.plane
  harts w i := (k.harts (h.wf w) i).trans (h.harts w i)
  others o ho := (k.others o ho).trans (h.others o ho)

theorem State.Guarded.ite {s a b : State} {c : Prop} [Decidable c] (ha : s.Guarded a) (hb : s.Guarded b) : s.Guarded (if c then a else b) := by
  split
  · exact ha
  · exact hb

theorem State.Guarded.foldl {α : Type} {f : State → α → State} {l : List α} (hf : ∀ s, ∀ x ∈ l, State.Guarded s (f s x)) (s : State) :
    s.Guarded (l.foldl f s) :=
  List.foldlRecOn (motive := s.Guarded) l f (.refl s) fun t ht x hx => ht.trans (hf t x hx)

section Operations
variable (s : State)

/-- Security state, packets, answers and what a register read returns are no part of the data plane. -/
theorem State.guarded_upd (sec : SecSt) (mctpIn : List MgmtPkt) (out : List OutMsg) (free : Nat) (rdData : Bytes) (rdPoison rdError : Bool) :
    s.Guarded { s with sec := sec, mctpIn := mctpIn, out := out, free := free, rdData := rdData, rdPoison := rdPoison, rdError := rdError } :=
  ⟨fun w => ⟨w.mem, w.regs, w.poison, w.flash, w.cores, w.ports, w.queues, w.servers, w.berths, w.tables⟩, rfl, fun _ _ => rfl, fun _ _ => rfl⟩

theorem State.send_guarded (m : OutMsg) : s.Guarded (s.send m) := s.guarded_upd _ _ _ _ _ _ _

theorem State.setReg_guarded {o : Nat} (h : GuardPage o) (v : DWord) : s.Guarded (s.setReg o v) where
  wf := (State.setReg_kept (Kept.refl s) o v).wf
  plane := rfl
  harts _ _ := rfl
  others k hk := State.reg_setReg_ne s (fun e => hk (by rw [e]; exact h)) v

theorem State.setRegN_guarded {o : Nat} (h : GuardPage o) (v : Nat) : s.Guarded (s.setRegN o v) := s.setReg_guarded h _

theorem State.setField_guarded {o : Nat} (h : GuardPage o) (hi lo v : Nat) : s.Guarded (s.setField o hi lo v) := s.setRegN_guarded h _

theorem State.bump_guarded {page off : Nat} (h : GuardPage (page + off)) (n : Nat) : s.Guarded (s.bump page off n) :=
  .ite (.refl s) (s.setRegN_guarded h _)

/-- An error of a guarded page that is not device-fatal. -/
theorem State.logErr_guarded {page cls : Nat} (hp : page % 4096 = 0) (hr : ∀ o ∈ errRegs page ++ logRegs, GuardPage o) (hc : cls ≠ clsFatal)
    (code : Nat) (li : LogInfo) : s.Guarded (s.logErr page code cls li) := by
  obtain ⟨⟨regs, ras, out, aplic, servers, pba, e⟩, harts, others⟩ := s.logErr_frame hp code cls li hc
  exact ⟨(State.logErr_kept (Kept.refl s) page code cls li).wf, by rw [e]; rfl, harts, fun o ho => others o fun m => ho (hr o m)⟩

theorem State.logSec_guarded (code : Nat) : s.Guarded (s.logCorr pSEC code) :=
  s.logErr_guarded (pg_aligned .sec 0) (by decide) (by decide) code _

theorem State.logMgmt_guarded (code : Nat) : s.Guarded (s.logCorr pMGMT code) :=
  s.logErr_guarded (pg_aligned .mgmt 0) (by decide) (by decide) code _

/-! ### Boot flash -/

theorem State.flashErase_guarded (a : Nat) : s.Guarded (s.flashErase a) :=
  ⟨(State.flashErase_kept (Kept.refl s) a).wf, rfl, fun _ _ => rfl, fun _ _ => rfl⟩

theorem State.flashWr_guarded : ∀ (s : State) (a : Nat) (l : Bytes), s.Guarded (s.flashWr a l)
  | s, _, [] => .refl s
  | s, a, b :: bs => by
    have byte : s.Guarded { s with flash := smSet (fun _ => 0xFF) s.flash a b } :=
      ⟨fun w => { w with flash := smWf_set _ _ w.flash }, rfl, fun _ _ => rfl, fun _ _ => rfl⟩
    exact byte.trans (State.flashWr_guarded _ (a + 1) bs)

theorem State.writeDir_guarded (d : Dir) : s.Guarded (s.writeDir d) := (s.flashErase_guarded _).trans (State.flashWr_guarded _ _ _)

theorem State.updateWrite_guarded (slot n : Nat) (b : Bytes) : s.Guarded (s.updateWrite slot n b) :=
  (State.Guarded.foldl (fun t o _ => t.flashErase_guarded _) s).trans (State.flashWr_guarded _ _ _)

/-! ### Keys, fuses and debug -/

theorem State.setSecStat_guarded (hi lo v : Nat) : s.Guarded (s.setSecStat hi lo v) := s.setField_guarded (by decide) _ _ _

theorem State.drawNonce_guarded : s.Guarded s.drawNonce := by
  have nonce : ∀ i ∈ upTo 0 4, GuardPage (pSEC + Off.SEC_DBG_NONCE + 8 * i) := by decide
  exact (State.Guarded.foldl (fun t i hi => t.setReg_guarded (nonce i hi) _) s).trans (State.guarded_upd _ _ _ _ _ _ _ _)

/-! ### Requests and answers -/

theorem State.takePacket_guarded (chan typ : Nat) : s.Guarded (s.takePacket chan typ).1 := by
  unfold State.takePacket
  split
  · exact .refl s
  · dsimp only
    split
    · exact ((s.guarded_upd _ _ _ _ _ _ _).trans (State.bump_guarded _ (by decide) 1)).trans (State.logMgmt_guarded _ _)
    · split
      · exact s.guarded_upd _ _ _ _ _ _ _
      · exact .refl s

theorem State.mgmtReq_guarded (c : MgmtChan) (typ : Nat) : s.Guarded (s.mgmtReq c typ).1 := by
  unfold State.mgmtReq
  split
  · exact .refl s
  · split
    · exact s.takePacket_guarded _ typ
    · split
      · exact .refl s
      · exact .refl s

theorem State.spdm_guarded (c : MgmtChan) (f : State → SpdmAns) : s.Guarded (s.spdm c f) := by
  have req := s.mgmtReq_guarded c 5
  unfold State.spdm
  split
  · rename_i t e
    rw [e] at req
    exact .ite req ((req.trans (State.bump_guarded _ (by decide) 1)).trans (State.send_guarded _ _))
  · rename_i t e
    rw [e] at req
    exact req

theorem State.pldmAnswer_guarded (c : MgmtChan) (a : PldmAns) : s.Guarded (s.pldmAnswer c a) :=
  (s.bump_guarded (by decide) 1).trans (State.send_guarded _ _)

theorem State.endUpdate_guarded (ok : Bool) : s.Guarded (s.endUpdate ok) :=
  ((s.guarded_upd _ _ _ _ _ _ _).trans (State.setSecStat_guarded _ _ _ _)).trans (State.setSecStat_guarded _ _ _ _)

theorem State.updateStep_guarded (q : FwStep) : s.Guarded (s.updateStep q).1 := by
  unfold State.updateStep
  split
  · exact (s.guarded_upd _ _ _ _ _ _ _).trans (State.setSecStat_guarded _ _ _ _)
  · exact .refl s
  · split
    · exact .refl s
    · exact (s.updateWrite_guarded _ _ _).trans (State.guarded_upd _ _ _ _ _ _ _ _)
  · split
    · exact (s.writeDir_guarded _).trans (State.endUpdate_guarded _ _)
    · exact (s.logErr_guarded (pg_aligned .sec 0) (by decide) (by decide) _ _).trans (State.endUpdate_guarded _ _)
  · exact .refl s

end Operations

/-! ### The commands -/

/-- What an outcome leads to has left the data plane alone. -/
def GuardedOut (s : State) (o : Host.Outcome State Fault Refusal) : Prop := ∀ t, o = .next t → s.Guarded t

theorem GuardedOut.next {s t : State} (h : s.Guarded t) : GuardedOut s (.next t) := fun _ e => by cases e; exact h

theorem exec_guarded (c : Instr) (s : State) (h : guardCommand c = true) : GuardedOut s (exec c s) := by
  cases c with
  | secConfirm => exact .next (.ite ((s.writeDir_guarded _).trans (State.setSecStat_guarded _ _ _ _)) (.refl s))
  | secSvnCommit =>
    exact .next (.ite (s.logSec_guarded _) (.ite (.refl s) ((s.guarded_upd _ _ _ _ _ _ _).trans (State.setSecStat_guarded _ _ _ _))))
  | fusingDone =>
    refine .next ?_
    split
    · exact .refl s
    · exact (s.guarded_upd _ _ _ _ _ _ _).trans (State.setSecStat_guarded _ _ _ _)
  | secRevoke v => exact .next (.ite (s.guarded_upd _ _ _ _ _ _ _) (s.logSec_guarded _))
  | secDbgNonceRead => exact .next (s.drawNonce_guarded.trans (State.guarded_upd _ _ _ _ _ _ _ _))
  | secDbgUnlock => exact .next (.ite (s.setSecStat_guarded _ _ _) (s.drawNonce_guarded.trans (State.logSec_guarded _ _)))
  | secDbgLock => exact .next (s.setSecStat_guarded _ _ _)
  | spdmGetVersion c => exact .next (s.spdm_guarded c _)
  | spdmGetCapabilities c => exact .next (s.spdm_guarded c _)
  | spdmNegotiateAlgorithms c ed sha => exact .next (s.spdm_guarded c _)
  | spdmGetDigests c => exact .next (s.spdm_guarded c _)
  | spdmGetCertificate c slot off len => exact .next (s.spdm_guarded c _)
  | spdmChallenge c slot nonce => exact .next (s.spdm_guarded c _)
  | spdmGetMeasurements c ix nonce => exact .next (s.spdm_guarded c _)
  | spdmUnsupported c => exact .next (s.spdm_guarded c _)
  | pldmPlatformRequest c q =>
    have req := s.mgmtReq_guarded c 1
    refine .next ?_
    split
    · rename_i t e
      rw [e] at req
      exact .ite req (req.trans (State.pldmAnswer_guarded _ c _))
    · rename_i t e
      rw [e] at req
      exact req
  | pldmFirmwareUpdate c q =>
    have req := s.mgmtReq_guarded c 1
    refine .next (.ite (.refl s) ?_)
    split
    · rename_i t e
      rw [e] at req
      exact (req.trans (State.updateStep_guarded _ q)).trans (State.pldmAnswer_guarded _ c _)
    · rename_i t e
      rw [e] at req
      exact req
  | mctpSetEndpointId c eid =>
    have req := s.mgmtReq_guarded c 0
    refine .next ?_
    split
    · rename_i t e
      rw [e] at req
      exact req.trans (State.setRegN_guarded _ (by decide) _)
    · rename_i t e
      rw [e] at req
      exact req
  | i3cBroadcastTimeout =>
    exact .next (.ite ((s.setField_guarded (by decide) _ _ _).trans (State.setField_guarded _ (by decide) _ _ _)) (.refl s))
  | i3cDynamicAddressAssignment x =>
    exact .next (.ite (.refl s) ((s.setField_guarded (by decide) _ _ _).trans (State.setField_guarded _ (by decide) _ _ _)))
  | mgmtCtrlWrite r v => exact .next (.ite (s.logMgmt_guarded _) (s.setRegN_guarded (by decide) _))
  | _ => exact absurd h Bool.false_ne_true

/-- Settles O59. -/
theorem securityLeavesTheDataPlane : Obligations.SecurityLeavesTheDataPlane := by
  intro c s t h e
  obtain ⟨-, plane, harts, others⟩ := exec_guarded c s h t e
  obtain ⟨mem, poison, cores, cmds, ports, coh, tick, pwr⟩ : t.mem = s.mem ∧ t.poison = s.poison ∧ t.cores = s.cores ∧ t.cmds = s.cmds
      ∧ t.ports = s.ports ∧ t.coh = s.coh ∧ t.tick = s.tick ∧ t.pwr = s.pwr := by simpa [State.dataPlane] using plane
  exact ⟨mem, poison, cores, cmds, ports, coh, harts, tick, pwr, fun o sec mgmt ras => others o (by simp [sec, mgmt, ras])⟩

end Sys2Proof.Machine
end
